-- ==== Sys2Proof/Word.lean ====
section
/-! DEFINITION. The word types of the package (R5, R10, R32): bytes, 32- and 64-bit register words,
the 128-bit generator state, the 256-bit execution mask of a sheaf (R81). -/

namespace Sys2Proof

abbrev Byte := BitVec 8
abbrev W16 := BitVec 16
abbrev W32 := BitVec 32
abbrev W64 := BitVec 64
abbrev W128 := BitVec 128
/-- One bit for each of the 256 lanes of a row (R81). -/
abbrev Mask := BitVec 256

end Sys2Proof
end

