-- ==== Sys2Proof/Machine/Map.lean ====
section
/-! DEFINITION. Sparse maps as plain data: a list of key and value pairs with strictly rising keys,
and an unlisted key reads as the default the reader names. Arrays of units (cores, sheaves, queues,
registers) are kept this way, so that a state that has touched few units is short. -/

namespace Sys2Proof.Machine

/-- Key and value pairs, keys strictly rising. -/
abbrev SMap (α : Type) := List (Nat × α)

/-- The value listed for key `k`, if any. -/
def SMap.find {α : Type} (m : SMap α) (k : Nat) : Option α :=
  match m with
  | [] => none
  | (k', v) :: r => if k' = k then some v else SMap.find r k

/-- The value at `k`, or `d` when nothing is listed there. -/
def SMap.get {α : Type} (d : α) (m : SMap α) (k : Nat) : α := (SMap.find m k).getD d

/-- Put `v` at `k`, keeping the keys in rising order. -/
def SMap.set {α : Type} (m : SMap α) (k : Nat) (v : α) : SMap α :=
  match m with
  | [] => [(k, v)]
  | (k', v') :: r =>
    if k' < k then (k', v') :: SMap.set r k v
    else if k' = k then (k, v) :: r
    else (k, v) :: (k', v') :: r

/-- Drop whatever is listed at `k`. -/
def SMap.del {α : Type} (m : SMap α) (k : Nat) : SMap α := m.filter (fun p => p.1 != k)

/-- Replace the value at `k` by `f` of it; an unlisted key counts as `d`. -/
def SMap.upd {α : Type} (d : α) (m : SMap α) (k : Nat) (f : α → α) : SMap α :=
  SMap.set m k (f (SMap.get d m k))

/-- Keys strictly rise. -/
def SMap.wf {α : Type} : SMap α → Bool
  | [] => true
  | [_] => true
  | (k, _) :: (k', v') :: r => decide (k < k') && SMap.wf ((k', v') :: r)

/-- Apply `f` to each listed value, with its key. -/
def SMap.mapVals {α : Type} (m : SMap α) (f : Nat → α → α) : SMap α :=
  m.map (fun p => (p.1, f p.1 p.2))

/-- Replace the value at `k`, if one is listed, by `f` of it. -/
def SMap.adj {α : Type} (m : SMap α) (k : Nat) (f : α → α) : SMap α :=
  m.map (fun p => if p.1 = k then (p.1, f p.2) else p)

/-- Number of listed keys below `n` that satisfy `p`. -/
def SMap.countP {α : Type} (m : SMap α) (p : Nat → α → Bool) : Nat :=
  (m.filter (fun e => p e.1 e.2)).length

/-- The lowest listed key whose entry satisfies `p`. -/
def SMap.firstP {α : Type} (m : SMap α) (p : Nat → α → Bool) : Option Nat :=
  (m.find? (fun e => p e.1 e.2)).map (·.1)

/-- The listed keys whose entries satisfy `p`, in rising order. -/
def SMap.keysP {α : Type} (m : SMap α) (p : Nat → α → Bool) : List Nat :=
  (m.filter (fun e => p e.1 e.2)).map (·.1)

/-- Lowest `i < n` that satisfies `p`. -/
def lowest (n : Nat) (p : Nat → Bool) : Option Nat := (List.range n).find? p

/-- `f` applied `n` times. -/
def iter {α : Type} (n : Nat) (f : α → α) (x : α) : α :=
  match n with
  | 0 => x
  | k + 1 => iter k f (f x)

/-- Bits `hi..lo` of `x`, as a number. -/
def bitsOf (x hi lo : Nat) : Nat := (x >>> lo) % 2 ^ (hi + 1 - lo)

/-- `x` with bits `hi..lo` replaced by `v` (taken modulo the field's size). -/
def putBits (x hi lo v : Nat) : Nat :=
  x - (bitsOf x hi lo <<< lo) + ((v % 2 ^ (hi + 1 - lo)) <<< lo)

/-- `n` two's-complement bits read as an integer. -/
def toSigned (n x : Nat) : Int :=
  if x % 2 ^ n < 2 ^ (n - 1) then (x % 2 ^ n : Nat) else (x % 2 ^ n : Nat) - (2 ^ n : Nat)

/-- An integer as `n` two's-complement bits. -/
def ofSigned (n : Nat) (x : Int) : Nat := (x % (2 ^ n : Nat)).toNat

/-- The bytes of a number, `n` of them, lowest first (R5, R10: little-endian). -/
def leBytes (n x : Nat) : List Byte := (List.range n).map (fun i => BitVec.ofNat 8 (x >>> (8 * i)))

/-- The number a list of bytes spells, lowest byte first. -/
def ofLe (l : List Byte) : Nat := l.foldr (fun b acc => b.toNat + 256 * acc) 0

end Sys2Proof.Machine
end

