-- ==== Sys2Proof/Machine/LaneState.lean ====
section
/-! DEFINITION. State of the lane rows and their thread slots: accumulators, banks, the row queue and
the passes in flight (R40, R47, R108), and the sheaf (R79, R81, R84, R99, R103, R122). -/

namespace Sys2Proof.Machine

/-- The accumulator tag (R68). -/
inductive Tag where
  | none | pinf | ninf | nan
deriving DecidableEq, Repr

/-- One 96-bit accumulator of one lane (R40, R63). In FP16 mode accumulator j is the pair of narrow
places 2j (low 96 bits) and 2j + 1 (high 96 bits), and both places carry the pair's record. -/
structure Acc where
  val : BitVec 96 := 0
  anchor : Int := 0
  pair : Nat := 0
  smode : Nat := 0
  tag : Tag := .none
  loss : Bool := false
  mismatch : Bool := false
  f16 : Bool := false
deriving DecidableEq, Repr

/-- What a fill records with the bank (R113). -/
structure FillDesc where
  cls : Nat
  smode : Nat
  kind : Nat
deriving DecidableEq, Repr

/-- A stationary bank of a row: 128 bytes and 16 scale bytes in each lane (R40). An empty list reads as
zeros. `desc` is none while nothing has been filled (R109). -/
structure Bank where
  full : Bool := false
  desc : Option FillDesc := none
  data : List (BitVec 1024) := []
  scales : List (BitVec 128) := []
deriving DecidableEq, Repr

/-- The pass parameters of MPASS and MSTEP, read from its registers at issue (R110 to R114). -/
structure PassArgs where
  slot : Nat
  addr : Nat
  scaleAddr : Nat
  anchor : Int
  smode : Nat
  pair : Nat
  abase : Nat
  b : Nat
  zero : Bool
  reuse : Bool
  tr : Bool
  kind : Nat
deriving DecidableEq, Repr

/-- The drain parameters of ACCRD and ACCLD (R116, R118). -/
structure DrainArgs where
  slot : Nat
  rd : Nat
  addr : Nat
  dscale : BitVec 32
  f16 : Bool
  gauss : Bool
  dest : Bool
  rtz : Bool
  sat : Bool
  target : Nat
  n : Nat
  acc : Nat
deriving DecidableEq, Repr

/-- A row instruction in the row queue, with its operands as read at issue (R108): `recs` are the records of an ACCLD
from registers, one for each lane. -/
inductive RowOp where
  | wfill (slot addr scaleAddr stride : Nat) (desc : FillDesc) (tr : Bool)
  | mpass (a : PassArgs)
  | mstep (a : PassArgs) (j : Nat) (swap lastOfBlock : Bool)
  | bcast (slot addr b : Nat) (tr : Bool) (cls : Nat)
  | accrd (d : DrainArgs)
  | accld (d : DrainArgs) (recs : List (BitVec 256))
  | tld (slot rd addr n0 cls : Nat)
deriving DecidableEq, Repr

/-- A place of the row queue: the issue number and the instruction (R108). -/
structure RowEntry where
  seq : Nat
  op : RowOp
deriving DecidableEq, Repr

/-- The sum of the block in progress in one lane (R64). -/
structure BlockSum where
  s : Int := 0
  tag : Tag := .none
deriving DecidableEq, Repr

/-- An MPASS or BCAST that holds the rachis: pass number, vector and chunk to inject next. -/
structure PassRun where
  seq : Nat
  op : RowOp
  p : Nat
  v : Nat
  j : Nat
deriving DecidableEq, Repr

/-- A pass or MSTEP whose chunks are all injected and whose last accumulation is still to come; CLS_PASSES counts
passes alone (R114). -/
structure Landing where
  seq : Nat
  slot : Nat
  accs : List Nat
  counts : Bool
deriving DecidableEq, Repr

/-- The MSTEP block in progress at issue (R114). -/
structure StepBlock where
  acc : Nat
  nextJ : Nat
  slot : Nat
deriving DecidableEq, Repr

/-- The matrix unit and row queue of one lane row (R40, R47, R108, R115). The last four fields are what the
row has issued so far: the fill not yet named by a swap, the bank the next REUSE pass uses, the mode of
each accumulator as the latest earlier ZERO pass set it, and the MSTEP block in progress. -/
structure Row where
  active : Bank := {}
  shadow : Bank := {}
  filling : Option Bank := none
  fillSlot : Nat := 0
  queue : List RowEntry := []
  nextSeq : Nat := 0
  run : Option PassRun := none
  landing : List Landing := []
  block : List BlockSum := []
  rx : List (Nat × BitVec 64) := []
  accs : SMap (List Acc) := []
  issFill : Option FillDesc := none
  issActive : Option FillDesc := none
  issMode : SMap Bool := []
  issBlock : Option StepBlock := none
deriving DecidableEq, Repr

/-- What a sheaf is doing: never started, running, ended by HALT, or stopped by the wind-down of its
command (R102, R106). -/
inductive SheafRun where
  | idle | running | halted | stopped
deriving DecidableEq, Repr

/-- A reservation (R99): the address that names its byte in memory, and its width in bytes. -/
structure Resv where
  addr : Nat
  width : Nat
deriving DecidableEq, Repr

/-- One sheaf: thread slot s of the 256 lanes of a row (R81). A register is the list of its 256 lane
values; an empty list reads as zeros. `fence` are the fabric stores that a SYNC.S orders before later stores (R245), `cmd` is the
kernel run that started it. -/
structure Sheaf where
  st : SheafRun := .idle
  pc : BitVec 64 := 0
  mask : BitVec 256 := 0
  stack : List (BitVec 256) := []
  v : SMap (List (BitVec 32)) := []
  p : SMap (BitVec 256) := []
  lflags : List (BitVec 5) := []
  timeHi : List (BitVec 32) := []
  rng : List (BitVec 128) := []
  resv : List (Option Resv) := []
  fence : List Nat := []
  bar : Bool := false
  cmd : Option Nat := none
deriving DecidableEq, Repr

end Sys2Proof.Machine
end

