-- ==== Sys2Proof/Machine/CoreState.lean ====
section
/-! DEFINITION. State of the Culm cores, of memory and its caches, of translation and its faults (R79, R99,
R188, R192, R194, R208, R213, R219, R221, R234, R235, R255 to R271). -/

namespace Sys2Proof.Machine

/-- Bytes at addresses, strictly rising, none equal to 0: an unlisted byte reads 0
(notes/assumptions/8.md). -/
abbrev Memory := List Host.Cell

/-- A line of a cache (R208, R210): its way and age, whether it is modified, whether its page has NA = 1. -/
structure CacheLine where
  way : Nat := 0
  age : Nat := 0
  dirty : Bool := false
  na : Bool := false
deriving DecidableEq, Repr

/-- A fill that has been issued and has not returned (R214). -/
structure Fill where
  streaming : Bool
  way : Nat
deriving DecidableEq, Repr

/-- An entry of a cache's sequential-store detectors (R213), most recently used first in the list. -/
structure SeqEntry where
  region : Nat
  source : Nat
  count : Nat
  bypass : Bool
deriving DecidableEq, Repr

/-- A cache that holds lines coherently (R208, R219, R221): its lines by line number, fills in flight, detector
entries, and the whole-cache operation in progress (R218: 1 WBALL, 2 FLUSHALL). -/
structure Cache where
  lines : SMap CacheLine := []
  fills : SMap Fill := []
  seq : List SeqEntry := []
  sweep : Nat := 0
deriving DecidableEq, Repr

/-- A cached translation (R192): the leaf as a walk read it. -/
structure TlbEntry where
  pte : BitVec 64
  huge : Bool
deriving DecidableEq, Repr

/-- Memory as all agents see it. `mem` is the coherent contents by canonical physical address (R35): every
performed write; host memory stands under its port and host bus address (R397). `stale` is what the home still holds for a line that some cache has modified (R159, R219).
`poison` lists the poisoned lines (R147), rising; of the interleave sets in `lost`, whose contents were lost (R155), it lists the
lines that are not. `sram` is cluster SRAM by 84 × Tiller + cluster (T0), each byte
exclusive-ored with what it reads as when nothing has written it; `sramGen` counts the losses of its contents. Caches:
0–7 Tiller shared, 8–9 Culm shared, 10 + n the private caches of core n. Translation caches (R192): 0–7
Tillers, 8 + g NMV[g], 20 the Crown cache, 32 + n core n; entries are keyed by context, size and page. -/
structure MemSys where
  mem : Memory := []
  stale : SMap (BitVec 1024) := []
  poison : List Nat := []
  lost : List Nat := []
  sram : SMap Memory := []
  sramGen : SMap Nat := []
  caches : SMap Cache := []
  tlb : SMap (SMap TlbEntry) := []
deriving DecidableEq, Repr

/-- An entry of the non-temporal combining buffer (R235): line, context of its stores, data and byte mask. -/
structure NtEntry where
  line : Nat
  ctx : Nat
  data : BitVec 1024
  mask : BitVec 128
deriving DecidableEq, Repr

/-- The pending deferred error of a core (R263): address of the first store, its status, further drops. -/
structure Deferred where
  addr : Nat
  status : Nat
  merged : Nat
deriving DecidableEq, Repr

/-- A Culm core (R255 to R271): program counter, general and floating-point registers, level, system
registers by number (those of R271 that software writes, FCSR included), reservation, the fabric stores that a SYNC.S orders before
later stores (R245), combining buffer oldest first, event queues, timer pending bits, the deferred error, instructions retired. -/
structure CoreSt where
  pc : BitVec 64 := 0
  x : SMap (BitVec 64) := []
  f : SMap (BitVec 64) := []
  level : Nat := 3
  csr : SMap (BitVec 64) := []
  resv : Option Resv := none
  fence : List Nat := []
  nt : List NtEntry := []
  evqS : List Nat := []
  evqM : List Nat := []
  timS : Bool := false
  timM : Bool := false
  deferred : Option Deferred := none
  retired : Nat := 0
deriving DecidableEq, Repr

/-- Who waits on a fault or on a fabric answer: a sheaf, a running command, the fetch of a queue, a core, or one
lane of a sheaf. -/
inductive Waiter where
  | sheaf (key : Nat)
  | cmd (run : Nat)
  | fetch (queue : Nat)
  | core (n : Nat)
  | lane (key lane : Nat)
deriving DecidableEq, Repr

/-- An outstanding fault (R194, R195): generation, what faulted, when it opened, whether its record has been
written, and its waiters. -/
structure PageFault where
  gen : Nat
  ctx : Nat
  vpage : Nat
  access : Nat
  cause : Nat
  level : Nat
  cls : Nat
  inst : Nat
  qid : Nat
  tag : Nat
  va : Nat
  opened : Nat
  order : Nat
  recorded : Bool
  waiters : List Waiter
deriving DecidableEq, Repr

/-- The fault table (R194): outstanding faults by index, generations by index, accesses waiting for a free
entry with the time each first waited, and the count that gives the order of opening. A record of FAULTID 0 that
waits for its ring is held in `notices`: queue and words. -/
structure FaultUnit where
  table : SMap PageFault := []
  gens : SMap Nat := []
  overflow : List PageFault := []
  order : Nat := 0
  notices : List (Nat × List Nat) := []
deriving DecidableEq, Repr

/-- An access sent to another device, not yet answered (R225, R250, R427). `seq` is its number, `base` the lowest number of
its pair that its source still waits for (notes/assumptions/114.md). -/
structure FabReq where
  seq : Nat
  base : Nat
  load : Bool
  dev : Nat
  off : Nat
  len : Nat
  data : List (BitVec 8)
  origin : Waiter
  ctx : Nat
  qid : Nat
  tag : Nat
  sent : Nat
  resent : Nat
deriving DecidableEq, Repr

end Sys2Proof.Machine
end

