-- ==== Sys2Proof/Machine/CpState.lean ====
section
/-! DEFINITION. State of the command processor: submission and completion queues, commands reached and
started, fences, kernels, contexts' grants and saves (R272 to R340), and of the Glumes (R146 to R155). -/

namespace Sys2Proof.Machine

/-- R284: queue states. A queue that is not listed is FREE. -/
inductive QSt where
  | active | parked | halted | draining
deriving DecidableEq, Repr

/-- A place in a command stream (R276, R290): the ring, or an indirect buffer with its address, length in
slots and next slot. -/
inductive Place where
  | ring
  | buf (target len idx : Nat)
deriving DecidableEq, Repr

/-- A loop in progress (R289): depth of the call stack it belongs to, first and last slot of its body in its
buffer, register, iterations in all, the present one, first index and step. -/
structure LoopSt where
  depth : Nat
  first : Nat
  body : Nat
  preg : Nat
  count : Nat
  i : Nat
  start : Nat
  step : Nat
deriving DecidableEq, Repr

/-- A command as the CP holds it: its 16 words after PATCH, the SEQ of the ring slot through which it was reached
(R306), the place it was read from with the number of its ring slot, the words of its PATCH (R285, RESUME_RETRY),
and the number of its execution; of a command read again by RESUME_RETRY, the number of its last one. -/
structure Cmd where
  words : List (BitVec 32)
  seq : Nat
  place : Place
  num : Nat := 0
  patch : List (BitVec 32) := []
  rid : Nat := 0
deriving DecidableEq, Repr

/-- A FENCE_SIGNAL not yet performed (R296, R297): the commands it covers that have not completed and those that have
completed in error, by execution number; whether it covers none, whether its queue is being destroyed (R335), whether
it failed (a failed one is performed again only by RESUME_RETRY). -/
structure Sig where
  cmd : Cmd
  covers : List Nat
  errs : List Nat
  nowait : Bool
  aborted : Bool := false
  failed : Bool := false
deriving DecidableEq, Repr

/-- A blocked FENCE_WAIT (R294, R338): the command, milliseconds counted, whether it holds a watch entry. -/
structure WaitSt where
  cmd : Cmd
  ms : Nat := 0
  watched : Bool := true
deriving DecidableEq, Repr

/-- What halted a queue, for RESUME_RETRY (R285): a plain HALT, a command, a fetch, or a signal by its execution
number. -/
inductive HaltSt where
  | none
  | cmd (c : Cmd)
  | fetch
  | signal (rid : Nat)
deriving DecidableEq, Repr

/-- A submission queue (R272 to R302). `n` counts ring slots fetched (F) and `p` is P; `fetched` holds ring slots
fetched and not yet taken; `stale` counts the refetches of a slot that was not current (R279). `cur` is a flow command
that has been taken, `patch` a PATCH that waits for its target, `retry` a command to be read again (R285). `span` and
`spanErrs` are what the next covering signal covers (R296): commands outstanding, and those that ended in error. -/
structure Queue where
  st : QSt := .active
  cls : Nat := 0
  prio : Nat := 0
  log2 : Nat := 6
  ring : Nat := 0
  cqid : Nat := 0
  n : Nat := 0
  p : Nat := 0
  fetched : List Cmd := []
  stale : Option Nat := none
  place : Place := .ring
  stack : List Place := []
  outerSeq : Nat := 0
  loops : List LoopSt := []
  skip : Nat := 0
  params : List (BitVec 64) := []
  patch : Option Cmd := none
  cur : Option Cmd := none
  wait : Option WaitSt := none
  sigs : List Sig := []
  span : List Nat := []
  spanErrs : List Nat := []
  halt : HaltSt := .none
  retry : Option Cmd := none
  destroying : Bool := false
  discards : Nat := 0
  lastStatus : Nat := 0
deriving DecidableEq, Repr

/-- A completion queue (R273, R303, R309, R311). Counts are modulo 2^32 where software reads them. -/
structure Cq where
  ctx : Nat := 0
  cqx : Nat := 0
  dest : Nat := 0
  log2 : Nat := 6
  vec : Nat := 0
  base : Nat := 0
  written : Nat := 0
  reserved : Nat := 0
  cons : Nat := 0
deriving DecidableEq, Repr

/-- A started command, or a queue-level entry that waits to be written (R300, R306, R308, R311). `status` is the
first status it met; `done` says that its work has ended and its entry may be written, `order` when. `step` counts the
descriptors, vectors, strips or chunks done, `pos` the pieces of the present one written. `ports` are the host ports it wrote through and has not yet flushed,
`lastPort` the last of them (R401). `aborting` is set by an abort (R335); `began` says that its fields have been
checked and its engine has taken it. -/
structure Run where
  qid : Nat
  cmd : Cmd
  cls : Nat
  inst : Nat := 0
  reserved : Bool := true
  start : Nat := 0
  fin : Nat := 0
  status : Option Nat := none
  info : Nat := 0
  done : Bool := false
  order : Nat := 0
  step : Nat := 0
  pos : Nat := 0
  ports : List Nat := []
  lastPort : Option Nat := none
  aborting : Bool := false
  began : Bool := false
deriving DecidableEq, Repr

/-- A KERNEL that runs or is saved (R305, R324 to R334). `clusters` are keys 84 × Tiller + cluster in GRPIDX
order; `lane` is the status and cause of the first lane exception (R106); `yielded` are the clusters saved so
far in a preemption; `mid` those saved mid-kernel; `replay` marks one that a geometry change ended and that is to be
replayed (R323); `imaged` says that images stand in the save area, from offset `imgBase`, `imgSize` bytes each. -/
structure KernelRun where
  clusters : List Nat := []
  kargs : List (BitVec 32) := []
  launches : Nat := 0
  lane : Option (Nat × Nat) := none
  yielding : Bool := false
  yielded : List Nat := []
  mid : List Nat := []
  saved : Bool := false
  replay : Bool := false
  imaged : Bool := false
  imgBase : Nat := 0
  imgSize : Nat := 0
deriving DecidableEq, Repr

/-- A cluster group as it was granted (R28, R304): Tiller, group within it, its clusters' keys. -/
structure Group where
  til : Nat
  idx : Nat
  clusters : List Nat
deriving DecidableEq, Repr

/-- What the CP keeps of a context beside its registers: groups held, when granted, groups held last, slices
waited, whether it is being preempted, the SUSPEND and DESTROY commands that wait on it, a pending notice, the
rows and sheaves of its mid-kernel saves and the geometry of its save (R319 to R334), its accepted doorbells as queue
and PROD, oldest first (R140). -/
structure CtxSt where
  groups : List Group := []
  grantAt : Nat := 0
  last : List Group := []
  waited : Nat := 0
  preempting : Bool := false
  suspending : Bool := false
  suspendRun : Option Nat := none
  notice : Bool := false
  noticeTime : Nat := 0
  savedGroups : List Group := []
  savedRows : SMap Row := []
  savedSheaves : SMap Sheaf := []
  bells : List (Nat × Nat) := []
deriving DecidableEq, Repr

/-- The command processor: queues, completion queues, runs by execution number, kernels by run, contexts; the next
execution number, the count of ended runs, the contexts that wait for groups in the order they began to (R319), whether a geometry
change waits to be handled (R323), the INVALIDATE that runs (R201), CP_QINFO1 and CP_CQINFO1 as latched
(R312). -/
structure Cp where
  queues : SMap Queue := []
  cqs : SMap Cq := []
  runs : SMap Run := []
  kernels : SMap KernelRun := []
  ctxs : SMap CtxSt := []
  nextRun : Nat := 1
  ended : Nat := 0
  waits : List Nat := []
  geom : Bool := false
  inval : Option Nat := none
  latchQ : BitVec 64 := 0
  latchC : BitVec 64 := 0
deriving DecidableEq, Repr

/-- A DRAM row as GLM_REPCMD names it (R146): channel, pseudo-channel, bank, row. -/
structure DramRow where
  ch : Nat
  pc : Nat
  bank : Nat
  row : Nat
deriving DecidableEq, Repr

/-- A repair of a DRAM row (R151, R152): soft or hard, by command or not, the failing access unit's local address,
whether it has begun. -/
structure Repair where
  row : DramRow
  hard : Bool
  byCmd : Bool := false
  addr : Nat := 0
  started : Bool := false
deriving DecidableEq, Repr

/-- A Glume beside its registers (R148, R151 to R153, R164): corrected errors of each row with the time of the first
in its window, soft repairs in effect, spare rows used in each bank (channel, pseudo-channel, bank, count), the repair in
progress and those queued behind it, when the temperature was first at or below 83 °C, and what its NMV has staged. -/
structure Glume where
  rowErrs : List (DramRow × Nat × Nat) := []
  soft : List DramRow := []
  used : List (Nat × Nat × Nat × Nat) := []
  busy : Option Repair := none
  queue : List Repair := []
  coolSince : Option Nat := none
  stage : List (BitVec 8) := []
deriving DecidableEq, Repr

end Sys2Proof.Machine
end

