-- ==== Sys2Proof/Machine/IoState.lean ====
section
/-! DEFINITION. State of the stream engine and its ports (R342 to R372), of the host ports (R389 to R406), of
the multicast sequencers (R19 to R22, R415) and of the fabric engine (R417 to R441). -/

namespace Sys2Proof.Machine

/-- A frame in a media port's transmit queue (R367): a PKT_SEND frame with its run, or a session's packet. The
bytes of a session's packet are its RTP, RFC 4733 or RTCP encoding, which the named standards fix; the
queue holds what identifies it (notes/assumptions/21.md). -/
inductive TxFrame where
  | raw (run : Nat) (bytes : List Byte)
  | audio (sid seq ts pt : Nat) (marker : Bool)
  | noise (sid seq ts pt : Nat)
  | event (sid seq ts pt digit elapsed : Nat) (final : Bool)
  | rtcp (sid : Nat) (sender bye : Bool)
deriving DecidableEq, Repr

/-- A packet in a jitter buffer (R354): timestamp, duration in units of the RTP clock, arrival time, whether
it is comfort noise. -/
structure JbPkt where
  ts : Nat
  dur : Nat
  arrival : Nat
  noise : Bool
deriving DecidableEq, Repr

/-- A MODIFY or CLOSE that waits for its boundary (R348). -/
structure SesChange where
  run : Nat
  close : Bool
  due : Nat
  desc : List (BitVec 32)
deriving DecidableEq, Repr

/-- RFC 4733 transmission in progress (R349): run, digit, RTP timestamp of its start once it has begun, frames sent,
frames in all, final packets still to send. -/
structure DtmfTx where
  run : Nat
  digit : Nat
  ts : Option Nat
  sent : Nat
  total : Nat
  finals : Nat
deriving DecidableEq, Repr

/-- The writes of an inbound frame that memory has not yet taken (R370): frame number, samples, features
(first feature frame and its values), record. -/
structure FrameWrites where
  k : Nat
  samples : List (BitVec 16)
  feat : List (Nat × List (BitVec 16))
  record : List (BitVec 32)
deriving DecidableEq, Repr

/-- An open session (R344 to R371): the run of its SESSION_OPEN, its context and descriptor, its clock and `k`, the next
boundary; changes that wait and whether an abort does; what the OUTPROD read for that boundary gave (none while not
read, some true when samples were read, some false on an underrun); counters of the progress block; frames whose writes
are held, frames dropped in a row with the last failure. The jitter buffer, the boundary and timestamp from which it
plays, whether media has played, the playout delay, the target, the last shift, the previous frame's samples; the
measurements of R359, packets expected and lost after each of the last frames; length of the gap, whether comfort noise was received; the SSRC
adopted and when it was last heard, the source adopted, flags for the next record; replay windows of SRTP and SRTCP
(highest index, bits below it); underrun frames in a row, the marker, the last RTP sent; the event being sent; the digit
received, whether it is new or ended, its timestamp, the digit detected in band, the digit last reported and when. -/
structure Session where
  run : Nat
  ctx : Nat
  desc : List (BitVec 32)
  t0 : Nat
  k : Nat := 0
  changes : List SesChange := []
  aborted : Bool := false
  out : Option Bool := none
  outcons : Nat := 0
  frames : Nat := 0
  held : List FrameWrites := []
  failRow : Nat := 0
  failStatus : Nat := 0
  rxpkts : Nat := 0
  late : Nat := 0
  authfail : Nat := 0
  txpkts : Nat := 0
  underrun : Nat := 0
  wrdrop : Nat := 0
  erle : Nat := 0
  jb : List JbPkt := []
  play : Option (Nat × Nat) := none
  media : Bool := false
  delay : Nat := 0
  target : Nat := 0
  lastShift : Option Nat := none
  prev : List (BitVec 16) := []
  jitter : Rat := 0
  transit : Option (Nat × Nat) := none
  baseSeq : Option Nat := none
  maxSeq : Nat := 0
  received : Int := 0
  window : List (Int × Int) := []
  gap : Nat := 0
  cnSeen : Bool := false
  ssrc : Option Nat := none
  ssrcAt : Nat := 0
  source : Option (List Byte × Nat) := none
  newBye : Bool := false
  newSsrc : Bool := false
  rtt : Nat := 0
  rtpTop : Option Nat := none
  rtpBits : BitVec 128 := 0
  rtcpTop : Option Nat := none
  rtcpBits : BitVec 128 := 0
  silence : Nat := 0
  lastRtp : Option Nat := none
  event : Option DtmfTx := none
  digit : Option Nat := none
  digitNew : Bool := false
  digitOver : Bool := false
  digitTs : Option Nat := none
  inband : Option Nat := none
  lastDigit : Option (Nat × Nat) := none
deriving DecidableEq, Repr

/-- The stream engine: open sessions by SID, transmit queues by port. -/
structure Se where
  sessions : SMap Session := []
  txq : SMap (List TxFrame) := []
deriving DecidableEq, Repr

/-- What a configuration request reads or sets (R390, R396, R398, R467): the controls of the function the
spec names, or any other register of the configuration space. -/
inductive CfgReq where
  | read (reg : Nat)
  | memoryMaster (mse bme : Bool)
  | relaxed (on : Bool)
  | msix (enable mask : Bool)
  | other (reg value : Nat)
deriving DecidableEq, Repr

/-- A function of an endpoint port (R390, R396): memory space and bus master enable, relaxed ordering, MSI-X
enable and function mask, other configuration registers written. -/
structure HpFn where
  mse : Bool := false
  bme : Bool := false
  relaxed : Bool := false
  msixOn : Bool := false
  msixMask : Bool := false
  other : SMap Nat := []
deriving DecidableEq, Repr

/-- What the device has sent outward on a host port: MSI-X messages (R396), and accesses to the device
attached to a root port (R405). -/
inductive HostTx where
  | msix (port vec : Nat) (addr data : BitVec 64)
  | config (port off size : Nat) (write : Option (BitVec 64))
  | bus (port addr size : Nat) (write : Option (BitVec 64))
deriving DecidableEq, Repr

/-- A host port beside its registers: time link loss began, whether a function level reset is in progress, the
function, its MSI-X table by 32-bit word and its pending bits (R392, R396). -/
structure HostPort where
  lossAt : Option Nat := none
  flr : Bool := false
  fn : HpFn := {}
  msix : SMap (BitVec 32) := []
  pba : List Nat := []
deriving DecidableEq, Repr

/-- A running MCAST_LOAD (R19 to R22, R415): physical cluster masks by Tiller, its group if it has one, lines
read and not yet delivered by Tiller: offset in the range, data, poison. -/
structure Mcast where
  masks : SMap Nat := []
  group : Option Nat := none
  buf : SMap (List (Nat × BitVec 1024 × Bool)) := []
deriving DecidableEq, Repr

/-- A collective on this device (R431 to R435): GROUPTAG, COLLSEQ, members, this device's rank, the fields each rank has
sent, each rank's data by chunk (bytes, and the blocks of 64 bytes that are poisoned), whether DST received poison. -/
structure Coll where
  tag : Nat
  seq : Nat
  members : List Nat
  rank : Nat
  fields : SMap (List Nat) := []
  data : SMap (SMap (List Byte × List Nat)) := []
  poisoned : Bool := false
deriving DecidableEq, Repr

/-- A HELLO (R437). -/
structure Hello where
  prio : Nat
  serial : Nat
  coord : Option Nat
  port : Nat
  bestPrio : Nat
  bestSerial : Nat
  topo : BitVec 32
  fready : Bool
deriving DecidableEq, Repr

/-- A fabric port beside its registers (R419, R421, R437): working lanes, the last HELLO, the module present: KIND,
OUI, SNCRC. -/
structure FabPort where
  lanes : BitVec 8 := 0
  hello : Option Hello := none
  present : Option (Nat × Nat × Nat) := none
deriving DecidableEq, Repr

/-- What the fabric engine has sent that the spec names (R426, R430, R437, R438, R185, R427). -/
inductive FabTx where
  | hello (port : Nat) (h : Hello)
  | linkState (dev port : Nat) (up : Bool)
  | presence (dev serial : Nat)
  | assign (coord : Nat)
  | ready (dev : Nat)
  | fabricReady
  | request (r : FabReq)
  | answer (dev seq status : Nat) (data : List Byte)
  | forward (port dst detours : Nat)
  | reclaim (dev unit notice : Nat)
  | release (dev unit : Nat)
  | collFields (tag seq rank : Nat) (f : List Nat)
  | collData (tag seq rank chunk : Nat) (data : List Byte) (poison : List Nat)
deriving DecidableEq, Repr

/-- A module's wear record in service flash, by serial-number CRC (R420). -/
structure Wear where
  inserts : Nat := 0
  days : Nat := 0
  bias : Nat := 0
deriving DecidableEq, Repr

/-- A request received out of its source's order, held until its turn (R427). -/
structure HeldReq where
  seq : Nat
  load : Bool
  off : Nat
  len : Nat
  data : List Byte
  bcast : Bool
deriving DecidableEq, Repr

/-- A broadcast store being answered (R430): source, its number, neighbours still to answer, first failure with the device
that failed. -/
structure Bcast where
  src : Nat
  seq : Nat
  waits : List Nat
  status : Nat
  failed : Nat
deriving DecidableEq, Repr

/-- The answer to a fabric load, held until its requester replays the access: who asked, fabric-window address,
status (R307), data. -/
structure Answer where
  who : Waiter
  addr : Nat
  status : Nat
  data : List Byte
deriving DecidableEq, Repr

/-- The fabric engine. `best` is the best key it knows, `settled` whether the election has settled; `devs` (ID to serial) and
`fails` (device and port) are what it knows of the fabric, `routeDevs` and `routeFails` what the installed routes were
computed from (R426); `gone` the serials of roots that failed (R440); `ready` the devices that reported to this root;
requests sent and answers held (R225, R427); the next number expected from each source and requests held for their turn;
collectives by run; what has been sent. -/
structure Fe where
  ports : SMap FabPort := []
  best : Option (Nat × Nat) := none
  bestAt : Nat := 0
  settled : Bool := false
  devs : SMap Nat := []
  fails : List (Nat × Nat) := []
  routeDevs : List Nat := []
  routeFails : List (Nat × Nat) := []
  gone : List Nat := []
  ready : List Nat := []
  announced : Bool := false
  reqs : SMap FabReq := []
  answers : List Answer := []
  nextId : Nat := 1
  nextSeq : SMap Nat := []
  expect : SMap Nat := []
  held : SMap (List HeldReq) := []
  bcasts : List Bcast := []
  colls : SMap Coll := []
  tx : List FabTx := []
deriving DecidableEq, Repr

end Sys2Proof.Machine
end

