-- ==== Sys2Proof/Machine/MgmtState.lean ====
section
/-! DEFINITION. State of the power manager (R442 to R462), of the dies (R463 to R471), of the security
processor and service flash (R472 to R481), of error records and self-test (R483 to R492), of the service
interfaces (R493 to R495) and of the lands (R507 to R510). -/

namespace Sys2Proof.Machine

/-- R442: the state of the input. -/
inductive InputSt where
  | off | soft | good | lost
deriving DecidableEq, Repr

/-- The thermal action of one die (R456): steps in force, when the last was taken, since when the die has been at or below
97 °C. -/
structure Throttle where
  level : Nat := 0
  stepAt : Nat := 0
  coolAt : Option Nat := none
deriving DecidableEq, Repr

/-- The power manager. Gains and the loss term are exact rationals (R446): `gains` lists the slots whose gain is not 1, `hist`
the gains of all slots after each of the last calibrations, newest first. `capLimit` is the cap limit of a Culm in 100 MHz
while one is in force, `capStepAt` when it last moved (R448); `throttles` by die slot; `above` the sensors whose last reading
was 115 °C or more (R457); `m` the standing M, `low` the lowest M since the last update (R450, R451); `droops` the M of each
cluster in droop response; `missAt` the millisecond in which CAPMISS was last counted; `cal` the user deltas in effect (class,
index, delta), `calDue` that OP CALAPPLY waits for the next calibration (R480, R481). -/
structure Pm where
  input : InputSt := .off
  gains : SMap Rat := []
  loss : Rat := 0
  hist : List (List Rat) := []
  capLimit : SMap Nat := []
  capStepAt : Option Nat := none
  throttles : SMap Throttle := []
  above : List Nat := []
  m : Nat := 16
  low : Nat := 16
  pwrlim : Bool := false
  inlim : Bool := false
  droops : SMap Nat := []
  missAt : Option Nat := none
  cal : List (Nat × Nat × Int) := []
  calDue : Bool := false
deriving DecidableEq, Repr

/-- R471: what an orderly reset ends in. -/
inductive Drain where
  | reset | offline
deriving DecidableEq, Repr

/-- A die beside CROWN_DIESTAT: times of its losses counted by R469, the orderly reset it is in (R471), whether its
Glume's stack is in self-refresh and whether its set has lost its contents since it went offline (R154, R470), spare wires of
its link in use (R13). -/
structure Die where
  losses : List Nat := []
  drain : Option Drain := none
  refreshed : Bool := false
  contLost : Bool := false
  wires : Nat := 0
deriving DecidableEq, Repr

/-- A firmware image as the security processor sees it (R474). -/
structure Image where
  cls : Nat := 0
  svn : Nat := 0
  version : Nat := 0
  hash : BitVec 384 := 0
deriving DecidableEq, Repr

/-- Running firmware of one class (R477, R478): image, images activated since power-on, measurement chain. -/
structure Firmware where
  image : Image := {}
  activations : Nat := 0
  chain : BitVec 384 := 0
deriving DecidableEq, Repr

/-- The security processor: running firmware by class, the staged image, the class being swapped with what it ran before
(R477). -/
structure Sp where
  running : SMap Firmware := []
  staged : Option Image := none
  swapping : Option (Nat × Firmware) := none
deriving DecidableEq, Repr

/-- What power loss keeps (R463): the image of each flash slot (2 × class + slot) and, by class, whether slot B is the active
one (R468); the repair record: of each Tiller its enabled clusters and its unused spares (R29, R487), of each Glume its hard
and soft repairs (R151, R152); module wear (R420); the user calibration table (class, index, delta) (R481); anti-rollback bits blown (R476). -/
structure Nv where
  slots : SMap Image := []
  slotB : BitVec 7 := 0
  maps : SMap (BitVec 84 × List Nat) := []
  wear : SMap Wear := []
  cal : List (Nat × Nat × Int) := []
  arb : SMap Nat := []
  hard : SMap (List DramRow) := []
  soft : SMap (List DramRow) := []
deriving DecidableEq, Repr

/-- An error record held for merging (R485). -/
structure ErrRec where
  kind : Nat
  sev : Nat
  slot : Nat
  unit : Nat
  count : Nat
  status : Nat
  addr : Nat
  detail : Nat
  time : Nat
deriving DecidableEq, Repr

/-- A self-test in progress (R488): kind, slot of a link test, groups still to test, the group that is being tested, whether
something was found. -/
structure SelfTest where
  kind : Nat
  target : Nat
  groups : List (Nat × Nat) := []
  cur : Option (Nat × Nat) := none
  found : Bool := false
deriving DecidableEq, Repr

/-- R495: the instruction of the test access port. -/
inductive JtagIr where
  | bypass | idcode | samplePreload | extest | extestPulse | extestTrain | clamp | highz
deriving DecidableEq, Repr

/-- Lands and service interfaces: reset and alert lands (R509), straps as sampled (R507, R508), the I3C target's
dynamic address, offset register and pending in-band interrupts (R494), the test port; the cause and port of a warm reset
that has been requested and has not reached step 4 (R464). -/
structure Pins where
  warmrst : Bool := false
  thermtrip : Bool := false
  caterr : Bool := false
  pkgclk : Bool := true
  hpmode : BitVec 6 := 0b111100
  hostloss : Bool := false
  posEn : Bool := false
  pos : BitVec 15 := 0
  mbaddr : BitVec 3 := 0
  dynaddr : Option Nat := none
  mbOff : Nat := 0
  ibi : Nat := 0
  jtag : JtagIr := .idcode
  warm : Option (Nat × Nat) := none
deriving DecidableEq, Repr

/-- The straps as the board ties them, sampled at input good (R508). -/
structure Straps where
  hpmode : BitVec 6
  hostloss : Bool
  posEn : Bool
  pos : BitVec 15
  mbaddr : BitVec 3
deriving DecidableEq, Repr

/-- Supervision: times of CP restarts (R492), error records held (R485), the self-test that
runs (R488), the last boot step completed (R466), whether boot has stopped (R468). -/
structure Sup where
  restarts : List Nat := []
  errs : List ErrRec := []
  test : Option SelfTest := none
  bootStep : Nat := 0
  stopped : Bool := false
deriving DecidableEq, Repr

end Sys2Proof.Machine
end

