-- ==== Sys2Proof/Machine/Dev.lean ====
section
/-! DEFINITION. The whole part but for the queue of waiting commands: every register by its offset in the
register space (R38), and the state of each block that no register holds. -/

namespace Sys2Proof.Machine

/-- R5: the 32-bit paths to 64-bit registers, each with latches of its own. -/
inductive PathId where
  | service | management
deriving DecidableEq, Repr

/-- The latches of a 32-bit path (R5): the offset and low word of a write, the offset and high word of a read. -/
structure Latch where
  wr : Option (Nat × BitVec 32) := none
  rd : Option (Nat × BitVec 32) := none
deriving DecidableEq, Repr

/-- The part. `regs` lists registers whose value is not the one R9 gives at reset. `out` is the value the last
read command returned, `outBad` whether it was poisoned. `free` counts free values drawn (notes/assumptions/3.md). `ringPass` counts the passes of each record ring (R520):
0–15 fault queues, 16 store-loss, 17 error, 18 + p exception ring of port p. Cores by 48 × Culm + core,
rows by 16 × (84 × Tiller + cluster) + row, sheaves by 8 × row key + slot. -/
structure Dev where
  time : Nat := 0
  regs : SMap (BitVec 64) := []
  svcLatch : Latch := {}
  mbLatch : Latch := {}
  out : List Byte := []
  outBad : Bool := false
  free : Nat := 0
  ms : MemSys := {}
  cores : SMap CoreSt := []
  rows : SMap Row := []
  sheaves : SMap Sheaf := []
  flt : FaultUnit := {}
  glm : SMap Glume := []
  cp : Cp := {}
  mcasts : SMap Mcast := []
  se : Se := {}
  hp : SMap HostPort := []
  hostTx : List HostTx := []
  fe : Fe := {}
  ringPass : SMap Nat := []
  pm : Pm := {}
  dies : SMap Die := []
  sp : Sp := {}
  nv : Nv := {}
  pins : Pins := {}
  sup : Sup := {}
deriving DecidableEq, Repr

/-- R9, R463: the part at power-on reset: input good has just been reached, every register has its reset value,
the SP boot ROM is about to run (R466), and every strap is open (R508; notes/assumptions/6.md). -/
def Dev.reset : Dev := { pm := { input := .good } }

end Sys2Proof.Machine
end

