-- ==== Sys2Proof/Syntax.lean ====
section
/-! DEFINITION. The commands of the part: one constructor for each row of the spec's table of operations and
events, with the operands the row's rule names. A Ghety instruction (R78 to R122) carries the agent that
executes it and every field of its word that its OP and FN do not fix (R85 to R87). -/

namespace Sys2Proof

open Sys2Proof.Machine

/-- Who executes a Ghety instruction: Culm core n = 48 × Culm + core (R255), or the sheaf of thread slot s of a
lane row (R81): Tiller, physical cluster, row, slot. -/
inductive Agent where
  | core (n : Nat)
  | sheaf (t c r s : Nat)
deriving DecidableEq, Repr

/-- A lane row: Tiller, physical cluster, row (R40). -/
structure RowId where
  t : Nat
  c : Nat
  r : Nat
deriving DecidableEq, Repr

/-- R85: the fields of format R beside FN and OP. -/
structure RF where
  fn2 : BitVec 5
  rb : BitVec 5
  ra : BitVec 5
  rd : BitVec 5
deriving DecidableEq, Repr

/-- R85: the fields of format I. -/
structure IF where
  imm : BitVec 16
  ra : BitVec 5
  rd : BitVec 5
deriving DecidableEq, Repr

/-- R85: the fields of format U. -/
structure UF where
  imm : BitVec 21
  rd : BitVec 5
deriving DecidableEq, Repr

/-- R85: the fields of format B. -/
structure BF where
  off : BitVec 16
  ra : BitVec 5
  rb : BitVec 5
deriving DecidableEq, Repr

/-- R85: the field of format J. -/
structure JF where
  off : BitVec 26
deriving DecidableEq, Repr

/-- R85: the fields of format M beside FN and OP. -/
structure MF where
  flags : BitVec 5
  rb : BitVec 5
  ra : BitVec 5
  rd : BitVec 5
deriving DecidableEq, Repr

/-- R85, R87: the fields of format R4; FN [27:26] names the instruction, FN [31:28] stands in `fnhi`. -/
structure R4F where
  fnhi : BitVec 4
  rc : BitVec 5
  rb : BitVec 5
  ra : BitVec 5
  rd : BitVec 5
deriving DecidableEq, Repr

/-- R86: the fields of the SYSTEM group beside its function. -/
structure SysF where
  csr : BitVec 12
  ra : BitVec 5
  rd : BitVec 5
deriving DecidableEq, Repr

/-- R86: the fields of the CACHE group beside its function. -/
structure CacheF where
  imm : BitVec 16
  ra : BitVec 5
deriving DecidableEq, Repr

/-- The commands, in the order of the spec's table. -/
inductive Instr where
  /-- R8: REGISTER_WRITE. -/
  | registerWrite (ctx off size val : Nat)
  /-- R5: PATH_LOW_WORD_WRITE. -/
  | pathLowWordWrite (path : PathId) (off val : Nat)
  /-- R5: PATH_HIGH_WORD_WRITE. -/
  | pathHighWordWrite (path : PathId) (off val : Nat)
  /-- R5: PATH_LOW_WORD_READ. -/
  | pathLowWordRead (path : PathId) (off : Nat)
  /-- R5: PATH_HIGH_WORD_READ. -/
  | pathHighWordRead (path : PathId) (off : Nat)
  /-- R415: MCAST_LOAD. -/
  | mcastLoad (run : Nat)
  /-- R21: MCAST_LINE_READ. -/
  | mcastLineRead (run : Nat)
  /-- R56: MCAST_LINE_DELIVER. -/
  | mcastLineDeliver (run t : Nat)
  /-- R469: DIE_LOSS. -/
  | dieLoss (slot : Nat)
  /-- R26: HEARTBEAT_MISS. -/
  | heartbeatMiss (slot : Nat)
  /-- R469: DIE_REJOIN. -/
  | dieRejoin (slot : Nat) (fuseOk linkOk testOk : Bool) (bad : List Nat)
  /-- R471: DIE_RESET_REQ. -/
  | dieResetReq (ctx slot : Nat)
  /-- R471: DIE_OFFLINE_REQ. -/
  | dieOfflineReq (ctx slot : Nat)
  /-- R471: DIE_ONLINE_REQ. -/
  | dieOnlineReq (ctx slot : Nat)
  /-- R471: DIE_DRAIN_DONE. -/
  | dieDrainDone (slot : Nat)
  /-- R487: CLUSTER_FAILURE. -/
  | clusterFailure (t c : Nat) (badSpares : List Nat)
  /-- R323: GEOMETRY_CHANGED_HANDLING. -/
  | geometryChangedHandling
  /-- R88: ADD. -/
  | add (a : Agent) (f : RF)
  /-- R88: SUB. -/
  | sub (a : Agent) (f : RF)
  /-- R87: AND. -/
  | and (a : Agent) (f : RF)
  /-- R87: OR. -/
  | or (a : Agent) (f : RF)
  /-- R87: XOR. -/
  | xor (a : Agent) (f : RF)
  /-- R88: ANDN. -/
  | andn (a : Agent) (f : RF)
  /-- R88: SLL. -/
  | sll (a : Agent) (f : RF)
  /-- R88: SRL. -/
  | srl (a : Agent) (f : RF)
  /-- R88: SRA. -/
  | sra (a : Agent) (f : RF)
  /-- R87: ROR. -/
  | ror (a : Agent) (f : RF)
  /-- R87: SLT. -/
  | slt (a : Agent) (f : RF)
  /-- R87: SLTU. -/
  | sltu (a : Agent) (f : RF)
  /-- R87: MIN. -/
  | min (a : Agent) (f : RF)
  /-- R87: MAX. -/
  | max (a : Agent) (f : RF)
  /-- R87: MINU. -/
  | minu (a : Agent) (f : RF)
  /-- R87: MAXU. -/
  | maxu (a : Agent) (f : RF)
  /-- R89: ADDC. -/
  | addc (a : Agent) (f : RF)
  /-- R89: SUBC. -/
  | subc (a : Agent) (f : RF)
  /-- R88: CLZ. -/
  | clz (a : Agent) (f : RF)
  /-- R88: CTZ. -/
  | ctz (a : Agent) (f : RF)
  /-- R87: POPC. -/
  | popc (a : Agent) (f : RF)
  /-- R89: SEL. -/
  | sel (a : Agent) (f : RF)
  /-- R88: ADD_W. -/
  | addW (a : Agent) (f : RF)
  /-- R88: SUB_W. -/
  | subW (a : Agent) (f : RF)
  /-- R88: SLL_W. -/
  | sllW (a : Agent) (f : RF)
  /-- R88: SRL_W. -/
  | srlW (a : Agent) (f : RF)
  /-- R88: SRA_W. -/
  | sraW (a : Agent) (f : RF)
  /-- R85: ADDI. -/
  | addi (a : Agent) (f : IF)
  /-- R85: ANDI. -/
  | andi (a : Agent) (f : IF)
  /-- R85: ORI. -/
  | ori (a : Agent) (f : IF)
  /-- R85: XORI. -/
  | xori (a : Agent) (f : IF)
  /-- R85: SLTI. -/
  | slti (a : Agent) (f : IF)
  /-- R85: SLTIU. -/
  | sltiu (a : Agent) (f : IF)
  /-- R86: SHI. -/
  | shi (a : Agent) (f : IF)
  /-- R85: LUI. -/
  | lui (a : Agent) (f : UF)
  /-- R85: AUIPC. -/
  | auipc (a : Agent) (f : UF)
  /-- R88: MUL. -/
  | mul (a : Agent) (f : RF)
  /-- R87: MULH. -/
  | mulh (a : Agent) (f : RF)
  /-- R87: MULHU. -/
  | mulhu (a : Agent) (f : RF)
  /-- R87: MULHSU. -/
  | mulhsu (a : Agent) (f : RF)
  /-- R88: DIV. -/
  | div (a : Agent) (f : RF)
  /-- R88: DIVU. -/
  | divu (a : Agent) (f : RF)
  /-- R88: REM. -/
  | rem (a : Agent) (f : RF)
  /-- R88: REMU. -/
  | remu (a : Agent) (f : RF)
  /-- R88: MUL_W. -/
  | mulW (a : Agent) (f : RF)
  /-- R88: DIV_W. -/
  | divW (a : Agent) (f : RF)
  /-- R88: DIVU_W. -/
  | divuW (a : Agent) (f : RF)
  /-- R88: REM_W. -/
  | remW (a : Agent) (f : RF)
  /-- R88: REMU_W. -/
  | remuW (a : Agent) (f : RF)
  /-- R94: LB. -/
  | lb (a : Agent) (f : IF)
  /-- R94: LH. -/
  | lh (a : Agent) (f : IF)
  /-- R94: LW. -/
  | lw (a : Agent) (f : IF)
  /-- R94: LD. -/
  | ld (a : Agent) (f : IF)
  /-- R94: LBU. -/
  | lbu (a : Agent) (f : IF)
  /-- R94: LHU. -/
  | lhu (a : Agent) (f : IF)
  /-- R94: LWU. -/
  | lwu (a : Agent) (f : IF)
  /-- R94: SB. -/
  | sb (a : Agent) (f : IF)
  /-- R94: SH. -/
  | sh (a : Agent) (f : IF)
  /-- R94: SW. -/
  | sw (a : Agent) (f : IF)
  /-- R94: SD. -/
  | sd (a : Agent) (f : IF)
  /-- R94: LLW. -/
  | llw (a : Agent) (f : IF)
  /-- R94: SLW. -/
  | slw (a : Agent) (f : IF)
  /-- R94: LLQ. -/
  | llq (a : Agent) (f : IF)
  /-- R94: SLQ. -/
  | slq (a : Agent) (f : IF)
  /-- R85: BEQ. -/
  | beq (a : Agent) (f : BF)
  /-- R85: BNE. -/
  | bne (a : Agent) (f : BF)
  /-- R85: BLT. -/
  | blt (a : Agent) (f : BF)
  /-- R85: BGE. -/
  | bge (a : Agent) (f : BF)
  /-- R85: BLTU. -/
  | bltu (a : Agent) (f : BF)
  /-- R85: BGEU. -/
  | bgeu (a : Agent) (f : BF)
  /-- R85: JAL. -/
  | jal (a : Agent) (f : JF)
  /-- R86: JALR. -/
  | jalr (a : Agent) (f : IF)
  /-- R86: BANY. -/
  | bany (a : Agent) (f : BF)
  /-- R86: BNONE. -/
  | bnone (a : Agent) (f : BF)
  /-- R90: FADD. -/
  | fadd (a : Agent) (f : RF)
  /-- R90: FSUB. -/
  | fsub (a : Agent) (f : RF)
  /-- R90: FMUL. -/
  | fmul (a : Agent) (f : RF)
  /-- R90: FDIV. -/
  | fdiv (a : Agent) (f : RF)
  /-- R90: FSQRT. -/
  | fsqrt (a : Agent) (f : RF)
  /-- R90: FMIN. -/
  | fmin (a : Agent) (f : RF)
  /-- R90: FMAX. -/
  | fmax (a : Agent) (f : RF)
  /-- R90: FAMAX. -/
  | famax (a : Agent) (f : RF)
  /-- R87: FSGNJ. -/
  | fsgnj (a : Agent) (f : RF)
  /-- R87: FSGNJN. -/
  | fsgnjn (a : Agent) (f : RF)
  /-- R87: FSGNJX. -/
  | fsgnjx (a : Agent) (f : RF)
  /-- R90: FEQ. -/
  | feq (a : Agent) (f : RF)
  /-- R90: FLT. -/
  | flt (a : Agent) (f : RF)
  /-- R90: FLE. -/
  | fle (a : Agent) (f : RF)
  /-- R90: FCLASS. -/
  | fclass (a : Agent) (f : RF)
  /-- R87: FMV_XF. -/
  | fmvXf (a : Agent) (f : RF)
  /-- R87: FMV_FX. -/
  | fmvFx (a : Agent) (f : RF)
  /-- R87: FMADD. -/
  | fmadd (a : Agent) (f : R4F)
  /-- R87: FMSUB. -/
  | fmsub (a : Agent) (f : R4F)
  /-- R87: FNMADD. -/
  | fnmadd (a : Agent) (f : R4F)
  /-- R87: FNMSUB. -/
  | fnmsub (a : Agent) (f : R4F)
  /-- R91: FCVT_S_W. -/
  | fcvtSW (a : Agent) (f : RF)
  /-- R91: FCVT_S_WU. -/
  | fcvtSWu (a : Agent) (f : RF)
  /-- R91: FCVT_W_S. -/
  | fcvtWS (a : Agent) (f : RF)
  /-- R91: FCVT_WU_S. -/
  | fcvtWuS (a : Agent) (f : RF)
  /-- R87: FCVT_S_D. -/
  | fcvtSD (a : Agent) (f : RF)
  /-- R87: FCVT_D_S. -/
  | fcvtDS (a : Agent) (f : RF)
  /-- R91: FCVT_D_L. -/
  | fcvtDL (a : Agent) (f : RF)
  /-- R91: FCVT_L_D. -/
  | fcvtLD (a : Agent) (f : RF)
  /-- R92: NPACK. -/
  | npack (a : Agent) (pos : BitVec 2) (f : RF)
  /-- R92: NUNPK. -/
  | nunpk (a : Agent) (f : RF)
  /-- R93: QSCALE_MX. -/
  | qscaleMx (a : Agent) (f : RF)
  /-- R93: QSCALE_F16. -/
  | qscaleF16 (a : Agent) (f : RF)
  /-- R93: QINV. -/
  | qinv (a : Agent) (f : RF)
  /-- R238: SYNC. -/
  | sync (a : Agent) (f : RF)
  /-- R238: SYNC_S. -/
  | syncS (a : Agent) (f : RF)
  /-- R238: SYNC_L. -/
  | syncL (a : Agent) (f : RF)
  /-- R238: SYNC_D. -/
  | syncD (a : Agent) (f : RF)
  /-- R99: LDL. -/
  | ldl (a : Agent) (f : RF)
  /-- R99: STC. -/
  | stc (a : Agent) (f : RF)
  /-- R98: AMO_SWAP. -/
  | amoSwap (a : Agent) (f : RF)
  /-- R98: AMO_ADD. -/
  | amoAdd (a : Agent) (f : RF)
  /-- R98: AMO_AND. -/
  | amoAnd (a : Agent) (f : RF)
  /-- R98: AMO_OR. -/
  | amoOr (a : Agent) (f : RF)
  /-- R98: AMO_XOR. -/
  | amoXor (a : Agent) (f : RF)
  /-- R98: AMO_MIN. -/
  | amoMin (a : Agent) (f : RF)
  /-- R98: AMO_MAX. -/
  | amoMax (a : Agent) (f : RF)
  /-- R98: AMO_MINU. -/
  | amoMinu (a : Agent) (f : RF)
  /-- R98: AMO_MAXU. -/
  | amoMaxu (a : Agent) (f : RF)
  /-- R98: AMO_CAS. -/
  | amoCas (a : Agent) (f : RF)
  /-- R100: AMO_FADD. -/
  | amoFadd (a : Agent) (f : RF)
  /-- R101: CWB. -/
  | cwb (a : Agent) (f : CacheF)
  /-- R101: CFLUSH. -/
  | cflush (a : Agent) (f : CacheF)
  /-- R101: CINV. -/
  | cinv (a : Agent) (f : CacheF)
  /-- R101: CPREF. -/
  | cpref (a : Agent) (f : CacheF)
  /-- R97: STN. -/
  | stn (a : Agent) (f : IF)
  /-- R102: ECALL. -/
  | ecall (a : Agent) (f : SysF)
  /-- R102: EBREAK. -/
  | ebreak (a : Agent) (f : SysF)
  /-- R260: ERET. -/
  | eret (a : Agent) (f : SysF)
  /-- R266: WFI. -/
  | wfi (a : Agent) (f : SysF)
  /-- R102: CSRRW. -/
  | csrrw (a : Agent) (f : SysF)
  /-- R102: CSRRS. -/
  | csrrs (a : Agent) (f : SysF)
  /-- R102: CSRRC. -/
  | csrrc (a : Agent) (f : SysF)
  /-- R259: TLBI. -/
  | tlbi (a : Agent) (f : SysF)
  /-- R102: HALT. -/
  | halt (a : Agent) (f : SysF)
  /-- R264: EVCLAIM_READ. -/
  | evclaimRead (a : Agent) (rd : BitVec 5)
  /-- R103: TIMELO_READ. -/
  | timeloRead (a : Agent) (rd : BitVec 5)
  /-- R87: PSETNZ. -/
  | psetnz (a : Agent) (f : RF)
  /-- R87: PAND. -/
  | pand (a : Agent) (f : RF)
  /-- R87: POR. -/
  | por (a : Agent) (f : RF)
  /-- R87: PXOR. -/
  | pxor (a : Agent) (f : RF)
  /-- R87: PNOT. -/
  | pnot (a : Agent) (f : RF)
  /-- R87: PMOV. -/
  | pmov (a : Agent) (f : RF)
  /-- R87: PLOAD. -/
  | pload (a : Agent) (f : RF)
  /-- R84: MPUSH. -/
  | mpush (a : Agent) (f : RF)
  /-- R84: MELSE. -/
  | melse (a : Agent) (f : RF)
  /-- R84: MPOP. -/
  | mpop (a : Agent) (f : RF)
  /-- R104: SBAR. -/
  | sbar (a : Agent) (f : RF)
  /-- R104: SBAR_COMPLETE. -/
  | sbarComplete (r : RowId)
  /-- R104: LSHFL. -/
  | lshfl (a : Agent) (f : RF)
  /-- R87: PCMP_EQ. -/
  | pcmpEq (a : Agent) (f : RF)
  /-- R87: PCMP_NE. -/
  | pcmpNe (a : Agent) (f : RF)
  /-- R87: PCMP_LT. -/
  | pcmpLt (a : Agent) (f : RF)
  /-- R87: PCMP_GE. -/
  | pcmpGe (a : Agent) (f : RF)
  /-- R87: PCMP_LTU. -/
  | pcmpLtu (a : Agent) (f : RF)
  /-- R87: PCMP_GEU. -/
  | pcmpGeu (a : Agent) (f : RF)
  /-- R87: PFCMP_EQ. -/
  | pfcmpEq (a : Agent) (f : RF)
  /-- R87: PFCMP_LT. -/
  | pfcmpLt (a : Agent) (f : RF)
  /-- R87: PFCMP_LE. -/
  | pfcmpLe (a : Agent) (f : RF)
  /-- R87: PFCMP_UN. -/
  | pfcmpUn (a : Agent) (f : RF)
  /-- R113: WFILL. -/
  | wfill (a : Agent) (f : MF)
  /-- R47: WFILL_START. -/
  | wfillStart (r : RowId)
  /-- R47: WFILL_DONE. -/
  | wfillDone (r : RowId)
  /-- R115: BCAST. -/
  | bcast (a : Agent) (f : MF)
  /-- R115: BRD. -/
  | brd (a : Agent) (f : MF)
  /-- R114: MSTEP. -/
  | mstep (a : Agent) (f : MF)
  /-- R112: MPASS. -/
  | mpass (a : Agent) (f : MF)
  /-- R46: PASS_START. -/
  | passStart (r : RowId)
  /-- R50: CHUNK_INJECTION. -/
  | chunkInjection (r : RowId) (granted permitted : Bool)
  /-- R45: PASS_COMPLETE. -/
  | passComplete (r : RowId)
  /-- R116: ACCRD. -/
  | accrd (a : Agent) (f : MF)
  /-- R69: ACCRD_DRAIN. -/
  | accrdDrain (r : RowId)
  /-- R118: ACCLD. -/
  | accld (a : Agent) (f : MF)
  /-- R119: TLD. -/
  | tld (a : Agent) (f : MF)
  /-- R120: RWAIT. -/
  | rwait (a : Agent) (f : MF)
  /-- R121: SFU_EXP2. -/
  | sfuExp2 (a : Agent) (f : RF)
  /-- R121: SFU_LOG2. -/
  | sfuLog2 (a : Agent) (f : RF)
  /-- R121: SFU_RCP. -/
  | sfuRcp (a : Agent) (f : RF)
  /-- R121: SFU_RSQ. -/
  | sfuRsq (a : Agent) (f : RF)
  /-- R121: SFU_TANH. -/
  | sfuTanh (a : Agent) (f : RF)
  /-- R121: SFU_SIG. -/
  | sfuSig (a : Agent) (f : RF)
  /-- R375: RNG_KEY. -/
  | rngKey (a : Agent) (f : RF)
  /-- R374: RNG_NEXT. -/
  | rngNext (a : Agent) (f : RF)
  /-- R122: RNG_U32. -/
  | rngU32 (a : Agent) (f : RF)
  /-- R122: RNG_UF. -/
  | rngUf (a : Agent) (f : RF)
  /-- R122: RNG_SKIP. -/
  | rngSkip (a : Agent) (f : RF)
  /-- R122: RNG_SAVE. -/
  | rngSave (a : Agent) (f : RF)
  /-- R122: RNG_LOAD. -/
  | rngLoad (a : Agent) (f : RF)
  /-- R266: INTERRUPT_TAKEN. -/
  | interruptTaken (n : Nat)
  /-- R266: TIMER_EXPIRY. -/
  | timerExpiry (n : Nat) (machine : Bool)
  /-- R263: DEFERRED_ERROR. -/
  | deferredError (n : Nat)
  /-- R264: EVENT_DELIVERY. -/
  | eventDelivery (ev : Nat)
  /-- R266: EVRAISE. -/
  | evraise (ctx ev : Nat)
  /-- R268: CORE_OFFLINE. -/
  | coreOffline (ctx n : Nat)
  /-- R268: CORE_ONLINE. -/
  | coreOnline (ctx n : Nat)
  /-- R268: CORE_SELFTEST_DONE. -/
  | coreSelftestDone (n : Nat) (ok : Bool)
  /-- R269: CORE_FAILED. -/
  | coreFailed (n : Nat)
  /-- R164: NEARMEM_GEMV. -/
  | nearmemGemv (run : Nat)
  /-- R172: NEARMEM_ATTEND. -/
  | nearmemAttend (run : Nat)
  /-- R146: GLUME_READ. -/
  | glumeRead (g ctx line errs : Nat) (row : DramRow)
  /-- R147: GLUME_WRITE. -/
  | glumeWrite (g ctx line size : Nat) (data : List (BitVec 8))
  /-- R148: STACK_TEMP_READ. -/
  | stackTempRead (g : Nat) (temp : Int)
  /-- R149: CHANNEL_RECAL. -/
  | channelRecal (g ch : Nat)
  /-- R150: SCRUB_READ. -/
  | scrubRead (g line errs : Nat) (row : DramRow)
  /-- R151: SOFT_REPAIR. -/
  | softRepair (g : Nat) (row : DramRow)
  /-- R152: HARD_REPAIR. -/
  | hardRepair (g : Nat) (row : DramRow)
  /-- R151: REPCMD_SOFT. -/
  | repcmdSoft (ctx g : Nat) (row : DramRow)
  /-- R152: REPCMD_HARD. -/
  | repcmdHard (ctx g : Nat) (row : DramRow)
  /-- R152: REPCMD_HARDALL. -/
  | repcmdHardall (ctx g : Nat)
  /-- R189: PAGE_WALK. -/
  | pageWalk (cache ctx va : Nat) (write : Bool) (who : Waiter)
  /-- R194: FAULT_RECORD_WRITE. -/
  | faultRecordWrite (fid : Nat)
  /-- R196: FAULT_QUEUE_CONS_WRITE. -/
  | faultQueueConsWrite (ctx n val : Nat)
  /-- R197: FAULT_RETRY. -/
  | faultRetry (ctx id : Nat)
  /-- R197: FAULT_FAIL. -/
  | faultFail (ctx id : Nat)
  /-- R198: FAULT_TIMEOUT. -/
  | faultTimeout (fid : Nat)
  /-- R198: FAULTCFG_WRITE. -/
  | faultcfgWrite (ctx val : Nat)
  /-- R520: RING_ENABLE. -/
  | ringEnable (ctx ring val : Nat)
  /-- R520: RING_DISABLE. -/
  | ringDisable (ctx ring val : Nat)
  /-- R182: FABRIC_INBOUND_ACCESS. -/
  | fabricInboundAccess (dev seq base : Nat) (store : Bool) (off len : Nat) (data : List (BitVec 8))
  /-- R185: FADMIT_WRITE. -/
  | fadmitWrite (ctx unit val : Nat)
  /-- R185: FADMIT_RECLAIM. -/
  | fadmitReclaim (ctx unit val : Nat)
  /-- R185: FADMIT_REVOKE. -/
  | fadmitRevoke (ctx unit val : Nat)
  /-- R185: RECLAIM_NOTICE. -/
  | reclaimNotice (dev unit notice : Nat)
  /-- R185: LEND_RELEASE. -/
  | lendRelease (ctx val : Nat)
  /-- R185: LEND_RELEASE_RECEIVED. -/
  | lendReleaseReceived (dev unit : Nat)
  /-- R185: LEND_NOTICE_EXPIRY. -/
  | lendNoticeExpiry (unit : Nat)
  /-- R200: INVALIDATE. -/
  | invalidate (run : Nat)
  /-- R200: INVALIDATE_COMPLETE. -/
  | invalidateComplete (run : Nat)
  /-- R218: SCCMD_WBALL. -/
  | sccmdWball (ctx k : Nat)
  /-- R218: SCCMD_FLUSHALL. -/
  | sccmdFlushall (ctx k : Nat)
  /-- R218: SCCMD_DONE. -/
  | sccmdDone (k : Nat)
  /-- R217: CACHE_INIT_DONE. -/
  | cacheInitDone (k : Nat)
  /-- R214: CACHE_MISS. -/
  | cacheMiss (k line : Nat) (streaming : Bool) (victim : Option Nat)
  /-- R210: CACHE_FILL_RETURN. -/
  | cacheFillReturn (k line : Nat) (evict : Option Nat)
  /-- R213: SEQDET_TIMEOUT. -/
  | seqdetTimeout (k region : Nat)
  /-- R235: NTBUF_IDLE_DRAIN. -/
  | ntbufIdleDrain (n : Nat)
  /-- R250: FABRIC_STORE_TIMEOUT. -/
  | fabricStoreTimeout (id : Nat)
  /-- R250: FABRIC_LOAD_TIMEOUT. -/
  | fabricLoadTimeout (id : Nat)
  /-- R278: SUBMISSION_DOORBELL. -/
  | submissionDoorbell (ctx page idx val : Nat)
  /-- R309: CQ_CONSUMER_DOORBELL. -/
  | cqConsumerDoorbell (ctx page idx val : Nat)
  /-- R279: SLOT_FETCH. -/
  | slotFetch (q : Nat)
  /-- R279: SLOT_REFETCH. -/
  | slotRefetch (q : Nat)
  /-- R282: COMMAND_DISPATCH. -/
  | commandDispatch (q : Nat)
  /-- R286: NOP. -/
  | nop (q : Nat)
  /-- R294: FENCE_WAIT. -/
  | fenceWait (q : Nat)
  /-- R295: FENCE_REEVALUATE. -/
  | fenceReevaluate (q : Nat)
  /-- R295: FENCE_POLL. -/
  | fencePoll (q : Nat)
  /-- R295: FENCE_SWEEP. -/
  | fenceSweep
  /-- R338: FENCE_WATCHDOG_TICK. -/
  | fenceWatchdogTick
  /-- R296: FENCE_SIGNAL. -/
  | fenceSignal (q : Nat)
  /-- R297: FENCE_SIGNAL_PERFORM. -/
  | fenceSignalPerform (q : Nat)
  /-- R288: COND. -/
  | cond (q : Nat)
  /-- R289: LOOP. -/
  | loop (q : Nat)
  /-- R290: JUMP. -/
  | jump (q : Nat)
  /-- R290: CALL. -/
  | call (q : Nat)
  /-- R290: RETURN. -/
  | retCmd (q : Nat)
  /-- R292: PARAM_SET. -/
  | paramSet (q : Nat)
  /-- R292: PARAM_LOAD. -/
  | paramLoad (q : Nat)
  /-- R292: PARAM_ADD. -/
  | paramAdd (q : Nat)
  /-- R293: PATCH. -/
  | patch (q : Nat)
  /-- R301: CREATE_QUEUE. -/
  | createQueue (run : Nat)
  /-- R335: DESTROY_QUEUE. -/
  | destroyQueue (run : Nat)
  /-- R335: DESTROY_QUEUE_TIMEOUT. -/
  | destroyQueueTimeout (run : Nat)
  /-- R335: ENGINE_ABORT. -/
  | engineAbort (run : Nat)
  /-- R302: QUEUE_HALT. -/
  | queueHalt (run : Nat)
  /-- R285: QUEUE_RESUME. -/
  | queueResume (run : Nat)
  /-- R285: QUEUE_RESUME_RETRY. -/
  | queueResumeRetry (run : Nat)
  /-- R302: QUEUE_SETPRIO. -/
  | queueSetprio (run : Nat)
  /-- R303: CREATE_CQ. -/
  | createCq (run : Nat)
  /-- R303: DESTROY_CQ. -/
  | destroyCq (run : Nat)
  /-- R305: KERNEL. -/
  | kernel (run : Nat)
  /-- R305: KERNEL_COMPLETE. -/
  | kernelComplete (run : Nat)
  /-- R306: COMPLETION_ENTRY_WRITE. -/
  | completionEntryWrite (run : Nat)
  /-- R401: FLUSHING_READ. -/
  | flushingRead (run p : Nat)
  /-- R312: QINFO_READ. -/
  | qinfoRead (ctx : Nat)
  /-- R312: CQINFO_READ. -/
  | cqinfoRead (ctx : Nat)
  /-- R316: CREATE_CONTEXT. -/
  | createContext (run : Nat)
  /-- R317: DESTROY_CONTEXT. -/
  | destroyContext (run : Nat)
  /-- R317: DESTROY_CONTEXT_TIMEOUT. -/
  | destroyContextTimeout (run : Nat)
  /-- R318: CONTEXT_SUSPEND. -/
  | contextSuspend (run : Nat)
  /-- R318: CONTEXT_RESUME. -/
  | contextResume (run : Nat)
  /-- R318: SUSPEND_TIMEOUT. -/
  | suspendTimeout (run : Nat)
  /-- R319: GROUP_GRANT. -/
  | groupGrant
  /-- R320: SLICE_END. -/
  | sliceEnd
  /-- R320: IDLE_RELEASE. -/
  | idleRelease (ctx : Nat)
  /-- R326: CLUSTER_YIELDED. -/
  | clusterYielded (t c : Nat)
  /-- R327: YIELDWAIT_EXPIRY. -/
  | yieldwaitExpiry (ctx : Nat)
  /-- R327: SAVE_COMPLETE. -/
  | saveComplete (ctx : Nat)
  /-- R347: SESSION_OPEN. -/
  | sessionOpen (run : Nat)
  /-- R348: SESSION_MODIFY. -/
  | sessionModify (run : Nat)
  /-- R348: SESSION_CLOSE. -/
  | sessionClose (run : Nat)
  /-- R367: PKT_SEND. -/
  | pktSend (run : Nat)
  /-- R349: DTMF_SEND. -/
  | dtmfSend (run : Nat)
  /-- R345: FRAME_BOUNDARY. -/
  | frameBoundary (sid : Nat)
  /-- R365: OUTPROD_READ. -/
  | outprodRead (sid : Nat)
  /-- R364: PROGRESS_BLOCK_WRITE. -/
  | progressBlockWrite (sid : Nat)
  /-- R353: MEDIA_FRAME_RECEIVE. -/
  | mediaFrameReceive (p : Nat) (fcsOk authOk : Bool) (frame plain : List (BitVec 8))
  /-- R381: SAMPLE. -/
  | sample (run : Nat)
  /-- R383: SAMPLE_VECTOR. -/
  | sampleVector (run : Nat)
  /-- R392: HWA_ACCESS. -/
  | hwaAccess (p : Nat) (write : Bool) (off size val : Nat)
  /-- R393: HWB_DOORBELL_WRITE. -/
  | hwbDoorbellWrite (p off size val : Nat)
  /-- R394: APERTURE_ACCESS. -/
  | apertureAccess (p : Nat) (write : Bool) (off len : Nat) (data : List (BitVec 8))
  /-- R467: CONFIG_REQUEST. -/
  | configRequest (p : Nat) (req : CfgReq)
  /-- R405: ROOT_INBOUND_REQUEST. -/
  | rootInboundRequest (p : Nat) (write : Bool) (addr len : Nat) (data : List (BitVec 8))
  /-- R406: LINK_LOSS_START. -/
  | linkLossStart (p : Nat)
  /-- R406: LINK_LOSS_GRACE_EXPIRY. -/
  | linkLossGraceExpiry (p : Nat)
  /-- R406: FUNCTION_LEVEL_RESET. -/
  | functionLevelReset (p : Nat)
  /-- R406: HOST_LINK_UP. -/
  | hostLinkUp (p speed width : Nat)
  /-- R406: PORT_REARM. -/
  | portRearm (ctx p : Nat)
  /-- R409: COPY. -/
  | copy (run : Nat)
  /-- R412: COPY_DESCRIPTOR. -/
  | copyDescriptor (run : Nat)
  /-- R413: RANGE_WB. -/
  | rangeWb (run : Nat)
  /-- R433: ALLREDUCE. -/
  | allreduce (run : Nat)
  /-- R432: ALLGATHER. -/
  | allgather (run : Nat)
  /-- R432: REDUCE_SCATTER. -/
  | reduceScatter (run : Nat)
  /-- R433: COLLECTIVE_CHUNK_RECEIVE. -/
  | collectiveChunkReceive (run rank chunk : Nat) (data : List (BitVec 8)) (poison : List Nat)
  /-- R435: COLLECTIVE_FIELDS_EXCHANGE. -/
  | collectiveFieldsExchange (run rank : Nat) (fields : List Nat)
  /-- R435: COLL_TIMEOUT. -/
  | collTimeout (run : Nat)
  /-- R427: FABRIC_RESPONSE_RECEIVE. -/
  | fabricResponseReceive (id status : Nat) (data : List (BitVec 8))
  /-- R427: FABRIC_RESEND_TIMER. -/
  | fabricResendTimer (id : Nat)
  /-- R430: BROADCAST_STORE_RECEIVE. -/
  | broadcastStoreReceive (dev seq base off : Nat) (data : List (BitVec 8)) (answer : Option (Nat × Nat))
  /-- R426: LINK_FAILURE. -/
  | linkFailure (p : Nat)
  /-- R426: HELLO_MISS_TIMEOUT. -/
  | helloMissTimeout (p : Nat)
  /-- R418: LANE_FAILURE. -/
  | laneFailure (p lane : Nat)
  /-- R426: LINK_STATE_RECEIVE. -/
  | linkStateReceive (m : FabTx)
  /-- R437: HELLO_TIMER. -/
  | helloTimer
  /-- R437: HELLO_RECEIVE. -/
  | helloReceive (p : Nat) (h : Hello)
  /-- R437: PORT_DOWN_DECLARE. -/
  | portDownDeclare (p : Nat)
  /-- R437: ELECTION_SETTLE. -/
  | electionSettle
  /-- R438: ASSIGN_RECEIVE. -/
  | assignReceive (p coord : Nat)
  /-- R438: READY_REPORT_RECEIVE. -/
  | readyReportReceive (dev : Nat)
  /-- R438: FABRIC_READY_RECEIVE. -/
  | fabricReadyReceive
  /-- R421: MODULE_REMOVAL. -/
  | moduleRemoval (p : Nat)
  /-- R421: MODULE_INSERTION. -/
  | moduleInsertion (p kind oui sncrc : Nat)
  /-- R421: LINK_TRAINED. -/
  | linkTrained (p : Nat) (lanes : BitVec 8)
  /-- R441: PORT_RETRAIN. -/
  | portRetrain (ctx p : Nat)
  /-- R441: ROUTEQ_WRITE. -/
  | routeqWrite (ctx val : Nat)
  /-- R448: PM_UPDATE. -/
  | pmUpdate (est : List Nat)
  /-- R446: PM_CALIBRATION. -/
  | pmCalibration (est meas : List Nat) (power mv ma : Nat)
  /-- R455: SENSOR_SCAN. -/
  | sensorScan (temps : List Int)
  /-- R450: DROOP_TRIP. -/
  | droopTrip (t c : Nat)
  /-- R450: DROOP_RECOVERY_STEP. -/
  | droopRecoveryStep (t c : Nat)
  /-- R451: PWRLIM_ASSERT. -/
  | pwrlimAssert
  /-- R451: PWRLIM_RELEASE. -/
  | pwrlimRelease
  /-- R444: BMC_CAP_WRITE. -/
  | bmcCapWrite (val : Nat)
  /-- R442: INPUT_SOFT_START. -/
  | inputSoftStart
  /-- R442: INPUT_GOOD. -/
  | inputGood (straps : Straps)
  /-- R442: INPUT_DIP. -/
  | inputDip
  /-- R442: POWER_LOSS. -/
  | powerLoss
  /-- R505: PKGCLK_LOSS. -/
  | pkgclkLoss
  /-- R464: WARM_RESET. -/
  | warmReset (cause p : Nat) (failed : List Nat) (discarded : Nat)
  /-- R509: WARMRST_ASSERT. -/
  | warmrstAssert
  /-- R509: WARMRST_RELEASE. -/
  | warmrstRelease
  /-- R466: BOOT_STEP. -/
  | bootStep (badImages : List (Nat × Nat)) (badDies badFuses badCores : List Nat)
  /-- R477: SP_STAGE. -/
  | spStage (ctx cls : Nat)
  /-- R477: SP_ACTIVATE. -/
  | spActivate (ctx cls : Nat)
  /-- R477: IMAGE_READY_REPORT. -/
  | imageReadyReport (cls : Nat)
  /-- R477: ACTIVATE_TIMEOUT. -/
  | activateTimeout (cls : Nat)
  /-- R476: SP_COMMIT. -/
  | spCommit (ctx cls : Nat)
  /-- R478: SP_ATTEST. -/
  | spAttest (ctx : Nat)
  /-- R478: SP_GETCERT. -/
  | spGetcert (ctx : Nat)
  /-- R481: SP_CALWRITE. -/
  | spCalwrite (ctx : Nat)
  /-- R481: SP_CALAPPLY. -/
  | spCalapply (ctx : Nat)
  /-- R485: ERROR_RECORD_WRITE. -/
  | errorRecordWrite
  /-- R488: SELFTEST_CLUSTER. -/
  | selftestCluster (ctx t grp : Nat) (force : Bool)
  /-- R488: SELFTEST_HBMCAL. -/
  | selftestHbmcal (ctx : Nat)
  /-- R488: SELFTEST_DIELINK. -/
  | selftestDielink (ctx slot : Nat) (force : Bool)
  /-- R489: SELFTEST_MEMTEST. -/
  | selftestMemtest (ctx : Nat) (force : Bool)
  /-- R489: SELFTEST_ARRAYTEST. -/
  | selftestArraytest (ctx : Nat) (force : Bool)
  /-- R488: SELFTEST_SWEEP. -/
  | selftestSweep (ctx : Nat) (force : Bool)
  /-- R488: SELFTEST_DONE. -/
  | selftestDone (found : List (Nat × Nat)) (badSpares : List Nat)
  /-- R490: SWEEP_TIMER. -/
  | sweepTimer
  /-- R492: CP_HEARTBEAT_MISS. -/
  | cpHeartbeatMiss
  /-- R493: SVC_WREG. -/
  | svcWreg (off val : Nat)
  /-- R493: SVC_RREG. -/
  | svcRreg (off : Nat)
  /-- R493: SVC_WDATA. -/
  | svcWdata (data : List (BitVec 8))
  /-- R493: SVC_RDATA. -/
  | svcRdata (len : Nat)
  /-- R493: SVC_FRAME_TIMEOUT. -/
  | svcFrameTimeout
  /-- R494: MB_PRIVATE_WRITE. -/
  | mbPrivateWrite (off : Nat) (data : Option (BitVec 32))
  /-- R494: MB_PRIVATE_READ. -/
  | mbPrivateRead
  /-- R494: MB_ADDRESS_ASSIGN. -/
  | mbAddressAssign (addr : Nat)
  /-- R495: JTAG_BYPASS. -/
  | jtagBypass
  /-- R495: JTAG_IDCODE. -/
  | jtagIdcode
  /-- R495: JTAG_SAMPLE_PRELOAD. -/
  | jtagSamplePreload
  /-- R495: JTAG_EXTEST. -/
  | jtagExtest
  /-- R495: JTAG_EXTEST_PULSE. -/
  | jtagExtestPulse
  /-- R495: JTAG_EXTEST_TRAIN. -/
  | jtagExtestTrain
  /-- R495: JTAG_CLAMP. -/
  | jtagClamp
  /-- R495: JTAG_HIGHZ. -/
  | jtagHighz
  /-- R492: CP_FIRMWARE_RESTART_DONE. -/
  | cpFirmwareRestartDone
  /-- R268: CORE_OFFLINE_DONE. -/
  | coreOfflineDone (n : Nat)
  /-- R342: MEDIA_LINK_CHANGE. -/
  | mediaLinkChange (p : Nat) (up : Bool)
  /-- R421: MODULE_READY. -/
  | moduleReady (p : Nat)
  /-- R418: FABRIC_LANE_RETRAINED. -/
  | fabricLaneRetrained (p lane : Nat)
  /-- R418: FLIT_CRC_FAILURE. -/
  | flitCrcFailure (p : Nat)
  /-- R426: FABRIC_TRANSIT_PACKET. -/
  | fabricTransitPacket (dst detours : Nat) (detoured : Bool)
  /-- R451: INPUT_CURRENT_LIMIT. -/
  | inputCurrentLimit (on : Bool)
  /-- R152: HBM_REPAIR_COMPLETE. -/
  | hbmRepairComplete (g : Nat) (failed : Bool)
  /-- R406: FUNCTION_RESET_DONE. -/
  | functionResetDone (p : Nat)
  /-- R441: FE_PORT_EN_WRITE. -/
  | fePortEnWrite (ctx p : Nat) (en : Bool)
  /-- R367: MEDIA_FRAME_TRANSMITTED. -/
  | mediaFrameTransmitted (p : Nat)
  /-- R420: MODULE_WEAR_UPDATE. -/
  | moduleWearUpdate (p days bias : Nat)
deriving DecidableEq, Repr

end Sys2Proof
end

