-- ==== Sys2Proof/WellFormed.lean ====
section
/-! DEFINITION. Which commands are well formed: their operands name units, offsets and values the part has (R1
to R5, R12, R32, R40, R422). What the part does with a legal operand of a bad value is its meaning's. -/

namespace Sys2Proof

open Sys2Proof.Machine

/-- R40, R81, R255: the unit exists. -/
def Agent.wf : Agent → Bool
  | .core n => decide (n < 96)
  | .sheaf t c r s => decide (t < 8 ∧ c < 84 ∧ r < 16 ∧ s < 8)

/-- R40: the row exists. -/
def RowId.wf (r : RowId) : Bool := decide (r.t < 8 ∧ r.c < 84 ∧ r.r < 16)

end Sys2Proof

namespace Sys2Proof.Machine

/-- R146, R155 (GLM_REPCMD): the row fits its fields. -/
def DramRow.wf (r : DramRow) : Bool := decide (r.ch < 16 ∧ r.pc < 2 ∧ r.bank < 64 ∧ r.row < 131072)

/-- R426: the messages that are flooded. -/
def FabTx.flooded : FabTx → Bool
  | .linkState dev port _ => decide (dev < 32768 ∧ port < 16)
  | .presence dev _ => decide (dev < 32768)
  | _ => false

end Sys2Proof.Machine

namespace Sys2Proof

open Sys2Proof.Machine

/-- The operands are in range. -/
def Instr.wf (i : Instr) : Bool :=
  match i with
  | .registerWrite ctx off size val => decide (ctx < 4096) && decide (off < 2 ^ 64) && decide (size = 1 ∨ size = 2 ∨ size = 4 ∨ size = 8) && decide (val < 2 ^ 64)
  | .pathLowWordWrite _ off val => decide (off < 2 ^ 64) && decide (val < 2 ^ 64)
  | .pathHighWordWrite _ off val => decide (off < 2 ^ 64) && decide (val < 2 ^ 64)
  | .pathLowWordRead _ off => decide (off < 2 ^ 64)
  | .pathHighWordRead _ off => decide (off < 2 ^ 64)
  | .mcastLoad _ => true
  | .mcastLineRead _ => true
  | .mcastLineDeliver _ t => decide (t < 8)
  | .dieLoss slot => decide (slot < 23)
  | .heartbeatMiss slot => decide (slot < 23)
  | .dieRejoin slot _ _ _ _ => decide (slot < 23)
  | .dieResetReq ctx slot => decide (ctx < 4096) && decide (slot < 23)
  | .dieOfflineReq ctx slot => decide (ctx < 4096) && decide (slot < 23)
  | .dieOnlineReq ctx slot => decide (ctx < 4096) && decide (slot < 23)
  | .dieDrainDone slot => decide (slot < 23)
  | .clusterFailure t c _ => decide (t < 8) && decide (c < 84)
  | .geometryChangedHandling => true
  | .add a _ => a.wf
  | .sub a _ => a.wf
  | .and a _ => a.wf
  | .or a _ => a.wf
  | .xor a _ => a.wf
  | .andn a _ => a.wf
  | .sll a _ => a.wf
  | .srl a _ => a.wf
  | .sra a _ => a.wf
  | .ror a _ => a.wf
  | .slt a _ => a.wf
  | .sltu a _ => a.wf
  | .min a _ => a.wf
  | .max a _ => a.wf
  | .minu a _ => a.wf
  | .maxu a _ => a.wf
  | .addc a _ => a.wf
  | .subc a _ => a.wf
  | .clz a _ => a.wf
  | .ctz a _ => a.wf
  | .popc a _ => a.wf
  | .sel a _ => a.wf
  | .addW a _ => a.wf
  | .subW a _ => a.wf
  | .sllW a _ => a.wf
  | .srlW a _ => a.wf
  | .sraW a _ => a.wf
  | .addi a _ => a.wf
  | .andi a _ => a.wf
  | .ori a _ => a.wf
  | .xori a _ => a.wf
  | .slti a _ => a.wf
  | .sltiu a _ => a.wf
  | .shi a _ => a.wf
  | .lui a _ => a.wf
  | .auipc a _ => a.wf
  | .mul a _ => a.wf
  | .mulh a _ => a.wf
  | .mulhu a _ => a.wf
  | .mulhsu a _ => a.wf
  | .div a _ => a.wf
  | .divu a _ => a.wf
  | .rem a _ => a.wf
  | .remu a _ => a.wf
  | .mulW a _ => a.wf
  | .divW a _ => a.wf
  | .divuW a _ => a.wf
  | .remW a _ => a.wf
  | .remuW a _ => a.wf
  | .lb a _ => a.wf
  | .lh a _ => a.wf
  | .lw a _ => a.wf
  | .ld a _ => a.wf
  | .lbu a _ => a.wf
  | .lhu a _ => a.wf
  | .lwu a _ => a.wf
  | .sb a _ => a.wf
  | .sh a _ => a.wf
  | .sw a _ => a.wf
  | .sd a _ => a.wf
  | .llw a _ => a.wf
  | .slw a _ => a.wf
  | .llq a _ => a.wf
  | .slq a _ => a.wf
  | .beq a _ => a.wf
  | .bne a _ => a.wf
  | .blt a _ => a.wf
  | .bge a _ => a.wf
  | .bltu a _ => a.wf
  | .bgeu a _ => a.wf
  | .jal a _ => a.wf
  | .jalr a _ => a.wf
  | .bany a _ => a.wf
  | .bnone a _ => a.wf
  | .fadd a _ => a.wf
  | .fsub a _ => a.wf
  | .fmul a _ => a.wf
  | .fdiv a _ => a.wf
  | .fsqrt a _ => a.wf
  | .fmin a _ => a.wf
  | .fmax a _ => a.wf
  | .famax a _ => a.wf
  | .fsgnj a _ => a.wf
  | .fsgnjn a _ => a.wf
  | .fsgnjx a _ => a.wf
  | .feq a _ => a.wf
  | .flt a _ => a.wf
  | .fle a _ => a.wf
  | .fclass a _ => a.wf
  | .fmvXf a _ => a.wf
  | .fmvFx a _ => a.wf
  | .fmadd a _ => a.wf
  | .fmsub a _ => a.wf
  | .fnmadd a _ => a.wf
  | .fnmsub a _ => a.wf
  | .fcvtSW a _ => a.wf
  | .fcvtSWu a _ => a.wf
  | .fcvtWS a _ => a.wf
  | .fcvtWuS a _ => a.wf
  | .fcvtSD a _ => a.wf
  | .fcvtDS a _ => a.wf
  | .fcvtDL a _ => a.wf
  | .fcvtLD a _ => a.wf
  | .npack a _ _ => a.wf
  | .nunpk a _ => a.wf
  | .qscaleMx a _ => a.wf
  | .qscaleF16 a _ => a.wf
  | .qinv a _ => a.wf
  | .sync a _ => a.wf
  | .syncS a _ => a.wf
  | .syncL a _ => a.wf
  | .syncD a _ => a.wf
  | .ldl a _ => a.wf
  | .stc a _ => a.wf
  | .amoSwap a _ => a.wf
  | .amoAdd a _ => a.wf
  | .amoAnd a _ => a.wf
  | .amoOr a _ => a.wf
  | .amoXor a _ => a.wf
  | .amoMin a _ => a.wf
  | .amoMax a _ => a.wf
  | .amoMinu a _ => a.wf
  | .amoMaxu a _ => a.wf
  | .amoCas a _ => a.wf
  | .amoFadd a _ => a.wf
  | .cwb a _ => a.wf
  | .cflush a _ => a.wf
  | .cinv a _ => a.wf
  | .cpref a _ => a.wf
  | .stn a _ => a.wf
  | .ecall a _ => a.wf
  | .ebreak a _ => a.wf
  | .eret a _ => a.wf
  | .wfi a _ => a.wf
  | .csrrw a _ => a.wf
  | .csrrs a _ => a.wf
  | .csrrc a _ => a.wf
  | .tlbi a _ => a.wf
  | .halt a _ => a.wf
  | .evclaimRead a _ => a.wf
  | .timeloRead a _ => a.wf
  | .psetnz a _ => a.wf
  | .pand a _ => a.wf
  | .por a _ => a.wf
  | .pxor a _ => a.wf
  | .pnot a _ => a.wf
  | .pmov a _ => a.wf
  | .pload a _ => a.wf
  | .mpush a _ => a.wf
  | .melse a _ => a.wf
  | .mpop a _ => a.wf
  | .sbar a _ => a.wf
  | .sbarComplete r => r.wf
  | .lshfl a _ => a.wf
  | .pcmpEq a _ => a.wf
  | .pcmpNe a _ => a.wf
  | .pcmpLt a _ => a.wf
  | .pcmpGe a _ => a.wf
  | .pcmpLtu a _ => a.wf
  | .pcmpGeu a _ => a.wf
  | .pfcmpEq a _ => a.wf
  | .pfcmpLt a _ => a.wf
  | .pfcmpLe a _ => a.wf
  | .pfcmpUn a _ => a.wf
  | .wfill a _ => a.wf
  | .wfillStart r => r.wf
  | .wfillDone r => r.wf
  | .bcast a _ => a.wf
  | .brd a _ => a.wf
  | .mstep a _ => a.wf
  | .mpass a _ => a.wf
  | .passStart r => r.wf
  | .chunkInjection r _ _ => r.wf
  | .passComplete r => r.wf
  | .accrd a _ => a.wf
  | .accrdDrain r => r.wf
  | .accld a _ => a.wf
  | .tld a _ => a.wf
  | .rwait a _ => a.wf
  | .sfuExp2 a _ => a.wf
  | .sfuLog2 a _ => a.wf
  | .sfuRcp a _ => a.wf
  | .sfuRsq a _ => a.wf
  | .sfuTanh a _ => a.wf
  | .sfuSig a _ => a.wf
  | .rngKey a _ => a.wf
  | .rngNext a _ => a.wf
  | .rngU32 a _ => a.wf
  | .rngUf a _ => a.wf
  | .rngSkip a _ => a.wf
  | .rngSave a _ => a.wf
  | .rngLoad a _ => a.wf
  | .interruptTaken n => decide (n < 96)
  | .timerExpiry n _ => decide (n < 96)
  | .deferredError n => decide (n < 96)
  | .eventDelivery ev => decide (ev < 2048)
  | .evraise ctx ev => decide (ctx < 4096) && decide (ev < 2048)
  | .coreOffline ctx n => decide (ctx < 4096) && decide (n < 96)
  | .coreOnline ctx n => decide (ctx < 4096) && decide (n < 96)
  | .coreSelftestDone n _ => decide (n < 96)
  | .coreFailed n => decide (n < 96)
  | .nearmemGemv _ => true
  | .nearmemAttend _ => true
  | .glumeRead g ctx _ _ row => decide (g < 12) && decide (ctx < 4096) && row.wf
  | .glumeWrite g ctx _ size data => decide (g < 12) && decide (ctx < 4096) && decide (0 < size ∧ size ≤ 128) && decide (data.length = size)
  | .stackTempRead g _ => decide (g < 12)
  | .channelRecal g ch => decide (g < 12) && decide (ch < 16)
  | .scrubRead g _ _ row => decide (g < 12) && row.wf
  | .softRepair g row => decide (g < 12) && row.wf
  | .hardRepair g row => decide (g < 12) && row.wf
  | .repcmdSoft ctx g row => decide (ctx < 4096) && decide (g < 12) && row.wf
  | .repcmdHard ctx g row => decide (ctx < 4096) && decide (g < 12) && row.wf
  | .repcmdHardall ctx g => decide (ctx < 4096) && decide (g < 12)
  | .pageWalk cache ctx va _ _ => decide (cache < 128) && decide (ctx < 4096) && decide (va < 2 ^ 64)
  | .faultRecordWrite fid => decide (fid < 65536)
  | .faultQueueConsWrite ctx n val => decide (ctx < 4096) && decide (n < 16) && decide (val < 2 ^ 64)
  | .faultRetry ctx _ => decide (ctx < 4096)
  | .faultFail ctx _ => decide (ctx < 4096)
  | .faultTimeout fid => decide (fid < 65536)
  | .faultcfgWrite ctx val => decide (ctx < 4096) && decide (val < 2 ^ 64)
  | .ringEnable ctx ring val => decide (ctx < 4096) && decide (ring < 20) && decide (val < 2 ^ 64)
  | .ringDisable ctx ring val => decide (ctx < 4096) && decide (ring < 20) && decide (val < 2 ^ 64)
  | .fabricInboundAccess dev _ _ _ off len data => decide (dev < 32768) && decide (off < 2 ^ 64) && decide (1 ≤ len ∧ off % 128 + len ≤ 128) && decide (data.length = len)
  | .fadmitWrite ctx unit val => decide (ctx < 4096) && decide (unit < 1152) && decide (val < 2 ^ 64)
  | .fadmitReclaim ctx unit val => decide (ctx < 4096) && decide (unit < 1152) && decide (val < 2 ^ 64)
  | .fadmitRevoke ctx unit val => decide (ctx < 4096) && decide (unit < 1152) && decide (val < 2 ^ 64)
  | .reclaimNotice dev unit notice => decide (dev < 32768) && decide (unit < 1152) && decide (notice < 65536)
  | .lendRelease ctx val => decide (ctx < 4096) && decide (val < 2 ^ 64)
  | .lendReleaseReceived dev unit => decide (dev < 32768) && decide (unit < 1152)
  | .lendNoticeExpiry unit => decide (unit < 1152)
  | .invalidate _ => true
  | .invalidateComplete _ => true
  | .sccmdWball ctx k => decide (ctx < 4096) && decide (k < 10)
  | .sccmdFlushall ctx k => decide (ctx < 4096) && decide (k < 10)
  | .sccmdDone k => decide (k < 10)
  | .cacheInitDone k => decide (k < 10)
  | .cacheMiss k _ _ _ => decide (k < 106)
  | .cacheFillReturn k _ _ => decide (k < 106)
  | .seqdetTimeout k _ => decide (k < 106)
  | .ntbufIdleDrain n => decide (n < 96)
  | .fabricStoreTimeout _ => true
  | .fabricLoadTimeout _ => true
  | .submissionDoorbell ctx page idx val => decide (ctx < 4096) && decide (page < 4096) && decide (idx < 256) && decide (val < 2 ^ 64)
  | .cqConsumerDoorbell ctx page idx val => decide (ctx < 4096) && decide (page < 4096) && decide (idx < 256) && decide (val < 2 ^ 64)
  | .slotFetch q => decide (q < 2 ^ 20)
  | .slotRefetch q => decide (q < 2 ^ 20)
  | .commandDispatch q => decide (q < 2 ^ 20)
  | .nop q => decide (q < 2 ^ 20)
  | .fenceWait q => decide (q < 2 ^ 20)
  | .fenceReevaluate q => decide (q < 2 ^ 20)
  | .fencePoll q => decide (q < 2 ^ 20)
  | .fenceSweep => true
  | .fenceWatchdogTick => true
  | .fenceSignal q => decide (q < 2 ^ 20)
  | .fenceSignalPerform q => decide (q < 2 ^ 20)
  | .cond q => decide (q < 2 ^ 20)
  | .loop q => decide (q < 2 ^ 20)
  | .jump q => decide (q < 2 ^ 20)
  | .call q => decide (q < 2 ^ 20)
  | .retCmd q => decide (q < 2 ^ 20)
  | .paramSet q => decide (q < 2 ^ 20)
  | .paramLoad q => decide (q < 2 ^ 20)
  | .paramAdd q => decide (q < 2 ^ 20)
  | .patch q => decide (q < 2 ^ 20)
  | .createQueue _ => true
  | .destroyQueue _ => true
  | .destroyQueueTimeout _ => true
  | .engineAbort _ => true
  | .queueHalt _ => true
  | .queueResume _ => true
  | .queueResumeRetry _ => true
  | .queueSetprio _ => true
  | .createCq _ => true
  | .destroyCq _ => true
  | .kernel _ => true
  | .kernelComplete _ => true
  | .completionEntryWrite _ => true
  | .flushingRead _ p => decide (p < 6)
  | .qinfoRead ctx => decide (ctx < 4096)
  | .cqinfoRead ctx => decide (ctx < 4096)
  | .createContext _ => true
  | .destroyContext _ => true
  | .destroyContextTimeout _ => true
  | .contextSuspend _ => true
  | .contextResume _ => true
  | .suspendTimeout _ => true
  | .groupGrant => true
  | .sliceEnd => true
  | .idleRelease ctx => decide (ctx < 4096)
  | .clusterYielded t c => decide (t < 8) && decide (c < 84)
  | .yieldwaitExpiry ctx => decide (ctx < 4096)
  | .saveComplete ctx => decide (ctx < 4096)
  | .sessionOpen _ => true
  | .sessionModify _ => true
  | .sessionClose _ => true
  | .pktSend _ => true
  | .dtmfSend _ => true
  | .frameBoundary sid => decide (sid < 131072)
  | .outprodRead sid => decide (sid < 131072)
  | .progressBlockWrite sid => decide (sid < 131072)
  | .mediaFrameReceive p _ _ _ _ => decide (p < 2)
  | .sample _ => true
  | .sampleVector _ => true
  | .hwaAccess p _ off size val => decide (p < 6) && decide (off < 2 ^ 64) && decide (size = 1 ∨ size = 2 ∨ size = 4 ∨ size = 8) && decide (val < 2 ^ 64)
  | .hwbDoorbellWrite p off size val => decide (p < 6) && decide (off < 2 ^ 64) && decide (size = 1 ∨ size = 2 ∨ size = 4 ∨ size = 8) && decide (val < 2 ^ 64)
  | .apertureAccess p _ off len data => decide (p < 6) && decide (off < 2 ^ 64) && decide (1 ≤ len ∧ len ≤ 4096) && decide (data.length = len)
  | .configRequest p _ => decide (p < 6)
  | .rootInboundRequest p _ addr len data => decide (p < 6) && decide (addr < 2 ^ 64) && decide (1 ≤ len ∧ len ≤ 4096) && decide (data.length = len)
  | .linkLossStart p => decide (p < 6)
  | .linkLossGraceExpiry p => decide (p < 6)
  | .functionLevelReset p => decide (p < 6)
  | .hostLinkUp p _ _ => decide (p < 6)
  | .portRearm ctx p => decide (ctx < 4096) && decide (p < 6)
  | .copy _ => true
  | .copyDescriptor _ => true
  | .rangeWb _ => true
  | .allreduce _ => true
  | .allgather _ => true
  | .reduceScatter _ => true
  | .collectiveChunkReceive _ _ _ _ _ => true
  | .collectiveFieldsExchange _ _ _ => true
  | .collTimeout _ => true
  | .fabricResponseReceive _ _ _ => true
  | .fabricResendTimer _ => true
  | .broadcastStoreReceive dev _ _ off data _ => decide (dev < 32768) && decide (off < 2 ^ 64) && decide (off % 128 + data.length ≤ 128)
  | .linkFailure p => decide (p < 16)
  | .helloMissTimeout p => decide (p < 16)
  | .laneFailure p lane => decide (p < 16) && decide (lane < 8)
  | .linkStateReceive m => m.flooded
  | .helloTimer => true
  | .helloReceive p _ => decide (p < 16)
  | .portDownDeclare p => decide (p < 16)
  | .electionSettle => true
  | .assignReceive p coord => decide (p < 16) && decide (coord < 32768)
  | .readyReportReceive dev => decide (dev < 32768)
  | .fabricReadyReceive => true
  | .moduleRemoval p => decide (p < 16)
  | .moduleInsertion p _ _ _ => decide (p < 16)
  | .linkTrained p _ => decide (p < 16)
  | .portRetrain ctx p => decide (ctx < 4096) && decide (p < 16)
  | .routeqWrite ctx val => decide (ctx < 4096) && decide (val < 2 ^ 64)
  | .pmUpdate est => decide (est.length = 23)
  | .pmCalibration est meas _ _ _ => decide (est.length = 23) && decide (meas.length = 23)
  | .sensorScan temps => decide (temps.length = 184)
  | .droopTrip t c => decide (t < 8) && decide (c < 84)
  | .droopRecoveryStep t c => decide (t < 8) && decide (c < 84)
  | .pwrlimAssert => true
  | .pwrlimRelease => true
  | .bmcCapWrite val => decide (val < 2 ^ 64)
  | .inputSoftStart => true
  | .inputGood _ => true
  | .inputDip => true
  | .powerLoss => true
  | .pkgclkLoss => true
  | .warmReset cause p _ _ => decide (1 ≤ cause ∧ cause ≤ 4) && decide (p < 6)
  | .warmrstAssert => true
  | .warmrstRelease => true
  | .bootStep _ _ _ _ => true
  | .spStage ctx cls => decide (ctx < 4096) && decide (cls < 7)
  | .spActivate ctx cls => decide (ctx < 4096) && decide (cls < 7)
  | .imageReadyReport cls => decide (cls < 7)
  | .activateTimeout cls => decide (cls < 7)
  | .spCommit ctx cls => decide (ctx < 4096) && decide (cls < 7)
  | .spAttest ctx => decide (ctx < 4096)
  | .spGetcert ctx => decide (ctx < 4096)
  | .spCalwrite ctx => decide (ctx < 4096)
  | .spCalapply ctx => decide (ctx < 4096)
  | .errorRecordWrite => true
  | .selftestCluster ctx t grp _ => decide (ctx < 4096) && decide (t < 8) && decide (grp < 16)
  | .selftestHbmcal ctx => decide (ctx < 4096)
  | .selftestDielink ctx slot _ => decide (ctx < 4096) && decide (slot < 23)
  | .selftestMemtest ctx _ => decide (ctx < 4096)
  | .selftestArraytest ctx _ => decide (ctx < 4096)
  | .selftestSweep ctx _ => decide (ctx < 4096)
  | .selftestDone _ _ => true
  | .sweepTimer => true
  | .cpHeartbeatMiss => true
  | .svcWreg off val => decide (off < 2 ^ 64) && decide (val < 2 ^ 64)
  | .svcRreg off => decide (off < 2 ^ 64)
  | .svcWdata data => decide (1 ≤ data.length ∧ data.length ≤ 4096)
  | .svcRdata len => decide (1 ≤ len ∧ len ≤ 4096)
  | .svcFrameTimeout => true
  | .mbPrivateWrite off _ => decide (off < 2 ^ 64)
  | .mbPrivateRead => true
  | .mbAddressAssign addr => decide (addr < 128)
  | .jtagBypass => true
  | .jtagIdcode => true
  | .jtagSamplePreload => true
  | .jtagExtest => true
  | .jtagExtestPulse => true
  | .jtagExtestTrain => true
  | .jtagClamp => true
  | .jtagHighz => true
  | .cpFirmwareRestartDone => true
  | .coreOfflineDone n => decide (n < 96)
  | .mediaLinkChange p _ => decide (p < 2)
  | .moduleReady p => decide (p < 16)
  | .fabricLaneRetrained p lane => decide (p < 16) && decide (lane < 8)
  | .flitCrcFailure p => decide (p < 16)
  | .fabricTransitPacket _ detours _ => decide (detours < 5)
  | .inputCurrentLimit _ => true
  | .hbmRepairComplete g _ => decide (g < 12)
  | .functionResetDone p => decide (p < 6)
  | .fePortEnWrite ctx p _ => decide (ctx < 4096) && decide (p < 16)
  | .mediaFrameTransmitted p => decide (p < 2)
  | .moduleWearUpdate p _ _ => decide (p < 16)

end Sys2Proof
end

