-- ==== Sys2Proof/Decode.lean ====
section
/-! DEFINITION. The words of Ghety instructions (R78, R85 to R87): decoding, total on every word and refusing
reserved opcode and function values, and the encoder, which CLS_LEXINST needs (R107). The part fetches no
instruction in this model; `decodeTableWord` answers none because the table of operations gives no bits. -/

namespace Sys2Proof

open Sys2Proof.Machine

/-- A word from bits [31:16], RA, RD and OP (R85). -/
def wordOf (hi ra rd op : Nat) : BitVec 32 := BitVec.ofNat 32 (op + 64 * rd + 2048 * ra + 65536 * hi)

/-- Bits [31:16] of formats R and M: FN, FN2 or FLAGS, RB. -/
def hiR (fn fn2 rb : Nat) : Nat := rb + 32 * fn2 + 1024 * fn

/-- Bits [31:16] of format R4. -/
def hiR4 (fnhi sel rc rb : Nat) : Nat := rb + 32 * rc + 1024 * sel + 4096 * fnhi

/-- OP. -/
def fOp (n : Nat) : Nat := n % 64
/-- RD. -/
def fRd (n : Nat) : Nat := n / 64 % 32
/-- RA. -/
def fRa (n : Nat) : Nat := n / 2048 % 32
/-- RB. -/
def fRb (n : Nat) : Nat := n / 65536 % 32
/-- FN2, FLAGS or RC. -/
def fFn2 (n : Nat) : Nat := n / 2097152 % 32
/-- FN. -/
def fFn (n : Nat) : Nat := n / 67108864 % 64

/-- Format R. -/
def rfOf (n : Nat) : RF := ⟨BitVec.ofNat 5 (fFn2 n), BitVec.ofNat 5 (fRb n), BitVec.ofNat 5 (fRa n), BitVec.ofNat 5 (fRd n)⟩
/-- Format I. -/
def ifOf (n : Nat) : IF := ⟨BitVec.ofNat 16 (n / 65536), BitVec.ofNat 5 (fRa n), BitVec.ofNat 5 (fRd n)⟩
/-- Format U. -/
def ufOf (n : Nat) : UF := ⟨BitVec.ofNat 21 (n / 2048), BitVec.ofNat 5 (fRd n)⟩
/-- Format B. -/
def bfOf (n : Nat) : BF := ⟨BitVec.ofNat 16 (n / 65536), BitVec.ofNat 5 (fRa n), BitVec.ofNat 5 (fRd n)⟩
/-- Format J. -/
def jfOf (n : Nat) : JF := ⟨BitVec.ofNat 26 (n / 64)⟩
/-- Format M. -/
def mfOf (n : Nat) : MF := ⟨BitVec.ofNat 5 (fFn2 n), BitVec.ofNat 5 (fRb n), BitVec.ofNat 5 (fRa n), BitVec.ofNat 5 (fRd n)⟩
/-- Format R4. -/
def r4Of (n : Nat) : R4F := ⟨BitVec.ofNat 4 (n / 268435456), BitVec.ofNat 5 (fFn2 n), BitVec.ofNat 5 (fRb n), BitVec.ofNat 5 (fRa n), BitVec.ofNat 5 (fRd n)⟩
/-- The SYSTEM group. -/
def sysOf (n : Nat) : SysF := ⟨BitVec.ofNat 12 (n / 65536), BitVec.ofNat 5 (fRa n), BitVec.ofNat 5 (fRd n)⟩
/-- The CACHE group. -/
def cacheOf (n : Nat) : CacheF := ⟨BitVec.ofNat 16 (n / 65536), BitVec.ofNat 5 (fRa n)⟩

/-- R87: OP 0x01. -/
def decAlu (a : Agent) (n : Nat) : Option Instr :=
  match fFn n with
  | 0x00 => some (.add a (rfOf n))
  | 0x01 => some (.sub a (rfOf n))
  | 0x02 => some (.and a (rfOf n))
  | 0x03 => some (.or a (rfOf n))
  | 0x04 => some (.xor a (rfOf n))
  | 0x05 => some (.andn a (rfOf n))
  | 0x06 => some (.sll a (rfOf n))
  | 0x07 => some (.srl a (rfOf n))
  | 0x08 => some (.sra a (rfOf n))
  | 0x09 => some (.ror a (rfOf n))
  | 0x0A => some (.slt a (rfOf n))
  | 0x0B => some (.sltu a (rfOf n))
  | 0x0C => some (.min a (rfOf n))
  | 0x0D => some (.max a (rfOf n))
  | 0x0E => some (.minu a (rfOf n))
  | 0x0F => some (.maxu a (rfOf n))
  | 0x10 => some (.addc a (rfOf n))
  | 0x11 => some (.subc a (rfOf n))
  | 0x12 => some (.clz a (rfOf n))
  | 0x13 => some (.ctz a (rfOf n))
  | 0x14 => some (.popc a (rfOf n))
  | 0x15 => some (.sel a (rfOf n))
  | 0x16 => some (.addW a (rfOf n))
  | 0x17 => some (.subW a (rfOf n))
  | 0x18 => some (.sllW a (rfOf n))
  | 0x19 => some (.srlW a (rfOf n))
  | 0x1A => some (.sraW a (rfOf n))
  | _ => none

/-- R87: OP 0x0B. -/
def decMulDiv (a : Agent) (n : Nat) : Option Instr :=
  match fFn n with
  | 0x00 => some (.mul a (rfOf n))
  | 0x01 => some (.mulh a (rfOf n))
  | 0x02 => some (.mulhu a (rfOf n))
  | 0x03 => some (.mulhsu a (rfOf n))
  | 0x04 => some (.div a (rfOf n))
  | 0x05 => some (.divu a (rfOf n))
  | 0x06 => some (.rem a (rfOf n))
  | 0x07 => some (.remu a (rfOf n))
  | 0x08 => some (.mulW a (rfOf n))
  | 0x09 => some (.divW a (rfOf n))
  | 0x0A => some (.divuW a (rfOf n))
  | 0x0B => some (.remW a (rfOf n))
  | 0x0C => some (.remuW a (rfOf n))
  | _ => none

/-- R87: OP 0x28. -/
def decFp (a : Agent) (n : Nat) : Option Instr :=
  match fFn n with
  | 0x00 => some (.fadd a (rfOf n))
  | 0x01 => some (.fsub a (rfOf n))
  | 0x02 => some (.fmul a (rfOf n))
  | 0x03 => some (.fdiv a (rfOf n))
  | 0x04 => some (.fsqrt a (rfOf n))
  | 0x05 => some (.fmin a (rfOf n))
  | 0x06 => some (.fmax a (rfOf n))
  | 0x07 => some (.famax a (rfOf n))
  | 0x08 => some (.fsgnj a (rfOf n))
  | 0x09 => some (.fsgnjn a (rfOf n))
  | 0x0A => some (.fsgnjx a (rfOf n))
  | 0x0B => some (.feq a (rfOf n))
  | 0x0C => some (.flt a (rfOf n))
  | 0x0D => some (.fle a (rfOf n))
  | 0x0E => some (.fclass a (rfOf n))
  | 0x0F => some (.fmvXf a (rfOf n))
  | 0x10 => some (.fmvFx a (rfOf n))
  | _ => none

/-- R87: OP 0x29. -/
def decFma (a : Agent) (n : Nat) : Option Instr :=
  match n / 67108864 % 4 with
  | 0x00 => some (.fmadd a (r4Of n))
  | 0x01 => some (.fmsub a (r4Of n))
  | 0x02 => some (.fnmadd a (r4Of n))
  | 0x03 => some (.fnmsub a (r4Of n))
  | _ => none

/-- R87: OP 0x2A. -/
def decFcvt (a : Agent) (n : Nat) : Option Instr :=
  match fFn n with
  | 0x00 => some (.fcvtSW a (rfOf n))
  | 0x01 => some (.fcvtSWu a (rfOf n))
  | 0x02 => some (.fcvtWS a (rfOf n))
  | 0x03 => some (.fcvtWuS a (rfOf n))
  | 0x04 => some (.fcvtSD a (rfOf n))
  | 0x05 => some (.fcvtDS a (rfOf n))
  | 0x06 => some (.fcvtDL a (rfOf n))
  | 0x07 => some (.fcvtLD a (rfOf n))
  | 0x10 => some (.npack a 0 (rfOf n))
  | 0x11 => some (.npack a 1 (rfOf n))
  | 0x12 => some (.npack a 2 (rfOf n))
  | 0x13 => some (.npack a 3 (rfOf n))
  | 0x18 => some (.nunpk a (rfOf n))
  | 0x1C => some (.qscaleMx a (rfOf n))
  | 0x1D => some (.qscaleF16 a (rfOf n))
  | 0x1E => some (.qinv a (rfOf n))
  | _ => none

/-- R87: OP 0x2C. -/
def decSync (a : Agent) (n : Nat) : Option Instr :=
  match fFn n with
  | 0x00 => some (.sync a (rfOf n))
  | 0x01 => some (.syncS a (rfOf n))
  | 0x02 => some (.syncL a (rfOf n))
  | 0x03 => some (.syncD a (rfOf n))
  | _ => none

/-- R87: OP 0x2D. -/
def decAtomic (a : Agent) (n : Nat) : Option Instr :=
  match fFn n with
  | 0x00 => some (.ldl a (rfOf n))
  | 0x01 => some (.stc a (rfOf n))
  | 0x02 => some (.amoSwap a (rfOf n))
  | 0x03 => some (.amoAdd a (rfOf n))
  | 0x04 => some (.amoAnd a (rfOf n))
  | 0x05 => some (.amoOr a (rfOf n))
  | 0x06 => some (.amoXor a (rfOf n))
  | 0x07 => some (.amoMin a (rfOf n))
  | 0x08 => some (.amoMax a (rfOf n))
  | 0x09 => some (.amoMinu a (rfOf n))
  | 0x0A => some (.amoMaxu a (rfOf n))
  | 0x0B => some (.amoCas a (rfOf n))
  | 0x0C => some (.amoFadd a (rfOf n))
  | _ => none

/-- R87: OP 0x2E. -/
def decCache (a : Agent) (n : Nat) : Option Instr :=
  match fRd n with
  | 0x00 => some (.cwb a (cacheOf n))
  | 0x01 => some (.cflush a (cacheOf n))
  | 0x02 => some (.cinv a (cacheOf n))
  | 0x03 => some (.cpref a (cacheOf n))
  | _ => none

/-- R87: OP 0x30. -/
def decSystem (a : Agent) (n : Nat) : Option Instr :=
  match n / 268435456 with
  | 0x00 => some (.ecall a (sysOf n))
  | 0x01 => some (.ebreak a (sysOf n))
  | 0x02 => some (.eret a (sysOf n))
  | 0x03 => some (.wfi a (sysOf n))
  | 0x04 => some (.csrrw a (sysOf n))
  | 0x05 => some (.csrrs a (sysOf n))
  | 0x06 => some (.csrrc a (sysOf n))
  | 0x07 => some (.tlbi a (sysOf n))
  | 0x08 => some (.halt a (sysOf n))
  | _ => none

/-- R87: OP 0x31. -/
def decLaneCtl (a : Agent) (n : Nat) : Option Instr :=
  match fFn n with
  | 0x00 => some (.psetnz a (rfOf n))
  | 0x01 => some (.pand a (rfOf n))
  | 0x02 => some (.por a (rfOf n))
  | 0x03 => some (.pxor a (rfOf n))
  | 0x04 => some (.pnot a (rfOf n))
  | 0x05 => some (.pmov a (rfOf n))
  | 0x06 => some (.pload a (rfOf n))
  | 0x08 => some (.mpush a (rfOf n))
  | 0x09 => some (.melse a (rfOf n))
  | 0x0A => some (.mpop a (rfOf n))
  | 0x0C => some (.sbar a (rfOf n))
  | 0x0D => some (.lshfl a (rfOf n))
  | 0x10 => some (.pcmpEq a (rfOf n))
  | 0x11 => some (.pcmpNe a (rfOf n))
  | 0x12 => some (.pcmpLt a (rfOf n))
  | 0x13 => some (.pcmpGe a (rfOf n))
  | 0x14 => some (.pcmpLtu a (rfOf n))
  | 0x15 => some (.pcmpGeu a (rfOf n))
  | 0x18 => some (.pfcmpEq a (rfOf n))
  | 0x19 => some (.pfcmpLt a (rfOf n))
  | 0x1A => some (.pfcmpLe a (rfOf n))
  | 0x1B => some (.pfcmpUn a (rfOf n))
  | _ => none

/-- R87: OP 0x34. -/
def decRowGroup (a : Agent) (n : Nat) : Option Instr :=
  match fFn n with
  | 0x00 => some (.wfill a (mfOf n))
  | 0x01 => some (.bcast a (mfOf n))
  | 0x02 => some (.mstep a (mfOf n))
  | 0x03 => some (.mpass a (mfOf n))
  | 0x04 => some (.accrd a (mfOf n))
  | 0x05 => some (.accld a (mfOf n))
  | 0x06 => some (.tld a (mfOf n))
  | 0x07 => some (.brd a (mfOf n))
  | 0x08 => some (.rwait a (mfOf n))
  | _ => none

/-- R87: OP 0x35. -/
def decSfu (a : Agent) (n : Nat) : Option Instr :=
  match fFn n with
  | 0x00 => some (.sfuExp2 a (rfOf n))
  | 0x01 => some (.sfuLog2 a (rfOf n))
  | 0x02 => some (.sfuRcp a (rfOf n))
  | 0x03 => some (.sfuRsq a (rfOf n))
  | 0x04 => some (.sfuTanh a (rfOf n))
  | 0x05 => some (.sfuSig a (rfOf n))
  | _ => none

/-- R87: OP 0x36. -/
def decRng (a : Agent) (n : Nat) : Option Instr :=
  match fFn n with
  | 0x00 => some (.rngKey a (rfOf n))
  | 0x01 => some (.rngNext a (rfOf n))
  | 0x02 => some (.rngU32 a (rfOf n))
  | 0x03 => some (.rngUf a (rfOf n))
  | 0x04 => some (.rngSkip a (rfOf n))
  | 0x05 => some (.rngSave a (rfOf n))
  | 0x06 => some (.rngLoad a (rfOf n))
  | _ => none

/-- R86: the major opcodes. -/
def decodeGhety (a : Agent) (w : BitVec 32) : Option Instr :=
  let n := w.toNat
  match fOp n with
  | 0x01 => decAlu a n
  | 0x02 => some (.addi a (ifOf n))
  | 0x03 => some (.andi a (ifOf n))
  | 0x04 => some (.ori a (ifOf n))
  | 0x05 => some (.xori a (ifOf n))
  | 0x06 => some (.slti a (ifOf n))
  | 0x07 => some (.sltiu a (ifOf n))
  | 0x08 => some (.shi a (ifOf n))
  | 0x09 => some (.lui a (ufOf n))
  | 0x0A => some (.auipc a (ufOf n))
  | 0x0B => decMulDiv a n
  | 0x10 => some (.lb a (ifOf n))
  | 0x11 => some (.lh a (ifOf n))
  | 0x12 => some (.lw a (ifOf n))
  | 0x13 => some (.ld a (ifOf n))
  | 0x14 => some (.lbu a (ifOf n))
  | 0x15 => some (.lhu a (ifOf n))
  | 0x16 => some (.lwu a (ifOf n))
  | 0x18 => some (.sb a (ifOf n))
  | 0x19 => some (.sh a (ifOf n))
  | 0x1A => some (.sw a (ifOf n))
  | 0x1B => some (.sd a (ifOf n))
  | 0x1C => some (.llw a (ifOf n))
  | 0x1D => some (.slw a (ifOf n))
  | 0x1E => some (.llq a (ifOf n))
  | 0x1F => some (.slq a (ifOf n))
  | 0x20 => some (.beq a (bfOf n))
  | 0x21 => some (.bne a (bfOf n))
  | 0x22 => some (.blt a (bfOf n))
  | 0x23 => some (.bge a (bfOf n))
  | 0x24 => some (.bltu a (bfOf n))
  | 0x25 => some (.bgeu a (bfOf n))
  | 0x26 => some (.jal a (jfOf n))
  | 0x27 => some (.jalr a (ifOf n))
  | 0x28 => decFp a n
  | 0x29 => decFma a n
  | 0x2A => decFcvt a n
  | 0x2C => decSync a n
  | 0x2D => decAtomic a n
  | 0x2E => decCache a n
  | 0x2F => some (.stn a (ifOf n))
  | 0x30 => decSystem a n
  | 0x31 => decLaneCtl a n
  | 0x32 => some (.bany a (bfOf n))
  | 0x33 => some (.bnone a (bfOf n))
  | 0x34 => decRowGroup a n
  | 0x35 => decSfu a n
  | 0x36 => decRng a n
  | _ => none

/-- The word of a format R instruction. -/
def encR (op fn : Nat) (f : RF) : BitVec 32 := wordOf (hiR fn f.fn2.toNat f.rb.toNat) f.ra.toNat f.rd.toNat op
/-- The word of a format I instruction. -/
def encI (op : Nat) (f : IF) : BitVec 32 := wordOf f.imm.toNat f.ra.toNat f.rd.toNat op
/-- The word of a format U instruction. -/
def encU (op : Nat) (f : UF) : BitVec 32 := BitVec.ofNat 32 (op + 64 * f.rd.toNat + 2048 * f.imm.toNat)
/-- The word of a format B instruction. -/
def encB (op : Nat) (f : BF) : BitVec 32 := wordOf f.off.toNat f.ra.toNat f.rb.toNat op
/-- The word of a format J instruction. -/
def encJ (op : Nat) (f : JF) : BitVec 32 := BitVec.ofNat 32 (op + 64 * f.off.toNat)
/-- The word of a format M instruction. -/
def encM (op fn : Nat) (f : MF) : BitVec 32 := wordOf (hiR fn f.flags.toNat f.rb.toNat) f.ra.toNat f.rd.toNat op
/-- The word of an FMA instruction. -/
def encR4 (op sel : Nat) (f : R4F) : BitVec 32 := wordOf (hiR4 f.fnhi.toNat sel f.rc.toNat f.rb.toNat) f.ra.toNat f.rd.toNat op
/-- The word of a SYSTEM instruction. -/
def encS (op fn : Nat) (f : SysF) : BitVec 32 := wordOf (4096 * fn + f.csr.toNat) f.ra.toNat f.rd.toNat op
/-- The word of a CACHE instruction. -/
def encC (op fn : Nat) (f : CacheF) : BitVec 32 := wordOf f.imm.toNat f.ra.toNat fn op

/-- The word that spells an instruction for its agent; none for commands that are not instructions, and for the
two rows that are reads of one system register and have CSRRS's words. -/
def encode (i : Instr) : Option (Agent × BitVec 32) :=
  match i with
  | .add a f => some (a, encR 0x01 0x00 f)
  | .sub a f => some (a, encR 0x01 0x01 f)
  | .and a f => some (a, encR 0x01 0x02 f)
  | .or a f => some (a, encR 0x01 0x03 f)
  | .xor a f => some (a, encR 0x01 0x04 f)
  | .andn a f => some (a, encR 0x01 0x05 f)
  | .sll a f => some (a, encR 0x01 0x06 f)
  | .srl a f => some (a, encR 0x01 0x07 f)
  | .sra a f => some (a, encR 0x01 0x08 f)
  | .ror a f => some (a, encR 0x01 0x09 f)
  | .slt a f => some (a, encR 0x01 0x0A f)
  | .sltu a f => some (a, encR 0x01 0x0B f)
  | .min a f => some (a, encR 0x01 0x0C f)
  | .max a f => some (a, encR 0x01 0x0D f)
  | .minu a f => some (a, encR 0x01 0x0E f)
  | .maxu a f => some (a, encR 0x01 0x0F f)
  | .addc a f => some (a, encR 0x01 0x10 f)
  | .subc a f => some (a, encR 0x01 0x11 f)
  | .clz a f => some (a, encR 0x01 0x12 f)
  | .ctz a f => some (a, encR 0x01 0x13 f)
  | .popc a f => some (a, encR 0x01 0x14 f)
  | .sel a f => some (a, encR 0x01 0x15 f)
  | .addW a f => some (a, encR 0x01 0x16 f)
  | .subW a f => some (a, encR 0x01 0x17 f)
  | .sllW a f => some (a, encR 0x01 0x18 f)
  | .srlW a f => some (a, encR 0x01 0x19 f)
  | .sraW a f => some (a, encR 0x01 0x1A f)
  | .addi a f => some (a, encI 0x02 f)
  | .andi a f => some (a, encI 0x03 f)
  | .ori a f => some (a, encI 0x04 f)
  | .xori a f => some (a, encI 0x05 f)
  | .slti a f => some (a, encI 0x06 f)
  | .sltiu a f => some (a, encI 0x07 f)
  | .shi a f => some (a, encI 0x08 f)
  | .lui a f => some (a, encU 0x09 f)
  | .auipc a f => some (a, encU 0x0A f)
  | .mul a f => some (a, encR 0x0B 0x00 f)
  | .mulh a f => some (a, encR 0x0B 0x01 f)
  | .mulhu a f => some (a, encR 0x0B 0x02 f)
  | .mulhsu a f => some (a, encR 0x0B 0x03 f)
  | .div a f => some (a, encR 0x0B 0x04 f)
  | .divu a f => some (a, encR 0x0B 0x05 f)
  | .rem a f => some (a, encR 0x0B 0x06 f)
  | .remu a f => some (a, encR 0x0B 0x07 f)
  | .mulW a f => some (a, encR 0x0B 0x08 f)
  | .divW a f => some (a, encR 0x0B 0x09 f)
  | .divuW a f => some (a, encR 0x0B 0x0A f)
  | .remW a f => some (a, encR 0x0B 0x0B f)
  | .remuW a f => some (a, encR 0x0B 0x0C f)
  | .lb a f => some (a, encI 0x10 f)
  | .lh a f => some (a, encI 0x11 f)
  | .lw a f => some (a, encI 0x12 f)
  | .ld a f => some (a, encI 0x13 f)
  | .lbu a f => some (a, encI 0x14 f)
  | .lhu a f => some (a, encI 0x15 f)
  | .lwu a f => some (a, encI 0x16 f)
  | .sb a f => some (a, encI 0x18 f)
  | .sh a f => some (a, encI 0x19 f)
  | .sw a f => some (a, encI 0x1A f)
  | .sd a f => some (a, encI 0x1B f)
  | .llw a f => some (a, encI 0x1C f)
  | .slw a f => some (a, encI 0x1D f)
  | .llq a f => some (a, encI 0x1E f)
  | .slq a f => some (a, encI 0x1F f)
  | .beq a f => some (a, encB 0x20 f)
  | .bne a f => some (a, encB 0x21 f)
  | .blt a f => some (a, encB 0x22 f)
  | .bge a f => some (a, encB 0x23 f)
  | .bltu a f => some (a, encB 0x24 f)
  | .bgeu a f => some (a, encB 0x25 f)
  | .jal a f => some (a, encJ 0x26 f)
  | .jalr a f => some (a, encI 0x27 f)
  | .bany a f => some (a, encB 0x32 f)
  | .bnone a f => some (a, encB 0x33 f)
  | .fadd a f => some (a, encR 0x28 0x00 f)
  | .fsub a f => some (a, encR 0x28 0x01 f)
  | .fmul a f => some (a, encR 0x28 0x02 f)
  | .fdiv a f => some (a, encR 0x28 0x03 f)
  | .fsqrt a f => some (a, encR 0x28 0x04 f)
  | .fmin a f => some (a, encR 0x28 0x05 f)
  | .fmax a f => some (a, encR 0x28 0x06 f)
  | .famax a f => some (a, encR 0x28 0x07 f)
  | .fsgnj a f => some (a, encR 0x28 0x08 f)
  | .fsgnjn a f => some (a, encR 0x28 0x09 f)
  | .fsgnjx a f => some (a, encR 0x28 0x0A f)
  | .feq a f => some (a, encR 0x28 0x0B f)
  | .flt a f => some (a, encR 0x28 0x0C f)
  | .fle a f => some (a, encR 0x28 0x0D f)
  | .fclass a f => some (a, encR 0x28 0x0E f)
  | .fmvXf a f => some (a, encR 0x28 0x0F f)
  | .fmvFx a f => some (a, encR 0x28 0x10 f)
  | .fmadd a f => some (a, encR4 0x29 0x00 f)
  | .fmsub a f => some (a, encR4 0x29 0x01 f)
  | .fnmadd a f => some (a, encR4 0x29 0x02 f)
  | .fnmsub a f => some (a, encR4 0x29 0x03 f)
  | .fcvtSW a f => some (a, encR 0x2A 0x00 f)
  | .fcvtSWu a f => some (a, encR 0x2A 0x01 f)
  | .fcvtWS a f => some (a, encR 0x2A 0x02 f)
  | .fcvtWuS a f => some (a, encR 0x2A 0x03 f)
  | .fcvtSD a f => some (a, encR 0x2A 0x04 f)
  | .fcvtDS a f => some (a, encR 0x2A 0x05 f)
  | .fcvtDL a f => some (a, encR 0x2A 0x06 f)
  | .fcvtLD a f => some (a, encR 0x2A 0x07 f)
  | .npack a pos f => some (a, encR 0x2A (0x10 + pos.toNat) f)
  | .nunpk a f => some (a, encR 0x2A 0x18 f)
  | .qscaleMx a f => some (a, encR 0x2A 0x1C f)
  | .qscaleF16 a f => some (a, encR 0x2A 0x1D f)
  | .qinv a f => some (a, encR 0x2A 0x1E f)
  | .sync a f => some (a, encR 0x2C 0x00 f)
  | .syncS a f => some (a, encR 0x2C 0x01 f)
  | .syncL a f => some (a, encR 0x2C 0x02 f)
  | .syncD a f => some (a, encR 0x2C 0x03 f)
  | .ldl a f => some (a, encR 0x2D 0x00 f)
  | .stc a f => some (a, encR 0x2D 0x01 f)
  | .amoSwap a f => some (a, encR 0x2D 0x02 f)
  | .amoAdd a f => some (a, encR 0x2D 0x03 f)
  | .amoAnd a f => some (a, encR 0x2D 0x04 f)
  | .amoOr a f => some (a, encR 0x2D 0x05 f)
  | .amoXor a f => some (a, encR 0x2D 0x06 f)
  | .amoMin a f => some (a, encR 0x2D 0x07 f)
  | .amoMax a f => some (a, encR 0x2D 0x08 f)
  | .amoMinu a f => some (a, encR 0x2D 0x09 f)
  | .amoMaxu a f => some (a, encR 0x2D 0x0A f)
  | .amoCas a f => some (a, encR 0x2D 0x0B f)
  | .amoFadd a f => some (a, encR 0x2D 0x0C f)
  | .cwb a f => some (a, encC 0x2E 0x00 f)
  | .cflush a f => some (a, encC 0x2E 0x01 f)
  | .cinv a f => some (a, encC 0x2E 0x02 f)
  | .cpref a f => some (a, encC 0x2E 0x03 f)
  | .stn a f => some (a, encI 0x2F f)
  | .ecall a f => some (a, encS 0x30 0x00 f)
  | .ebreak a f => some (a, encS 0x30 0x01 f)
  | .eret a f => some (a, encS 0x30 0x02 f)
  | .wfi a f => some (a, encS 0x30 0x03 f)
  | .csrrw a f => some (a, encS 0x30 0x04 f)
  | .csrrs a f => some (a, encS 0x30 0x05 f)
  | .csrrc a f => some (a, encS 0x30 0x06 f)
  | .tlbi a f => some (a, encS 0x30 0x07 f)
  | .halt a f => some (a, encS 0x30 0x08 f)
  | .psetnz a f => some (a, encR 0x31 0x00 f)
  | .pand a f => some (a, encR 0x31 0x01 f)
  | .por a f => some (a, encR 0x31 0x02 f)
  | .pxor a f => some (a, encR 0x31 0x03 f)
  | .pnot a f => some (a, encR 0x31 0x04 f)
  | .pmov a f => some (a, encR 0x31 0x05 f)
  | .pload a f => some (a, encR 0x31 0x06 f)
  | .mpush a f => some (a, encR 0x31 0x08 f)
  | .melse a f => some (a, encR 0x31 0x09 f)
  | .mpop a f => some (a, encR 0x31 0x0A f)
  | .sbar a f => some (a, encR 0x31 0x0C f)
  | .lshfl a f => some (a, encR 0x31 0x0D f)
  | .pcmpEq a f => some (a, encR 0x31 0x10 f)
  | .pcmpNe a f => some (a, encR 0x31 0x11 f)
  | .pcmpLt a f => some (a, encR 0x31 0x12 f)
  | .pcmpGe a f => some (a, encR 0x31 0x13 f)
  | .pcmpLtu a f => some (a, encR 0x31 0x14 f)
  | .pcmpGeu a f => some (a, encR 0x31 0x15 f)
  | .pfcmpEq a f => some (a, encR 0x31 0x18 f)
  | .pfcmpLt a f => some (a, encR 0x31 0x19 f)
  | .pfcmpLe a f => some (a, encR 0x31 0x1A f)
  | .pfcmpUn a f => some (a, encR 0x31 0x1B f)
  | .wfill a f => some (a, encM 0x34 0x00 f)
  | .bcast a f => some (a, encM 0x34 0x01 f)
  | .brd a f => some (a, encM 0x34 0x07 f)
  | .mstep a f => some (a, encM 0x34 0x02 f)
  | .mpass a f => some (a, encM 0x34 0x03 f)
  | .accrd a f => some (a, encM 0x34 0x04 f)
  | .accld a f => some (a, encM 0x34 0x05 f)
  | .tld a f => some (a, encM 0x34 0x06 f)
  | .rwait a f => some (a, encM 0x34 0x08 f)
  | .sfuExp2 a f => some (a, encR 0x35 0x00 f)
  | .sfuLog2 a f => some (a, encR 0x35 0x01 f)
  | .sfuRcp a f => some (a, encR 0x35 0x02 f)
  | .sfuRsq a f => some (a, encR 0x35 0x03 f)
  | .sfuTanh a f => some (a, encR 0x35 0x04 f)
  | .sfuSig a f => some (a, encR 0x35 0x05 f)
  | .rngKey a f => some (a, encR 0x36 0x00 f)
  | .rngNext a f => some (a, encR 0x36 0x01 f)
  | .rngU32 a f => some (a, encR 0x36 0x02 f)
  | .rngUf a f => some (a, encR 0x36 0x03 f)
  | .rngSkip a f => some (a, encR 0x36 0x04 f)
  | .rngSave a f => some (a, encR 0x36 0x05 f)
  | .rngLoad a f => some (a, encR 0x36 0x06 f)
  | _ => none

/-- The command that a word of the table's bits spells: the table gives no row any bits. -/
def decodeTableWord (_nbits _w : Nat) : Option Instr := none

end Sys2Proof
end

