-- ==== Sys2Proof/Config.lean ====
section
/-! DEFINITION. What the spec leaves open: constants without a body. A claim about the model holds for
every value of these. Each is named in a row of the assumption log. -/

namespace Sys2Proof.Config

/-- Free value number `n` of the run, for a value the spec calls undefined or does not state
(notes/assumptions/3.md). Applied to the state's own counter of free values. -/
opaque freeValue : Nat → BitVec 64

/-- IEEE 754 lets an implementation detect tininess before or after rounding; the spec of R90 does not
choose (notes/assumptions/4.md). -/
opaque tininessAfterRounding : Bool

/-- Whether an ordered compare of a quiet NaN sets INVALID; R90 does not say (notes/assumptions/4.md). -/
opaque orderedCompareSignalsQuietNaN : Bool

/-- Whether a fused multiply-add of 0, Inf and a quiet NaN sets INVALID; IEEE 754 leaves it to the
implementation (notes/assumptions/4.md). -/
opaque fmaInfZeroQuietNaNSignals : Bool

/-- Whether FMIN, FMAX and FAMAX set INVALID on a quiet NaN (they do on a signalling one)
(notes/assumptions/4.md). -/
opaque minMaxSignalsQuietNaN : Bool

/-- A special function's result on an ordinary input, before the error bounds of R121 are applied:
operation number and operand (notes/assumptions/5.md). -/
opaque sfuResult : Nat → BitVec 32 → BitVec 32

/-- The flags an ordinary special-function result sets, which R121 does not state
(notes/assumptions/5.md). -/
opaque sfuFlags : Nat → BitVec 32 → BitVec 5

/-- Whether a translation cache still holds the entry it was given: cache, context, virtual page, device time (R192
leaves open which entries are dropped, and when; notes/assumptions/9.md). -/
opaque keepsTranslation : Nat → Nat → Nat → Nat → Bool

/-- Whether a line of core or host memory to which poison has been sent reads as poisoned: line, device time (R147:
the expander or the host decides it; notes/assumptions/10.md). -/
opaque portPoison : Nat → Nat → Bool

/-- A byte of cluster SRAM after its contents were lost: cluster, how often they have been lost, offset (R321;
notes/assumptions/11.md). -/
opaque lostByte : Nat → Nat → Nat → BitVec 8

/-- R329: a byte of a mid-kernel image that only the CP reads, by save, cluster and offset (notes/assumptions/34.md). -/
opaque imageByte : Nat → Nat → Nat → BitVec 8

/-- Spare rows of a bank of a stack (R153: the spec gives no number; notes/assumptions/35.md). -/
opaque spareRows : Nat

/-- A byte of a copy's destination where source and destination overlap (R412: an unspecified mix), by draw and place
(notes/assumptions/36.md). -/
opaque mixByte : Nat → Nat → BitVec 8

/-- A sample of a frame that a codec, concealment, comfort noise or echo cancellation produces, by draw and place: FP16
bits, used where they lie in [−1, 1) (R352, R355, R356; notes/assumptions/37.md). -/
opaque audioSample : Nat → Nat → BitVec 16

/-- R361: a feature, by FEATBF16, the 400 samples and the mel bin (notes/assumptions/38.md). -/
opaque feature : Bool → List (BitVec 16) → Nat → BitVec 16

/-- What the NTP timestamps of the stream engine's sender reports add to the device time, in units of 2^−16 s (R366 names no
clock; notes/assumptions/39.md). -/
opaque ntpOffset : Nat

/-- A register of a port's configuration space that the spec does not give, by port and offset (R390;
notes/assumptions/40.md). -/
opaque configSpace : Nat → Nat → BitVec 32

/-- Where a stack keeps an access unit: PC in bit 23, BANK in [22:17], ROW in [16:0], by Glume, stack-local unit number and
time; private to the Glume, and repairs change it (R146; notes/assumptions/49.md). -/
opaque dramPlace : Nat → Nat → Nat → BitVec 24

/-- Spare wires of the link of a die, by slot (R13 gives one for every 64, and no width; notes/assumptions/44.md). -/
opaque linkSpares : Nat → Nat

/-- OTP: the SHA-384 hash of signing public key KEYIDX (R473; notes/assumptions/42.md). -/
opaque keyHash : Nat → BitVec 384

/-- OTP: signing key KEYIDX is revoked (R473; notes/assumptions/42.md). -/
opaque keyRevoked : Nat → Bool

/-- The identity key's signature of a report, r then s, by draw and signed bytes (R472, R478; notes/assumptions/42.md). -/
opaque identitySignature : Nat → List (BitVec 8) → BitVec 768

/-- VAL and LOSS of the RAW record of output `k` of a strip that met poison, which R176 gives only a tag, by draw: VAL
below, LOSS in bit 96 (notes/assumptions/119.md). -/
opaque poisonSum : Nat → Nat → BitVec 97

/-- The device certificate chain in DER (R472, R478; notes/assumptions/42.md). -/
opaque certificateChain : List (BitVec 8)

end Sys2Proof.Config
end

