-- ==== Sys2Proof/Machine/Float.lean ====
section
/-! DEFINITION. IEEE 754 arithmetic, exact and then rounded once: the values, the rounding, and the
operations of the FP, FMA and FCVT groups (R40, R80, R90, R91). A finite value is a sign and a natural
number times a power of two, so that sums and products are exact before the one rounding. -/

namespace Sys2Proof.Machine

/-- A binary interchange format: `eb` exponent bits and `mb` fraction bits. -/
structure FFmt where
  eb : Nat
  mb : Nat
deriving DecidableEq, Repr

def f32 : FFmt := { eb := 8, mb := 23 }
def f64 : FFmt := { eb := 11, mb := 52 }
def f16 : FFmt := { eb := 5, mb := 10 }
def bf16 : FFmt := { eb := 8, mb := 7 }

def FFmt.width (f : FFmt) : Nat := 1 + f.eb + f.mb
def FFmt.bias (f : FFmt) : Int := (2 ^ (f.eb - 1) - 1 : Nat)
/-- Exponent of the last place of the smallest normal and of every subnormal number. -/
def FFmt.qmin (f : FFmt) : Int := 1 - f.bias - (f.mb : Nat)
/-- Largest exponent of the leading bit of a finite number. -/
def FFmt.emax (f : FFmt) : Int := f.bias

/-- A floating-point datum. `fin s m e` is (−1)^s × m × 2^e. -/
inductive FVal where
  | nan (signalling : Bool)
  | inf (s : Bool)
  | fin (s : Bool) (m : Nat) (e : Int)
deriving DecidableEq, Repr

/-- Rounding modes of FCSR.RM (R90); lanes use `rne` throughout (R40). `rmm` is to nearest, ties away. -/
inductive RMode where
  | rne | rtz | rdn | rup | rmm
deriving DecidableEq, Repr

/-- The sticky exception flags, in the places LFLAGS gives them (R103): [4] INVALID, [3] DIVZERO,
[2] OVERFLOW, [1] UNDERFLOW, [0] INEXACT. -/
abbrev FFlags := BitVec 5
def fINV : FFlags := 0x10
def fDZ : FFlags := 0x08
def fOF : FFlags := 0x04
def fUF : FFlags := 0x02
def fNX : FFlags := 0x01

/-- Number of bits of `m` (0 for 0). -/
def bitLen (m : Nat) : Nat := if m = 0 then 0 else Nat.log2 m + 1

/-- Read a datum's bits. -/
def FFmt.unpack (f : FFmt) (x : Nat) : FVal :=
  let s := x.testBit (f.eb + f.mb)
  let e := bitsOf x (f.eb + f.mb - 1) f.mb
  let m := x % 2 ^ f.mb
  if e = 2 ^ f.eb - 1 then
    if m = 0 then .inf s else .nan (! m.testBit (f.mb - 1))
  else if e = 0 then .fin s m f.qmin
  else .fin s (m + 2 ^ f.mb) (f.qmin + (e - 1 : Nat))

def FFmt.signBit (f : FFmt) (s : Bool) : Nat := if s then 2 ^ (f.eb + f.mb) else 0
def FFmt.infBits (f : FFmt) (s : Bool) : Nat := f.signBit s + (2 ^ f.eb - 1) * 2 ^ f.mb
def FFmt.maxBits (f : FFmt) (s : Bool) : Nat := f.infBits s - 1
/-- The canonical NaN: sign 0 and only the top fraction bit (R90, R62). -/
def FFmt.nanBits (f : FFmt) : Nat := (2 ^ f.eb - 1) * 2 ^ f.mb + 2 ^ (f.mb - 1)

/-- `m` with its low `k` bits rounded away; `sticky` says that the exact value lies above `m` by less than
one unit of `m`. Answers the rounded quotient and whether anything was discarded. -/
def roundShift (rm : RMode) (s : Bool) (m k : Nat) (sticky : Bool) : Nat × Bool :=
  let q := m >>> k
  let r := m % 2 ^ k
  let half := if k = 0 then 0 else 2 ^ (k - 1)
  let inexact := decide (r ≠ 0) || sticky
  let above := decide (k ≠ 0) && (decide (r > half) || (decide (r = half) && sticky))
  let tie := decide (k ≠ 0) && decide (r = half) && !sticky
  let up := match rm with
    | .rne => above || (tie && decide (q % 2 = 1))
    | .rmm => above || tie
    | .rtz => false
    | .rdn => inexact && s
    | .rup => inexact && !s
  (if up then q + 1 else q, inexact)

/-- The result of rounding to precision and least quantum with no bound above: magnitude `m` × 2^e,
whether inexact, whether tiny (when inexact). -/
structure Rounded where
  m : Nat
  e : Int
  inexact : Bool
  tiny : Bool
deriving DecidableEq, Repr

/-- Round m × 2^e to `p` significant bits with no quantum below 2^qmin and no upper bound on the
exponent. -/
def roundTo (p : Nat) (qmin : Int) (rm : RMode) (s : Bool) (m : Nat) (e : Int) (sticky : Bool) : Rounded :=
  let top := e + (bitLen m : Nat)                        -- exponent of the leading bit, plus one
  let q0 := top - (p : Nat)
  let q := if q0 < qmin then qmin else q0
  let res :=
    if e ≥ q then ((m <<< (e - q).toNat, sticky) : Nat × Bool)
    else roundShift rm s m (q - e).toNat sticky
  -- tininess after rounding: rounded with an unbounded exponent, still below the least normal number
  let free := if e ≥ q0 then ((m <<< (e - q0).toNat, sticky) : Nat × Bool)
              else roundShift rm s m (q0 - e).toNat sticky
  let tinyAfter := decide (q0 + (bitLen free.1 : Nat) < qmin + (p : Nat))
  let tinyBefore := decide (top < qmin + (p : Nat))
  { m := res.1, e := q, inexact := res.2,
    tiny := if Config.tininessAfterRounding then tinyAfter else tinyBefore }

/-- Bits of a rounded magnitude in format `f`, when it is within the format's range. -/
def FFmt.packFin (f : FFmt) (s : Bool) (m : Nat) (q : Int) : Nat :=
  if m < 2 ^ f.mb then f.signBit s + m                     -- zero or subnormal: q is the least quantum
  else if m = 2 ^ (f.mb + 1) then f.signBit s + ((q + 1 - f.qmin + 1).toNat <<< f.mb)
  else f.signBit s + ((q - f.qmin + 1).toNat <<< f.mb) + (m - 2 ^ f.mb)

/-- Round the exact value (−1)^s m 2^e (plus less than a unit when `sticky`) into format `f`, with the
IEEE 754 overflow result of the mode. -/
def FFmt.round (f : FFmt) (rm : RMode) (s : Bool) (m : Nat) (e : Int) (sticky : Bool := false) : Nat × FFlags :=
  if m = 0 && !sticky then (f.signBit s, 0) else
  let r := roundTo (f.mb + 1) f.qmin rm s m e sticky
  if r.e + (bitLen r.m : Nat) > f.emax + 1 then
    let toInf := match rm with
      | .rne => true | .rmm => true | .rtz => false | .rdn => s | .rup => !s
    (if toInf then f.infBits s else f.maxBits s, fOF ||| fNX)
  else
    (f.packFin s r.m r.e,
      (if r.inexact then fNX else 0) ||| (if r.inexact && r.tiny then fUF else 0))

/-- Signed integer magnitude of a finite datum on the grid 2^e, for e at or below its exponent. -/
def onGrid (s : Bool) (m : Nat) (e g : Int) : Int :=
  let v : Int := (m <<< (e - g).toNat : Nat)
  if s then -v else v

/-- The sign of an exact zero sum: plus, except when rounding down (IEEE 754). -/
def zeroSumSign (rm : RMode) : Bool := decide (rm = .rdn)

/-- Exact sum of two finite data, rounded once. -/
def FFmt.addFin (f : FFmt) (rm : RMode) (s1 : Bool) (m1 : Nat) (e1 : Int) (s2 : Bool) (m2 : Nat) (e2 : Int) :
    Nat × FFlags :=
  if m1 = 0 ∧ m2 = 0 then (f.signBit (if s1 = s2 then s1 else zeroSumSign rm), 0) else
  let g := if m1 = 0 then e2 else if m2 = 0 then e1 else min e1 e2
  let v := (if m1 = 0 then 0 else onGrid s1 m1 e1 g) + (if m2 = 0 then 0 else onGrid s2 m2 e2 g)
  if v = 0 then (f.signBit (zeroSumSign rm), 0)
  else f.round rm (decide (v < 0)) v.natAbs g

def sNaNFlag (a : FVal) : FFlags := match a with | .nan true => fINV | _ => 0
def FVal.isNaN : FVal → Bool | .nan _ => true | _ => false
def FVal.sign : FVal → Bool | .nan _ => false | .inf s => s | .fin s _ _ => s
def FVal.isZero : FVal → Bool | .fin _ 0 _ => true | _ => false
def FVal.neg : FVal → FVal | .nan b => .nan b | .inf s => .inf (!s) | .fin s m e => .fin (!s) m e
def FVal.absv : FVal → FVal | .nan b => .nan b | .inf _ => .inf false | .fin _ m e => .fin false m e

/-- FADD (R90). -/
def FFmt.add (f : FFmt) (rm : RMode) (a b : FVal) : Nat × FFlags :=
  match a, b with
  | .nan _, _ => (f.nanBits, sNaNFlag a ||| sNaNFlag b)
  | _, .nan _ => (f.nanBits, sNaNFlag a ||| sNaNFlag b)
  | .inf s, .inf t => if s = t then (f.infBits s, 0) else (f.nanBits, fINV)
  | .inf s, .fin _ _ _ => (f.infBits s, 0)
  | .fin _ _ _, .inf t => (f.infBits t, 0)
  | .fin s m e, .fin t n g => f.addFin rm s m e t n g

/-- FSUB (R90). -/
def FFmt.sub (f : FFmt) (rm : RMode) (a b : FVal) : Nat × FFlags := f.add rm a b.neg

/-- FMUL (R90). -/
def FFmt.mul (f : FFmt) (rm : RMode) (a b : FVal) : Nat × FFlags :=
  match a, b with
  | .nan _, _ => (f.nanBits, sNaNFlag a ||| sNaNFlag b)
  | _, .nan _ => (f.nanBits, sNaNFlag a ||| sNaNFlag b)
  | .inf s, .inf t => (f.infBits (s != t), 0)
  | .inf s, .fin t n _ => if n = 0 then (f.nanBits, fINV) else (f.infBits (s != t), 0)
  | .fin s m _, .inf t => if m = 0 then (f.nanBits, fINV) else (f.infBits (s != t), 0)
  | .fin s m e, .fin t n g => f.round rm (s != t) (m * n) (e + g)

/-- FDIV (R90): the quotient with two bits more than the precision, and a sticky remainder. -/
def FFmt.div (f : FFmt) (rm : RMode) (a b : FVal) : Nat × FFlags :=
  match a, b with
  | .nan _, _ => (f.nanBits, sNaNFlag a ||| sNaNFlag b)
  | _, .nan _ => (f.nanBits, sNaNFlag a ||| sNaNFlag b)
  | .inf _, .inf _ => (f.nanBits, fINV)
  | .inf s, .fin t _ _ => (f.infBits (s != t), 0)
  | .fin s _ _, .inf t => (f.signBit (s != t), 0)
  | .fin s m e, .fin t n g =>
    if n = 0 then (if m = 0 then (f.nanBits, fINV) else (f.infBits (s != t), fDZ))
    else if m = 0 then (f.signBit (s != t), 0)
    else
      let k := f.mb + 3 + bitLen n
      let num := m <<< k
      f.round rm (s != t) (num / n) (e - g - (k : Nat)) (decide (num % n ≠ 0))

/-- FSQRT (R90). -/
def FFmt.sqrt (f : FFmt) (rm : RMode) (a : FVal) : Nat × FFlags :=
  match a with
  | .nan _ => (f.nanBits, sNaNFlag a)
  | .inf s => if s then (f.nanBits, fINV) else (f.infBits false, 0)
  | .fin s m e =>
    if m = 0 then (f.signBit s, 0)
    else if s then (f.nanBits, fINV)
    else
      -- an even exponent, and enough bits that the root has more than the precision
      let k := 2 * (f.mb + 4) + (if (e - (2 * (f.mb + 4) : Nat)) % 2 = 0 then 0 else 1)
      let n := m <<< k
      let r := Nat.sqrt n
      f.round rm false r ((e - (k : Nat)) / 2) (decide (r * r ≠ n))

/-- Fused a × b + c, rounded once (R40, R90). -/
def FFmt.fma (f : FFmt) (rm : RMode) (a b c : FVal) : Nat × FFlags :=
  let sn := sNaNFlag a ||| sNaNFlag b ||| sNaNFlag c
  let infZero := match a, b with
    | .inf _, .fin _ 0 _ => true
    | .fin _ 0 _, .inf _ => true
    | _, _ => false
  if a.isNaN || b.isNaN then (f.nanBits, sn)
  else if c.isNaN then
    (f.nanBits, sn ||| (if infZero && Config.fmaInfZeroQuietNaNSignals then fINV else 0))
  else if infZero then (f.nanBits, fINV)
  else
    let ps := a.sign != b.sign
    match a, b, c with
    | .fin _ m e, .fin _ n g, .fin t o h => f.addFin rm ps (m * n) (e + g) t o h
    | .fin _ _ _, .fin _ _ _, .inf t => (f.infBits t, 0)
    | _, _, .inf t => if ps = t then (f.infBits t, 0) else (f.nanBits, fINV)
    | _, _, _ => (f.infBits ps, 0)

/-- Ordering of two data that are not NaN; −0 and +0 compare equal. -/
def FVal.lt (a b : FVal) : Bool :=
  match a, b with
  | .nan _, _ => false
  | _, .nan _ => false
  | .inf s, .inf t => s && !t
  | .inf s, .fin _ _ _ => s
  | .fin _ _ _, .inf t => !t
  | .fin s m e, .fin t n g => decide (onGrid s m e (min e g) < onGrid t n g (min e g))

def FVal.eq (a b : FVal) : Bool :=
  match a, b with
  | .nan _, _ => false
  | _, .nan _ => false
  | _, _ => !(a.lt b) && !(b.lt a)

/-- Ordering that places −0 below +0 (R90). -/
def FVal.ltMin (a b : FVal) : Bool :=
  if a.eq b && a.isZero then a.sign && !b.sign else a.lt b

def minMaxNaNFlag (a b : FVal) : FFlags :=
  sNaNFlag a ||| sNaNFlag b |||
    (if Config.minMaxSignalsQuietNaN && (a.isNaN || b.isNaN) then fINV else 0)

/-- FMIN (R90). -/
def FFmt.minOp (f : FFmt) (x y : Nat) : Nat × FFlags :=
  let a := f.unpack x
  let b := f.unpack y
  if a.isNaN && b.isNaN then (f.nanBits, minMaxNaNFlag a b)
  else if a.isNaN then (y, minMaxNaNFlag a b)
  else if b.isNaN then (x, minMaxNaNFlag a b)
  else (if b.ltMin a then y else x, 0)

/-- FMAX (R90). -/
def FFmt.maxOp (f : FFmt) (x y : Nat) : Nat × FFlags :=
  let a := f.unpack x
  let b := f.unpack y
  if a.isNaN && b.isNaN then (f.nanBits, minMaxNaNFlag a b)
  else if a.isNaN then (y, minMaxNaNFlag a b)
  else if b.isNaN then (x, minMaxNaNFlag a b)
  else (if a.ltMin b then y else x, 0)

/-- FAMAX (R90): the larger magnitude; the canonical NaN when either operand is NaN. -/
def FFmt.amaxOp (f : FFmt) (x y : Nat) : Nat × FFlags :=
  let a := f.unpack x
  let b := f.unpack y
  let clr := 2 ^ (f.eb + f.mb)
  if a.isNaN || b.isNaN then (f.nanBits, minMaxNaNFlag a b)
  else (max (x % clr) (y % clr), 0)

/-- FSGNJ, FSGNJN and FSGNJX (R87): the sign of `y`, its complement, or the exclusive-or of both signs. -/
def FFmt.sgnj (f : FFmt) (neg xor : Bool) (x y : Nat) : Nat :=
  let sx := x.testBit (f.eb + f.mb)
  let sy := y.testBit (f.eb + f.mb)
  let s := if xor then sx != sy else if neg then !sy else sy
  x % 2 ^ (f.eb + f.mb) + f.signBit s

/-- The flags of an ordered compare (FLT, FLE): a signalling NaN is INVALID, a quiet one as the part
chooses. -/
def ordCmpFlags (a b : FVal) : FFlags :=
  sNaNFlag a ||| sNaNFlag b |||
    (if Config.orderedCompareSignalsQuietNaN && (a.isNaN || b.isNaN) then fINV else 0)

def FFmt.feq (f : FFmt) (x y : Nat) : Bool × FFlags :=
  let a := f.unpack x
  let b := f.unpack y
  (a.eq b, sNaNFlag a ||| sNaNFlag b)

def FFmt.flt (f : FFmt) (x y : Nat) : Bool × FFlags :=
  let a := f.unpack x
  let b := f.unpack y
  (a.lt b, ordCmpFlags a b)

def FFmt.fle (f : FFmt) (x y : Nat) : Bool × FFlags :=
  let a := f.unpack x
  let b := f.unpack y
  (a.lt b || a.eq b, ordCmpFlags a b)

/-- FCLASS (R90): the ten classes, one bit each. -/
def FFmt.fclass (f : FFmt) (x : Nat) : Nat :=
  match f.unpack x with
  | .nan true => 2 ^ 8
  | .nan false => 2 ^ 9
  | .inf s => if s then 2 ^ 0 else 2 ^ 7
  | .fin s m _ =>
    if m = 0 then (if s then 2 ^ 3 else 2 ^ 4)
    else if m < 2 ^ f.mb then (if s then 2 ^ 2 else 2 ^ 5)
    else (if s then 2 ^ 1 else 2 ^ 6)

/-- Round to an integer towards zero or to nearest even: the integer and whether it is inexact. -/
def toIntRound (rm : RMode) (s : Bool) (m : Nat) (e : Int) : Int × Bool :=
  let r := if e ≥ 0 then ((m <<< e.toNat, false) : Nat × Bool) else roundShift rm s m (-e).toNat false
  (if s then -(r.1 : Int) else (r.1 : Int), r.2)

/-- Saturating conversion to an integer in [lo, hi] (R91). -/
def FVal.toIntSat (a : FVal) (rm : RMode) (lo hi : Int) : Int × FFlags :=
  match a with
  | .nan _ => (0, fINV)
  | .inf s => (if s then lo else hi, fINV)
  | .fin s m e =>
    let r := toIntRound rm s m e
    if r.1 < lo then (lo, fINV) else if r.1 > hi then (hi, fINV)
    else (r.1, if r.2 then fNX else 0)

/-- Conversion of an integer (R91). -/
def FFmt.ofInt (f : FFmt) (rm : RMode) (v : Int) : Nat × FFlags :=
  f.round rm (decide (v < 0)) v.natAbs 0

/-- Conversion between formats, rounded once (R90). -/
def FFmt.convert (f : FFmt) (rm : RMode) (a : FVal) : Nat × FFlags :=
  match a with
  | .nan b => (f.nanBits, if b then fINV else 0)
  | .inf s => (f.infBits s, 0)
  | .fin s m e => f.round rm s m e

end Sys2Proof.Machine
end

