-- ==== Sys2Proof/Machine/RegMap.lean ====
section
/-! DEFINITION. The register space (R38): one row for each register map of the spec, with its offset, width,
instance counts and strides, and its fields' bits, access types and reset values, as the chapter of the
owning block gives them. -/

namespace Sys2Proof.Machine

/-- R8: the access types. -/
inductive RegTy where
  | rw | ro | wo | w1c | w1s
deriving DecidableEq, Repr

/-- One field of a register map: bits [hi:lo], access type, reset value. Fields whose Reset column says FW, Fuse
or Strap reset to 0 here and are written by the step that loads them (R9). -/
structure RegField where
  hi : Nat
  lo : Nat
  ty : RegTy
  rst : Nat
deriving DecidableEq, Repr

/-- One register map: name, offset of its first instance in the register space, width in bytes, instance counts
with strides (largest first), fields. Reserved fields are not listed: they read zero and ignore writes (R7). -/
structure RegDesc where
  name : String
  base : Nat
  bytes : Nat
  dims : List (Nat × Nat)
  fields : List RegField
deriving DecidableEq, Repr

/-- Registers of the CROWN_ block. -/
def regsCrown0 : List RegDesc :=
  [{ name := "CROWN_MCGRP", base := 0x1000, bytes := 4, dims := [(256, 0x4)],
     fields := [⟨31, 31, .ro, 0⟩, ⟨19, 8, .ro, 0⟩, ⟨7, 0, .ro, 0⟩] },
   { name := "CROWN_PKGID", base := 0x0, bytes := 8, dims := [],
     fields := [⟨60, 60, .ro, 0⟩, ⟨59, 56, .ro, 0⟩, ⟨55, 32, .ro, 0⟩, ⟨31, 0, .ro, 0⟩] },
   { name := "CROWN_DIEID", base := 0x100, bytes := 8, dims := [(23, 0x8)],
     fields := [⟨63, 60, .ro, 0⟩, ⟨55, 40, .ro, 0⟩, ⟨39, 35, .ro, 0⟩, ⟨34, 27, .ro, 0⟩, ⟨26, 19, .ro, 0⟩] },
   { name := "CROWN_DIESTAT", base := 0x200, bytes := 4, dims := [(23, 0x4)],
     fields := [⟨31, 24, .ro, 0⟩, ⟨4, 4, .ro, 0⟩, ⟨2, 0, .ro, 1⟩] },
   { name := "CROWN_GEOM", base := 0x8, bytes := 8, dims := [],
     fields := [⟨63, 56, .ro, 0⟩, ⟨55, 44, .ro, 0⟩, ⟨43, 42, .ro, 0⟩, ⟨41, 34, .ro, 0⟩, ⟨33, 26, .ro, 0⟩, ⟨16, 10, .ro, 0⟩, ⟨9, 0, .ro, 0⟩] },
   { name := "CROWN_FQBASE", base := 0x2000, bytes := 8, dims := [(16, 0x20)],
     fields := [⟨55, 12, .rw, 0⟩] },
   { name := "CROWN_FQCTL", base := 0x2008, bytes := 4, dims := [(16, 0x20)],
     fields := [⟨31, 31, .rw, 0⟩, ⟨30, 30, .ro, 0⟩, ⟨29, 28, .rw, 0⟩, ⟨26, 16, .rw, 0⟩, ⟨4, 0, .rw, 6⟩] },
   { name := "CROWN_FQPROD", base := 0x2010, bytes := 4, dims := [(16, 0x20)],
     fields := [⟨15, 0, .ro, 0⟩] },
   { name := "CROWN_FQCONS", base := 0x2018, bytes := 4, dims := [(16, 0x20)],
     fields := [⟨15, 0, .rw, 0⟩] },
   { name := "CROWN_FRESUME", base := 0x2200, bytes := 8, dims := [],
     fields := [⟨63, 62, .wo, 0⟩, ⟨23, 0, .wo, 0⟩] },
   { name := "CROWN_FAULTCFG", base := 0x2208, bytes := 4, dims := [],
     fields := [⟨19, 0, .rw, 10000⟩] },
   { name := "CROWN_FAULTSTAT", base := 0x2210, bytes := 8, dims := [],
     fields := [⟨63, 48, .rw, 0⟩, ⟨16, 0, .ro, 0⟩] }]

/-- Registers of the CROWN_ block. -/
def regsCrown1 : List RegDesc :=
  [{ name := "CROWN_LENDCFG", base := 0x2218, bytes := 4, dims := [],
     fields := [⟨31, 28, .rw, 0⟩, ⟨15, 0, .rw, 1000⟩] },
   { name := "CROWN_LENDREL", base := 0x2220, bytes := 8, dims := [],
     fields := [⟨63, 0, .wo, 0⟩] },
   { name := "CROWN_RCHKB", base := 0x3000, bytes := 8, dims := [(256, 0x10)],
     fields := [⟨63, 63, .rw, 0⟩, ⟨62, 61, .rw, 0⟩, ⟨60, 60, .rw, 0⟩, ⟨55, 16, .rw, 0⟩, ⟨11, 0, .rw, 0⟩] },
   { name := "CROWN_RCHKL", base := 0x3008, bytes := 8, dims := [(256, 0x10)],
     fields := [⟨55, 16, .rw, 0⟩] },
   { name := "CROWN_FADMIT", base := 0x4000, bytes := 4, dims := [(1152, 0x4)],
     fields := [⟨31, 30, .rw, 0⟩, ⟨29, 29, .w1s, 0⟩, ⟨28, 28, .ro, 0⟩, ⟨14, 0, .rw, 0⟩] },
   { name := "CROWN_CTXXLT", base := 0x8000, bytes := 8, dims := [(4096, 0x8)],
     fields := [⟨63, 60, .rw, 0⟩, ⟨55, 17, .rw, 0⟩, ⟨0, 0, .rw, 0⟩] },
   { name := "CROWN_DIRSTAT", base := 0x2300, bytes := 8, dims := [],
     fields := [⟨63, 0, .rw, 0⟩] },
   { name := "CROWN_SLBASE", base := 0x2400, bytes := 8, dims := [],
     fields := [⟨55, 12, .rw, 0⟩] },
   { name := "CROWN_SLCTL", base := 0x2408, bytes := 4, dims := [],
     fields := [⟨31, 31, .rw, 0⟩, ⟨29, 28, .rw, 0⟩, ⟨26, 16, .rw, 0⟩, ⟨4, 0, .rw, 6⟩] },
   { name := "CROWN_SLPROD", base := 0x2410, bytes := 4, dims := [],
     fields := [⟨15, 0, .ro, 0⟩] },
   { name := "CROWN_SLCONS", base := 0x2418, bytes := 4, dims := [],
     fields := [⟨15, 0, .rw, 0⟩] },
   { name := "CROWN_SLSTAT", base := 0x2420, bytes := 8, dims := [],
     fields := [⟨63, 32, .rw, 0⟩, ⟨31, 0, .rw, 0⟩] }]

/-- Registers of the CROWN_ block. -/
def regsCrown2 : List RegDesc :=
  [{ name := "CROWN_EVROUTE", base := 0x10000, bytes := 4, dims := [(2048, 0x4)],
     fields := [⟨31, 31, .rw, 0⟩, ⟨30, 30, .ro, 0⟩, ⟨29, 29, .rw, 0⟩, ⟨6, 0, .rw, 0⟩] },
   { name := "CROWN_EVRAISE", base := 0x12000, bytes := 4, dims := [],
     fields := [⟨10, 0, .wo, 0⟩] },
   { name := "CROWN_TIME", base := 0x10, bytes := 8, dims := [],
     fields := [⟨63, 0, .ro, 0⟩] },
   { name := "CROWN_DIECTL", base := 0x300, bytes := 4, dims := [(23, 0x4)],
     fields := [⟨31, 31, .rw, 1⟩, ⟨1, 0, .wo, 0⟩] },
   { name := "CROWN_RSTCTL", base := 0x400, bytes := 4, dims := [],
     fields := [⟨31, 31, .wo, 0⟩] },
   { name := "CROWN_RSTREC", base := 0x408, bytes := 8, dims := [],
     fields := [⟨63, 60, .ro, 0⟩, ⟨59, 56, .ro, 0⟩, ⟨55, 52, .ro, 0⟩, ⟨47, 32, .ro, 0⟩, ⟨31, 0, .ro, 0⟩] },
   { name := "CROWN_ERRBASE", base := 0x2500, bytes := 8, dims := [],
     fields := [⟨55, 12, .rw, 0⟩] },
   { name := "CROWN_ERRCTL", base := 0x2508, bytes := 4, dims := [],
     fields := [⟨31, 31, .rw, 0⟩, ⟨29, 28, .rw, 0⟩, ⟨26, 16, .rw, 0⟩, ⟨4, 0, .rw, 6⟩] },
   { name := "CROWN_ERRPROD", base := 0x2510, bytes := 4, dims := [],
     fields := [⟨15, 0, .ro, 0⟩] },
   { name := "CROWN_ERRCONS", base := 0x2518, bytes := 4, dims := [],
     fields := [⟨15, 0, .rw, 0⟩] },
   { name := "CROWN_ERRSTAT", base := 0x2520, bytes := 8, dims := [],
     fields := [⟨63, 48, .rw, 0⟩, ⟨47, 32, .rw, 0⟩, ⟨31, 0, .rw, 0⟩] },
   { name := "CROWN_STCMD", base := 0x2600, bytes := 8, dims := [],
     fields := [⟨63, 60, .wo, 0⟩, ⟨59, 59, .wo, 0⟩, ⟨15, 8, .wo, 0⟩, ⟨7, 0, .wo, 0⟩] }]

/-- Registers of the CROWN_ block. -/
def regsCrown3 : List RegDesc :=
  [{ name := "CROWN_STSTAT", base := 0x2608, bytes := 4, dims := [],
     fields := [⟨31, 31, .ro, 0⟩, ⟨30, 27, .ro, 0⟩, ⟨26, 26, .ro, 0⟩, ⟨23, 16, .ro, 0⟩, ⟨15, 0, .ro, 0⟩] },
   { name := "CROWN_STCFG", base := 0x2610, bytes := 4, dims := [],
     fields := [⟨31, 31, .rw, 1⟩, ⟨15, 0, .rw, 168⟩] }]

/-- Registers of the TIL_ block. -/
def regsTil0 : List RegDesc :=
  [{ name := "TIL_CLSEN", base := 0x1000000, bytes := 4, dims := [(8, 0x100000)],
     fields := [⟨31, 24, .ro, 0⟩, ⟨18, 16, .ro, 0⟩, ⟨6, 0, .ro, 0⟩] },
   { name := "TIL_CLSMAPL", base := 0x1000008, bytes := 8, dims := [(8, 0x100000)],
     fields := [⟨63, 0, .ro, 0⟩] },
   { name := "TIL_CLSMAPH", base := 0x1000010, bytes := 4, dims := [(8, 0x100000)],
     fields := [⟨19, 0, .ro, 0⟩] },
   { name := "TIL_SCCTL", base := 0x1000800, bytes := 4, dims := [(8, 0x100000)],
     fields := [⟨31, 31, .rw, 1⟩, ⟨30, 30, .rw, 0⟩, ⟨29, 29, .rw, 0⟩, ⟨19, 16, .rw, 0⟩] },
   { name := "TIL_SCSTAT", base := 0x1000804, bytes := 4, dims := [(8, 0x100000)],
     fields := [⟨31, 31, .ro, 0⟩, ⟨30, 30, .ro, 0⟩] },
   { name := "TIL_SCCMD", base := 0x1000808, bytes := 4, dims := [(8, 0x100000)],
     fields := [⟨1, 0, .wo, 0⟩] },
   { name := "TIL_SCHITS", base := 0x1000810, bytes := 8, dims := [(8, 0x100000)],
     fields := [⟨63, 0, .rw, 0⟩] },
   { name := "TIL_SCMISS", base := 0x1000818, bytes := 8, dims := [(8, 0x100000)],
     fields := [⟨63, 0, .rw, 0⟩] },
   { name := "TIL_SCDIRTYWB", base := 0x1000820, bytes := 8, dims := [(8, 0x100000)],
     fields := [⟨63, 0, .rw, 0⟩] },
   { name := "TIL_SCBYPASS", base := 0x1000828, bytes := 8, dims := [(8, 0x100000)],
     fields := [⟨63, 0, .rw, 0⟩] },
   { name := "TIL_SMPSTAT", base := 0x1000A00, bytes := 8, dims := [(8, 0x100000)],
     fields := [⟨63, 63, .ro, 0⟩, ⟨51, 32, .ro, 0⟩, ⟨31, 20, .ro, 0⟩, ⟨9, 0, .ro, 0⟩] },
   { name := "TIL_SMPVEC", base := 0x1000A08, bytes := 8, dims := [(8, 0x100000)],
     fields := [⟨63, 0, .rw, 0⟩] }]

/-- Registers of the TIL_ block. -/
def regsTil1 : List RegDesc :=
  [{ name := "TIL_SMPCYC", base := 0x1000A10, bytes := 8, dims := [(8, 0x100000)],
     fields := [⟨63, 0, .rw, 0⟩] }]

/-- Registers of the CLS_ block. -/
def regsCls : List RegDesc :=
  [{ name := "CLS_MXSTAT", base := 0x1010000, bytes := 4, dims := [(8, 0x100000), (84, 0x1000)],
     fields := [⟨31, 16, .ro, 0⟩, ⟨15, 0, .ro, 0⟩] },
   { name := "CLS_MXFLAG", base := 0x1010040, bytes := 4, dims := [(8, 0x100000), (84, 0x1000), (16, 0x4)],
     fields := [⟨4, 4, .w1c, 0⟩, ⟨3, 3, .w1c, 0⟩, ⟨2, 2, .w1c, 0⟩, ⟨1, 1, .w1c, 0⟩, ⟨0, 0, .w1c, 0⟩] },
   { name := "CLS_SBNR", base := 0x1010100, bytes := 8, dims := [(8, 0x100000), (84, 0x1000), (16, 0x20)],
     fields := [⟨63, 0, .rw, 0⟩] },
   { name := "CLS_OPNR", base := 0x1010108, bytes := 8, dims := [(8, 0x100000), (84, 0x1000), (16, 0x20)],
     fields := [⟨63, 0, .rw, 0⟩] },
   { name := "CLS_ACCBSY", base := 0x1010110, bytes := 8, dims := [(8, 0x100000), (84, 0x1000), (16, 0x20)],
     fields := [⟨63, 0, .rw, 0⟩] },
   { name := "CLS_LIMIT", base := 0x1010118, bytes := 8, dims := [(8, 0x100000), (84, 0x1000), (16, 0x20)],
     fields := [⟨63, 0, .rw, 0⟩] },
   { name := "CLS_PASSES", base := 0x1010300, bytes := 8, dims := [(8, 0x100000), (84, 0x1000), (16, 0x8)],
     fields := [⟨63, 0, .rw, 0⟩] },
   { name := "CLS_LEXC", base := 0x1010400, bytes := 8, dims := [(8, 0x100000), (84, 0x1000)],
     fields := [⟨63, 63, .w1c, 0⟩, ⟨62, 56, .ro, 0⟩, ⟨55, 40, .ro, 0⟩, ⟨39, 32, .ro, 0⟩, ⟨31, 28, .ro, 0⟩, ⟨26, 24, .ro, 0⟩, ⟨23, 16, .ro, 0⟩, ⟨11, 0, .ro, 0⟩] },
   { name := "CLS_LEXPC", base := 0x1010408, bytes := 8, dims := [(8, 0x100000), (84, 0x1000)],
     fields := [⟨55, 0, .ro, 0⟩] },
   { name := "CLS_LEXINST", base := 0x1010410, bytes := 4, dims := [(8, 0x100000), (84, 0x1000)],
     fields := [⟨31, 0, .ro, 0⟩] }]

/-- Registers of the GLM_ block. -/
def regsGlm0 : List RegDesc :=
  [{ name := "GLM_STAT", base := 0x2000000, bytes := 4, dims := [(12, 0x100000)],
     fields := [⟨31, 24, .ro, 0⟩, ⟨19, 18, .ro, 0⟩, ⟨17, 17, .ro, 0⟩, ⟨16, 16, .ro, 0⟩, ⟨2, 0, .ro, 0⟩] },
   { name := "GLM_ECCCNT", base := 0x2000008, bytes := 8, dims := [(12, 0x100000)],
     fields := [⟨63, 32, .rw, 0⟩, ⟨31, 0, .rw, 0⟩] },
   { name := "GLM_ERRREC", base := 0x2000010, bytes := 8, dims := [(12, 0x100000)],
     fields := [⟨63, 63, .w1c, 0⟩, ⟨62, 60, .ro, 0⟩, ⟨59, 56, .ro, 0⟩, ⟨55, 55, .ro, 0⟩, ⟨54, 49, .ro, 0⟩, ⟨48, 32, .ro, 0⟩, ⟨31, 24, .ro, 0⟩] },
   { name := "GLM_ERRADDR", base := 0x2000018, bytes := 8, dims := [(12, 0x100000)],
     fields := [⟨35, 0, .ro, 0⟩] },
   { name := "GLM_SCRUB", base := 0x2000020, bytes := 4, dims := [(12, 0x100000)],
     fields := [⟨31, 31, .rw, 1⟩, ⟨15, 0, .rw, 24⟩] },
   { name := "GLM_REPCTL", base := 0x2000028, bytes := 4, dims := [(12, 0x100000)],
     fields := [⟨31, 31, .rw, 1⟩, ⟨30, 30, .rw, 0⟩, ⟨23, 16, .rw, 8⟩] },
   { name := "GLM_REPCMD", base := 0x2000030, bytes := 8, dims := [(12, 0x100000)],
     fields := [⟨63, 60, .wo, 0⟩, ⟨59, 56, .wo, 0⟩, ⟨55, 55, .wo, 0⟩, ⟨54, 49, .wo, 0⟩, ⟨48, 32, .wo, 0⟩] },
   { name := "GLM_REPSTAT", base := 0x2000038, bytes := 4, dims := [(12, 0x100000)],
     fields := [⟨31, 24, .ro, 0⟩, ⟨23, 16, .ro, 0⟩, ⟨15, 8, .ro, 0⟩, ⟨1, 1, .w1c, 0⟩, ⟨0, 0, .ro, 0⟩] },
   { name := "GLM_NMVCTL", base := 0x2000100, bytes := 4, dims := [(12, 0x100000)],
     fields := [⟨31, 31, .rw, 1⟩, ⟨7, 0, .rw, 128⟩] },
   { name := "GLM_NMVSTAT", base := 0x2000108, bytes := 8, dims := [(12, 0x100000)],
     fields := [⟨63, 63, .ro, 0⟩, ⟨55, 48, .ro, 0⟩, ⟨43, 32, .ro, 0⟩, ⟨31, 12, .ro, 0⟩, ⟨11, 0, .ro, 0⟩] },
   { name := "GLM_NMVFLAG", base := 0x2000110, bytes := 4, dims := [(12, 0x100000)],
     fields := [⟨4, 4, .w1c, 0⟩, ⟨3, 3, .w1c, 0⟩, ⟨2, 2, .w1c, 0⟩, ⟨1, 1, .w1c, 0⟩, ⟨0, 0, .w1c, 0⟩] },
   { name := "GLM_NMVBEATS", base := 0x2000118, bytes := 8, dims := [(12, 0x100000)],
     fields := [⟨63, 0, .rw, 0⟩] }]

/-- Registers of the GLM_ block. -/
def regsGlm1 : List RegDesc :=
  [{ name := "GLM_NMVWAIT", base := 0x2000120, bytes := 8, dims := [(12, 0x100000)],
     fields := [⟨63, 0, .rw, 0⟩] },
   { name := "GLM_GOT", base := 0x2040000, bytes := 4, dims := [(12, 0x100000), (24576, 0x4)],
     fields := [⟨31, 30, .rw, 0⟩, ⟨29, 29, .rw, 0⟩, ⟨11, 0, .rw, 0⟩] }]

/-- Registers of the CULM_ block. -/
def regsCulm : List RegDesc :=
  [{ name := "CULM_SCCTL", base := 0x1800800, bytes := 4, dims := [(2, 0x200000)],
     fields := [⟨31, 31, .rw, 1⟩, ⟨30, 30, .rw, 0⟩, ⟨29, 29, .rw, 0⟩, ⟨19, 16, .rw, 0⟩] },
   { name := "CULM_SCSTAT", base := 0x1800804, bytes := 4, dims := [(2, 0x200000)],
     fields := [⟨31, 31, .ro, 0⟩, ⟨30, 30, .ro, 0⟩] },
   { name := "CULM_SCCMD", base := 0x1800808, bytes := 4, dims := [(2, 0x200000)],
     fields := [⟨1, 0, .wo, 0⟩] },
   { name := "CULM_SCHITS", base := 0x1800810, bytes := 8, dims := [(2, 0x200000)],
     fields := [⟨63, 0, .rw, 0⟩] },
   { name := "CULM_SCMISS", base := 0x1800818, bytes := 8, dims := [(2, 0x200000)],
     fields := [⟨63, 0, .rw, 0⟩] },
   { name := "CULM_SCDIRTYWB", base := 0x1800820, bytes := 8, dims := [(2, 0x200000)],
     fields := [⟨63, 0, .rw, 0⟩] },
   { name := "CULM_SCBYPASS", base := 0x1800828, bytes := 8, dims := [(2, 0x200000)],
     fields := [⟨63, 0, .rw, 0⟩] },
   { name := "CULM_RSTVEC", base := 0x1800900, bytes := 8, dims := [(2, 0x200000)],
     fields := [⟨55, 8, .rw, 0⟩] },
   { name := "CULM_CORECTL", base := 0x1810000, bytes := 4, dims := [(2, 0x200000), (48, 0x20)],
     fields := [⟨1, 0, .wo, 0⟩] },
   { name := "CULM_CORESTAT", base := 0x1810008, bytes := 4, dims := [(2, 0x200000), (48, 0x20)],
     fields := [⟨31, 24, .ro, 0⟩, ⟨15, 8, .ro, 0⟩, ⟨7, 7, .ro, 0⟩, ⟨2, 0, .ro, 0⟩] }]

/-- Registers of the CP_ block. -/
def regsCp0 : List RegDesc :=
  [{ name := "CP_STAT", base := 0x100000, bytes := 4, dims := [],
     fields := [⟨31, 31, .ro, 0⟩, ⟨30, 30, .ro, 0⟩, ⟨23, 16, .ro, 0⟩] },
   { name := "CP_DISPCNT", base := 0x100008, bytes := 8, dims := [],
     fields := [⟨63, 0, .rw, 0⟩] },
   { name := "CP_DBSTAT", base := 0x100010, bytes := 8, dims := [],
     fields := [⟨63, 48, .rw, 0⟩, ⟨47, 32, .rw, 0⟩, ⟨31, 0, .rw, 0⟩] },
   { name := "CP_WAITSTAT", base := 0x100018, bytes := 8, dims := [],
     fields := [⟨48, 32, .ro, 0⟩, ⟨16, 0, .ro, 0⟩] },
   { name := "CP_FENCECFG", base := 0x100020, bytes := 4, dims := [],
     fields := [⟨15, 0, .rw, 2000⟩] },
   { name := "CP_QSEL", base := 0x100100, bytes := 4, dims := [],
     fields := [⟨19, 0, .rw, 0⟩] },
   { name := "CP_QINFO0", base := 0x100108, bytes := 8, dims := [],
     fields := [⟨63, 61, .ro, 0⟩, ⟨60, 58, .ro, 0⟩, ⟨57, 56, .ro, 0⟩, ⟨55, 51, .ro, 0⟩, ⟨48, 48, .ro, 0⟩, ⟨47, 32, .ro, 0⟩, ⟨31, 0, .ro, 0⟩] },
   { name := "CP_QINFO1", base := 0x100110, bytes := 8, dims := [],
     fields := [⟨63, 32, .ro, 0⟩, ⟨17, 0, .ro, 0⟩] },
   { name := "CP_CQSEL", base := 0x100118, bytes := 4, dims := [],
     fields := [⟨17, 0, .rw, 0⟩] },
   { name := "CP_CQINFO0", base := 0x100120, bytes := 8, dims := [],
     fields := [⟨63, 63, .ro, 0⟩, ⟨62, 51, .ro, 0⟩, ⟨50, 46, .ro, 0⟩, ⟨45, 44, .ro, 0⟩, ⟨43, 33, .ro, 0⟩, ⟨31, 0, .ro, 0⟩] },
   { name := "CP_CQINFO1", base := 0x100128, bytes := 8, dims := [],
     fields := [⟨63, 32, .ro, 0⟩, ⟨31, 0, .ro, 0⟩] },
   { name := "CP_SCHEDCFG", base := 0x101000, bytes := 4, dims := [],
     fields := [⟨31, 16, .rw, 200⟩, ⟨15, 8, .rw, 50⟩, ⟨7, 0, .rw, 10⟩] }]

/-- Registers of the CP_ block. -/
def regsCp1 : List RegDesc :=
  [{ name := "CP_CTXDESC", base := 0x110000, bytes := 8, dims := [(4096, 0x8)],
     fields := [⟨63, 61, .ro, 0⟩, ⟨60, 60, .rw, 0⟩, ⟨59, 58, .rw, 0⟩, ⟨57, 57, .rw, 0⟩, ⟨56, 50, .rw, 0⟩, ⟨49, 42, .rw, 0⟩] },
   { name := "CP_CTXSAVE", base := 0x120000, bytes := 8, dims := [(4096, 0x8)],
     fields := [⟨55, 24, .rw, 0⟩, ⟨11, 0, .rw, 0⟩] },
   { name := "CP_CTXSTAT", base := 0x130000, bytes := 8, dims := [(4096, 0x8)],
     fields := [⟨63, 57, .ro, 0⟩, ⟨56, 48, .rw, 0⟩, ⟨47, 40, .rw, 0⟩, ⟨39, 24, .rw, 0⟩, ⟨23, 0, .rw, 0⟩] }]

/-- Registers of the SE_ block. -/
def regsSe : List RegDesc :=
  [{ name := "SE_STAT", base := 0x400000, bytes := 4, dims := [],
     fields := [⟨31, 31, .ro, 0⟩, ⟨17, 0, .ro, 0⟩] },
   { name := "SE_STATEBASE", base := 0x400008, bytes := 8, dims := [],
     fields := [⟨55, 33, .rw, 0⟩, ⟨0, 0, .rw, 0⟩] },
   { name := "SE_SIDBLK", base := 0x400100, bytes := 4, dims := [(128, 0x4)],
     fields := [⟨31, 31, .rw, 0⟩, ⟨11, 0, .rw, 0⟩] },
   { name := "SE_PORTCFG", base := 0x401000, bytes := 4, dims := [(2, 0x100)],
     fields := [⟨31, 31, .rw, 0⟩, ⟨30, 30, .ro, 0⟩, ⟨23, 16, .rw, 64⟩, ⟨13, 0, .rw, 9216⟩] },
   { name := "SE_PORTMAC", base := 0x401008, bytes := 8, dims := [(2, 0x100)],
     fields := [⟨47, 0, .rw, 0⟩] },
   { name := "SE_PORTERR", base := 0x401010, bytes := 8, dims := [(2, 0x100)],
     fields := [⟨63, 32, .rw, 0⟩, ⟨31, 0, .rw, 0⟩] },
   { name := "SE_EXBASE", base := 0x401020, bytes := 8, dims := [(2, 0x100)],
     fields := [⟨55, 14, .rw, 0⟩] },
   { name := "SE_EXCTL", base := 0x401028, bytes := 4, dims := [(2, 0x100)],
     fields := [⟨31, 31, .rw, 0⟩, ⟨29, 28, .rw, 0⟩, ⟨26, 16, .rw, 0⟩, ⟨4, 0, .rw, 6⟩] },
   { name := "SE_EXPTR", base := 0x401030, bytes := 8, dims := [(2, 0x100)],
     fields := [⟨47, 32, .rw, 0⟩, ⟨15, 0, .ro, 0⟩] }]

/-- Registers of the HP_ block. -/
def regsHp : List RegDesc :=
  [{ name := "HP_PORTCTL", base := 0x700000, bytes := 4, dims := [(6, 0x100)],
     fields := [⟨31, 31, .rw, 0⟩, ⟨30, 30, .rw, 1⟩, ⟨0, 0, .wo, 0⟩] },
   { name := "HP_PORTSTAT", base := 0x700008, bytes := 8, dims := [(6, 0x100)],
     fields := [⟨63, 63, .ro, 0⟩, ⟨62, 62, .ro, 0⟩, ⟨61, 61, .ro, 0⟩, ⟨60, 56, .ro, 0⟩, ⟨55, 51, .ro, 0⟩, ⟨47, 32, .ro, 0⟩] },
   { name := "HP_T5OFF", base := 0x700010, bytes := 8, dims := [(6, 0x100)],
     fields := [⟨63, 12, .rw, 0⟩] },
   { name := "HP_RPCTX", base := 0x700018, bytes := 4, dims := [(6, 0x100)],
     fields := [⟨31, 31, .rw, 0⟩, ⟨11, 0, .rw, 0⟩] },
   { name := "HP_RPWIN", base := 0x700020, bytes := 8, dims := [(6, 0x100)],
     fields := [⟨63, 15, .rw, 0⟩] },
   { name := "HP_PORTCNT", base := 0x700028, bytes := 8, dims := [(6, 0x100)],
     fields := [⟨63, 48, .rw, 0⟩, ⟨47, 32, .rw, 0⟩, ⟨31, 16, .rw, 0⟩, ⟨15, 0, .rw, 0⟩] },
   { name := "HP_CXLDEC", base := 0x701000, bytes := 8, dims := [(8, 0x10)],
     fields := [⟨63, 63, .rw, 0⟩, ⟨62, 61, .rw, 0⟩, ⟨47, 36, .rw, 0⟩, ⟨29, 16, .rw, 0⟩, ⟨13, 0, .rw, 0⟩] },
   { name := "HP_OWNMAP", base := 0x702000, bytes := 4, dims := [(6, 0x200), (128, 0x4)],
     fields := [⟨31, 0, .rw, 0⟩] },
   { name := "HP_APER", base := 0x703000, bytes := 8, dims := [(6, 0x200), (64, 0x8)],
     fields := [⟨63, 63, .rw, 0⟩, ⟨55, 30, .rw, 0⟩, ⟨11, 0, .rw, 0⟩] }]

/-- Registers of the CE_ block. -/
def regsCe : List RegDesc :=
  [{ name := "CE_ENGSTAT", base := 0x500100, bytes := 8, dims := [(56, 0x8)],
     fields := [⟨63, 63, .ro, 0⟩, ⟨51, 32, .ro, 0⟩, ⟨31, 20, .ro, 0⟩, ⟨15, 0, .ro, 0⟩] }]

/-- Registers of the FE_ block. -/
def regsFe0 : List RegDesc :=
  [{ name := "FE_STAT", base := 0x600000, bytes := 4, dims := [],
     fields := [⟨31, 31, .ro, 0⟩, ⟨30, 30, .ro, 0⟩, ⟨29, 29, .ro, 0⟩, ⟨28, 28, .ro, 0⟩, ⟨27, 26, .ro, 0⟩, ⟨19, 16, .ro, 0⟩, ⟨15, 0, .ro, 0⟩] },
   { name := "FE_ID", base := 0x600008, bytes := 4, dims := [],
     fields := [⟨31, 31, .ro, 0⟩, ⟨30, 30, .ro, 0⟩, ⟨14, 0, .ro, 0⟩] },
   { name := "FE_TOPO", base := 0x600010, bytes := 4, dims := [],
     fields := [⟨31, 31, .rw, 0⟩, ⟨30, 30, .rw, 0⟩, ⟨14, 10, .rw, 0⟩, ⟨9, 5, .rw, 0⟩, ⟨4, 0, .rw, 0⟩] },
   { name := "FE_CFG", base := 0x600018, bytes := 4, dims := [],
     fields := [⟨31, 24, .rw, 0⟩, ⟨23, 16, .rw, 100⟩] },
   { name := "FE_RESPTO", base := 0x600020, bytes := 4, dims := [],
     fields := [⟨19, 0, .rw, 1000⟩] },
   { name := "FE_COLLTO", base := 0x600028, bytes := 4, dims := [],
     fields := [⟨19, 0, .rw, 15000⟩] },
   { name := "FE_READYTIME", base := 0x600030, bytes := 8, dims := [],
     fields := [⟨63, 0, .ro, 0⟩] },
   { name := "FE_ROUTEQ", base := 0x600040, bytes := 4, dims := [],
     fields := [⟨14, 0, .rw, 0⟩] },
   { name := "FE_ROUTERES", base := 0x600048, bytes := 8, dims := [],
     fields := [⟨63, 63, .ro, 0⟩, ⟨62, 62, .ro, 0⟩, ⟨61, 56, .ro, 0⟩, ⟨55, 52, .ro, 0⟩, ⟨15, 0, .ro, 0⟩] },
   { name := "FE_LINKFAIL", base := 0x600050, bytes := 4, dims := [],
     fields := [⟨15, 0, .ro, 0⟩] },
   { name := "FE_PORTCTL", base := 0x601000, bytes := 4, dims := [(16, 0x40)],
     fields := [⟨31, 31, .rw, 1⟩, ⟨30, 30, .wo, 0⟩] },
   { name := "FE_PORTSTAT", base := 0x601008, bytes := 8, dims := [(16, 0x40)],
     fields := [⟨63, 60, .ro, 0⟩, ⟨59, 56, .ro, 0⟩, ⟨55, 52, .ro, 0⟩, ⟨51, 37, .ro, 0⟩, ⟨31, 0, .rw, 0⟩] }]

/-- Registers of the FE_ block. -/
def regsFe1 : List RegDesc :=
  [{ name := "FE_MODID", base := 0x601010, bytes := 8, dims := [(16, 0x40)],
     fields := [⟨63, 62, .ro, 0⟩, ⟨55, 32, .ro, 0⟩, ⟨31, 0, .ro, 0⟩] },
   { name := "FE_MODWEAR", base := 0x601018, bytes := 8, dims := [(16, 0x40)],
     fields := [⟨63, 63, .ro, 0⟩, ⟨47, 32, .ro, 0⟩, ⟨31, 16, .ro, 0⟩, ⟨15, 0, .ro, 0⟩] }]

/-- Registers of the PM_ block. -/
def regsPm : List RegDesc :=
  [{ name := "PM_STAT", base := 0x200000, bytes := 4, dims := [],
     fields := [⟨31, 31, .ro, 0⟩, ⟨30, 30, .ro, 0⟩, ⟨29, 29, .ro, 0⟩, ⟨28, 28, .ro, 0⟩, ⟨27, 27, .ro, 0⟩, ⟨26, 26, .ro, 0⟩, ⟨25, 25, .w1c, 0⟩, ⟨24, 24, .w1c, 0⟩, ⟨23, 12, .ro, 3000⟩] },
   { name := "PM_CTL", base := 0x200008, bytes := 4, dims := [],
     fields := [⟨31, 31, .rw, 0⟩, ⟨30, 28, .rw, 0⟩, ⟨24, 16, .rw, 256⟩, ⟨11, 0, .rw, 3600⟩] },
   { name := "PM_CAP", base := 0x200010, bytes := 4, dims := [],
     fields := [⟨27, 16, .ro, 3600⟩, ⟨11, 0, .rw, 3000⟩] },
   { name := "PM_POWER", base := 0x200018, bytes := 8, dims := [],
     fields := [⟨63, 32, .ro, 0⟩, ⟨31, 0, .ro, 0⟩] },
   { name := "PM_INPUT", base := 0x200020, bytes := 8, dims := [],
     fields := [⟨63, 32, .ro, 0⟩, ⟨31, 0, .ro, 0⟩] },
   { name := "PM_ISSUE", base := 0x200028, bytes := 8, dims := [],
     fields := [⟨55, 32, .ro, 0⟩, ⟨24, 16, .ro, 256⟩, ⟨4, 0, .ro, 16⟩] },
   { name := "PM_CULMFREQ", base := 0x200030, bytes := 4, dims := [],
     fields := [⟨31, 24, .ro, 34⟩, ⟨23, 16, .ro, 34⟩, ⟨15, 8, .rw, 34⟩, ⟨7, 0, .rw, 34⟩] },
   { name := "PM_COUNT", base := 0x200038, bytes := 8, dims := [],
     fields := [⟨63, 32, .rw, 0⟩, ⟨31, 16, .rw, 0⟩, ⟨15, 0, .rw, 0⟩] },
   { name := "PM_NOTIFY", base := 0x200040, bytes := 4, dims := [],
     fields := [⟨29, 28, .rw, 0⟩, ⟨26, 16, .rw, 0⟩, ⟨4, 0, .rw, 0⟩] },
   { name := "PM_TEMPMAX", base := 0x200048, bytes := 4, dims := [],
     fields := [⟨31, 24, .ro, 0⟩, ⟨15, 0, .ro, 0⟩] },
   { name := "PM_TRIPREC", base := 0x200050, bytes := 8, dims := [],
     fields := [⟨63, 63, .ro, 0⟩, ⟨55, 48, .ro, 0⟩, ⟨47, 32, .ro, 0⟩] },
   { name := "PM_TEMP", base := 0x200100, bytes := 4, dims := [(184, 0x4)],
     fields := [⟨15, 0, .ro, 32768⟩] }]

/-- Registers of the SP_ block. -/
def regsSp : List RegDesc :=
  [{ name := "SP_BOOTSTAT", base := 0x300000, bytes := 4, dims := [],
     fields := [⟨31, 31, .ro, 0⟩, ⟨27, 24, .ro, 0⟩, ⟨23, 21, .ro, 0⟩, ⟨15, 8, .ro, 0⟩, ⟨6, 0, .ro, 0⟩] },
   { name := "SP_CMD", base := 0x300010, bytes := 8, dims := [],
     fields := [⟨63, 60, .wo, 0⟩, ⟨59, 57, .wo, 0⟩] },
   { name := "SP_CMDADDR", base := 0x300018, bytes := 8, dims := [],
     fields := [⟨55, 12, .rw, 0⟩] },
   { name := "SP_CMDSTAT", base := 0x300020, bytes := 4, dims := [],
     fields := [⟨31, 31, .ro, 0⟩, ⟨27, 24, .ro, 0⟩, ⟨23, 0, .ro, 0⟩] },
   { name := "SP_ARB", base := 0x300028, bytes := 8, dims := [],
     fields := [⟨41, 0, .ro, 0⟩] }]

/-- Registers of the SVC_ block. -/
def regsSvc : List RegDesc :=
  [{ name := "SVC_ADDR", base := 0x800008, bytes := 8, dims := [],
     fields := [⟨55, 0, .rw, 0⟩] },
   { name := "SVC_STAT", base := 0x800018, bytes := 8, dims := [],
     fields := [⟨63, 48, .rw, 0⟩, ⟨47, 32, .rw, 0⟩, ⟨31, 16, .rw, 0⟩] }]

/-- Every register map. -/
def regTable : List RegDesc :=
  regsCrown0 ++ regsCrown1 ++ regsCrown2 ++ regsCrown3 ++ regsTil0 ++ regsTil1 ++ regsCls ++ regsGlm0 ++ regsGlm1 ++ regsCulm ++ regsCp0 ++ regsCp1 ++ regsSe ++ regsHp ++ regsCe ++ regsFe0 ++ regsFe1 ++ regsPm ++ regsSp ++ regsSvc

/-- Whether an offset within a register family is an instance of it: decompose by the strides, largest first. -/
def dimsHit (dims : List (Nat × Nat)) (o : Nat) : Bool :=
  match dims with
  | [] => o == 0
  | (n, st) :: r => decide (o / st < n) && dimsHit r (o % st)

/-- The instance indices of an offset within a register family. -/
def dimsIndex (dims : List (Nat × Nat)) (o : Nat) : List Nat :=
  match dims with
  | [] => []
  | (_, st) :: r => (o / st) :: dimsIndex r (o % st)

/-- The register that starts at an offset of the register space. -/
def regAt (off : Nat) : Option RegDesc :=
  regTable.find? (fun d => decide (d.base ≤ off) && dimsHit d.dims (off - d.base))

/-- R9: the reset value of a register. -/
def RegDesc.reset (d : RegDesc) : BitVec 64 :=
  BitVec.ofNat 64 (d.fields.foldl (fun v f => v + (f.rst <<< f.lo)) 0)

/-- R5, R7, R8: the value a register takes from a write of the bits in `mask`, field by field. WO fields store nothing. -/
def RegDesc.writeFields (d : RegDesc) (old new mask : Nat) : Nat :=
  d.fields.foldl (fun v f =>
    let o := bitsOf old f.hi f.lo
    let m := bitsOf mask f.hi f.lo
    let n := bitsOf new f.hi f.lo &&& m
    match f.ty with
    | .rw => putBits v f.hi f.lo (o - (o &&& m) + n)
    | .w1c => putBits v f.hi f.lo (o - (o &&& n))
    | .w1s => putBits v f.hi f.lo (o ||| n)
    | .ro => v
    | .wo => v) old

end Sys2Proof.Machine
end

