-- ==== Sys2Proof/Machine/RegNames.lean ====
section
/-! DEFINITION. Offsets of the registers in the register space (R38), one function for each register map, its
arguments the instance numbers. -/

namespace Sys2Proof.Machine

/-- CROWN_MCGRP. -/
def rCrownMcgrp (i : Nat) : Nat := 0x1000 + 0x4 * i

/-- CROWN_PKGID. -/
def rCrownPkgid : Nat := 0x0

/-- CROWN_DIEID. -/
def rCrownDieid (i : Nat) : Nat := 0x100 + 0x8 * i

/-- CROWN_DIESTAT. -/
def rCrownDiestat (i : Nat) : Nat := 0x200 + 0x4 * i

/-- CROWN_GEOM. -/
def rCrownGeom : Nat := 0x8

/-- CROWN_FQBASE. -/
def rCrownFqbase (i : Nat) : Nat := 0x2000 + 0x20 * i

/-- CROWN_FQCTL. -/
def rCrownFqctl (i : Nat) : Nat := 0x2008 + 0x20 * i

/-- CROWN_FQPROD. -/
def rCrownFqprod (i : Nat) : Nat := 0x2010 + 0x20 * i

/-- CROWN_FQCONS. -/
def rCrownFqcons (i : Nat) : Nat := 0x2018 + 0x20 * i

/-- CROWN_FRESUME. -/
def rCrownFresume : Nat := 0x2200

/-- CROWN_FAULTCFG. -/
def rCrownFaultcfg : Nat := 0x2208

/-- CROWN_FAULTSTAT. -/
def rCrownFaultstat : Nat := 0x2210

/-- CROWN_LENDCFG. -/
def rCrownLendcfg : Nat := 0x2218

/-- CROWN_LENDREL. -/
def rCrownLendrel : Nat := 0x2220

/-- CROWN_RCHKB. -/
def rCrownRchkb (i : Nat) : Nat := 0x3000 + 0x10 * i

/-- CROWN_RCHKL. -/
def rCrownRchkl (i : Nat) : Nat := 0x3008 + 0x10 * i

/-- CROWN_FADMIT. -/
def rCrownFadmit (i : Nat) : Nat := 0x4000 + 0x4 * i

/-- CROWN_CTXXLT. -/
def rCrownCtxxlt (i : Nat) : Nat := 0x8000 + 0x8 * i

/-- CROWN_DIRSTAT. -/
def rCrownDirstat : Nat := 0x2300

/-- CROWN_SLBASE. -/
def rCrownSlbase : Nat := 0x2400

/-- CROWN_SLCTL. -/
def rCrownSlctl : Nat := 0x2408

/-- CROWN_SLPROD. -/
def rCrownSlprod : Nat := 0x2410

/-- CROWN_SLCONS. -/
def rCrownSlcons : Nat := 0x2418

/-- CROWN_SLSTAT. -/
def rCrownSlstat : Nat := 0x2420

/-- CROWN_EVROUTE. -/
def rCrownEvroute (i : Nat) : Nat := 0x10000 + 0x4 * i

/-- CROWN_EVRAISE. -/
def rCrownEvraise : Nat := 0x12000

/-- CROWN_TIME. -/
def rCrownTime : Nat := 0x10

/-- CROWN_DIECTL. -/
def rCrownDiectl (i : Nat) : Nat := 0x300 + 0x4 * i

/-- CROWN_RSTCTL. -/
def rCrownRstctl : Nat := 0x400

/-- CROWN_RSTREC. -/
def rCrownRstrec : Nat := 0x408

/-- CROWN_ERRBASE. -/
def rCrownErrbase : Nat := 0x2500

/-- CROWN_ERRCTL. -/
def rCrownErrctl : Nat := 0x2508

/-- CROWN_ERRPROD. -/
def rCrownErrprod : Nat := 0x2510

/-- CROWN_ERRCONS. -/
def rCrownErrcons : Nat := 0x2518

/-- CROWN_ERRSTAT. -/
def rCrownErrstat : Nat := 0x2520

/-- CROWN_STCMD. -/
def rCrownStcmd : Nat := 0x2600

/-- CROWN_STSTAT. -/
def rCrownStstat : Nat := 0x2608

/-- CROWN_STCFG. -/
def rCrownStcfg : Nat := 0x2610

/-- TIL_CLSEN. -/
def rTilClsen (i : Nat) : Nat := 0x1000000 + 0x100000 * i

/-- TIL_CLSMAPL. -/
def rTilClsmapl (i : Nat) : Nat := 0x1000008 + 0x100000 * i

/-- TIL_CLSMAPH. -/
def rTilClsmaph (i : Nat) : Nat := 0x1000010 + 0x100000 * i

/-- TIL_SCCTL. -/
def rTilScctl (i : Nat) : Nat := 0x1000800 + 0x100000 * i

/-- TIL_SCSTAT. -/
def rTilScstat (i : Nat) : Nat := 0x1000804 + 0x100000 * i

/-- TIL_SCCMD. -/
def rTilSccmd (i : Nat) : Nat := 0x1000808 + 0x100000 * i

/-- TIL_SCHITS. -/
def rTilSchits (i : Nat) : Nat := 0x1000810 + 0x100000 * i

/-- TIL_SCMISS. -/
def rTilScmiss (i : Nat) : Nat := 0x1000818 + 0x100000 * i

/-- TIL_SCDIRTYWB. -/
def rTilScdirtywb (i : Nat) : Nat := 0x1000820 + 0x100000 * i

/-- TIL_SCBYPASS. -/
def rTilScbypass (i : Nat) : Nat := 0x1000828 + 0x100000 * i

/-- TIL_SMPSTAT. -/
def rTilSmpstat (i : Nat) : Nat := 0x1000A00 + 0x100000 * i

/-- TIL_SMPVEC. -/
def rTilSmpvec (i : Nat) : Nat := 0x1000A08 + 0x100000 * i

/-- TIL_SMPCYC. -/
def rTilSmpcyc (i : Nat) : Nat := 0x1000A10 + 0x100000 * i

/-- CLS_MXSTAT. -/
def rClsMxstat (i : Nat) (j : Nat) : Nat := 0x1010000 + 0x100000 * i + 0x1000 * j

/-- CLS_MXFLAG. -/
def rClsMxflag (i : Nat) (j : Nat) (k : Nat) : Nat := 0x1010040 + 0x100000 * i + 0x1000 * j + 0x4 * k

/-- CLS_SBNR. -/
def rClsSbnr (i : Nat) (j : Nat) (k : Nat) : Nat := 0x1010100 + 0x100000 * i + 0x1000 * j + 0x20 * k

/-- CLS_OPNR. -/
def rClsOpnr (i : Nat) (j : Nat) (k : Nat) : Nat := 0x1010108 + 0x100000 * i + 0x1000 * j + 0x20 * k

/-- CLS_ACCBSY. -/
def rClsAccbsy (i : Nat) (j : Nat) (k : Nat) : Nat := 0x1010110 + 0x100000 * i + 0x1000 * j + 0x20 * k

/-- CLS_LIMIT. -/
def rClsLimit (i : Nat) (j : Nat) (k : Nat) : Nat := 0x1010118 + 0x100000 * i + 0x1000 * j + 0x20 * k

/-- CLS_PASSES. -/
def rClsPasses (i : Nat) (j : Nat) (k : Nat) : Nat := 0x1010300 + 0x100000 * i + 0x1000 * j + 0x8 * k

/-- CLS_LEXC. -/
def rClsLexc (i : Nat) (j : Nat) : Nat := 0x1010400 + 0x100000 * i + 0x1000 * j

/-- CLS_LEXPC. -/
def rClsLexpc (i : Nat) (j : Nat) : Nat := 0x1010408 + 0x100000 * i + 0x1000 * j

/-- CLS_LEXINST. -/
def rClsLexinst (i : Nat) (j : Nat) : Nat := 0x1010410 + 0x100000 * i + 0x1000 * j

/-- GLM_STAT. -/
def rGlmStat (i : Nat) : Nat := 0x2000000 + 0x100000 * i

/-- GLM_ECCCNT. -/
def rGlmEcccnt (i : Nat) : Nat := 0x2000008 + 0x100000 * i

/-- GLM_ERRREC. -/
def rGlmErrrec (i : Nat) : Nat := 0x2000010 + 0x100000 * i

/-- GLM_ERRADDR. -/
def rGlmErraddr (i : Nat) : Nat := 0x2000018 + 0x100000 * i

/-- GLM_SCRUB. -/
def rGlmScrub (i : Nat) : Nat := 0x2000020 + 0x100000 * i

/-- GLM_REPCTL. -/
def rGlmRepctl (i : Nat) : Nat := 0x2000028 + 0x100000 * i

/-- GLM_REPCMD. -/
def rGlmRepcmd (i : Nat) : Nat := 0x2000030 + 0x100000 * i

/-- GLM_REPSTAT. -/
def rGlmRepstat (i : Nat) : Nat := 0x2000038 + 0x100000 * i

/-- GLM_NMVCTL. -/
def rGlmNmvctl (i : Nat) : Nat := 0x2000100 + 0x100000 * i

/-- GLM_NMVSTAT. -/
def rGlmNmvstat (i : Nat) : Nat := 0x2000108 + 0x100000 * i

/-- GLM_NMVFLAG. -/
def rGlmNmvflag (i : Nat) : Nat := 0x2000110 + 0x100000 * i

/-- GLM_NMVBEATS. -/
def rGlmNmvbeats (i : Nat) : Nat := 0x2000118 + 0x100000 * i

/-- GLM_NMVWAIT. -/
def rGlmNmvwait (i : Nat) : Nat := 0x2000120 + 0x100000 * i

/-- GLM_GOT. -/
def rGlmGot (i : Nat) (j : Nat) : Nat := 0x2040000 + 0x100000 * i + 0x4 * j

/-- CULM_SCCTL. -/
def rCulmScctl (i : Nat) : Nat := 0x1800800 + 0x200000 * i

/-- CULM_SCSTAT. -/
def rCulmScstat (i : Nat) : Nat := 0x1800804 + 0x200000 * i

/-- CULM_SCCMD. -/
def rCulmSccmd (i : Nat) : Nat := 0x1800808 + 0x200000 * i

/-- CULM_SCHITS. -/
def rCulmSchits (i : Nat) : Nat := 0x1800810 + 0x200000 * i

/-- CULM_SCMISS. -/
def rCulmScmiss (i : Nat) : Nat := 0x1800818 + 0x200000 * i

/-- CULM_SCDIRTYWB. -/
def rCulmScdirtywb (i : Nat) : Nat := 0x1800820 + 0x200000 * i

/-- CULM_SCBYPASS. -/
def rCulmScbypass (i : Nat) : Nat := 0x1800828 + 0x200000 * i

/-- CULM_RSTVEC. -/
def rCulmRstvec (i : Nat) : Nat := 0x1800900 + 0x200000 * i

/-- CULM_CORECTL. -/
def rCulmCorectl (i : Nat) (j : Nat) : Nat := 0x1810000 + 0x200000 * i + 0x20 * j

/-- CULM_CORESTAT. -/
def rCulmCorestat (i : Nat) (j : Nat) : Nat := 0x1810008 + 0x200000 * i + 0x20 * j

/-- CP_STAT. -/
def rCpStat : Nat := 0x100000

/-- CP_DISPCNT. -/
def rCpDispcnt : Nat := 0x100008

/-- CP_DBSTAT. -/
def rCpDbstat : Nat := 0x100010

/-- CP_WAITSTAT. -/
def rCpWaitstat : Nat := 0x100018

/-- CP_FENCECFG. -/
def rCpFencecfg : Nat := 0x100020

/-- CP_QSEL. -/
def rCpQsel : Nat := 0x100100

/-- CP_QINFO0. -/
def rCpQinfo0 : Nat := 0x100108

/-- CP_QINFO1. -/
def rCpQinfo1 : Nat := 0x100110

/-- CP_CQSEL. -/
def rCpCqsel : Nat := 0x100118

/-- CP_CQINFO0. -/
def rCpCqinfo0 : Nat := 0x100120

/-- CP_CQINFO1. -/
def rCpCqinfo1 : Nat := 0x100128

/-- CP_SCHEDCFG. -/
def rCpSchedcfg : Nat := 0x101000

/-- CP_CTXDESC. -/
def rCpCtxdesc (i : Nat) : Nat := 0x110000 + 0x8 * i

/-- CP_CTXSAVE. -/
def rCpCtxsave (i : Nat) : Nat := 0x120000 + 0x8 * i

/-- CP_CTXSTAT. -/
def rCpCtxstat (i : Nat) : Nat := 0x130000 + 0x8 * i

/-- SE_STAT. -/
def rSeStat : Nat := 0x400000

/-- SE_STATEBASE. -/
def rSeStatebase : Nat := 0x400008

/-- SE_SIDBLK. -/
def rSeSidblk (i : Nat) : Nat := 0x400100 + 0x4 * i

/-- SE_PORTCFG. -/
def rSePortcfg (i : Nat) : Nat := 0x401000 + 0x100 * i

/-- SE_PORTMAC. -/
def rSePortmac (i : Nat) : Nat := 0x401008 + 0x100 * i

/-- SE_PORTERR. -/
def rSePorterr (i : Nat) : Nat := 0x401010 + 0x100 * i

/-- SE_EXBASE. -/
def rSeExbase (i : Nat) : Nat := 0x401020 + 0x100 * i

/-- SE_EXCTL. -/
def rSeExctl (i : Nat) : Nat := 0x401028 + 0x100 * i

/-- SE_EXPTR. -/
def rSeExptr (i : Nat) : Nat := 0x401030 + 0x100 * i

/-- HP_PORTCTL. -/
def rHpPortctl (i : Nat) : Nat := 0x700000 + 0x100 * i

/-- HP_PORTSTAT. -/
def rHpPortstat (i : Nat) : Nat := 0x700008 + 0x100 * i

/-- HP_T5OFF. -/
def rHpT5off (i : Nat) : Nat := 0x700010 + 0x100 * i

/-- HP_RPCTX. -/
def rHpRpctx (i : Nat) : Nat := 0x700018 + 0x100 * i

/-- HP_RPWIN. -/
def rHpRpwin (i : Nat) : Nat := 0x700020 + 0x100 * i

/-- HP_PORTCNT. -/
def rHpPortcnt (i : Nat) : Nat := 0x700028 + 0x100 * i

/-- HP_CXLDEC. -/
def rHpCxldec (i : Nat) : Nat := 0x701000 + 0x10 * i

/-- HP_OWNMAP. -/
def rHpOwnmap (i : Nat) (j : Nat) : Nat := 0x702000 + 0x200 * i + 0x4 * j

/-- HP_APER. -/
def rHpAper (i : Nat) (j : Nat) : Nat := 0x703000 + 0x200 * i + 0x8 * j

/-- CE_ENGSTAT. -/
def rCeEngstat (i : Nat) : Nat := 0x500100 + 0x8 * i

/-- FE_STAT. -/
def rFeStat : Nat := 0x600000

/-- FE_ID. -/
def rFeId : Nat := 0x600008

/-- FE_TOPO. -/
def rFeTopo : Nat := 0x600010

/-- FE_CFG. -/
def rFeCfg : Nat := 0x600018

/-- FE_RESPTO. -/
def rFeRespto : Nat := 0x600020

/-- FE_COLLTO. -/
def rFeCollto : Nat := 0x600028

/-- FE_READYTIME. -/
def rFeReadytime : Nat := 0x600030

/-- FE_ROUTEQ. -/
def rFeRouteq : Nat := 0x600040

/-- FE_ROUTERES. -/
def rFeRouteres : Nat := 0x600048

/-- FE_LINKFAIL. -/
def rFeLinkfail : Nat := 0x600050

/-- FE_PORTCTL. -/
def rFePortctl (i : Nat) : Nat := 0x601000 + 0x40 * i

/-- FE_PORTSTAT. -/
def rFePortstat (i : Nat) : Nat := 0x601008 + 0x40 * i

/-- FE_MODID. -/
def rFeModid (i : Nat) : Nat := 0x601010 + 0x40 * i

/-- FE_MODWEAR. -/
def rFeModwear (i : Nat) : Nat := 0x601018 + 0x40 * i

/-- PM_STAT. -/
def rPmStat : Nat := 0x200000

/-- PM_CTL. -/
def rPmCtl : Nat := 0x200008

/-- PM_CAP. -/
def rPmCap : Nat := 0x200010

/-- PM_POWER. -/
def rPmPower : Nat := 0x200018

/-- PM_INPUT. -/
def rPmInput : Nat := 0x200020

/-- PM_ISSUE. -/
def rPmIssue : Nat := 0x200028

/-- PM_CULMFREQ. -/
def rPmCulmfreq : Nat := 0x200030

/-- PM_COUNT. -/
def rPmCount : Nat := 0x200038

/-- PM_NOTIFY. -/
def rPmNotify : Nat := 0x200040

/-- PM_TEMPMAX. -/
def rPmTempmax : Nat := 0x200048

/-- PM_TRIPREC. -/
def rPmTriprec : Nat := 0x200050

/-- PM_TEMP. -/
def rPmTemp (i : Nat) : Nat := 0x200100 + 0x4 * i

/-- SP_BOOTSTAT. -/
def rSpBootstat : Nat := 0x300000

/-- SP_CMD. -/
def rSpCmd : Nat := 0x300010

/-- SP_CMDADDR. -/
def rSpCmdaddr : Nat := 0x300018

/-- SP_CMDSTAT. -/
def rSpCmdstat : Nat := 0x300020

/-- SP_ARB. -/
def rSpArb : Nat := 0x300028

/-- SVC_ADDR. -/
def rSvcAddr : Nat := 0x800008

/-- SVC_STAT. -/
def rSvcStat : Nat := 0x800018

end Sys2Proof.Machine
end

