-- ==== Sys2Proof/Machine/State.lean ====
section
/-! DEFINITION. The machine's state: the part and the queue of commands that wait, first in, first out; the
reasons a step can stop. -/

namespace Sys2Proof.Machine

/-- The part and the commands that wait. -/
structure State where
  dev : Dev
  pending : List Instr
deriving DecidableEq, Repr

/-- Why a step stops with a fault. -/
inductive Fault where
  /-- Raised by every meaning when a command's operands name a unit, an offset or a value that does not exist
  (Instr.wf). Safe: no hardware receives such a command. -/
  | illFormed
deriving DecidableEq, Repr

/-- Why a step refuses. -/
inductive Refusal where
  /-- Raised by an arm of exec for a command that has no meaning yet. Safe. -/
  | notModelled (mnemonic : String)
deriving DecidableEq, Repr

/-- The machine right after power-on reset (R9, R463), with no command waiting. -/
def State.reset : State := { dev := Dev.reset, pending := [] }

end Sys2Proof.Machine
end

