-- ==== Sys2Proof/Machine/Ops.lean ====
section
/-! DEFINITION. Named operations on the part that every block shares: the form of every meaning, registers and
their fields, free values, error records (R483 to R485), core events (R264), MSI-X messages (R396). -/

namespace Sys2Proof.Machine

open Sys2Proof

/-- What a meaning answers. -/
abbrev Out := Host.Outcome State Fault Refusal

/-- The form of every meaning: a well-formed command (`ok`, as `Instr.wf` says) changes the part and leaves the
queue. -/
def doCmd (ok : Bool) (f : Dev → Dev) (s : State) : Out :=
  if ok then .next { s with dev := f s.dev } else .fault .illFormed

/-- R307, R105, R435: status codes. -/
inductive Status where
  | success | aborted | faultUnserviced | protection | poison | illegalInstruction | illegalRowSequence
  | misaligned | laneTrap | fenceTimeout | deadlock | doorbellAhead | fenceError | collTimeout
  | geometryMismatch | placement | invalidField | badOpcode | geometryChanged | collMismatch | dieLost
  | memOffline | remoteDead | portDown | busy | noResource
deriving DecidableEq, Repr

/-- R307: the code of a status. -/
def Status.code : Status → Nat
  | .success => 0x0000 | .aborted => 0x0101 | .faultUnserviced => 0x0102 | .protection => 0x0103
  | .poison => 0x0104 | .illegalInstruction => 0x0105 | .illegalRowSequence => 0x0106 | .misaligned => 0x0107
  | .laneTrap => 0x0108 | .fenceTimeout => 0x0201 | .deadlock => 0x0202 | .doorbellAhead => 0x0203
  | .fenceError => 0x0204 | .collTimeout => 0x0205 | .geometryMismatch => 0x0301 | .placement => 0x0302
  | .invalidField => 0x0303 | .badOpcode => 0x0304 | .geometryChanged => 0x0305 | .collMismatch => 0x0306
  | .dieLost => 0x0401 | .memOffline => 0x0402 | .remoteDead => 0x0403 | .portDown => 0x0404
  | .busy => 0x0501 | .noResource => 0x0502

/-! ## Registers -/

/-- The value a register holds: as written, else its reset value (R9). -/
def Dev.reg (d : Dev) (off : Nat) : Nat :=
  match d.regs.find off with
  | some v => v.toNat
  | none =>
    match regAt off with
    | some r => r.reset.toNat
    | none => 0

/-- Give a register a value. -/
def Dev.setReg (d : Dev) (off v : Nat) : Dev := { d with regs := d.regs.set off (BitVec.ofNat 64 v) }

/-- Bits [hi:lo] of a register. -/
def Dev.fld (d : Dev) (off hi lo : Nat) : Nat := bitsOf (d.reg off) hi lo

/-- One bit of a register. -/
def Dev.bit (d : Dev) (off i : Nat) : Bool := (d.reg off).testBit i

/-- Give bits [hi:lo] of a register a value. -/
def Dev.setFld (d : Dev) (off hi lo v : Nat) : Dev := d.setReg off (putBits (d.reg off) hi lo v)

/-- Give one bit of a register a value. -/
def Dev.setBit (d : Dev) (off i : Nat) (b : Bool) : Dev := d.setFld off i i (if b then 1 else 0)

/-- Add to a counter field that saturates. -/
def Dev.addSat (d : Dev) (off hi lo n : Nat) : Dev :=
  d.setFld off hi lo (min (d.fld off hi lo + n) (2 ^ (hi + 1 - lo) - 1))

/-- Add to a counter field that wraps. -/
def Dev.addWrap (d : Dev) (off hi lo n : Nat) : Dev := d.setFld off hi lo (d.fld off hi lo + n)

/-- Return every register whose offset satisfies `p` to its reset value (R9). -/
def Dev.resetRegs (d : Dev) (p : Nat → Bool) : Dev := { d with regs := d.regs.filter (fun e => !p e.1) }

/-- `x` held within [lo, hi]: the nearest bound for values outside. -/
def nearest (lo hi x : Nat) : Nat := max lo (min hi x)

/-! ## Free values -/

/-- The next free value and the part with the count advanced (notes/assumptions/3.md). -/
def Dev.fresh (d : Dev) : BitVec 64 × Dev := (Config.freeValue d.free, { d with free := d.free + 1 })

/-! ## Dies (R12, R27) -/

/-- R12: the die slot of a Tiller. -/
def slotTil (t : Nat) : Nat := 1 + t
/-- R12: the die slot of a Culm. -/
def slotCulm (u : Nat) : Nat := 9 + u
/-- R12: the die slot of a Glume. -/
def slotGlm (g : Nat) : Nat := 11 + g

/-- CROWN_DIESTAT.STATE: 0 ACTIVE, 1 RESETTING, 2 FENCED, 3 OFFLINE. -/
def Dev.dieState (d : Dev) (s : Nat) : Nat := d.fld (rCrownDiestat s) 2 0

/-- The die is ACTIVE. -/
def Dev.dieActive (d : Dev) (s : Nat) : Bool := d.dieState s == 0

/-- Physical cluster `c` of Tiller `t` is enabled, as the maps the Crown keeps say (R29). -/
def Dev.clsEnabled (d : Dev) (t c : Nat) : Bool :=
  if c < 64 then (d.reg (rTilClsmapl t)).testBit c else (d.reg (rTilClsmaph t)).testBit (c - 64)

/-! ## Core events and interrupts (R264, R396) -/

/-- R264: a raise sets PEND in CROWN_EVROUTE; a raise while PEND is 1 merges. -/
def Dev.raiseEvent (d : Dev) (e : Nat) : Dev := d.setBit (rCrownEvroute (e % 2048)) 30 true

/-- A host port as it stands. -/
def Dev.port (d : Dev) (p : Nat) : HostPort := d.hp.get {} p

/-- R396: a word of a port's MSI-X table; the PCIe specification has every vector masked at reset
(notes/assumptions/45.md). -/
def HostPort.msixWord (h : HostPort) (i : Nat) : BitVec 32 := h.msix.get (if i % 4 = 3 then 1 else 0) i

/-- Change a host port. -/
def Dev.setPort (d : Dev) (p : Nat) (f : HostPort → HostPort) : Dev := { d with hp := d.hp.upd {} p f }

/-- R389: the port runs in root mode. -/
def Dev.isRoot (d : Dev) (p : Nat) : Bool := d.pins.hpmode.toNat.testBit p

/-- The link is up and no loss is being handled. -/
def Dev.linkUp (d : Dev) (p : Nat) : Bool := d.bit (rHpPortstat p) 62

/-- R396: an MSI-X message of vector `vec` on port `p`: dropped and counted when the port is no endpoint, its
link is down or MSI-X is disabled; held as pending when the vector or the function is masked. -/
def Dev.msix (d : Dev) (p vec : Nat) : Dev :=
  let hp := d.port p
  if d.isRoot p || !d.linkUp p || !hp.fn.msixOn then d.addSat (rHpPortcnt p) 15 0 1
  else if hp.fn.msixMask || (hp.msixWord (4 * vec + 3)).getLsbD 0 then
    d.setPort p (fun h => { h with pba := if h.pba.contains vec then h.pba else h.pba ++ [vec] })
  else
    let w := fun i => (hp.msixWord (4 * vec + i)).toNat
    { d with hostTx := d.hostTx ++ [.msix p vec (BitVec.ofNat 64 (w 0 + 2 ^ 32 * w 1)) (BitVec.ofNat 64 (w 2))] }

/-- R396: pending vectors that are no longer masked are sent. -/
def Dev.msixPending (d : Dev) (p : Nat) : Dev :=
  let l := (d.port p).pba
  l.foldl (fun d v => d.msix p v) (d.setPort p (fun h => { h with pba := [] }))

/-- The interrupt a DEST and VEC pair names (R196, R254, R303, R368, R485): none, MSI-X on HP0 or HP1, or a core
event. -/
def Dev.interrupt (d : Dev) (dest vec : Nat) : Dev :=
  match dest with
  | 1 => d.msix 0 vec
  | 2 => d.msix 1 vec
  | 3 => d.raiseEvent vec
  | _ => d

/-! ## Error records (R483 to R485) -/

/-- R484: the severity of a kind, for the slot it names. -/
def errSev (kind slot : Nat) : Nat :=
  if kind = 0x08 then (if slot = 0 then 2 else 1)
  else if kind = 0x03 || kind = 0x0A || kind = 0x11 || kind = 0x19 || kind = 0x1A || kind = 0x1B then 0
  else 1

/-- R485: a new error event joins a held record of the same kind, slot and unit, or makes a new one. R509: a
record of severity FATAL asserts CATERR_N. -/
def Dev.error (d : Dev) (kind slot unit : Nat) (status addr detail : Nat := 0) (sev : Option Nat := none)
    (n : Nat := 1) : Dev :=
  let v := sev.getD (errSev kind slot)
  let same := fun (e : ErrRec) => e.kind == kind && e.slot == slot && e.unit == unit
  let errs :=
    if d.sup.errs.any same then
      d.sup.errs.map (fun e => if same e then { e with count := min 65535 (e.count + n) } else e)
    else d.sup.errs ++ [⟨kind, v, slot, unit, min 65535 n, status, addr, detail, d.time⟩]
  { d with sup := { d.sup with errs := errs }, pins := { d.pins with caterr := d.pins.caterr || v == 2 } }

/-- R6, R39: a control-space access error is counted, and recorded as CTRL_ACCESS. -/
def Dev.ctrlError (d : Dev) (off : Nat) : Dev :=
  (d.addSat rCrownErrstat 47 32 1).error 0x1B 31 0 0 off

/-! ## Words in lists -/

/-- The bytes of a list of 32-bit words (R10). -/
def wordBytes (l : List Nat) : List Byte := l.flatMap (fun w => leBytes 4 w)

/-- The 32-bit words of a list of bytes. -/
def bytesWords (l : List Byte) : List Nat :=
  (List.range (l.length / 4)).map (fun i => ofLe ((l.drop (4 * i)).take 4))

/-- Word `i` of a list of words. -/
def word (l : List Nat) (i : Nat) : Nat := l.getD i 0

/-- The 64-bit field at words i and i + 1 (R10). -/
def dword (l : List Nat) (i : Nat) : Nat := word l i + 2 ^ 32 * word l (i + 1)

end Sys2Proof.Machine
end

