-- ==== Sys2Proof/Machine/MemOps.lean ====
section
/-! DEFINITION. Memory: bytes in canonical form, the physical address map and its checks (R32 to R39, R154,
R180, R203 to R206, R404, R406), poison (R147), page walks and translation (R187 to R192). -/

namespace Sys2Proof.Machine

open Sys2Proof

/-! ## Bytes -/

/-- The canonical form: addresses strictly rising, no entry equal to what an unlisted address reads as. -/
def Memory.wf : Memory → Bool
  | [] => true
  | [c] => c.2 != 0
  | c :: c' :: r => c.2 != 0 && decide (c.1 < c'.1) && Memory.wf (c' :: r)

/-- Read one byte; an unlisted address reads 0 (notes/assumptions/8.md). -/
def Memory.read (m : Memory) (a : Nat) : Byte :=
  match m with
  | [] => 0
  | (k, v) :: r => if k = a then v else Memory.read r a

/-- Drop what an address lists. -/
def Memory.clear (m : Memory) (a : Nat) : Memory :=
  match m with
  | [] => []
  | (k, v) :: r => if k = a then Memory.clear r a else (k, v) :: Memory.clear r a

/-- Put a byte that is not 0 at an address. -/
def Memory.put (m : Memory) (a : Nat) (b : Byte) : Memory :=
  match m with
  | [] => [(a, b)]
  | (k, v) :: r =>
    if k < a then (k, v) :: Memory.put r a b
    else if k = a then (k, b) :: r
    else (a, b) :: (k, v) :: r

/-- Write one byte, keeping the canonical form. -/
def Memory.write (m : Memory) (a : Nat) (b : Byte) : Memory := if b = 0 then m.clear a else m.put a b

/-- Read `n` bytes. -/
def Memory.readN (m : Memory) (a n : Nat) : List Byte := (List.range n).map (fun i => m.read (a + i))

/-- Write bytes from an address on. -/
def Memory.writeN (m : Memory) (a : Nat) (l : List Byte) : Memory :=
  match l with
  | [] => m
  | b :: r => Memory.writeN (m.write a b) (a + 1) r

/-! ## The physical address map -/

/-- What a physical address reaches (R32). HBM and core memory by the address that gives a line its coherence
identity (R35); core and host memory with their port; control space by offset; the fabric window by device and
offset; cluster SRAM through a T0 page. -/
inductive Home where
  | hbm (pa : Nat)
  | core (pa port : Nat)
  | host (pa port : Nat)
  | ctrl (off : Nat)
  | fabric (dev off : Nat)
  | sram (t c off : Nat)
  | outside
deriving DecidableEq, Repr

/-- R34: Glume and stack-local address of an interleaved address. -/
def hbmLocal (pa : Nat) : Nat × Nat :=
  let stripe := pa % 0x2400000000 / 4096
  (pa / 0x2400000000 * 3 + stripe % 3, stripe / 3 * 4096 + pa % 4096)

/-- R207: the interleaved address of a stack-local address. -/
def hbmInter (g loc : Nat) : Nat := g / 3 * 0x2400000000 + ((loc / 4096) * 3 + g % 3) * 4096 + loc % 4096

/-- The endpoint ports, lowest first (R33). -/
def Dev.endpoints (d : Dev) : List Nat := (List.range 6).filter (fun p => !d.isRoot p)

/-- R404: the port of a core-memory address, if a decoder covers it. -/
def Dev.corePort (d : Dev) (pa : Nat) : Option Nat :=
  let o := pa - 0x100000000000
  (lowest 8 (fun i =>
    let r := rHpCxldec i
    d.bit r 63 && decide (d.fld r 29 16 ≤ o / 2 ^ 30 ∧ o / 2 ^ 30 ≤ d.fld r 29 16 + d.fld r 13 0))).map (fun i =>
      let r := rHpCxldec i
      let ways := match d.fld r 62 61 with | 1 => 2 | 2 => 4 | _ => 1
      let w := (o - d.fld r 29 16 * 2 ^ 30) / 4096 % ways
      bitsOf (d.reg r) (36 + 3 * w + 2) (36 + 3 * w))

/-- R422: the device's own ID, once it holds one. -/
def Dev.ownId (d : Dev) : Option Nat := if d.bit rFeId 31 then some (d.fld rFeId 14 0) else none

/-- R32 to R37, R39: what a physical address reaches. -/
def Dev.home (d : Dev) (pa : Nat) : Home :=
  if pa < 0x9000000000 then .hbm pa
  else if 0x10000000000 ≤ pa ∧ pa < 0x1C000000000 then
    let o := pa - 0x10000000000
    if o % 0x1000000000 < 0xC00000000 then .hbm (hbmInter (o / 0x1000000000) (o % 0x1000000000)) else .outside
  else if 0x100000000000 ≤ pa ∧ pa < 0x200000000000 then
    match d.corePort pa with
    | some p => .core pa p
    | none => .outside
  else if 0x200000000000 ≤ pa ∧ pa < 0x400000000000 then
    match d.endpoints[(pa - 0x200000000000) / 0x100000000000]? with
    | some p => .host pa p
    | none => .outside
  else if 0xF00000000000 ≤ pa ∧ pa < 0xF10000000000 then .ctrl (pa - 0xF00000000000)
  else if 0x80000000000000 ≤ pa ∧ pa < 2 ^ 56 then
    let dev := pa / 2 ^ 40 % 2 ^ 15
    let off := pa % 2 ^ 40
    if d.ownId = some dev ∧ off < 0x9000000000 then .hbm off else .fabric dev off
  else .outside

/-- R154: an interleave set is online when its three Glumes are ACTIVE and ONLINE. -/
def Dev.setOnline (d : Dev) (n : Nat) : Bool :=
  [3 * n, 3 * n + 1, 3 * n + 2].all (fun g => d.dieActive (slotGlm g) && d.fld (rGlmStat g) 2 0 == 1)

/-- R406: requests to the port complete with PORT_DOWN. -/
def Dev.portLost (d : Dev) (p : Nat) : Bool := d.bit (rHpPortstat p) 61

/-- R406: the port is in the first 100 ms of a loss, and device requests to it wait. -/
def Dev.portWaits (d : Dev) (p : Nat) : Bool := !d.portLost p && (d.port p).lossAt.isSome

/-- R203: whether a granule or range entry admits an access: mode, owner, write protection; `fab` for an inbound
fabric access admitted under R182. -/
def ownerPass (mode owner : Nat) (wp : Bool) (ctx : Nat) (write fab : Bool) : Bool :=
  if fab then mode == 3 && !(wp && write)
  else ctx == 0 || (!(wp && write) && (match mode with | 1 => ctx == owner | 2 => true | _ => false))

/-- R203: the granule check of an HBM address. -/
def Dev.gotPass (d : Dev) (pa ctx : Nat) (write fab : Bool) : Bool :=
  let (g, loc) := hbmLocal pa
  let r := rGlmGot g (loc / 0x200000)
  ownerPass (d.fld r 31 30) (d.fld r 11 0) (d.bit r 29) ctx write fab

/-- R205: the range check of a T3 or T5 address: the lowest entry that covers it decides. -/
def Dev.rchkPass (d : Dev) (pa ctx : Nat) (write : Bool) : Bool :=
  match lowest 256 (fun n => d.bit (rCrownRchkb n) 63 &&
      decide (d.fld (rCrownRchkb n) 55 16 ≤ pa / 65536 ∧ pa / 65536 ≤ d.fld (rCrownRchkl n) 55 16)) with
  | some n =>
    let r := rCrownRchkb n
    let mode := d.fld r 62 61
    ownerPass (if mode = 3 then 0 else mode) (d.fld r 11 0) (d.bit r 60) ctx write false
  | none => ctx == 0

/-- The clusters granted to a context, as keys 84 × Tiller + cluster. -/
def Dev.granted (d : Dev) (ctx : Nat) : List Nat := (d.cp.ctxs.get {} ctx).groups.flatMap (·.clusters)

/-- R180: a T0 page is reached only on an enabled cluster granted to the context. -/
def Dev.sramPass (d : Dev) (t c ctx : Nat) : Bool :=
  d.dieActive (slotTil t) && d.clsEnabled t c && (d.granted ctx).contains (84 * t + c)

/-- What the checks say of an access. -/
inductive Verdict where
  | pass
  | wait
  | refuse (s : Status)
deriving DecidableEq, Repr

/-- The verdict on a port's memory. -/
def Dev.portVerdict (d : Dev) (p : Nat) : Verdict :=
  if d.portLost p then .refuse .portDown else if d.portWaits p then .wait else .pass

/-- R33, R154, R180, R203, R205, R406: the checks of one access that lies within one granule and one line. Control
space and the fabric window are checked where they are reached. -/
def Dev.verdict (d : Dev) (h : Home) (ctx : Nat) (write : Bool) (fab : Bool := false) : Verdict :=
  match h with
  | .hbm pa =>
    if !d.setOnline (pa / 0x2400000000) then .refuse .memOffline
    else if d.gotPass pa ctx write fab then .pass else .refuse .protection
  | .core pa p =>
    if !d.rchkPass pa ctx write then .refuse .protection else d.portVerdict p
  | .host pa p =>
    if !d.rchkPass pa ctx write then .refuse .protection else d.portVerdict p
  | .sram t c _ => if d.sramPass t c ctx then .pass else .refuse .protection
  | .ctrl _ => .refuse .protection
  | .fabric _ _ => .pass
  | .outside => .refuse .protection

/-- The physical address of a home whose bytes lie in `mem`. -/
def Home.key : Home → Option Nat
  | .hbm pa => some pa
  | .core pa _ => some pa
  | .host pa _ => some pa
  | _ => none

/-- R397: where the byte at a physical address lies in `mem`: an address of a T5 range reaches the host bus address
that HP_T5OFF of its port gives, in that port's host memory (keys from 2^65 on); every other address is its own key. -/
def Dev.place (d : Dev) (a : Nat) : Nat :=
  if 0x200000000000 ≤ a ∧ a < 0x400000000000 then
    match d.endpoints[(a - 0x200000000000) / 0x100000000000]? with
    | some p => 2 ^ 64 * (2 + p) + (a % 0x100000000000 + d.reg (rHpT5off p) / 4096 * 4096) % 2 ^ 64
    | none => a
  else a

/-- R155: the line belongs to an interleave set whose contents were lost. -/
def Dev.lineLost (d : Dev) (line : Nat) : Bool := decide (line < 0x120000000) && d.ms.lost.contains (line / 0x48000000)

/-- R147: a line holds a poison mark. -/
def Dev.lineBad (d : Dev) (line : Nat) : Bool := d.ms.poison.contains line != d.lineLost line

/-- Lists of numbers in rising order without repeats. -/
def insertNat (l : List Nat) (x : Nat) : List Nat :=
  match l with
  | [] => [x]
  | y :: r => if y < x then y :: insertNat r x else if y = x then y :: r else x :: y :: r

/-- R147: mark a line poisoned. -/
def Dev.poisonLine (d : Dev) (line : Nat) : Dev :=
  { d with ms := { d.ms with poison := if d.lineLost line then d.ms.poison.filter (· != line) else insertNat d.ms.poison line } }

/-- R147: a write of all 128 bytes clears the mark. -/
def Dev.cleanLine (d : Dev) (line : Nat) : Dev :=
  { d with ms := { d.ms with poison := if d.lineLost line then insertNat d.ms.poison line else d.ms.poison.filter (· != line) } }

/-- R155: the contents of an interleave set are lost: every line of it is poisoned until written. -/
def Dev.loseSet (d : Dev) (n : Nat) : Dev :=
  { d with ms := { d.ms with poison := d.ms.poison.filter (fun l => decide (l / 0x48000000 ≠ n)), lost := insertNat d.ms.lost n } }

/-- What a byte of a cluster's SRAM reads as when nothing has written it: 0, or a free value once its contents have been
lost (R321; notes/assumptions/11.md). -/
def Dev.sramBlank (d : Dev) (cls off : Nat) : Byte :=
  match d.ms.sramGen.get 0 cls with
  | 0 => 0
  | g => Config.lostByte cls g off

/-- Bytes of cluster SRAM. -/
def Dev.sramRead (d : Dev) (cls off n : Nat) : List Byte :=
  (List.range n).map (fun i => Memory.read (d.ms.sram.get [] cls) (off + i) ^^^ d.sramBlank cls (off + i))

/-- Write bytes of cluster SRAM. -/
def Dev.sramWrite (d : Dev) (cls off : Nat) (l : List Byte) : Dev :=
  { d with ms := { d.ms with sram := d.ms.sram.upd [] cls (fun m =>
      Memory.writeN m off (l.zipIdx.map (fun e => e.1 ^^^ d.sramBlank cls (off + e.2)))) } }

/-- R321: the contents of a cluster's SRAM are lost. -/
def Dev.sramLose (d : Dev) (cls : Nat) : Dev :=
  { d with ms := { d.ms with sram := d.ms.sram.del cls, sramGen := d.ms.sramGen.upd 0 cls (· + 1) } }

/-- R324: all of a cluster's SRAM reads as zero. -/
def Dev.sramZero (d : Dev) (cls : Nat) : Dev :=
  { d with ms := { d.ms with sram := d.ms.sram.del cls, sramGen := d.ms.sramGen.del cls } }

/-- Bytes of a home, `n` of them from its address on: coherent memory, cluster SRAM; nothing elsewhere. -/
def Dev.readHome (d : Dev) (h : Home) (n : Nat) : List Byte :=
  match h with
  | .sram t c o => d.sramRead (84 * t + c) o n
  | _ => match h.key with
    | some a => d.ms.mem.readN (d.place a) n
    | none => List.replicate n 0

/-- R147: a line of core or host memory keeps no mark of the device: once poison has been sent there, what a read
returns is the expander's or the host's to decide (notes/assumptions/10.md). -/
def Dev.portBad (d : Dev) (line : Nat) : Bool := d.lineBad line && Config.portPoison line d.time

/-- Whether a read of `n` bytes meets a poisoned line. -/
def Dev.badHome (d : Dev) (h : Home) (n : Nat) : Bool :=
  match h with
  | .sram t c o => (List.range ((o % 128 + n + 127) / 128)).any (fun i => d.lineBad (2 ^ 60 + (84 * t + c) * 16384 + o / 128 + i))
  | .hbm a => (List.range ((a % 128 + n + 127) / 128)).any (fun i => d.lineBad (a / 128 + i))
  | .core a _ => (List.range ((a % 128 + n + 127) / 128)).any (fun i => d.portBad (a / 128 + i))
  | .host a _ => (List.range ((a % 128 + n + 127) / 128)).any (fun i => d.portBad (a / 128 + i))
  | _ => false

/-- The line number under which a home's line is marked: its address over 128, or a number of its own for a
line of cluster SRAM (R415: poison is carried into cluster SRAM). -/
def Home.line : Home → Option Nat
  | .sram t c o => some (2 ^ 60 + (84 * t + c) * 16384 + o / 128)
  | h => h.key.map (· / 128)

/-- Put bytes at a home, and clear the poison mark of a line of HBM or cluster SRAM that they cover whole (R147). -/
def Dev.storeHome (d : Dev) (h : Home) (l : List Byte) : Dev :=
  let d := match h with
    | .sram t c o => d.sramWrite (84 * t + c) o l
    | _ => match h.key with
      | some a => { d with ms := { d.ms with mem := d.ms.mem.writeN (d.place a) l } }
      | none => d
  match h.line, h with
  | some ln, .sram _ _ o => if o % 128 = 0 ∧ 128 ≤ l.length then d.cleanLine ln else d
  | some ln, .hbm a => if a % 128 = 0 ∧ 128 ≤ l.length then d.cleanLine ln else d
  | _, _ => d

/-! ## Page tables (R187 to R190) -/

/-- What a walk ends in: a leaf with its level, a fault with cause and level (R194, R195), or the status of a walk
read that memory refused (R189). -/
inductive Walk where
  | leaf (pte : Nat) (level : Nat)
  | fault (cause level : Nat)
  | status (s : Status)
  | wait
deriving DecidableEq, Repr

/-- R189: read one page table entry, as context `ctx`. Tables lie in T2 or T3. -/
def Dev.walkRead (d : Dev) (ctx pa level : Nat) : Nat ⊕ Walk :=
  let go := fun (h : Home) =>
    match d.verdict h ctx false with
    | .refuse s => .inr (.status s)
    | .wait => .inr .wait
    | .pass => if d.badHome h 8 then .inr (.status .poison) else .inl (ofLe (d.readHome h 8))
  match d.home pa with
  | .hbm a => if pa < 0x80000000000000 then go (.hbm a) else .inr (.fault 2 level)
  | .core a p => go (.core a p)
  | _ => .inr (.fault 2 level)

/-- The physical address in an entry: FRAME_HI:FRAME_LO with bits [15:0] zero. -/
def pteFrame (e : Nat) : Nat := bitsOf e 55 32 * 2 ^ 32 + bitsOf e 31 16 * 65536

/-- R189: an entry breaks the layout of R188. -/
def pteMalformed (e level : Nat) : Bool :=
  let leaf := e.testBit 1
  let sram := e.testBit 6
  bitsOf e 15 7 != 0 || bitsOf e 59 56 != 0 ||
  (level == 1 && leaf) || (level == 3 && !leaf) ||
  (!leaf && (e.testBit 2 || e.testBit 3 || e.testBit 4 || e.testBit 5 || sram)) ||
  (level == 2 && leaf && bitsOf e 28 16 != 0) ||
  (sram && level != 3) ||
  (sram && (e.testBit 31 || decide (83 < bitsOf e 27 21) || bitsOf e 55 32 != 0))

/-- R189: one level of a walk, and the levels below it. -/
def Dev.walkFrom (d : Dev) (ctx va table : Nat) (levels : List (Nat × Nat × Nat)) : Walk :=
  match levels with
  | [] => .fault 2 3
  | (level, hi, lo) :: rest =>
    match d.walkRead ctx (table + 8 * bitsOf va hi lo) level with
    | .inr w => w
    | .inl e =>
      if !e.testBit 0 then .fault 0 level
      else if pteMalformed e level then .fault 2 level
      else if e.testBit 1 then .leaf e level
      else d.walkFrom ctx va (pteFrame e) rest

/-- R189, R190: walk the tables of a context. -/
def Dev.walk (d : Dev) (ctx va : Nat) : Walk :=
  if !d.bit (rCrownCtxxlt ctx) 0 then .fault 0 1
  else d.walkFrom ctx va (d.fld (rCrownCtxxlt ctx) 55 17 * 2 ^ 17) [(1, 55, 42), (2, 41, 29), (3, 28, 16)]

/-- What an access needs of a leaf. -/
inductive Acc3 where
  | read | write | atomic | fetch
  /-- Cache maintenance (R101), which counts as a store (R238) and needs no permission (notes/assumptions/47.md); `drop`
  says that dirty data is discarded. -/
  | line (drop : Bool)
deriving DecidableEq, Repr

/-- R195: the ACCESS code. -/
def Acc3.code : Acc3 → Nat | .read => 0 | .write => 1 | .atomic => 1 | .fetch => 2 | .line _ => 1

/-- The access stores. -/
def Acc3.stores : Acc3 → Bool | .write => true | .atomic => true | .line drop => drop | _ => false

/-- R188: the leaf permits the access. -/
def ptePermits (e : Nat) : Acc3 → Bool
  | .read => e.testBit 2
  | .write => e.testBit 3
  | .atomic => e.testBit 2 && e.testBit 3
  | .fetch => e.testBit 4
  | .line _ => true

/-- R192: the key of an entry: context, size, virtual page. -/
def tlbKey (ctx : Nat) (huge : Bool) (va : Nat) : Nat :=
  (ctx * 2 + (if huge then 1 else 0)) * 2 ^ 40 + (if huge then va / 2 ^ 29 else va / 65536)

/-- R192: a cached leaf for the address, with its level, if the cache still holds one. -/
def Dev.tlbFind (d : Dev) (k ctx va : Nat) : Option (Nat × Nat) :=
  let t := d.ms.tlb.get [] k
  let pick := fun (huge : Bool) =>
    if Config.keepsTranslation k ctx (if huge then va / 2 ^ 29 else va / 65536) d.time then
      (SMap.find t (tlbKey ctx huge va)).map (fun e => (e.pte.toNat, if huge then 2 else 3))
    else none
  match pick false with
  | some r => some r
  | none => pick true

/-- What a translation ends in. -/
inductive Trans where
  | ok (pte level : Nat)
  | fault (cause level : Nat)
  | status (s : Status)
  | wait
deriving DecidableEq, Repr

/-- R189, R192: translate a virtual address through cache `k`, by `walk` on a miss. The second component is the part
with a complete and valid entry installed. -/
def Dev.translateBy (d : Dev) (k ctx va : Nat) (a : Acc3) (walk : Walk) : Trans × Dev :=
  let use := fun (e level : Nat) => if ptePermits e a then Trans.ok e level else Trans.fault 1 level
  if 2 ^ 56 ≤ va then (.status .protection, d) else
  match d.tlbFind k ctx va with
  | some (e, level) => (use e level, d)
  | none =>
    match walk with
    | .fault c l => (.fault c l, d)
    | .status s => (.status s, d)
    | .wait => (.wait, d)
    | .leaf e level =>
      (use e level, { d with ms := { d.ms with tlb := d.ms.tlb.upd [] k (fun t =>
        SMap.set t (tlbKey ctx (level == 2) va) { pte := BitVec.ofNat 64 e, huge := level == 2 }) } })

/-- R190, R192: translate through the tables of CROWN_CTXXLT. -/
def Dev.translate (d : Dev) (k ctx va : Nat) (a : Acc3) : Trans × Dev := d.translateBy k ctx va a (d.walk ctx va)

/-- The physical address a leaf gives an address; of a T0 page, its frame number with the offset. -/
def leafPa (e level va : Nat) : Nat := pteFrame e + va % (if level = 2 then 2 ^ 29 else 65536)

/-- R188: what a leaf maps an address to. -/
def Dev.leafHome (d : Dev) (e level va : Nat) : Home :=
  if e.testBit 6 then .sram (bitsOf e 30 28) (bitsOf e 27 21) (bitsOf e 20 16 * 65536 + va % 65536)
  else d.home (leafPa e level va)

/-- R188: the leaf's NA. -/
def pteNa (e : Nat) : Bool := e.testBit 5

/-- R192, R200: drop the entries of every translation cache that match. -/
def Dev.tlbDrop (d : Dev) (p : Nat → Bool) : Dev :=
  { d with ms := { d.ms with tlb := d.ms.tlb.mapVals (fun _ t => t.filter (fun e => !p e.1)) } }

end Sys2Proof.Machine
end

