-- ==== Sys2Proof/Machine/Caches.lean ====
section
/-! DEFINITION. The shared caches, the cores' private caches and the directory (R208 to R222). Coherent contents
stand in `mem`; a cache holds which lines it has, their ages and which it has modified, and `stale` keeps what
the home still holds of a modified line. -/

namespace Sys2Proof.Machine

open Sys2Proof

/-- R208: slices of a shared cache: 0–7 Tiller, 8–9 Culm. -/
def cacheSlices (k : Nat) : Nat := if k < 8 then 24 else 48

/-- R209: the set of a line, slices and sets together. -/
def cacheSet (k line : Nat) : Nat := line % cacheSlices k * 1024 + line / cacheSlices k % 1024

/-- The SCCTL register of shared cache `k`. -/
def rScctl (k : Nat) : Nat := if k < 8 then rTilScctl k else rCulmScctl (k - 8)
/-- The SCSTAT register of shared cache `k`. -/
def rScstat (k : Nat) : Nat := if k < 8 then rTilScstat k else rCulmScstat (k - 8)
/-- The SCCMD register of shared cache `k`. -/
def rSccmd (k : Nat) : Nat := if k < 8 then rTilSccmd k else rCulmSccmd (k - 8)
/-- The SCHITS register of shared cache `k`. -/
def rSchits (k : Nat) : Nat := if k < 8 then rTilSchits k else rCulmSchits (k - 8)
/-- The SCMISS register of shared cache `k`. -/
def rScmiss (k : Nat) : Nat := if k < 8 then rTilScmiss k else rCulmScmiss (k - 8)
/-- The SCDIRTYWB register of shared cache `k`. -/
def rScdirtywb (k : Nat) : Nat := if k < 8 then rTilScdirtywb k else rCulmScdirtywb (k - 8)
/-- The SCBYPASS register of shared cache `k`. -/
def rScbypass (k : Nat) : Nat := if k < 8 then rTilScbypass k else rCulmScbypass (k - 8)

/-- The die slot of a cache: shared caches of Tillers and Culms, private caches of cores (10 + core). -/
def cacheSlot (k : Nat) : Nat :=
  if k < 8 then slotTil k else if k < 10 then slotCulm (k - 8) else slotCulm ((k - 10) / 48)

/-- A cache as it stands. -/
def Dev.cache (d : Dev) (k : Nat) : Cache := d.ms.caches.get {} k

/-- Change a cache. -/
def Dev.setCache (d : Dev) (k : Nat) (f : Cache → Cache) : Dev :=
  { d with ms := { d.ms with caches := d.ms.caches.upd {} k f } }

/-- The cache holds the line. -/
def Dev.cached (d : Dev) (k line : Nat) : Option CacheLine := (d.cache k).lines.find line

/-- R214, R219: the home takes the coherent contents of a line: nothing is stale, and every copy is clean. -/
def Dev.writeHome (d : Dev) (line : Nat) : Dev :=
  { d with ms := { d.ms with
      stale := d.ms.stale.del line,
      caches := d.ms.caches.mapVals (fun _ c => { c with lines := c.lines.mapVals (fun l e =>
        if l = line then { e with dirty := false } else e) }) } }

/-- R219: drop the copies of a line in the caches that satisfy `p`. -/
def Dev.dropCopies (d : Dev) (line : Nat) (p : Nat → Bool) : Dev :=
  { d with ms := { d.ms with caches := d.ms.caches.mapVals (fun k c =>
      if p k then { c with lines := c.lines.del line } else c) } }

/-- Some cache holds the line modified. -/
def Dev.modified (d : Dev) (line : Nat) : Bool :=
  d.ms.caches.any (fun e => match e.2.lines.find line with | some l => l.dirty | none => false)

/-- The 128 bytes of a line, as a number. -/
def Dev.lineBits (d : Dev) (line : Nat) : BitVec 1024 := BitVec.ofNat 1024 (ofLe (d.ms.mem.readN (d.place (line * 128)) 128))

/-- Keep what the home holds of a line that is about to be modified in a cache. -/
def Dev.keepStale (d : Dev) (line : Nat) : Dev :=
  match d.ms.stale.find line with
  | some _ => d
  | none => { d with ms := { d.ms with stale := d.ms.stale.set line (d.lineBits line) } }

/-- R215: LOCKWAYS, larger values treated as 12. -/
def Dev.lockWays (d : Dev) (k : Nat) : Nat := min 12 (d.fld (rScctl k) 19 16)

/-- R215: the ways a fill may go to. -/
def Dev.fillWays (d : Dev) (k : Nat) : List Nat :=
  (List.range 16).filter (fun w =>
    (!d.bit (rScctl k) 30 || decide (w < d.lockWays k)) && (!d.bit (rScctl k) 29 || decide (d.lockWays k ≤ w)))

/-- The line of a set that stands in a way. -/
def Cache.inWay (c : Cache) (k set way : Nat) : Option (Nat × CacheLine) :=
  c.lines.find? (fun e => cacheSet k e.1 == set && e.2.way == way)

/-- R210: the victim way among `ways`, and the cache with the ages the search raised. -/
def Cache.victim (c : Cache) (k set : Nat) (ways : List Nat) : Option Nat × Cache :=
  match ways.find? (fun w => (c.inWay k set w).isNone) with
  | some w => (some w, c)
  | none =>
    let ageOf := fun w => match c.inWay k set w with | some e => e.2.age | none => 3
    let top := ways.foldl (fun a w => max a (ageOf w)) 0
    let c' : Cache := { c with lines := c.lines.mapVals (fun l e =>
      if cacheSet k l == set && ways.contains e.way then { e with age := e.age + (3 - top) } else e) }
    (ways.find? (fun w => match c'.inWay k set w with | some e => e.2.age == 3 | none => true), c')

/-- R214: a shared-cache miss chooses a victim, writes a dirty victim to its home, then issues the fill. -/
def Dev.sharedMiss (d : Dev) (k line : Nat) (streaming : Bool) : Dev :=
  let d := d.addWrap (rScmiss k) 63 0 1
  let (w, c) := (d.cache k).victim k (cacheSet k line) (d.fillWays k)
  let d := d.setCache k (fun _ => c)
  match w with
  | none => d
  | some w =>
    let d := match c.inWay k (cacheSet k line) w with
      | none => d
      | some (v, e) =>
        let d := if e.dirty then (d.writeHome v).addWrap (rScdirtywb k) 63 0 1 else d
        d.setCache k (fun c => { c with lines := c.lines.del v })
    d.setCache k (fun c => { c with fills := c.fills.set line { streaming := streaming, way := w } })

/-- R210: a fill returns: it enters its set at age 2, or at age 3 when it is streaming. -/
def Dev.fillReturn (d : Dev) (k line : Nat) : Dev :=
  match (d.cache k).fills.find line with
  | none => d
  | some f => d.setCache k (fun c => { c with
      fills := c.fills.del line,
      lines := c.lines.set line { way := f.way, age := if f.streaming then 3 else 2 } })

/-- R220: the directory evicts an entry: every holder is back-invalidated, a modified copy written home first. -/
def Dev.dirEvict (d : Dev) (line : Nat) : Dev :=
  ((d.writeHome line).dropCopies line (fun _ => true)).addWrap rCrownDirstat 63 0 1

/-- A line access of a shared cache that loads (R210): a hit sets age 0, a miss fills. -/
def Dev.sharedLoad (d : Dev) (k line : Nat) (streaming : Bool) : Dev :=
  match d.cached k line with
  | some e => (d.addWrap (rSchits k) 63 0 1).setCache k (fun c => { c with lines := c.lines.set line { e with age := 0 } })
  | none => (d.sharedMiss k line streaming).fillReturn k line

/-- R213: any other access to a region ends its counting and its bypass. -/
def Cache.seqBreak (c : Cache) (region : Nat) : Cache := { c with seq := c.seq.filter (·.region != region) }

/-- R213: a full-line store from a source: its entry opens or extends; whether the store is bypassed. -/
def Cache.seqStore (c : Cache) (k region source : Nat) : Cache × Bool :=
  let near := fun (e : SeqEntry) => e.source == source && e.bypass &&
    (e.region == region || e.region + 1 == region || e.region == region + 1)
  let byp := c.seq.any near
  let old := c.seq.find? (fun e => e.region == region && e.source == source)
  let n := match old with | some e => e.count + 1 | none => 1
  let e : SeqEntry := { region := region, source := source, count := n, bypass := byp || decide (8 ≤ n) }
  ({ c with seq := (e :: c.seq.filter (·.region != region)).take (16 * cacheSlices k) }, byp)

/-- R219: a write by an uncached agent, or one that allocates no line: a full line invalidates every copy; a
partial write is merged at the holder of a modified copy, else at the home, whose other copies go. -/
def Dev.uncachedWrite (d : Dev) (line : Nat) (full : Bool) : Dev :=
  if full then { (d.dropCopies line (fun _ => true)) with ms := { (d.dropCopies line (fun _ => true)).ms with stale := d.ms.stale.del line } }
  else if d.modified line then d
  else d.dropCopies line (fun _ => true)

/-- R211 to R213: a store of a Tiller's agent, or of a Culm's past its private caches, to a line: `full` when it
covers all 128 bytes, `stn` when it carries the no-allocate mark. Called before the bytes change. -/
def Dev.sharedStore (d : Dev) (k line source : Nat) (full stn streaming : Bool) : Dev :=
  let region := line / 32
  let (c, byp) := if full && d.bit (rScctl k) 31 then (d.cache k).seqStore k region source
    else ((d.cache k).seqBreak region, false)
  let d := d.setCache k (fun _ => c)
  let hit := d.cached k line
  match hit with
  | some e =>
    let d := (d.addWrap (rSchits k) 63 0 1).dropCopies line (· != k)
    let d := d.keepStale line
    d.setCache k (fun c => { c with lines := c.lines.set line { e with age := if byp || stn then 3 else 0, dirty := true } })
  | none =>
    if byp || stn then
      let d := d.addWrap (rScmiss k) 63 0 1
      let d := if byp then d.addWrap (rScbypass k) 63 0 1 else d
      d.uncachedWrite line full
    else
      let d := (d.sharedMiss k line streaming).fillReturn k line
      let d := d.dropCopies line (· != k)
      match d.cached k line with
      | some e => (d.keepStale line).setCache k (fun c => { c with lines := c.lines.set line { e with dirty := true } })
      | none => d.uncachedWrite line full

/-- R221: a load of core `n`: its private caches, then the Culm shared cache. -/
def Dev.coreLoad (d : Dev) (n line : Nat) (na : Bool) : Dev :=
  let k := 10 + n
  match d.cached k line with
  | some _ => d
  | none =>
    let d := d.sharedLoad (8 + n / 48) line na
    d.setCache k (fun c => { c with lines := c.lines.set line { na := na } })

/-- R212, R221: a store of core `n`: write-allocate into its private caches, other copies invalidated. -/
def Dev.coreStore (d : Dev) (n line : Nat) (na : Bool) : Dev :=
  let k := 10 + n
  let sh := 8 + n / 48
  let d := match d.cached k line with
    | some _ => d
    | none => d.sharedLoad sh line na
  let d := d.setCache sh (fun c => c.seqBreak (line / 32))
  let d := (d.dropCopies line (fun j => j != k && j != sh)).keepStale line
  d.setCache k (fun c => { c with lines := c.lines.set line { dirty := true, na := na } })

/-- R221: a private line of a core is evicted: a clean one is dropped; a dirty one goes into the shared cache at age
2, or to memory when its page has NA = 1. -/
def Dev.coreEvict (d : Dev) (n line : Nat) : Dev :=
  let k := 10 + n
  let sh := 8 + n / 48
  match d.cached k line with
  | none => d
  | some e =>
    let d := d.setCache k (fun c => { c with lines := c.lines.del line })
    if !e.dirty then d
    else if e.na then d.writeHome line
    else
      let d := match d.cached sh line with
        | some _ => d
        | none => (d.sharedMiss sh line false).fillReturn sh line
      match d.cached sh line with
      | some f => d.setCache sh (fun c => { c with lines := c.lines.set line { f with age := 2, dirty := true } })
      | none => d.writeHome line

/-- R243, R101: every modified copy of a line is written home. `drop` also invalidates every copy. -/
def Dev.recall (d : Dev) (line : Nat) (drop : Bool) : Dev :=
  let d := if d.modified line then d.writeHome line else d
  if drop then d.dropCopies line (fun _ => true) else d

/-- R101: CINV: every copy is invalidated and dirty data discarded: memory is what the home holds. -/
def Dev.discardLine (d : Dev) (line : Nat) : Dev :=
  let d := match d.ms.stale.find line with
    | some v => { d with ms := { d.ms with mem := d.ms.mem.writeN (d.place (line * 128)) (leBytes 128 v.toNat), stale := d.ms.stale.del line } }
    | none => d
  d.dropCopies line (fun _ => true)

/-- The lines a cache holds modified. -/
def Dev.dirtyLines (d : Dev) (k : Nat) : List Nat := (d.cache k).lines.keysP (fun _ e => e.dirty)

/-- R218: start a whole-cache operation; ignored while BUSY is 1. Every dirty line is written to memory;
FLUSHALL also invalidates every line and clears LOCK and PRELOAD. -/
def Dev.cacheSweep (d : Dev) (k op : Nat) : Dev :=
  if d.bit (rScstat k) 30 || !(op == 1 || op == 2) then d else
  let d := (d.dirtyLines k).foldl Dev.writeHome d
  let d := if op = 2 then
      ((d.setCache k (fun c => { c with lines := [] })).setBit (rScctl k) 29 false).setBit (rScctl k) 30 false
    else d
  (d.setCache k (fun c => { c with sweep := op })).setBit (rScstat k) 30 true

/-- R217: reset of a die's caches: every line is invalid, dirty data is discarded, SCCTL returns to its reset value.
The directory's handling of modified lines is R469's. -/
def Dev.cacheReset (d : Dev) (k : Nat) : Dev := d.setCache k (fun _ => {})

end Sys2Proof.Machine
end

