-- ==== Sys2Proof/Machine/Route.lean ====
section
/-! DEFINITION. Fabric topology and routes (R417, R422 to R424, R426): neighbours, the dimension-ordered route, the
shortest path over working links, and the route report. -/

namespace Sys2Proof.Machine

open Sys2Proof

/-- FE_TOPO as it is used (R423, R441): dimensions and express links. -/
structure Topo where
  dx : Nat
  dy : Nat
  dz : Nat
  ex : Bool
  ey : Bool
deriving DecidableEq, Repr

/-- The topology that a value of FE_TOPO names; DZ1 above 19 is treated as 19. -/
def topoOf (v : Nat) : Topo :=
  ⟨bitsOf v 4 0 + 1, bitsOf v 9 5 + 1, min 19 (bitsOf v 14 10) + 1, v.testBit 31, v.testBit 30⟩

/-- R422: coordinates of a device ID. -/
def coordOf (dev : Nat) : Nat × Nat × Nat := (dev % 32, dev / 32 % 32, dev / 1024 % 32)

/-- R422: the ID of coordinates. -/
def devOf (c : Nat × Nat × Nat) : Nat := c.1 + 32 * c.2.1 + 1024 * c.2.2

/-- A direction of travel (R417): dimension 0–2, towards plus, by express link. -/
structure Dir where
  dim : Nat
  plus : Bool
  express : Bool
deriving DecidableEq, Repr

/-- R417: the ports of a direction. -/
def Dir.ports (r : Dir) : List Nat :=
  match r.dim, r.plus, r.express with
  | 0, true, false => [0, 1] | 0, false, false => [2, 3] | 1, true, false => [4, 5] | 1, false, false => [6, 7]
  | 2, true, false => [8, 9] | 2, false, false => [10, 11] | 0, true, true => [12] | 0, false, true => [13]
  | 1, true, true => [14] | 1, false, true => [15] | _, _, _ => []

/-- R417: the direction a port faces. -/
def portDir (p : Nat) : Dir :=
  if p < 12 then ⟨p / 4, p / 2 % 2 == 0, false⟩ else ⟨(p - 12) / 2, p % 2 == 0, true⟩

/-- R417: the peer port of a port. -/
def peerPort (p : Nat) : Nat :=
  if p < 12 then (if p / 2 % 2 = 0 then p + 2 else p - 2) else (if p % 2 = 0 then p + 1 else p - 1)

/-- The size of a dimension. -/
def Topo.size (t : Topo) (dim : Nat) : Nat := match dim with | 0 => t.dx | 1 => t.dy | _ => t.dz

/-- A coordinate of a device. -/
def coordDim (dev dim : Nat) : Nat := match dim with | 0 => dev % 32 | 1 => dev / 32 % 32 | _ => dev / 1024 % 32

/-- A device with one coordinate replaced. -/
def setDim (dev dim v : Nat) : Nat :=
  let (x, y, z) := coordOf dev
  match dim with | 0 => devOf (v, y, z) | 1 => devOf (x, v, z) | _ => devOf (x, y, v)

/-- R417, R423: the neighbour in a direction; none when the direction is unused. -/
def Topo.neighbour (t : Topo) (dev : Nat) (r : Dir) : Option Nat :=
  let n := t.size r.dim
  let by_ := if r.express then 8 else 1
  if n ≤ 1 || (r.express && !(match r.dim with | 0 => t.ex | 1 => t.ey | _ => false)) then none
  else some (setDim dev r.dim ((coordDim dev r.dim + (if r.plus then by_ else n * 8 - by_)) % n))

/-- Every direction, in the order ties are broken (R426): dimension order, plus before minus, express first. -/
def allDirs : List Dir :=
  [⟨0, true, true⟩, ⟨0, true, false⟩, ⟨0, false, true⟩, ⟨0, false, false⟩,
   ⟨1, true, true⟩, ⟨1, true, false⟩, ⟨1, false, true⟩, ⟨1, false, false⟩,
   ⟨2, true, false⟩, ⟨2, false, false⟩]

/-- The fabric as routes see it: dimensions, devices present, failed links as (device, port). -/
structure Net where
  topo : Topo
  devs : List Nat
  fails : List (Nat × Nat)
deriving DecidableEq, Repr

/-- A link works: neither end is failed and both devices are present. -/
def Net.linkOk (w : Net) (dev p : Nat) : Bool :=
  match w.topo.neighbour dev (portDir p) with
  | none => false
  | some v => w.devs.contains dev && w.devs.contains v && !w.fails.contains (dev, p) && !w.fails.contains (v, peerPort p)

/-- The neighbour reached in a direction over a working link of it. -/
def Net.hop (w : Net) (dev : Nat) (r : Dir) : Option Nat :=
  if r.ports.any (fun p => w.linkOk dev p) then w.topo.neighbour dev r else none

/-- R424: the next direction of the dimension-ordered route. -/
def Topo.dirTo (t : Topo) (dev dst : Nat) : Option Dir :=
  (lowest 3 (fun k => coordDim dev k != coordDim dst k)).map (fun k =>
    let n := t.size k
    let delta := (coordDim dst k + n - coordDim dev k) % n
    let plus := decide (delta ≤ n - delta)
    let dist := min delta (n - delta)
    let exp := (match k with | 0 => t.ex | 1 => t.ey | _ => false) && decide (8 ≤ dist)
    ⟨k, plus, exp⟩)

/-- R424, R426: follow the dimension-ordered route over working links, a failed express link giving way to single
hops of its direction; the hops and the first port, or none where it is broken. -/
def Net.ordered (w : Net) (fuel dev dst : Nat) : Option (List Nat) :=
  match fuel with
  | 0 => none
  | f + 1 =>
    if dev = dst then some [] else
    match w.topo.dirTo dev dst with
    | none => none
    | some r =>
      let go := fun (r : Dir) =>
        match w.hop dev r, r.ports.find? (fun p => w.linkOk dev p) with
        | some v, some p => (w.ordered f v dst).map (p :: ·)
        | _, _ => none
      if r.express && (w.hop dev r).isNone then go { r with express := false } else go r

/-- Distances to a destination by breadth-first search over working links. -/
def Net.bfs (w : Net) (fuel : Nat) (front seen : List (Nat × Nat)) : List (Nat × Nat) :=
  match fuel with
  | 0 => seen
  | f + 1 =>
    match front with
    | [] => seen
    | (v, n) :: rest =>
      let new := (allDirs.filterMap (fun r =>
        match w.hop v r with
        | some u => if (seen.any (fun e => e.1 == u)) then none else some (u, n + 1)
        | none => none)).dedup
      w.bfs f (rest ++ new) (seen ++ new)

/-- A route: first port, hops, whether it leaves the dimension-ordered route (R426, R441). -/
structure RouteTo where
  port : Nat
  hops : Nat
  detour : Bool
deriving DecidableEq, Repr

/-- R426: the route to a destination: the dimension-ordered route where it is whole, else a shortest path over
working links. None is the absence of a routing entry. -/
def Net.route (w : Net) (dev dst : Nat) : Option RouteTo :=
  if !w.devs.contains dst then none else
  match w.ordered 128 dev dst with
  | some l => some ⟨l.headD 0, l.length, false⟩
  | none =>
    let dist := w.bfs (w.devs.length + 1) [(dst, 0)] [(dst, 0)]
    match dist.find? (fun e => e.1 == dev) with
    | none => none
    | some (_, n) =>
      (allDirs.findSome? (fun r =>
        match w.hop dev r with
        | some v => if (v, n - 1) ∈ dist then (r.ports.find? (fun p => w.linkOk dev p)) else none
        | none => none)).map (fun p => ⟨p, n, true⟩)

/-- The fabric the installed routes were computed from (R426). -/
def Dev.net (d : Dev) : Net := ⟨topoOf (d.reg rFeTopo), d.fe.routeDevs, d.fe.routeFails⟩

/-- R37, R426: a routing entry for the device exists. A fenced device has none (R440). -/
def Dev.routed (d : Dev) (dev : Nat) : Bool :=
  match d.ownId with
  | some own => !d.bit rFeStat 28 && (d.net.route own dev).isSome
  | none => false

/-- The devices on a route, from hop to hop. -/
def Net.path (w : Net) (fuel dev dst : Nat) : List Nat :=
  match fuel with
  | 0 => []
  | f + 1 =>
    if dev = dst then [dst] else
    match w.route dev dst with
    | none => []
    | some r =>
      match w.topo.neighbour dev (portDir r.port) with
      | some v => dev :: w.path f v dst
      | none => []

/-- R430: the neighbours to which a broadcast from a source goes on from this device. -/
def Dev.treeChildren (d : Dev) (src own : Nat) : List Nat :=
  let w := d.net
  let near := ((allDirs.filterMap (fun r => w.hop own r)).dedup).filter (fun v => v != src && v != own)
  near.filter (fun v => let p := w.path 256 src v; p.getD (p.length - 2) v == own)

end Sys2Proof.Machine
end

