-- ==== Sys2Proof/Machine/Store.lean ====
section
/-! DEFINITION. Reads and writes of physical lines by the agents of R219, with the caches, reservations and
poison marks they touch (R98 to R101, R210 to R214, R219, R221, R241). -/

namespace Sys2Proof.Machine

open Sys2Proof

/-- Through which caches an agent reaches memory (R192, R219): an uncached agent; an agent of a Tiller, with the
source number its stores carry (R213); a core. -/
inductive Via where
  | engine
  | til (t src : Nat)
  | core (n : Nat)
deriving DecidableEq, Repr

/-- R99, R241: every reservation on a granule that `keep` does not spare is lost. -/
def Dev.clearResv (d : Dev) (line : Nat) (keepCore : Option Nat := none) (keepLane : Option (Nat × Nat) := none) : Dev :=
  let hit := fun (r : Option Resv) => match r with | some v => v.addr / 128 == line | none => false
  { d with
    cores := d.cores.mapVals (fun n c => if hit c.resv && keepCore != some n then { c with resv := none } else c),
    sheaves := d.sheaves.mapVals (fun k s =>
      if s.resv.any hit then
        { s with resv := (s.resv.zipIdx).map (fun e => if hit e.1 && keepLane != some (k, e.2) then none else e.1) }
      else s) }

/-- The address that names a home's byte in reservations: its key, or a place of its own for cluster SRAM. -/
def Home.mark : Home → Nat
  | .sram t c o => (2 ^ 60 + (84 * t + c) * 16384) * 128 + o
  | h => h.key.getD 0

/-- Store bytes that lie within one line of a home. `stn` marks a store that allocates no line (R97, R211), `na` a page
whose lines are streamed (R188). -/
def Dev.storeLine (d : Dev) (v : Via) (h : Home) (l : List Byte) (stn na : Bool := false) : Dev :=
  let full := decide (l.length = 128)
  let d := match h with
    | .sram _ _ _ => d
    | _ => match h.key with
      | none => d
      | some a =>
        match v with
        | .engine => d.uncachedWrite (a / 128) full
        | .til t src => d.sharedStore t (a / 128) src full stn na
        | .core n => if stn then d.uncachedWrite (a / 128) full else d.coreStore n (a / 128) na
  (d.clearResv (h.mark / 128)).storeHome h l

/-- What a read of a line leaves in the caches it goes through. -/
def Dev.loadLine (d : Dev) (v : Via) (h : Home) (na : Bool := false) : Dev :=
  match h with
  | .sram _ _ _ => d
  | _ => match h.key with
    | none => d
    | some a =>
      match v with
      | .engine => d
      | .til t _ => (d.sharedLoad t (a / 128) na).setCache t (fun c => c.seqBreak (a / 4096))
      | .core n => d.coreLoad n (a / 128) na

/-- R146: the first record since GLM_ERRREC was last cleared: bits [62:0] of the register, and the stack-local address. -/
def Dev.keepRecord (d : Dev) (g rec loc : Nat) : Dev :=
  if d.bit (rGlmErrrec g) 63 then d
  else (d.setReg (rGlmErrrec g) (2 ^ 63 + rec)).setReg (rGlmErraddr g) (loc / 256 * 256)

/-- A read of the line reaches its stack: no cache on its way has it, and no cache holds it modified. -/
def Dev.fromStack (d : Dev) (v : Via) (line : Nat) : Bool :=
  (d.ms.stale.find line).isNone && match v with
    | .engine => true
    | .til t _ => (d.cached t line).isNone
    | .core n => (d.cached (10 + n) line).isNone && (d.cached (8 + n / 48) line).isNone

/-- R146, R147: a read of a poisoned line in a stack is recorded by its Glume as POISON_READ. -/
def Dev.poisonRead (d : Dev) (v : Via) (h : Home) (n : Nat) : Dev :=
  match h with
  | .hbm a =>
    (List.range ((a % 128 + n + 127) / 128)).foldl (fun d i =>
      let line := a / 128 + i
      if d.lineBad line && d.fromStack v line then
        let (g, loc) := hbmLocal (line * 128)
        d.keepRecord g (2 * 2 ^ 60 + loc / 256 % 16 * 2 ^ 56 + (Config.dramPlace g (loc / 256) d.time).toNat * 2 ^ 32) loc
      else d) d
  | _ => d

/-- The pieces of `n` bytes from address `a`, cut at multiples of `q`: address and length. -/
def pieces (q fuel a n : Nat) : List (Nat × Nat) :=
  match fuel with
  | 0 => []
  | f + 1 => if n = 0 then [] else
    let k := min n (q - a % q)
    (a, k) :: pieces q f (a + k) (n - k)

/-- Every piece of `n` bytes from `a`, none crossing a multiple of `q`. -/
def cut (q a n : Nat) : List (Nat × Nat) := pieces q (n / q + 2) a n

/-- The `len` bytes of `l` that fall to the piece at address `p` of a transfer that starts at `a`. -/
def part (l : List Byte) (a p len : Nat) : List Byte := (l.drop (p - a)).take len

/-- R202: the Crown writes bytes at a physical address as context 0, line by line, through the directory. -/
def Dev.crownWrite (d : Dev) (pa : Nat) (l : List Byte) : Dev :=
  (cut 128 pa l.length).foldl (fun d p => d.storeLine .engine (d.home p.1) (part l pa p.1 p.2)) d

/-- The verdict on a physical range for context `ctx`, line by line: the first that does not pass. -/
def Dev.rangeVerdict (d : Dev) (ctx pa n : Nat) (write : Bool) : Verdict :=
  ((cut 128 pa n).map (fun p => d.verdict (d.home p.1) ctx write)).find? (· != .pass) |>.getD .pass

/-- R202: bytes at a physical address as an uncached agent reads them. -/
def Dev.crownRead (d : Dev) (pa n : Nat) : List Byte :=
  (cut 128 pa n).flatMap (fun p => d.readHome (d.home p.1) p.2)

/-- Whether a physical range holds a poisoned line. -/
def Dev.crownBad (d : Dev) (pa n : Nat) : Bool := (cut 128 pa n).any (fun p => d.badHome (d.home p.1) p.2)

end Sys2Proof.Machine
end

