-- ==== Sys2Proof/Machine/Rings.lean ====
section
/-! DEFINITION. Record rings (R520): fault queues (R194 to R198), the store-loss ring (R253, R254), the error
ring (R483 to R485), Reed's exception rings (R368). -/

namespace Sys2Proof.Machine

open Sys2Proof

/-- A record ring's registers: base, control, where PROD and CONS stand, bytes in a record, lowest bit of BASE. -/
structure RingRegs where
  base : Nat
  ctl : Nat
  prod : Nat
  prodLo : Nat
  cons : Nat
  consLo : Nat
  bytes : Nat
  baseLo : Nat
deriving DecidableEq, Repr

/-- The rings by the number RING_OFF gives them (R484): 0–15 fault queues, 16 store-loss, 18 + p exception rings; 17
is the error ring. -/
def ringRegs (n : Nat) : RingRegs :=
  if n < 16 then ⟨rCrownFqbase n, rCrownFqctl n, rCrownFqprod n, 0, rCrownFqcons n, 0, 32, 12⟩
  else if n = 16 then ⟨rCrownSlbase, rCrownSlctl, rCrownSlprod, 0, rCrownSlcons, 0, 32, 12⟩
  else if n = 17 then ⟨rCrownErrbase, rCrownErrctl, rCrownErrprod, 0, rCrownErrcons, 0, 32, 12⟩
  else ⟨rSeExbase (n - 18), rSeExctl (n - 18), rSeExptr (n - 18), 0, rSeExptr (n - 18), 32, 16384, 14⟩

/-- The ring's size in records, LOG2SIZE held to 6–16. -/
def Dev.ringSize (d : Dev) (n : Nat) : Nat := 2 ^ nearest 6 16 (d.fld (ringRegs n).ctl 4 0)

/-- EN. -/
def Dev.ringOn (d : Dev) (n : Nat) : Bool := d.bit (ringRegs n).ctl 31

/-- PROD. -/
def Dev.ringProd (d : Dev) (n : Nat) : Nat := d.fld (ringRegs n).prod ((ringRegs n).prodLo + 15) (ringRegs n).prodLo

/-- CONS. -/
def Dev.ringCons (d : Dev) (n : Nat) : Nat := d.fld (ringRegs n).cons ((ringRegs n).consLo + 15) (ringRegs n).consLo

/-- Unread records. -/
def Dev.ringUnread (d : Dev) (n : Nat) : Nat :=
  (d.ringProd n + (d.ringSize n - d.ringCons n % d.ringSize n)) % d.ringSize n

/-- The ring holds 2^LOG2SIZE − 1 unread records. -/
def Dev.ringFull (d : Dev) (n : Nat) : Bool := decide (d.ringUnread n = d.ringSize n - 1)

/-- The physical address of the ring. -/
def Dev.ringBase (d : Dev) (n : Nat) : Nat := bitsOf (d.reg (ringRegs n).base) 55 (ringRegs n).baseLo * 2 ^ (ringRegs n).baseLo

/-- The ring may lie there: fault queues and the store-loss ring in T3 or T5, the others in T2 too. -/
def ringTier (n : Nat) : Home → Bool
  | .hbm _ => decide (17 ≤ n)
  | .core _ _ => true
  | .host _ _ => true
  | _ => false

/-- The phase bit of the next record (R195, R253, R368, R483): 1 on the first pass, inverting on each. -/
def Dev.ringPhase (d : Dev) (n : Nat) : Nat := (d.ringPass.get 0 n + 1) % 2

/-- What a record write ends in. -/
inductive RingWrite where
  | written
  | off
  | full
  | refused
deriving DecidableEq, Repr

/-- R520: write a record; its first word takes the phase. A refused write clears EN and leaves a RING_OFF record,
unless the ring is the error ring. A write through a port in the first 100 ms of a loss waits
there and counts as sent (R406). A write that makes the ring non-empty raises the ring's interrupt. -/
def Dev.ringWrite (d : Dev) (n : Nat) (record : List Byte) : RingWrite × Dev :=
  let r := ringRegs n
  if !d.ringOn n then (.off, d)
  else if d.ringFull n then (.full, if n < 16 then d.setBit r.ctl 30 true else d)
  else
    let pa := d.ringBase n + r.bytes * d.ringProd n
    let v := d.rangeVerdict 0 pa record.length true
    if (v = .pass ∨ v = .wait) ∧ ringTier n (d.home pa) then
      let rec' := match record with
        | b0 :: b1 :: b2 :: b3 :: rest => b0 :: b1 :: b2 :: BitVec.ofNat 8 (b3.toNat % 128 + 128 * d.ringPhase n) :: rest
        | l => l
      let empty := decide (d.ringUnread n = 0)
      let d := d.crownWrite pa rec'
      let p := d.ringProd n + 1
      let d := if p = d.ringSize n then
          { (d.setFld r.prod (r.prodLo + 15) r.prodLo 0) with ringPass := d.ringPass.upd 0 n (· + 1) }
        else d.setFld r.prod (r.prodLo + 15) r.prodLo p
      (.written, if empty then d.interrupt (d.fld r.ctl 29 28) (d.fld r.ctl 26 16) else d)
    else
      let d := d.setBit r.ctl 31 false
      let st := match v with | .refuse s => s.code | _ => Status.protection.code
      (.refused, if n = 17 then d else d.error 0x1C 31 0 st (d.ringBase n) n)

/-- R520: EN goes from 0 to 1: PROD and the pass count restart. -/
def Dev.ringStart (d : Dev) (n : Nat) : Dev :=
  let r := ringRegs n
  { (d.setFld r.prod (r.prodLo + 15) r.prodLo 0) with ringPass := d.ringPass.del n }

/-! ## The error ring -/

/-- R483: the words of an error record, without its phase. -/
def ErrRec.words (e : ErrRec) : List Nat :=
  [e.kind * 2 ^ 24 + e.sev * 2 ^ 22 + e.slot * 2 ^ 17 + e.unit % 2 ^ 17, e.count * 2 ^ 16 + e.status % 2 ^ 16,
   e.addr % 2 ^ 32, e.addr / 2 ^ 32 % 2 ^ 32, e.detail % 2 ^ 32, e.detail / 2 ^ 32 % 2 ^ 32, e.time % 2 ^ 32, e.time / 2 ^ 32 % 2 ^ 32]

/-- R485: the oldest held record is written, or LOST counts it. -/
def Dev.errorWrite (d : Dev) : Dev :=
  match d.sup.errs with
  | [] => d
  | e :: rest =>
    let d := { d with sup := { d.sup with errs := rest } }
    match d.ringWrite 17 (wordBytes e.words) with
    | (.written, d) => d
    | (_, d) => d.addSat rCrownErrstat 63 48 1

/-! ## The fault table (R194 to R198) -/

/-- R195: the words of a fault record, without its phase. -/
def faultWords (id cause level access cls inst qid ctx tag va time : Nat) : List Nat :=
  [id % 2 ^ 24, cause * 2 ^ 28 + level * 2 ^ 26 + access * 2 ^ 24 + cls * 2 ^ 20 + inst % 1024 * 2 ^ 10, qid % 2 ^ 20 * 2 ^ 12 + ctx,
   tag % 2 ^ 32, va % 2 ^ 32, va / 2 ^ 32 % 2 ^ 32, time % 2 ^ 32, time / 2 ^ 32 % 2 ^ 32]

/-- R194: write the record of fault `i` into its context's queue, if it has not been written and there is room. -/
def Dev.faultRecord (d : Dev) (i : Nat) : Dev :=
  match d.flt.table.find i with
  | none => d
  | some f =>
    if f.recorded then d else
    let q := d.fld (rCrownCtxxlt f.ctx) 63 60
    match d.ringWrite q (wordBytes (faultWords (f.gen % 256 * 65536 + i) f.cause f.level f.access f.cls f.inst f.qid f.ctx f.tag f.va f.opened)) with
    | (.written, d) => { d with flt := { d.flt with table := d.flt.table.set i { f with recorded := true } } }
    | (_, d) => d

/-- The table's records that wait for queue `q`, in order of opening. -/
def Dev.faultsFor (d : Dev) (q : Nat) : List Nat :=
  ((d.flt.table.filter (fun e => !e.2.recorded && d.fld (rCrownCtxxlt e.2.ctx) 63 60 == q)).mergeSort
    (fun a b => decide (a.2.order ≤ b.2.order))).map (·.1)

/-- R195, R196: a record of FAULTID 0 is written, or waits for its queue. -/
def Dev.looseRecord (d : Dev) (q : Nat) (words : List Nat) : Dev :=
  match d.ringWrite q (wordBytes words) with
  | (.written, d) => d
  | (_, d) => { d with flt := { d.flt with notices := d.flt.notices ++ [(q, words)] } }

/-- R196: write whatever waits for queue `q`: the records of open faults in order of opening, then those of FAULTID 0. -/
def Dev.faultFlush (d : Dev) (q : Nat) : Dev :=
  let d := (d.faultsFor q).foldl Dev.faultRecord d
  let d := (d.flt.notices.filter (·.1 == q)).foldl (fun d n =>
    match d.ringWrite q (wordBytes n.2) with
    | (.written, d) => { d with flt := { d.flt with notices := d.flt.notices.erase n } }
    | (_, d) => d) d
  d.setBit (rCrownFqctl q) 30 (d.ringOn q && d.ringFull q)

/-- R194: FAULTSTAT.OUTSTANDING follows the table. -/
def Dev.faultCount (d : Dev) : Dev := d.setFld rCrownFaultstat 16 0 d.flt.table.length

/-- R194: a fault opens, joins an outstanding fault of the same context, page and access, or waits for an entry. -/
def Dev.faultOpen (d : Dev) (f : PageFault) (w : Waiter) : Dev :=
  match d.flt.table.firstP (fun _ g => g.ctx == f.ctx && g.vpage == f.vpage && g.access == f.access) with
  | some i =>
    { d with flt := { d.flt with table := d.flt.table.upd f i (fun g => { g with waiters := if g.waiters.contains w then g.waiters else g.waiters ++ [w] }) } }
  | none =>
    match lowest 65536 (fun i => (d.flt.table.find i).isNone) with
    | none => { d with flt := { d.flt with overflow := d.flt.overflow ++ [{ f with waiters := [w] }] } }
    | some i =>
      let g := d.flt.gens.get 0 i % 255 + 1
      let d := { d with flt := { d.flt with
        table := d.flt.table.set i { f with gen := g, order := d.flt.order, recorded := false, waiters := [w] },
        gens := d.flt.gens.set i g, order := d.flt.order + 1 } }
      d.faultCount

/-- R194: a freed entry goes to the oldest access that waits for one. Its timeout runs from when it first waited. -/
def Dev.faultAdmit (d : Dev) : Dev :=
  match d.flt.overflow with
  | [] => d.faultCount
  | f :: rest =>
    let d := { d with flt := { d.flt with overflow := rest } }
    match f.waiters with
    | w :: _ => d.faultOpen f w
    | [] => d.faultCount

/-- R197, R198: a fault table entry is freed; its pending record is discarded. -/
def Dev.faultFree (d : Dev) (i : Nat) : Dev :=
  ({ d with flt := { d.flt with table := d.flt.table.del i } }).faultAdmit

/-- R198: a waiter abandons its access; an entry whose last waiter leaves is freed. -/
def Dev.faultLeave (d : Dev) (w : Waiter) : Dev :=
  let d := { d with flt := { d.flt with
    table := d.flt.table.mapVals (fun _ f => { f with waiters := f.waiters.filter (· != w) }),
    overflow := d.flt.overflow.filter (fun f => !f.waiters.contains w) } }
  (d.flt.table.keysP (fun _ f => f.waiters.isEmpty)).foldl Dev.faultFree d

/-- A fault waits with this waiter. -/
def Dev.faultHeld (d : Dev) (w : Waiter) : Bool :=
  d.flt.table.any (fun e => e.2.waiters.contains w) || d.flt.overflow.any (fun f => f.waiters.contains w)

/-! ## Store loss (R250 to R254) -/

/-- R253: a store-loss record: destination, stores dropped, status, class, instance, queue, context, tag, address. -/
def Dev.storeLoss (d : Dev) (dev count : Nat) (s : Status) (cls inst qid ctx tag pa : Nat) : Dev :=
  let d := d.addSat rCrownSlstat 31 0 count
  match d.ringWrite 16 (wordBytes [dev % 2 ^ 15 * 2 ^ 16 + min 65535 count, s.code * 2 ^ 16 + cls * 2 ^ 12 + inst % 1024,
      qid % 2 ^ 20 * 2 ^ 12 + ctx, tag % 2 ^ 32, pa % 2 ^ 32, pa / 2 ^ 32 % 2 ^ 32, d.time % 2 ^ 32, d.time / 2 ^ 32 % 2 ^ 32]) with
  | (.written, d) => d
  | (_, d) => d.addSat rCrownSlstat 63 32 1

end Sys2Proof.Machine
end

