-- ==== Sys2Proof/Machine/Access.lean ====
section
/-! DEFINITION. Accesses of agents by virtual address (R94, R192, R193, R233) and to other devices (R37, R225, R244,
R250, R427 to R429). -/

namespace Sys2Proof.Machine

open Sys2Proof

/-- Who accesses, for the records an access can leave: its translation cache (R192), the way it reaches memory, its
context, its waiter, and CLASS, INST, queue and tag (R195, R253). -/
structure Who where
  tlb : Nat
  via : Via
  ctx : Nat
  waiter : Waiter
  cls : Nat := 0
  inst : Nat := 0
  qid : Nat := 0
  tag : Nat := 0
deriving DecidableEq, Repr

/-- What an access ends in. A fault names cause, level, virtual address and access (R194). -/
inductive Acs where
  | ok
  | fault (cause level va : Nat) (a : Acc3)
  | fail (s : Status)
  | wait
deriving DecidableEq, Repr

/-- R37: the fabric-window address of an offset of a device. -/
def windowAddr (dev off : Nat) : Nat := 2 ^ 55 + dev * 2 ^ 40 + off

/-- R427: unanswered requests to a device, and unanswered store bytes in all. -/
def Dev.fabBusy (d : Dev) (dev len : Nat) : Bool :=
  decide (512 ≤ d.fe.reqs.countP (fun _ r => r.dev == dev)) ||
  decide (33554432 < (d.fe.reqs.map (fun e => if e.2.load then 0 else e.2.len)).sum + len)

/-- R251, R263: a core whose store was dropped has a deferred error pending; later drops are merged. -/
def Dev.deferError (d : Dev) (n addr : Nat) (s : Status) : Dev :=
  { d with cores := d.cores.upd {} n (fun c =>
      { c with deferred := some (match c.deferred with
          | none => ⟨addr, s.code, 0⟩
          | some e => { e with merged := e.merged + 1 }) }) }

/-- A run posts the first status it meets (R308). -/
def Dev.runStatus (d : Dev) (r : Nat) (s : Status) (info : Nat := 0) : Dev :=
  { d with cp := { d.cp with runs := d.cp.runs.mapVals (fun k v =>
      if k = r ∧ v.status = none then { v with status := some s.code, info := info } else v) } }

/-- R106, R308: the first lane exception that the CP receives for a kernel decides its status. -/
def Dev.kernelStatus (d : Dev) (r : Nat) (s : Status) (cause : Nat := 0) : Dev :=
  { d with cp := { d.cp with kernels := d.cp.kernels.mapVals (fun k v =>
      if k = r ∧ v.lane = none then { v with lane := some (s.code, cause) } else v) } }

/-- R250, R251: what a dropped store means to the thread or command that issued it. -/
def Dev.storeDropped (d : Dev) (w : Waiter) (addr : Nat) (s : Status) : Dev :=
  match w with
  | .core n => d.deferError n addr s
  | .cmd r => d.runStatus r s
  | .sheaf k => match (d.sheaves.get {} k).cmd with | some r => d.kernelStatus r s | none => d
  | .lane k _ => match (d.sheaves.get {} k).cmd with | some r => d.kernelStatus r s | none => d
  | .fetch _ => d

/-- R427: the lowest number that the pair with a device still waits for, a new request's included. -/
def Dev.fabBase (d : Dev) (dev seq : Nat) : Nat :=
  d.fe.reqs.foldl (fun n e => if e.2.dev = dev then min n e.2.seq else n) seq

/-- R225, R427: send one request of at most a line to another device; false when the engine cannot accept it yet. A
store to a device without a routing entry is lost at once (R37, R250). -/
def Dev.fabSend (d : Dev) (w : Who) (load : Bool) (dev off len : Nat) (data : List Byte) : Bool × Dev :=
  if dev != 0x7FFF && !d.routed dev then
    (true, if load then
        { d with fe := { d.fe with answers := d.fe.answers ++ [⟨w.waiter, windowAddr dev off, Status.remoteDead.code, []⟩] } }
      else
        (d.storeLoss dev 1 .remoteDead w.cls w.inst w.qid w.ctx w.tag (windowAddr dev off)).storeDropped w.waiter (windowAddr dev off) .remoteDead)
  else if d.fabBusy dev len then (false, d)
  else
    let seq := d.fe.nextSeq.get 0 dev
    let d := if dev = 0x7FFF then
        let own := d.ownId.getD 0
        { d with fe := { d.fe with bcasts := d.fe.bcasts ++ [({ src := own, seq := seq, waits := d.treeChildren own own, status := 0, failed := own } : Bcast)] } }
      else d
    let r : FabReq := { seq := seq, base := d.fabBase dev seq, load := load, dev := dev, off := off, len := len, data := data,
                        origin := w.waiter, ctx := w.ctx, qid := w.qid, tag := w.tag, sent := d.time, resent := d.time }
    (true, { d with fe := { d.fe with
        reqs := d.fe.reqs.set d.fe.nextId r, nextId := d.fe.nextId + 1,
        nextSeq := d.fe.nextSeq.upd 0 dev (· + 1), tx := d.fe.tx ++ [.request r] } })

/-- The answer that waits for a requester's load at a fabric-window address. -/
def Dev.fabAnswer (d : Dev) (w : Waiter) (addr : Nat) : Option Answer :=
  d.fe.answers.find? (fun a => a.who == w && a.addr == addr)

/-- A requester has used its answers: its access is over. -/
def Dev.fabDone (d : Dev) (w : Waiter) : Dev :=
  { d with fe := { d.fe with answers := d.fe.answers.filter (fun a => a.who != w) } }

/-- A load of at most a line from another device: the answer if it is here, else the request is sent and the access
waits. A load of device 0x7FFF, or past the window, is refused (R37). -/
def Dev.fabLoad (d : Dev) (w : Who) (dev off len : Nat) : Acs × List Byte × Dev :=
  if 0x9000000000 ≤ off ∨ dev = 0x7FFF then (.fail .protection, [], d) else
  match d.fabAnswer w.waiter (windowAddr dev off) with
  | some a => if a.status = 0 then (.ok, a.data, d) else
      (.fail (if a.status = Status.protection.code then .protection else if a.status = Status.memOffline.code then .memOffline
        else if a.status = Status.poison.code then .poison else .remoteDead), [], d)
  | none =>
    if d.fe.reqs.any (fun e => e.2.load && e.2.origin == w.waiter && e.2.dev == dev && e.2.off == off) then (.wait, [], d)
    else if !d.routed dev then (.fail .remoteDead, [], d)
    else (.wait, [], (d.fabSend w true dev off len []).2)

/-- A store of at most a line to another device: posted (R225). -/
def Dev.fabStore (d : Dev) (w : Who) (dev off : Nat) (data : List Byte) : Acs × Dev :=
  if 0x9000000000 ≤ off then (.fail .protection, d) else
  match d.fabSend w false dev off data.length data with
  | (true, d) => (.ok, d)
  | (false, d) => (.wait, d)

/-! ## Physical accesses -/

/-- Read at most a line from a home: bytes, and whether they are poisoned. An engine's command that names control space completes with
PROTECTION, counted as a control-space access error (R206). -/
def Dev.readPiece (d : Dev) (w : Who) (h : Home) (n : Nat) (na : Bool := false) : Acs × List Byte × Bool × Dev :=
  match h with
  | .fabric dev off =>
    let (a, l, d) := d.fabLoad w dev off n
    (a, l, false, d)
  | .ctrl off => (.fail .protection, [], false, d.ctrlError off)
  | _ =>
    match d.verdict h w.ctx false with
    | .refuse s => (.fail s, [], false, d)
    | .wait => (.wait, [], false, d)
    | .pass => (.ok, d.readHome h n, d.badHome h n, (d.poisonRead w.via h n).loadLine w.via h na)

/-- Write at most a line to a home. -/
def Dev.writePiece (d : Dev) (w : Who) (h : Home) (l : List Byte) (stn na : Bool := false) : Acs × Dev :=
  match h with
  | .fabric dev off => d.fabStore w dev off l
  | .ctrl off => (.fail .protection, d.ctrlError off)
  | _ =>
    match d.verdict h w.ctx true with
    | .refuse s => (.fail s, d)
    | .wait => (.wait, d)
    | .pass => (.ok, d.storeLine w.via h l stn na)

/-! ## Virtual accesses -/

/-- Translate one address for an access: what it reaches, and its leaf's NA. -/
def Dev.resolve (d : Dev) (w : Who) (va : Nat) (a : Acc3) : Acs × Home × Bool × Dev :=
  match d.translate w.tlb w.ctx va a with
  | (.ok e level, d) => (.ok, d.leafHome e level va, pteNa e, d)
  | (.fault c l, d) => (.fault c l va a, .outside, false, d)
  | (.status s, d) => (.fail s, .outside, false, d)
  | (.wait, d) => (.wait, .outside, false, d)

/-- Read pieces in order; the first that does not pass ends the access. -/
def Dev.readPieces (d : Dev) (w : Who) (ps : List (Nat × Nat)) : Acs × List Byte × Bool × Dev :=
  match ps with
  | [] => (.ok, [], false, d)
  | (va, n) :: rest =>
    match d.resolve w va .read with
    | (.ok, h, na, d) =>
      match d.readPiece w h n na with
      | (.ok, l, bad, d) =>
        let (a, l', bad', d) := d.readPieces w rest
        (a, l ++ l', bad || bad', d)
      | r => r
    | (a, _, _, d) => (a, [], false, d)

/-- Read `n` bytes at a virtual address, line by line. -/
def Dev.readV (d : Dev) (w : Who) (va n : Nat) : Acs × List Byte × Bool × Dev := d.readPieces w (cut 128 va n)

/-- Write pieces in order; bytes already written stay (R33, R233, R412). -/
def Dev.writePieces (d : Dev) (w : Who) (ps : List (Nat × List Byte)) (stn : Bool := false) : Acs × Dev :=
  match ps with
  | [] => (.ok, d)
  | (va, l) :: rest =>
    match d.resolve w va .write with
    | (.ok, h, na, d) =>
      match d.writePiece w h l stn na with
      | (.ok, d) => d.writePieces w rest stn
      | r => r
    | (a, _, _, d) => (a, d)

/-- Write bytes at a virtual address, line by line. -/
def Dev.writeV (d : Dev) (w : Who) (va : Nat) (l : List Byte) (stn : Bool := false) : Acs × Dev :=
  d.writePieces w ((cut 128 va l.length).map (fun p => (p.1, part l va p.1 p.2))) stn

/-- R194: the fault an access of this agent opens. -/
def Who.fault (w : Who) (cause level va : Nat) (a : Acc3) (time : Nat) : PageFault :=
  { gen := 0, ctx := w.ctx, vpage := va / 65536, access := a.code, cause := cause, level := level, cls := w.cls, inst := w.inst,
    qid := w.qid, tag := w.tag, va := va, opened := time, order := 0, recorded := false, waiters := [] }

/-- R193, R194: an access that ended in a fault is held: the fault opens or is joined. -/
def Dev.hold (d : Dev) (w : Who) (cause level va : Nat) (a : Acc3) : Dev := d.faultOpen (w.fault cause level va a d.time) w.waiter

end Sys2Proof.Machine
end

