-- ==== Sys2Proof/Machine/Operands.lean ====
section
/-! DEFINITION. Operands of instructions: the registers of a Culm core (R79, R80, R271) and of a sheaf (R79, R81,
R83, R84), the lanes an instruction acts in. -/

namespace Sys2Proof.Machine

open Sys2Proof

/-! ## Keys -/

/-- The key of a cluster: 84 × Tiller + cluster. -/
def clsKey (t c : Nat) : Nat := 84 * t + c
/-- The key of a lane row. -/
def rowKey (t c r : Nat) : Nat := 16 * clsKey t c + r
/-- The key of a sheaf. -/
def sheafKey (t c r s : Nat) : Nat := 8 * rowKey t c r + s
/-- The row of a sheaf. -/
def keyRow (k : Nat) : Nat := k / 8
/-- The thread slot of a sheaf. -/
def keySlot (k : Nat) : Nat := k % 8
/-- The cluster of a sheaf. -/
def keyCls (k : Nat) : Nat := k / 128
/-- The Tiller of a sheaf. -/
def keyTil (k : Nat) : Nat := k / 128 / 84
/-- The physical cluster of a sheaf within its Tiller. -/
def keyC (k : Nat) : Nat := k / 128 % 84

/-- The key of a row operand. -/
def rowIdKey (r : RowId) : Nat := rowKey r.t r.c r.r

/-! ## Culm cores -/

/-- A core as it stands. -/
def Dev.core (d : Dev) (n : Nat) : CoreSt := d.cores.get {} n

/-- Change a core. -/
def Dev.setCore (d : Dev) (n : Nat) (f : CoreSt → CoreSt) : Dev := { d with cores := d.cores.upd {} n f }

/-- The CULM_CORESTAT register of core n (R255). -/
def rCorestat (n : Nat) : Nat := rCulmCorestat (n / 48) (n % 48)

/-- CULM_CORESTAT.STATE: 0 ACTIVE, 1 GOING_OFFLINE, 2 OFFLINE, 3 GOING_ONLINE, 4 FAILED. -/
def Dev.coreState (d : Dev) (n : Nat) : Nat := d.fld (rCorestat n) 2 0

/-- A core executes while its die and it are ACTIVE. -/
def Dev.coreActs (d : Dev) (n : Nat) : Bool := d.dieActive (slotCulm (n / 48)) && d.coreState n == 0

/-- R79: a general register; x0 reads zero. -/
def CoreSt.getX (c : CoreSt) (r : Nat) : BitVec 64 := if r = 0 then 0 else c.x.get 0 r

/-- R79: write a general register; a write of x0 is discarded. -/
def CoreSt.setX (c : CoreSt) (r : Nat) (v : BitVec 64) : CoreSt := if r = 0 then c else { c with x := c.x.set r v }

/-- A floating-point register. -/
def CoreSt.getF (c : CoreSt) (r : Nat) : BitVec 64 := c.f.get 0 r

/-- Write a floating-point register. -/
def CoreSt.setF (c : CoreSt) (r : Nat) (v : BitVec 64) : CoreSt := { c with f := c.f.set r v }

/-- A system register (R271). -/
def CoreSt.getCsr (c : CoreSt) (k : Nat) : Nat := (c.csr.get 0 k).toNat

/-- Write a system register. -/
def CoreSt.setCsr (c : CoreSt) (k v : Nat) : CoreSt := { c with csr := c.csr.set k (BitVec.ofNat 64 v) }

/-- A general register of core n. -/
def Dev.x (d : Dev) (n r : Nat) : BitVec 64 := (d.core n).getX r

/-- Write a general register of core n. -/
def Dev.putX (d : Dev) (n r : Nat) (v : BitVec 64) : Dev := d.setCore n (fun c => c.setX r v)

/-- Write a floating-point register of core n. -/
def Dev.putF (d : Dev) (n r : Nat) (v : BitVec 64) : Dev := d.setCore n (fun c => c.setF r v)

/-! ## Sheaves -/

/-- A sheaf as it stands. -/
def Dev.sheaf (d : Dev) (k : Nat) : Sheaf := d.sheaves.get {} k

/-- Change a sheaf. -/
def Dev.setSheaf (d : Dev) (k : Nat) (f : Sheaf → Sheaf) : Dev := { d with sheaves := d.sheaves.upd {} k f }

/-- A lane row as it stands. -/
def Dev.row (d : Dev) (k : Nat) : Row := d.rows.get {} k

/-- Change a lane row. -/
def Dev.setRow (d : Dev) (k : Nat) (f : Row → Row) : Dev := { d with rows := d.rows.upd {} k f }

/-- Place l of a list of lane values; an absent place holds `z`. -/
def lane {α : Type} (z : α) (v : List α) (l : Nat) : α := v.getD l z

/-- R81: the value of a lane's register; v0 reads zero. -/
def Sheaf.getV (s : Sheaf) (r l : Nat) : BitVec 32 := if r = 0 then 0 else lane 0 (s.v.get [] r) l

/-- The 64-bit value of a register pair (R83). -/
def Sheaf.getPair (s : Sheaf) (r l : Nat) : Nat := (s.getV r l).toNat + 2 ^ 32 * (s.getV (r + 1) l).toNat

/-- R81: the lane's mask bit is 1. -/
def Sheaf.on (s : Sheaf) (l : Nat) : Bool := s.mask.getLsbD l

/-- The active lanes, lowest first. -/
def Sheaf.lanes (s : Sheaf) : List Nat := (List.range 256).filter s.on

/-- The lowest active lane. -/
def Sheaf.first (s : Sheaf) : Option Nat := lowest 256 s.on

/-- Write a register in every lane (R109); a write of v0 is discarded. -/
def Sheaf.putAll (s : Sheaf) (r : Nat) (f : Nat → BitVec 32) : Sheaf :=
  if r = 0 then s else { s with v := s.v.set r ((List.range 256).map f) }

/-- R81: write a register in the active lanes. -/
def Sheaf.putV (s : Sheaf) (r : Nat) (f : Nat → BitVec 32) : Sheaf :=
  s.putAll r (fun l => if s.on l then f l else s.getV r l)

/-- A lane's predicate. -/
def Sheaf.getP (s : Sheaf) (p l : Nat) : Bool := (s.p.get 0 p).getLsbD l

/-- A mask from its bits. -/
def maskOf (f : Nat → Bool) : BitVec 256 :=
  BitVec.ofNat 256 ((List.range 256).foldr (fun l acc => (if f l then 1 else 0) + 2 * acc) 0)

/-- R81: write a predicate in the active lanes. -/
def Sheaf.putP (s : Sheaf) (p : Nat) (f : Nat → Bool) : Sheaf :=
  { s with p := s.p.set p ((maskOf f &&& s.mask) ||| (s.p.get 0 p &&& ~~~s.mask)) }

/-- The context of a run: QID [19:8] (R272). -/
def Dev.runCtx (d : Dev) (r : Nat) : Nat := match d.cp.runs.find r with | some v => v.qid / 256 | none => 0

/-- The context of the command that runs a sheaf. -/
def Dev.sheafCtx (d : Dev) (k : Nat) : Nat := match (d.sheaf k).cmd with | some r => d.runCtx r | none => 0

/-- R83: a run of `n` registers from r ends beyond v31 or starts at v0. -/
def runBad (r n : Nat) : Bool := r == 0 || decide (32 < r + n)

/-! ## Cluster SRAM as a row's instructions read it -/

/-- Bytes of the sheaf's own cluster SRAM as a number. -/
def Dev.sramNat (d : Dev) (cls off n : Nat) : Nat := ofLe (d.sramRead cls off n)

end Sys2Proof.Machine
end

