-- ==== Sys2Proof/Machine/Flags.lean ====
section
/-! DEFINITION. Sticky floating-point flags and the rounding mode: FCSR of a core (R80, R90, R271), LFLAGS of a lane
(R90, R103). -/

namespace Sys2Proof.Machine

open Sys2Proof

/-- FCSR (R271). -/
def CoreSt.fcsr (c : CoreSt) : Nat := c.getCsr 1

/-- R271: FCSR.RM, when it names a mode. -/
def CoreSt.rm (c : CoreSt) : Option RMode :=
  match bitsOf c.fcsr 7 5 with
  | 0 => some .rne
  | 1 => some .rtz
  | 2 => some .rdn
  | 3 => some .rup
  | _ => none

/-- R90: exception conditions set the sticky flags of FCSR. -/
def CoreSt.addFlags (c : CoreSt) (f : FFlags) : CoreSt := c.setCsr 1 (c.fcsr ||| f.toNat)

/-- The sticky flags of a lane. -/
def Sheaf.getL (s : Sheaf) (l : Nat) : BitVec 5 := lane 0 s.lflags l

/-- R90: exception conditions set the sticky flags of each active lane. -/
def Sheaf.addFlags (s : Sheaf) (f : Nat → FFlags) : Sheaf :=
  { s with lflags := (List.range 256).map (fun l => if s.on l then s.getL l ||| f l else s.getL l) }

end Sys2Proof.Machine
end

