-- ==== Sys2Proof/Machine/Exec.lean ====
section
/-! DEFINITION. How an instruction runs on a core and in a sheaf (R78, R81), exceptions of cores and the return from
them (R260 to R266), lane exceptions (R105 to R107), the combining buffer's drain (R235). -/

namespace Sys2Proof.Machine

open Sys2Proof

/-! ## The non-temporal combining buffer (R235) -/

/-- The runs of set bits of a 128-bit byte mask: first byte and length. -/
def maskRuns (m : BitVec 128) : List (Nat × Nat) :=
  ((List.range 128).filter (fun i => m.getLsbD i && (i == 0 || !m.getLsbD (i - 1)))).map (fun i =>
    (i, ((List.range (128 - i)).takeWhile (fun j => m.getLsbD (i + j))).length))

/-- The bytes of a run of an entry. -/
def NtEntry.bytes (e : NtEntry) (r : Nat × Nat) : List Byte := ((leBytes 128 e.data.toNat).drop r.1).take r.2

/-- Who a core is for the records its stores leave (R253: CLASS 7, INST the core number). -/
def coreWho (n ctx : Nat) : Who := { tlb := 32 + n, via := .core n, ctx := ctx, waiter := .core n, cls := 7, inst := n }

/-- R263: a store that has retired and is refused at its destination leaves a deferred error. -/
def Dev.coreWrite (d : Dev) (n ctx : Nat) (h : Home) (addr : Nat) (l : List Byte) (stn na : Bool) : Acs × Dev :=
  match d.writePiece (coreWho n ctx) h l stn na with
  | (.fail s, d) => (.ok, d.deferError n addr s)
  | r => r

/-- Drain one entry: a full-line write when every byte is covered, else partial writes. None while its destination
makes it wait. -/
def Dev.ntEntryDrain (d : Dev) (n : Nat) (e : NtEntry) : Option Dev :=
  (maskRuns e.mask).foldl (fun acc r =>
    match acc with
    | none => none
    | some d =>
      match d.coreWrite n e.ctx (d.home (e.line * 128 + r.1)) (e.line * 128 + r.1) (e.bytes r) true false with
      | (.wait, _) => none
      | (_, d) => some d) (some d)

/-- R235: drain the entries that satisfy `p`, oldest first; an entry that must wait stays. -/
def Dev.ntDrain (d : Dev) (n : Nat) (p : NtEntry → Bool) : Dev :=
  (d.core n).nt.foldl (fun d e =>
    if p e then
      match d.ntEntryDrain n e with
      | some d => d.setCore n (fun c => { c with nt := c.nt.filter (fun x => x.line != e.line) })
      | none => d
    else d) d

/-- R235: drain every entry. -/
def Dev.ntDrainAll (d : Dev) (n : Nat) : Dev := d.ntDrain n (fun _ => true)

/-- R235: an access of the core to a line an entry holds drains that entry first. -/
def Dev.ntDrainLine (d : Dev) (n line : Nat) : Dev := d.ntDrain n (fun e => e.line == line)

/-- Every entry of the buffer has drained. -/
def Dev.ntEmpty (d : Dev) (n : Nat) : Bool := (d.core n).nt.isEmpty

/-! ## Exceptions of a core (R260 to R266) -/

/-- The number of an S-level exception register at the level the exception is taken at (R271): M's lie 0x200 above. -/
def excReg (toM : Bool) (k : Nat) : Nat := if toM then k + 0x200 else k

/-- R260, steps 2 to 5: the registers an exception taken at M (`toM`) or at S writes, and where the core goes on. -/
def CoreSt.enter (c : CoreSt) (toM : Bool) (savepc cause faddr finfo : Nat) : CoreSt :=
  let st := c.getCsr 0x100
  let st' := if toM then putBits (putBits (putBits st 12 11 c.level) 5 5 (bitsOf st 1 1)) 1 1 0
    else putBits (putBits (putBits st 8 8 (min c.level 1)) 4 4 (bitsOf st 0 0)) 0 0 0
  let c' := ((((c.setCsr (excReg toM 0x105) savepc).setCsr (excReg toM 0x106) cause).setCsr
    (excReg toM 0x107) faddr).setCsr (excReg toM 0x108) finfo).setCsr 0x100 st'
  { c' with
    level := if toM then 3 else 1
    pc := BitVec.ofNat 64 (c.getCsr (excReg toM 0x104) / 256 * 256)
    resv := none }

/-- R260: the level an exception of this code is taken at: M, unless DELEG gives it to S and the core runs below M. -/
def CoreSt.excToM (c : CoreSt) (code : Nat) : Bool := decide (c.level = 3) || !(c.getCsr 0x300).testBit code

/-- R260: take an exception or an interrupt: entry starts the drain of the combining buffer, without waiting. -/
def Dev.takeException (d : Dev) (n : Nat) (toM : Bool) (savepc cause faddr finfo : Nat) : Dev :=
  (d.ntDrainAll n).setCore n (fun c => c.enter toM savepc cause faddr finfo)

/-- R260, R261: a synchronous exception at the present instruction. -/
def Dev.coreException (d : Dev) (n code faddr finfo : Nat) : Dev :=
  d.takeException n ((d.core n).excToM code) (d.core n).pc.toNat code faddr finfo

/-- R260: return from an exception taken at M or at S. MPP encoding 2 counts as U (R256). -/
def CoreSt.eret (c : CoreSt) : CoreSt :=
  let m := decide (c.level = 3)
  let st := c.getCsr 0x100
  let prev := bitsOf st 12 11
  let st' := if m then putBits st 1 1 (bitsOf st 5 5) else putBits st 0 0 (bitsOf st 4 4)
  { c.setCsr 0x100 st' with
    level := if m then (if prev = 2 then 0 else prev) else bitsOf st 8 8
    pc := BitVec.ofNat 64 (c.getCsr (excReg m 0x105)) }

/-- R266, R271: IPEND: [3] M event, [2] M timer, [1] S event, [0] S timer. -/
def CoreSt.ipend (c : CoreSt) : Nat :=
  (if c.evqM.isEmpty then 0 else 8) + (if c.timM then 4 else 0) + (if c.evqS.isEmpty then 0 else 2) + (if c.timS then 1 else 0)

/-- R266: an interrupt of a level can be taken now: the core runs below the level, or at it with its enable set. -/
def CoreSt.levelOpen (c : CoreSt) (toM : Bool) : Bool :=
  if toM then decide (c.level < 3) || (c.getCsr 0x100).testBit 1
  else decide (c.level < 1) || (decide (c.level = 1) && (c.getCsr 0x100).testBit 0)

/-- R266: the interrupt that is taken first: its code, and whether at M. -/
def CoreSt.interrupt (c : CoreSt) : Option (Nat × Bool) :=
  let on := fun i => c.ipend.testBit i && (c.getCsr 0x101).testBit i
  if on 3 && c.levelOpen true then some (4, true)
  else if on 2 && c.levelOpen true then some (2, true)
  else if on 1 && c.levelOpen false then some (3, false)
  else if on 0 && c.levelOpen false then some (1, false)
  else none

/-- R263: the deferred error that can be taken now, and whether at M. -/
def CoreSt.deferredNow (c : CoreSt) : Option (Deferred × Bool) :=
  match c.deferred with
  | none => none
  | some e => if c.levelOpen (c.excToM 0x18) then some (e, c.excToM 0x18) else none

/-! ## An instruction on a core -/

/-- How an instruction ends on a core. -/
inductive CEnd where
  | next
  | jump (t : Nat)
  | exc (code faddr finfo : Nat)
  | wait
deriving DecidableEq, Repr

/-- The present instruction retires and the core goes on at `t`. -/
def Dev.coreRetire (d : Dev) (n t : Nat) : Dev :=
  d.setCore n (fun c => { c with pc := BitVec.ofNat 64 t, retired := c.retired + 1 })

/-- R78, R256, R260, R261: run an instruction on core n: `lvl` is the lowest level that may run it, `bad` says that its
word is illegal. A taken target that is not aligned to 4 bytes faults at the branch. -/
def Dev.onCore (d : Dev) (n lvl : Nat) (bad : Bool) (f : Dev → CEnd × Dev) : Dev :=
  if !d.coreActs n then d
  else if bad || decide ((d.core n).level < lvl) then d.coreException n 1 0 0
  else match f d with
    | (.next, d') => d'.coreRetire n ((d'.core n).pc.toNat + 4)
    | (.jump t, d') => if t % 4 = 0 then d'.coreRetire n t else d.coreException n 6 t 0
    | (.exc c a i, d') => d'.coreException n c a i
    | (.wait, d') => d'

/-! ## Lane exceptions (R105 to R107) -/

/-- R107: the status of a cause that the instruction itself raises. -/
def causeStatus (cause : Nat) : Status :=
  if cause < 0x10 then .illegalInstruction else if cause < 0x20 then .illegalRowSequence
  else if cause = 0x20 then .misaligned else if cause = 0x30 then .laneTrap else .protection

/-- R106 step 1: every sheaf of a command stops at its next instruction boundary; waiting faults are abandoned. -/
def Dev.stopSheaves (d : Dev) (r : Nat) : Dev :=
  let ks := d.sheaves.keysP (fun _ s => s.cmd == some r && s.st == .running)
  ks.foldl (fun d k =>
    (d.setSheaf k (fun s => { s with st := .stopped, bar := false })).faultLeave (.sheaf k)) d

/-- R107: record a lane exception in the cluster's registers, or count it as lost. -/
def Dev.recordLane (d : Dev) (k cause : Nat) (s : Status) (lane word : Nat) : Dev :=
  let t := keyTil k
  let c := keyC k
  if d.bit (rClsLexc t c) 63 then d.addSat (rClsLexc t c) 62 56 1
  else
    let v := 2 ^ 63 + s.code * 2 ^ 40 + cause * 2 ^ 32 + keyRow k % 16 * 2 ^ 28 + keySlot k * 2 ^ 24 + lane * 2 ^ 16 + d.sheafCtx k
    ((d.setReg (rClsLexc t c) v).setReg (rClsLexpc t c) ((d.sheaf k).pc.toNat % 2 ^ 56)).setReg (rClsLexinst t c) word

/-- R106, R107: a lane takes an exception: its sheaf stops at the instruction, and its command is wound down. -/
def Dev.laneException (d : Dev) (k cause : Nat) (s : Status) (lane word : Nat) : Dev :=
  let d := d.recordLane k cause s lane word
  let cmd := (d.sheaf k).cmd
  let d := (d.setSheaf k (fun s => { s with st := .stopped, bar := false })).faultLeave (.sheaf k)
  match cmd with
  | some r => (d.kernelStatus r s cause).stopSheaves r
  | none => d

/-! ## An instruction in a sheaf -/

/-- How an instruction ends in a sheaf. -/
inductive LEnd where
  | next
  | jump (t : Nat)
  | exc (cause : Nat) (s : Status) (lane : Nat)
  | wait
deriving DecidableEq, Repr

/-- A sheaf executes while it runs, waits on no fault or barrier, and its die and cluster are up. -/
def Dev.sheafActs (d : Dev) (k : Nat) : Bool :=
  (d.sheaf k).st == .running && !(d.sheaf k).bar && d.dieActive (slotTil (keyTil k)) &&
  d.clsEnabled (keyTil k) (keyC k) && !d.faultHeld (.sheaf k)

/-- The sheaf goes on at `t`. -/
def Dev.sheafGo (d : Dev) (k t : Nat) : Dev := d.setSheaf k (fun s => { s with pc := BitVec.ofNat 64 t })

/-- The instruction's word (R107). -/
def wordNat (i : Instr) : Nat := match encode i with | some (_, w) => w.toNat | none => 0

/-- R78, R81, R106: run instruction i in sheaf k; `bad` is the cause it is illegal with, if any, recorded for the
lowest active lane. With an empty mask no lane takes an exception. -/
def Dev.onSheaf (d : Dev) (k : Nat) (i : Instr) (bad : Option Nat) (f : Dev → LEnd × Dev) : Dev :=
  if !d.sheafActs k then d
  else
    let pc := (d.sheaf k).pc.toNat
    match bad, (d.sheaf k).first with
    | some c, some l => d.laneException k c (causeStatus c) l (wordNat i)
    | some _, none => d.sheafGo k (pc + 4)
    | none, _ =>
      match f d with
      | (.next, d') => d'.sheafGo k (pc + 4)
      | (.jump t, d') => d'.sheafGo k t
      | (.exc c s l, d') => d'.laneException k c s l (wordNat i)
      | (.wait, d') => d'

/-- An instruction of either profile: on its core, or in its sheaf. -/
def Dev.ghety (d : Dev) (i : Instr) (a : Agent) (lvl : Nat) (badC : Bool) (fC : Nat → Dev → CEnd × Dev)
    (badL : Option Nat) (fL : Nat → Dev → LEnd × Dev) : Dev :=
  match a with
  | .core n => d.onCore n lvl badC (fC n)
  | .sheaf t c r s => d.onSheaf (sheafKey t c r s) i badL (fL (sheafKey t c r s))

/-- An instruction of Ghety-C only (R78). -/
def Dev.onlyC (d : Dev) (i : Instr) (a : Agent) (lvl : Nat) (bad : Bool) (f : Nat → Dev → CEnd × Dev) : Dev :=
  d.ghety i a lvl bad f (some 1) (fun _ d => (.next, d))

/-- An instruction of Ghety-L only (R78). -/
def Dev.onlyL (d : Dev) (i : Instr) (a : Agent) (bad : Option Nat) (f : Nat → Dev → LEnd × Dev) : Dev :=
  d.ghety i a 0 true (fun _ d => (.next, d)) bad f

/-- The cause of a word with a nonzero unused field or a value no table gives (R107: 0x01). -/
def cause1 (b : Bool) : Option Nat := if b then some 1 else none

/-- The first cause that holds. -/
def orCause (a b : Option Nat) : Option Nat := match a with | some c => some c | none => b

end Sys2Proof.Machine
end

