-- ==== Sys2Proof/Machine/IntOps.lean ====
section
/-! DEFINITION. The integer operations of the ALU and MULDIV groups (R86 to R89), once for any width: 64 in
Ghety-C, 32 in Ghety-L and in the .W forms. -/

namespace Sys2Proof.Machine

/-- The operations of two register operands (R87). -/
inductive AluOp where
  | add | sub | and | or | xor | andn | sll | srl | sra | ror | slt | sltu
  | min | max | minu | maxu | clz | ctz | popc
  | mul | mulh | mulhu | mulhsu | div | divu | rem | remu
deriving DecidableEq, Repr

def oneIf (w : Nat) (b : Bool) : BitVec w := if b then 1 else 0

/-- Leading zeros of a word; the width for zero (R88). -/
def clzOf (w : Nat) (x : BitVec w) : BitVec w :=
  BitVec.ofNat w (if x.toNat = 0 then w else w - 1 - Nat.log2 x.toNat)

/-- Trailing zeros of a word; the width for zero (R88). -/
def ctzOf (w : Nat) (x : BitVec w) : BitVec w :=
  BitVec.ofNat w ((lowest w (fun i => x.toNat.testBit i)).getD w)

/-- Set bits of a word. -/
def popcOf (w : Nat) (x : BitVec w) : BitVec w :=
  BitVec.ofNat w ((List.range w).filter (fun i => x.toNat.testBit i)).length

/-- R88: shift amounts are the low 6 bits at width 64 and the low 5 bits at width 32. -/
def shAmt (w : Nat) (b : BitVec w) : Nat := b.toNat % w

/-- R88: signed division; a zero divisor gives −1, and the most negative value over −1 gives itself. -/
def divS (w : Nat) (a b : BitVec w) : BitVec w :=
  if b = 0 then BitVec.allOnes w else BitVec.sdiv a b

/-- R88: unsigned division; all ones on a zero divisor. -/
def divU (w : Nat) (a b : BitVec w) : BitVec w :=
  if b = 0 then BitVec.allOnes w else a / b

/-- R88: signed remainder; ra on a zero divisor, 0 on overflow. -/
def remS (w : Nat) (a b : BitVec w) : BitVec w :=
  if b = 0 then a else BitVec.srem a b

/-- R88: unsigned remainder; ra on a zero divisor. -/
def remU (w : Nat) (a b : BitVec w) : BitVec w :=
  if b = 0 then a else a % b

/-- The result of an operation on two operands of width `w` (R87, R88). -/
def aluEval (op : AluOp) (w : Nat) (a b : BitVec w) : BitVec w :=
  match op with
  | .add => a + b
  | .sub => a - b
  | .and => a &&& b
  | .or => a ||| b
  | .xor => a ^^^ b
  | .andn => a &&& ~~~b
  | .sll => a <<< shAmt w b
  | .srl => a >>> shAmt w b
  | .sra => a.sshiftRight (shAmt w b)
  | .ror => a.rotateRight (shAmt w b)
  | .slt => oneIf w (a.slt b)
  | .sltu => oneIf w (a.ult b)
  | .min => if a.slt b then a else b
  | .max => if a.slt b then b else a
  | .minu => if a.ult b then a else b
  | .maxu => if a.ult b then b else a
  | .clz => clzOf w a
  | .ctz => ctzOf w a
  | .popc => popcOf w a
  | .mul => a * b
  | .mulh => BitVec.ofInt w ((a.toInt * b.toInt) / (2 ^ w : Nat))
  | .mulhu => BitVec.ofNat w ((a.toNat * b.toNat) / 2 ^ w)
  | .mulhsu => BitVec.ofInt w ((a.toInt * (b.toNat : Int)) / (2 ^ w : Nat))
  | .div => divS w a b
  | .divu => divU w a b
  | .rem => remS w a b
  | .remu => remU w a b

/-- R86: SHI, by kind: 0 SLL, 1 SRL, 2 SRA, 3 ROR. -/
def shiEval (kind : Nat) (w : Nat) (a : BitVec w) (n : Nat) : BitVec w :=
  match kind with
  | 0 => a <<< n
  | 1 => a >>> n
  | 2 => a.sshiftRight n
  | _ => a.rotateRight n

end Sys2Proof.Machine
end

