-- ==== Sys2Proof/Machine/Alu.lean ====
section
/-! DEFINITION. The integer groups: ALU, MULDIV, immediates, SHI, LUI and AUIPC (R85 to R89). -/

namespace Sys2Proof.Machine

open Sys2Proof

/-- R87, R88: an operation on ra and rb, 64 bits wide on a core and 32 in a lane. -/
def Dev.alu2 (d : Dev) (i : Instr) (a : Agent) (op : AluOp) (f : RF) (bad : Bool) : Dev :=
  d.ghety i a 0 bad
    (fun n d => (.next, d.putX n f.rd.toNat (aluEval op 64 (d.x n f.ra.toNat) (d.x n f.rb.toNat))))
    (cause1 bad)
    (fun k d => (.next, d.setSheaf k (fun s =>
      s.putV f.rd.toNat (fun l => aluEval op 32 (s.getV f.ra.toNat l) (s.getV f.rb.toNat l)))))

/-- R88: a .W form: 32 bits wide, its result sign-extended. Ghety-C only. -/
def Dev.aluW (d : Dev) (i : Instr) (a : Agent) (op : AluOp) (f : RF) : Dev :=
  d.onlyC i a 0 (f.fn2 != 0) (fun n d => (.next,
    d.putX n f.rd.toNat ((aluEval op 32 ((d.x n f.ra.toNat).setWidth 32) ((d.x n f.rb.toNat).setWidth 32)).signExtend 64)))

/-- R85: an operation on ra and an immediate, given sign- or zero-extended. -/
def Dev.aluI (d : Dev) (i : Instr) (a : Agent) (op : AluOp) (f : IF) (signed : Bool) : Dev :=
  d.ghety i a 0 false
    (fun n d => (.next, d.putX n f.rd.toNat (aluEval op 64 (d.x n f.ra.toNat) (if signed then f.imm.signExtend 64 else f.imm.setWidth 64))))
    none
    (fun k d => (.next, d.setSheaf k (fun s =>
      s.putV f.rd.toNat (fun l => aluEval op 32 (s.getV f.ra.toNat l) (if signed then f.imm.signExtend 32 else f.imm.setWidth 32)))))

/-- R86: SHI. Shifting 32 bits by more than 31 (W = 1) has no stated result: a free value (notes/assumptions/3.md). -/
def Dev.shi (d : Dev) (i : Instr) (a : Agent) (f : IF) : Dev :=
  let v := f.imm.toNat
  let n := v % 64
  let kind := v / 64 % 4
  let w := v.testBit 8
  let bad := decide (512 ≤ v)
  d.ghety i a 0 bad
    (fun c d =>
      let x := d.x c f.ra.toNat
      if w && decide (31 < n) then
        let (r, d) := d.fresh
        (.next, d.putX c f.rd.toNat ((r.setWidth 32).signExtend 64))
      else (.next, d.putX c f.rd.toNat (if w then (shiEval kind 32 (x.setWidth 32) n).signExtend 64 else shiEval kind 64 x n)))
    (cause1 (bad || w || decide (31 < n)))
    (fun k d => (.next, d.setSheaf k (fun s => s.putV f.rd.toNat (fun l => shiEval kind 32 (s.getV f.ra.toNat l) n))))

/-- R85: LUI's value: IMM21 shifted left by 11, sign-extended from bit 31. -/
def luiValue (f : UF) : BitVec 64 := ((f.imm.setWidth 32) <<< (11 : Nat)).signExtend 64

/-- R85: LUI, or AUIPC, which adds its own address. -/
def Dev.upper (d : Dev) (i : Instr) (a : Agent) (f : UF) (pc : Bool) : Dev :=
  d.ghety i a 0 false
    (fun n d => (.next, d.putX n f.rd.toNat ((if pc then (d.core n).pc else 0) + luiValue f)))
    none
    (fun k d => (.next, d.setSheaf k (fun s =>
      s.putV f.rd.toNat (fun _ => ((if pc then s.pc else 0) + luiValue f).setWidth 32))))

/-- R89: ADDC (`sub` false) or SUBC through the predicate that FN2 [2:0] names: result and carry or borrow. -/
def carryOp (sub : Bool) (x y : BitVec 32) (c : Bool) : BitVec 32 × Bool :=
  let k : Nat := if c then 1 else 0
  if sub then (BitVec.ofInt 32 ((x.toNat : Int) - y.toNat - k), decide (x.toNat < y.toNat + k))
  else (BitVec.ofNat 32 (x.toNat + y.toNat + k), decide (2 ^ 32 ≤ x.toNat + y.toNat + k))

/-- R89: ADDC and SUBC. -/
def Dev.carry (d : Dev) (i : Instr) (a : Agent) (f : RF) (sub : Bool) : Dev :=
  let p := f.fn2.toNat
  d.onlyL i a (cause1 (decide (7 < p))) (fun k d => (.next, d.setSheaf k (fun s =>
    let r := fun l => carryOp sub (s.getV f.ra.toNat l) (s.getV f.rb.toNat l) (s.getP p l)
    (s.putV f.rd.toNat (fun l => (r l).1)).putP p (fun l => (r l).2))))

/-- R89: SEL. -/
def Dev.sel (d : Dev) (i : Instr) (a : Agent) (f : RF) : Dev :=
  let p := f.fn2.toNat
  d.onlyL i a (cause1 (decide (7 < p))) (fun k d => (.next, d.setSheaf k (fun s =>
    s.putV f.rd.toNat (fun l => if s.getP p l then s.getV f.ra.toNat l else s.getV f.rb.toNat l))))

/-- R87, R88: ADD. -/
def execAdd (a : Agent) (f : RF) (s : State) : Out := doCmd a.wf (fun d => d.alu2 (.add a f) a .add f (f.fn2 != 0)) s

/-- R87, R88: SUB. -/
def execSub (a : Agent) (f : RF) (s : State) : Out := doCmd a.wf (fun d => d.alu2 (.sub a f) a .sub f (f.fn2 != 0)) s

/-- R87, R88: AND. -/
def execAnd (a : Agent) (f : RF) (s : State) : Out := doCmd a.wf (fun d => d.alu2 (.and a f) a .and f (f.fn2 != 0)) s

/-- R87, R88: OR. -/
def execOr (a : Agent) (f : RF) (s : State) : Out := doCmd a.wf (fun d => d.alu2 (.or a f) a .or f (f.fn2 != 0)) s

/-- R87, R88: XOR. -/
def execXor (a : Agent) (f : RF) (s : State) : Out := doCmd a.wf (fun d => d.alu2 (.xor a f) a .xor f (f.fn2 != 0)) s

/-- R87, R88: ANDN. -/
def execAndn (a : Agent) (f : RF) (s : State) : Out :=
  doCmd a.wf (fun d => d.alu2 (.andn a f) a .andn f (f.fn2 != 0)) s

/-- R87, R88: SLL. -/
def execSll (a : Agent) (f : RF) (s : State) : Out := doCmd a.wf (fun d => d.alu2 (.sll a f) a .sll f (f.fn2 != 0)) s

/-- R87, R88: SRL. -/
def execSrl (a : Agent) (f : RF) (s : State) : Out := doCmd a.wf (fun d => d.alu2 (.srl a f) a .srl f (f.fn2 != 0)) s

/-- R87, R88: SRA. -/
def execSra (a : Agent) (f : RF) (s : State) : Out := doCmd a.wf (fun d => d.alu2 (.sra a f) a .sra f (f.fn2 != 0)) s

/-- R87, R88: ROR. -/
def execRor (a : Agent) (f : RF) (s : State) : Out := doCmd a.wf (fun d => d.alu2 (.ror a f) a .ror f (f.fn2 != 0)) s

/-- R87, R88: SLT. -/
def execSlt (a : Agent) (f : RF) (s : State) : Out := doCmd a.wf (fun d => d.alu2 (.slt a f) a .slt f (f.fn2 != 0)) s

/-- R87, R88: SLTU. -/
def execSltu (a : Agent) (f : RF) (s : State) : Out :=
  doCmd a.wf (fun d => d.alu2 (.sltu a f) a .sltu f (f.fn2 != 0)) s

/-- R87, R88: MIN. -/
def execMin (a : Agent) (f : RF) (s : State) : Out := doCmd a.wf (fun d => d.alu2 (.min a f) a .min f (f.fn2 != 0)) s

/-- R87, R88: MAX. -/
def execMax (a : Agent) (f : RF) (s : State) : Out := doCmd a.wf (fun d => d.alu2 (.max a f) a .max f (f.fn2 != 0)) s

/-- R87, R88: MINU. -/
def execMinu (a : Agent) (f : RF) (s : State) : Out :=
  doCmd a.wf (fun d => d.alu2 (.minu a f) a .minu f (f.fn2 != 0)) s

/-- R87, R88: MAXU. -/
def execMaxu (a : Agent) (f : RF) (s : State) : Out :=
  doCmd a.wf (fun d => d.alu2 (.maxu a f) a .maxu f (f.fn2 != 0)) s

/-- R87, R88: CLZ; RB is unused. -/
def execClz (a : Agent) (f : RF) (s : State) : Out :=
  doCmd a.wf (fun d => d.alu2 (.clz a f) a .clz f (f.fn2 != 0 || f.rb != 0)) s

/-- R87, R88: CTZ; RB is unused. -/
def execCtz (a : Agent) (f : RF) (s : State) : Out :=
  doCmd a.wf (fun d => d.alu2 (.ctz a f) a .ctz f (f.fn2 != 0 || f.rb != 0)) s

/-- R87, R88: POPC; RB is unused. -/
def execPopc (a : Agent) (f : RF) (s : State) : Out :=
  doCmd a.wf (fun d => d.alu2 (.popc a f) a .popc f (f.fn2 != 0 || f.rb != 0)) s

/-- R89: ADDC. -/
def execAddc (a : Agent) (f : RF) (s : State) : Out := doCmd a.wf (fun d => d.carry (.addc a f) a f false) s

/-- R89: SUBC. -/
def execSubc (a : Agent) (f : RF) (s : State) : Out := doCmd a.wf (fun d => d.carry (.subc a f) a f true) s

/-- R89: SEL. -/
def execSel (a : Agent) (f : RF) (s : State) : Out := doCmd a.wf (fun d => d.sel (.sel a f) a f) s

/-- R87, R88: ADD.W. -/
def execAddW (a : Agent) (f : RF) (s : State) : Out := doCmd a.wf (fun d => d.aluW (.addW a f) a .add f) s

/-- R87, R88: SUB.W. -/
def execSubW (a : Agent) (f : RF) (s : State) : Out := doCmd a.wf (fun d => d.aluW (.subW a f) a .sub f) s

/-- R87, R88: SLL.W. -/
def execSllW (a : Agent) (f : RF) (s : State) : Out := doCmd a.wf (fun d => d.aluW (.sllW a f) a .sll f) s

/-- R87, R88: SRL.W. -/
def execSrlW (a : Agent) (f : RF) (s : State) : Out := doCmd a.wf (fun d => d.aluW (.srlW a f) a .srl f) s

/-- R87, R88: SRA.W. -/
def execSraW (a : Agent) (f : RF) (s : State) : Out := doCmd a.wf (fun d => d.aluW (.sraW a f) a .sra f) s

/-- R87, R88: MUL.W. -/
def execMulW (a : Agent) (f : RF) (s : State) : Out := doCmd a.wf (fun d => d.aluW (.mulW a f) a .mul f) s

/-- R87, R88: DIV.W. -/
def execDivW (a : Agent) (f : RF) (s : State) : Out := doCmd a.wf (fun d => d.aluW (.divW a f) a .div f) s

/-- R87, R88: DIVU.W. -/
def execDivuW (a : Agent) (f : RF) (s : State) : Out := doCmd a.wf (fun d => d.aluW (.divuW a f) a .divu f) s

/-- R87, R88: REM.W. -/
def execRemW (a : Agent) (f : RF) (s : State) : Out := doCmd a.wf (fun d => d.aluW (.remW a f) a .rem f) s

/-- R87, R88: REMU.W. -/
def execRemuW (a : Agent) (f : RF) (s : State) : Out := doCmd a.wf (fun d => d.aluW (.remuW a f) a .remu f) s

/-- R87, R88: MUL. -/
def execMul (a : Agent) (f : RF) (s : State) : Out := doCmd a.wf (fun d => d.alu2 (.mul a f) a .mul f (f.fn2 != 0)) s

/-- R87, R88: MULH. -/
def execMulh (a : Agent) (f : RF) (s : State) : Out :=
  doCmd a.wf (fun d => d.alu2 (.mulh a f) a .mulh f (f.fn2 != 0)) s

/-- R87, R88: MULHU. -/
def execMulhu (a : Agent) (f : RF) (s : State) : Out :=
  doCmd a.wf (fun d => d.alu2 (.mulhu a f) a .mulhu f (f.fn2 != 0)) s

/-- R87, R88: MULHSU. -/
def execMulhsu (a : Agent) (f : RF) (s : State) : Out :=
  doCmd a.wf (fun d => d.alu2 (.mulhsu a f) a .mulhsu f (f.fn2 != 0)) s

/-- R87, R88: DIV. -/
def execDiv (a : Agent) (f : RF) (s : State) : Out := doCmd a.wf (fun d => d.alu2 (.div a f) a .div f (f.fn2 != 0)) s

/-- R87, R88: DIVU. -/
def execDivu (a : Agent) (f : RF) (s : State) : Out :=
  doCmd a.wf (fun d => d.alu2 (.divu a f) a .divu f (f.fn2 != 0)) s

/-- R87, R88: REM. -/
def execRem (a : Agent) (f : RF) (s : State) : Out := doCmd a.wf (fun d => d.alu2 (.rem a f) a .rem f (f.fn2 != 0)) s

/-- R87, R88: REMU. -/
def execRemu (a : Agent) (f : RF) (s : State) : Out :=
  doCmd a.wf (fun d => d.alu2 (.remu a f) a .remu f (f.fn2 != 0)) s

/-- R85: ADDI. -/
def execAddi (a : Agent) (f : IF) (s : State) : Out := doCmd a.wf (fun d => d.aluI (.addi a f) a .add f true) s

/-- R85: ANDI. -/
def execAndi (a : Agent) (f : IF) (s : State) : Out := doCmd a.wf (fun d => d.aluI (.andi a f) a .and f false) s

/-- R85: ORI. -/
def execOri (a : Agent) (f : IF) (s : State) : Out := doCmd a.wf (fun d => d.aluI (.ori a f) a .or f false) s

/-- R85: XORI. -/
def execXori (a : Agent) (f : IF) (s : State) : Out := doCmd a.wf (fun d => d.aluI (.xori a f) a .xor f false) s

/-- R85: SLTI. -/
def execSlti (a : Agent) (f : IF) (s : State) : Out := doCmd a.wf (fun d => d.aluI (.slti a f) a .slt f true) s

/-- R85: SLTIU. -/
def execSltiu (a : Agent) (f : IF) (s : State) : Out := doCmd a.wf (fun d => d.aluI (.sltiu a f) a .sltu f true) s

/-- R86: SHI. -/
def execShi (a : Agent) (f : IF) (s : State) : Out := doCmd a.wf (fun d => d.shi (.shi a f) a f) s

/-- R85: LUI. -/
def execLui (a : Agent) (f : UF) (s : State) : Out := doCmd a.wf (fun d => d.upper (.lui a f) a f false) s

/-- R85: AUIPC. -/
def execAuipc (a : Agent) (f : UF) (s : State) : Out := doCmd a.wf (fun d => d.upper (.auipc a f) a f true) s

end Sys2Proof.Machine
end

