-- ==== Sys2Proof/Machine/Crypto.lean ====
section
/-! DEFINITION. The cryptographic functions the security processor uses: SHA-384, the verification of ECDSA on
brainpoolP384r1, CRC-32 (R472 to R474, R481). They are those of the named standards (notes/assumptions/41.md). -/

namespace Sys2Proof.Machine

open Sys2Proof

/-! ## SHA-384 -/

/-- Round constants 0 to 19 of SHA-384. -/
def shaK0 : List (BitVec 64) :=
  [0x428A2F98D728AE22, 0x7137449123EF65CD, 0xB5C0FBCFEC4D3B2F, 0xE9B5DBA58189DBBC,
   0x3956C25BF348B538, 0x59F111F1B605D019, 0x923F82A4AF194F9B, 0xAB1C5ED5DA6D8118,
   0xD807AA98A3030242, 0x12835B0145706FBE, 0x243185BE4EE4B28C, 0x550C7DC3D5FFB4E2,
   0x72BE5D74F27B896F, 0x80DEB1FE3B1696B1, 0x9BDC06A725C71235, 0xC19BF174CF692694,
   0xE49B69C19EF14AD2, 0xEFBE4786384F25E3, 0xFC19DC68B8CD5B5, 0x240CA1CC77AC9C65]

/-- Round constants 20 to 39 of SHA-384. -/
def shaK1 : List (BitVec 64) :=
  [0x2DE92C6F592B0275, 0x4A7484AA6EA6E483, 0x5CB0A9DCBD41FBD4, 0x76F988DA831153B5,
   0x983E5152EE66DFAB, 0xA831C66D2DB43210, 0xB00327C898FB213F, 0xBF597FC7BEEF0EE4,
   0xC6E00BF33DA88FC2, 0xD5A79147930AA725, 0x6CA6351E003826F, 0x142929670A0E6E70,
   0x27B70A8546D22FFC, 0x2E1B21385C26C926, 0x4D2C6DFC5AC42AED, 0x53380D139D95B3DF,
   0x650A73548BAF63DE, 0x766A0ABB3C77B2A8, 0x81C2C92E47EDAEE6, 0x92722C851482353B]

/-- Round constants 40 to 59 of SHA-384. -/
def shaK2 : List (BitVec 64) :=
  [0xA2BFE8A14CF10364, 0xA81A664BBC423001, 0xC24B8B70D0F89791, 0xC76C51A30654BE30,
   0xD192E819D6EF5218, 0xD69906245565A910, 0xF40E35855771202A, 0x106AA07032BBD1B8,
   0x19A4C116B8D2D0C8, 0x1E376C085141AB53, 0x2748774CDF8EEB99, 0x34B0BCB5E19B48A8,
   0x391C0CB3C5C95A63, 0x4ED8AA4AE3418ACB, 0x5B9CCA4F7763E373, 0x682E6FF3D6B2B8A3,
   0x748F82EE5DEFB2FC, 0x78A5636F43172F60, 0x84C87814A1F0AB72, 0x8CC702081A6439EC]

/-- Round constants 60 to 79 of SHA-384. -/
def shaK3 : List (BitVec 64) :=
  [0x90BEFFFA23631E28, 0xA4506CEBDE82BDE9, 0xBEF9A3F7B2C67915, 0xC67178F2E372532B,
   0xCA273ECEEA26619C, 0xD186B8C721C0C207, 0xEADA7DD6CDE0EB1E, 0xF57D4F7FEE6ED178,
   0x6F067AA72176FBA, 0xA637DC5A2C898A6, 0x113F9804BEF90DAE, 0x1B710B35131C471B,
   0x28DB77F523047D84, 0x32CAAB7B40C72493, 0x3C9EBE0A15C9BEBC, 0x431D67C49C100D4C,
   0x4CC5D4BECB3E42B6, 0x597F299CFC657E2A, 0x5FCB6FAB3AD6FAEC, 0x6C44198C4A475817]

/-- The round constants. -/
def shaK : List (BitVec 64) := shaK0 ++ shaK1 ++ shaK2 ++ shaK3

/-- The initial hash value. -/
def shaInit : List (BitVec 64) :=
  [0xCBBB9D5DC1059ED8, 0x629A292A367CD507, 0x9159015A3070DD17, 0x152FECD8F70E5939,
   0x67332667FFC00B31, 0x8EB44A8768581511, 0xDB0C2E0D64F98FA7, 0x47B5481DBEFA4FA4]

/-- A number, big-endian, in n bytes. -/
def beBytes (n x : Nat) : List Byte := (leBytes n x).reverse

/-- The number a list of bytes spells, highest first. -/
def ofBe (l : List Byte) : Nat := ofLe l.reverse

/-- The message with its padding: a 1 bit, zeros, the length in 128 bits. -/
def shaPad (l : List Byte) : List Byte :=
  l ++ [0x80] ++ List.replicate ((239 - l.length % 128) % 128) 0 ++ beBytes 16 (8 * l.length)

/-- The message schedule of a block, newest word first: 64 words more. -/
def shaSchedule (n : Nat) (w : List (BitVec 64)) : List (BitVec 64) :=
  iter n (fun w =>
    let g := fun i => w.getD (i - 1) 0
    let s0 := (g 15).rotateRight 1 ^^^ (g 15).rotateRight 8 ^^^ (g 15) >>> 7
    let s1 := (g 2).rotateRight 19 ^^^ (g 2).rotateRight 61 ^^^ (g 2) >>> 6
    (g 16 + s0 + g 7 + s1) :: w) w

/-- One round on the working variables a to h. -/
def shaRound (s : List (BitVec 64)) (kw : BitVec 64) : List (BitVec 64) :=
  match s with
  | [a, b, c, d, e, f, g, h] =>
    let t1 := h + (e.rotateRight 14 ^^^ e.rotateRight 18 ^^^ e.rotateRight 41) + ((e &&& f) ^^^ (~~~e &&& g)) + kw
    let t2 := (a.rotateRight 28 ^^^ a.rotateRight 34 ^^^ a.rotateRight 39) + ((a &&& b) ^^^ (a &&& c) ^^^ (b &&& c))
    [t1 + t2, a, b, c, d + t1, e, f, g]
  | _ => s

/-- The hash value after a block of 128 bytes. -/
def shaBlock (h : List (BitVec 64)) (blk : List Byte) : List (BitVec 64) :=
  let w := (List.range 16).map (fun i => BitVec.ofNat 64 (ofBe ((blk.drop (8 * i)).take 8)))
  let ws := (shaSchedule 64 w.reverse).reverse
  (h.zip ((shaK.zip ws).foldl (fun s e => shaRound s (e.1 + e.2)) h)).map (fun e => e.1 + e.2)

/-- The hash value after `n` blocks. -/
def shaBlocks (n : Nat) (h : List (BitVec 64)) (l : List Byte) : List (BitVec 64) :=
  match n with
  | 0 => h
  | k + 1 => shaBlocks k (shaBlock h (l.take 128)) (l.drop 128)

/-- SHA-384 of a message. -/
def sha384 (l : List Byte) : BitVec 384 :=
  let p := shaPad l
  BitVec.ofNat 384 (((shaBlocks (p.length / 128) shaInit p).take 6).foldl (fun a w => a * 2 ^ 64 + w.toNat) 0)

/-- A hash as the 48 bytes it is stored as: byte 0 is the highest (R474). -/
def hashBytes (h : BitVec 384) : List Byte := beBytes 48 h.toNat

/-! ## ECDSA on brainpoolP384r1 -/

/-- The field prime. -/
def ecP : Nat := 0x8CB91E82A3386D280F5D6F7E50E641DF152F7109ED5456B412B1DA197FB71123ACD3A729901D1A71874700133107EC53
/-- The coefficient a of the curve. -/
def ecA : Nat := 0x7BC382C63D8C150C3C72080ACE05AFA0C2BEA28E4FB22787139165EFBA91F90F8AA5814A503AD4EB04A8C7DD22CE2826
/-- The coefficient b of the curve. -/
def ecB : Nat := 0x4A8C7DD22CE28268B39B55416F0447C2FB77DE107DCD2A62E880EA53EEB62D57CB4390295DBC9943AB78696FA504C11
/-- The order of the base point. -/
def ecN : Nat := 0x8CB91E82A3386D280F5D6F7E50E641DF152F7109ED5456B31F166E6CAC0425A7CF3AB6AF6B7FC3103B883202E9046565
/-- The base point. -/
def ecG : Nat × Nat :=
  (0x1D1C64F068CF45FFA2A63A81B7C13F6B8847A3E77EF14FE3DB7FCAFE0CBD10E8E826E03436D646AAEF87B2E247D4AF1E,
   0x8ABE1D7520F9C2A45CB1EB8E95CFD55262B70B29FEEC5864E19C054FF99129280E4646217791811142820341263C5315)

/-- x to the power e, modulo m: `bits` bits of e from the lowest up. -/
def powMod (bits x e m : Nat) : Nat :=
  match bits with
  | 0 => 1 % m
  | k + 1 =>
    let r := powMod k (x * x % m) (e / 2) m
    if e % 2 = 1 then x * r % m else r

/-- The inverse modulo a prime. -/
def invMod (x m : Nat) : Nat := powMod 384 (x % m) (m - 2) m

/-- The sum of two points; none is the point at infinity. -/
def ecAdd (p q : Option (Nat × Nat)) : Option (Nat × Nat) :=
  match p, q with
  | none, q => q
  | p, none => p
  | some (x1, y1), some (x2, y2) =>
    if x1 = x2 ∧ (y1 + y2) % ecP = 0 then none
    else
      let l := if x1 = x2 then (3 * x1 * x1 + ecA) * invMod (2 * y1) ecP % ecP
        else (y2 + (ecP - y1)) * invMod (x2 + (ecP - x1)) ecP % ecP
      let x := (l * l + 2 * ecP - x1 - x2) % ecP
      some (x, (l * (x1 + (ecP - x)) + (ecP - y1)) % ecP)

/-- A multiple of a point. -/
def ecMul (bits k : Nat) (p : Option (Nat × Nat)) : Option (Nat × Nat) :=
  match bits with
  | 0 => none
  | n + 1 =>
    let r := ecMul n (k / 2) (ecAdd p p)
    if k % 2 = 1 then ecAdd p r else r

/-- Whether (r, s) is a signature of a hash under a public key. -/
def ecdsaVerify (x y : Nat) (h : BitVec 384) (r s : Nat) : Bool :=
  let onCurve := decide (x < ecP ∧ y < ecP ∧ y * y % ecP = (x * x * x + ecA * x + ecB) % ecP)
  let w := invMod s ecN
  decide (0 < r ∧ r < ecN ∧ 0 < s ∧ s < ecN) && onCurve &&
  (match ecAdd (ecMul 384 (h.toNat * w % ecN) (some ecG)) (ecMul 384 (r * w % ecN) (some (x, y))) with
   | some (v, _) => decide (v % ecN = r)
   | none => false)

/-! ## CRC-32 -/

/-- One bit of CRC-32, lowest first. -/
def crcBit (c : BitVec 32) : BitVec 32 := if c.getLsbD 0 then (c >>> 1) ^^^ 0xEDB88320 else c >>> 1

/-- The CRC-32 of a list of bytes (notes/assumptions/41.md). -/
def crc32 (l : List Byte) : BitVec 32 :=
  (l.foldl (fun c b => iter 8 crcBit (c ^^^ b.setWidth 32)) 0xFFFFFFFF) ^^^ 0xFFFFFFFF

end Sys2Proof.Machine
end

