-- ==== Sys2Proof/Machine/Formats.lean ====
section
/-! DEFINITION. The element formats, block scales and lane conversions of "Lane rows, formats and exact
accumulation" (R57 to R62) and the packing and quantising helpers of the FCVT group (R92, R93). -/

namespace Sys2Proof.Machine

/-- A sign-magnitude format as R57's table gives it: field widths, the largest finite magnitude as a
multiple of the format's LSB, and the codes of +Inf and of the canonical NaN where the format has them. -/
structure NFmt where
  eb : Nat
  mb : Nat
  maxInt : Nat
  maxBits : Nat
  inf : Option Nat
  nan : Option Nat
deriving DecidableEq, Repr

def nE4M3 : NFmt := { eb := 4, mb := 3, maxInt := 229376, maxBits := 0x7E, inf := none, nan := some 0x7F }
def nE5M2 : NFmt := { eb := 5, mb := 2, maxInt := 3758096384, maxBits := 0x7B, inf := some 0x7C, nan := some 0x7E }
def nE3M2 : NFmt := { eb := 3, mb := 2, maxInt := 448, maxBits := 0x1F, inf := none, nan := none }
def nE2M3 : NFmt := { eb := 2, mb := 3, maxInt := 60, maxBits := 0x1F, inf := none, nan := none }
def nE2M1 : NFmt := { eb := 2, mb := 1, maxInt := 12, maxBits := 0x7, inf := none, nan := none }
def nFP16 : NFmt := { eb := 5, mb := 10, maxInt := 2047 * 2 ^ 29, maxBits := 0x7BFF, inf := some 0x7C00, nan := some 0x7E00 }
def nBF16 : NFmt := { eb := 8, mb := 7, maxInt := 255 * 2 ^ 253, maxBits := 0x7F7F, inf := some 0x7F80, nan := some 0x7FC0 }
def nFP32 : NFmt := { eb := 8, mb := 23, maxInt := (2 ^ 24 - 1) * 2 ^ 253, maxBits := 0x7F7FFFFF, inf := some 0x7F800000, nan := some 0x7FC00000 }

/-- Exponent of the element LSB (R57): 1 − bias − fraction bits. -/
def NFmt.lsb (f : NFmt) : Int := 1 - ((2 ^ (f.eb - 1) - 1 : Nat) : Int) - (f.mb : Nat)
def NFmt.sign (f : NFmt) (s : Bool) : Nat := if s then 2 ^ (f.eb + f.mb) else 0

/-- The floating-point format of a code of R57, when the code names one. -/
def nfmtOf (code : Nat) : Option NFmt :=
  match code with
  | 0 => some nE4M3 | 1 => some nE5M2 | 2 => some nE3M2 | 3 => some nE2M3 | 4 => some nE2M1
  | 7 => some nFP16 | 8 => some nBF16 | _ => none

/-- Element width in bits of a format code, FP6 in its 8-bit container (R92). -/
def elemWidth (code : Nat) : Nat :=
  match code with
  | 4 => 4 | 6 => 4 | 7 => 16 | 8 => 16 | _ => 8

/-- Element LSB exponent of a format code (R57). -/
def lsbOf (code : Nat) : Int :=
  match nfmtOf code with
  | some f => f.lsb
  | none => 0

/-- One matrix element: NaN, a signed Inf, or an integer multiple of the format's LSB. -/
inductive Elem where
  | nan
  | inf (s : Bool)
  | int (z : Int)
deriving DecidableEq, Repr

/-- Value of a sign-magnitude code as an element. -/
def NFmt.elem (f : NFmt) (x : Nat) : Elem :=
  let w := f.eb + f.mb
  let s := x.testBit w
  let mag := x % 2 ^ w
  let e := mag / 2 ^ f.mb
  let m := mag % 2 ^ f.mb
  let isNan := match f.nan, f.inf with
    | some _, some i => decide (mag > i)
    | some n, none => decide (mag = n)
    | none, _ => false
  let isInf := match f.inf with
    | some i => decide (mag = i)
    | none => false
  if isNan then .nan
  else if isInf then .inf s
  else
    let z : Nat := if e = 0 then m else (m + 2 ^ f.mb) * 2 ^ (e - 1)
    .int (if s then -(z : Int) else (z : Int))

/-- The element a code of the format spells (R57); INT8 and INT4 are two's complement. -/
def decodeElem (code x : Nat) : Elem :=
  match nfmtOf code with
  | some f => f.elem (x % 2 ^ (1 + f.eb + f.mb))
  | none => .int (toSigned (if code = 6 then 4 else 8) x)

/-- A datum's exact value from an element of a code (R62: conversion to FP32 is exact). The sign of a zero is
kept. -/
def elemVal (code x : Nat) : FVal :=
  match nfmtOf code with
  | some f =>
    match f.elem (x % 2 ^ (1 + f.eb + f.mb)) with
    | .nan => .nan false
    | .inf s => .inf s
    | .int z => .fin (x.testBit (f.eb + f.mb)) z.natAbs f.lsb
  | none => let z := toSigned (if code = 6 then 4 else 8) x
            .fin (decide (z < 0)) z.natAbs 0

/-- Round a finite magnitude into a sign-magnitude format: the code without sign, whether it overflows
(larger than the largest finite magnitude after rounding with an unbounded exponent), whether inexact, whether
tiny. -/
def NFmt.roundMag (f : NFmt) (rm : RMode) (s : Bool) (m : Nat) (e : Int) (sticky : Bool := false) :
    Nat × Bool × Bool × Bool :=
  if m = 0 && !sticky then (0, false, false, false) else
  let r := roundTo (f.mb + 1) f.lsb rm s m e sticky
  let z := r.m <<< (r.e - f.lsb).toNat              -- as a multiple of the LSB
  let code := if z < 2 ^ f.mb then z
    else let k := bitLen z - (f.mb + 1)
         ((k + 1) <<< f.mb) + (z >>> k - 2 ^ f.mb)
  (code, decide (z > f.maxInt), r.inexact, r.tiny)

/-- R62: a lane conversion of an FP32 value to a narrower floating-point format. -/
def NFmt.narrow (f : NFmt) (sat : Bool) (x : FVal) : Nat × FFlags :=
  let beyond (s : Bool) : Nat := match f.inf, f.nan with
    | some i, _ => f.sign s + i
    | none, some n => if sat then f.sign s + f.maxBits else n
    | none, none => f.sign s + f.maxBits
  match x with
  | .nan sig => match f.nan with
    | some n => (n, if sig then fINV else 0)
    | none => (0, fINV)
  | .inf s => (beyond s, if f.inf.isSome then 0 else fOF)
  | .fin s m e =>
    let r := f.roundMag .rne s m e
    if r.2.1 then (beyond s, fOF ||| fNX)
    else (f.sign s + r.1, (if r.2.2.1 then fNX else 0) ||| (if r.2.2.1 && r.2.2.2 then fUF else 0))

/-- NPACK's conversion of one FP32 datum to a target code (R92). -/
def npackElem (code : Nat) (sat : Bool) (x : FVal) : Nat × FFlags :=
  match nfmtOf code with
  | some f => f.narrow sat x
  | none =>
    let w := if code = 6 then 4 else 8
    let r := x.toIntSat .rne (-(2 ^ (w - 1) : Nat)) ((2 ^ (w - 1) : Nat) - 1)
    (ofSigned w r.1, r.2)

/-- NPACK positions allowed for a target code (R92). -/
def npackPosOk (code pos : Nat) : Bool :=
  decide (code ≤ 8) && (match elemWidth code with
    | 16 => decide (pos = 0)
    | 8 => decide (pos ≤ 1)
    | _ => decide (pos ≤ 3))

/-- NPACK (R92): the two results at bits 2Pw and up of rd, every other bit kept. -/
def npack (code : Nat) (sat : Bool) (pos : Nat) (ra rb old : W32) : W32 × FFlags :=
  let w := elemWidth code
  let a := npackElem code sat (f32.unpack ra.toNat)
  let b := npackElem code sat (f32.unpack rb.toNat)
  let lo := 2 * pos * w
  (BitVec.ofNat 32 (putBits (putBits old.toNat (lo + w - 1) lo a.1) (lo + 2 * w - 1) (lo + w) b.1), a.2 ||| b.2)

/-- NUNPK (R92): the exact FP32 value of element (rb mod E) of ra. -/
def nunpk (code : Nat) (ra rb : W32) : W32 :=
  let w := elemWidth code
  let k := rb.toNat % (32 / w)
  BitVec.ofNat 32 (f32.convert .rne (elemVal code (bitsOf ra.toNat (k * w + w - 1) (k * w)))).1

/-- emax of R93 for the five element codes of QSCALE.MX. -/
def qscaleEmax (code : Nat) : Option Int :=
  match code with
  | 0 => some 8 | 1 => some 15 | 2 => some 4 | 3 => some 2 | 4 => some 2 | _ => none

/-- QSCALE.MX (R93): the UE8M0 code of a block magnitude. -/
def qscaleMx (code : Nat) (ra : W32) : W32 :=
  match (f32.unpack ra.toNat).absv with
  | .nan _ => 0xFF
  | .inf _ => 0xFE
  | .fin _ m e =>
    if m = 0 then 0x7F else
    let v : Int := e + (bitLen m : Nat) - 1 - (qscaleEmax code).getD 0 + 127
    BitVec.ofNat 32 (if v < 0 then 0 else if v > 254 then 254 else v.toNat)

def qscaleF16Ok (code : Nat) : Bool := code == 0 || code == 2 || code == 3 || code == 4

/-- QSCALE.F16 (R93): the code of the smallest E4M3 value at or above amax / (largest finite element),
at most 448. -/
def qscaleF16 (code : Nat) (ra : W32) : W32 :=
  let nf := (nfmtOf code).getD nE4M3
  match (f32.unpack ra.toNat).absv with
  | .nan _ => 0xFF
  | .inf _ => 0x7E
  | .fin _ m e =>
    if m = 0 then 0x00 else
    let ge (c : Nat) : Bool := match nE4M3.elem c with
      | .int z =>
        let l := z.natAbs * nf.maxInt
        let le := nE4M3.lsb + nf.lsb
        decide (onGrid false l le (min le e) ≥ onGrid false m e (min le e))
      | _ => false
    BitVec.ofNat 32 ((lowest 0x7F ge).getD 0x7E)

/-- QINV (R93): the FP32 inverse of a block scale; kind 0 UE8M0, kind 1 E4M3. -/
def qinv (e4m3 : Bool) (ra : W32) : W32 × FFlags :=
  let c := ra.toNat % 256
  if e4m3 then
    if c ≥ 0x80 || c == 0x7F then (0x7FC00000, 0)
    else match nE4M3.elem c with
      | .int z =>
        if z = 0 then (0x7F800000, fDZ)
        else let r := f32.div .rne (.fin false 1 0) (.fin false z.natAbs nE4M3.lsb)
             (BitVec.ofNat 32 r.1, r.2)
      | _ => (0x7FC00000, 0)
  else if c = 0xFF then (0x7FC00000, 0)
  else (BitVec.ofNat 32 (f32.round .rne false 1 (127 - (c : Int))).1, 0)

/-- Chunk classes (R42): 0 8-bit, 1 4-bit, 2 16-bit. -/
def classOf (code : Nat) : Nat :=
  match code with
  | 4 => 1 | 6 => 1 | 7 => 2 | 8 => 2 | _ => 0

/-- Elements in an 8-byte chunk of a class (R42). -/
def chunkElems (cls : Nat) : Nat := match cls with | 0 => 8 | 1 => 16 | _ => 4

/-- The elements of an 8-byte chunk, lowest K first (R54: low nibble first). -/
def chunkSplit (cls x : Nat) : List Nat :=
  let n := chunkElems cls
  let w := 64 / n
  (List.range n).map (fun i => bitsOf x (i * w + w - 1) (i * w))

/-- R43: the legal operand pairs. -/
def pairLegal (x w : Nat) : Bool :=
  (decide (x ≤ 3) && decide (w ≤ 3)) || (decide (4 ≤ x) && decide (x ≤ 8) && decide (x = w))

/-- R59, R60: whether a scale mode may be used with a format code. -/
def smodeLegal (smode code : Nat) : Bool :=
  match smode with
  | 0 => true
  | 1 => decide (code ≤ 4)
  | 2 => decide (code ≤ 4) && decide (code ≠ 1)
  | _ => false

/-- A block scale: NaN, a power of two (UE8M0), or an integer multiple of 2^−9 (E4M3, sign 0). -/
inductive Scale where
  | nan
  | pow (e : Int)
  | int (z : Nat)
deriving DecidableEq, Repr

/-- The scale a scale byte spells in a scale mode (R59, R60). -/
def decodeScale (smode b : Nat) : Scale :=
  match smode with
  | 0 => .pow 0
  | 1 => if b = 0xFF then .nan else .pow ((b : Int) - 127)
  | _ => if b ≥ 0x80 || b = 0x7F then .nan
         else match nE4M3.elem b with
          | .int z => .int z.natAbs
          | _ => .nan

/-- Chunks in one scale block: MX32 32 elements, FINE16 16, NONE the whole K-slice of 16 chunks (R59, R64). -/
def blockChunks (smode cls : Nat) : Nat :=
  match smode with
  | 0 => 16
  | 1 => 32 / chunkElems cls
  | _ => 16 / chunkElems cls

end Sys2Proof.Machine
end

