-- ==== Sys2Proof/Machine/Accum.lean ====
section
/-! DEFINITION. Exact accumulation and draining (R63 to R73, R75, R76, R116, R522): the grid, the
contributions of a block, tags, the record of R70 and the one rounding of R69. -/

namespace Sys2Proof.Machine

/-- R68: combine two tags. -/
def Tag.comb : Tag → Tag → Tag
  | .nan, _ => .nan
  | _, .nan => .nan
  | .none, t => t
  | t, .none => t
  | .pinf, .pinf => .pinf
  | .ninf, .ninf => .ninf
  | .pinf, .ninf => .nan
  | .ninf, .pinf => .nan

def Tag.neg : Tag → Tag
  | .pinf => .ninf
  | .ninf => .pinf
  | t => t

def Tag.code : Tag → Nat
  | .none => 0 | .pinf => 1 | .ninf => 2 | .nan => 3

def Tag.ofCode (n : Nat) : Tag :=
  match n with | 0 => .none | 1 => .pinf | 2 => .ninf | _ => .nan

def Tag.ofInf (s : Bool) : Tag := if s then .ninf else .pinf

/-- R68: the tag and the finite part of one product. -/
def mulElem (x w : Elem) : Int × Tag :=
  match x, w with
  | .nan, _ => (0, .nan)
  | _, .nan => (0, .nan)
  | .inf s, .inf t => (0, Tag.ofInf (s != t))
  | .inf s, .int z => (0, if z = 0 then .nan else Tag.ofInf (s != decide (z < 0)))
  | .int z, .inf t => (0, if z = 0 then .nan else Tag.ofInf (t != decide (z < 0)))
  | .int a, .int b => (a * b, .none)

/-- Add the products of one chunk to a block's sum (R64, R68). -/
def BlockSum.add (b : BlockSum) (ps : List (Int × Tag)) : BlockSum :=
  ps.foldl (fun b p => { s := b.s + p.1, tag := b.tag.comb p.2 }) b

/-- R64: the integer a contribution S × 2^e adds on the grid 2^anchor, and whether a nonzero bit was
discarded. -/
def gridPlace (anchor : Int) (s e : Int) : Int × Bool :=
  if e ≥ anchor then (s * (2 ^ (e - anchor).toNat : Nat), false)
  else
    let r := roundShift .rne false s.natAbs (anchor - e).toNat false
    (if s < 0 then -(r.1 : Int) else (r.1 : Int), r.2)

/-- Bits of VAL in an accumulator mode (R63). -/
def accWidth (f16 : Bool) : Nat := if f16 then 192 else 96

/-- VAL plus an integer, modulo 2^96 or 2^192 (R64). -/
def valAdd (f16 : Bool) (val : Nat) (d : Int) : Nat := ofSigned (accWidth f16) ((val : Int) + d)

/-- An accumulator as a whole: its record and its VAL of 96 or 192 bits. -/
structure AccV where
  info : Acc
  val : Nat
deriving DecidableEq, Repr

/-- Place of lane l in a lane list; an absent lane reads as the default. -/
def laneGet {α : Type} (d : α) (m : SMap (List α)) (k l : Nat) : α := (SMap.get [] m k).getD l d

/-- Read accumulator i of lane l in the mode that names it. -/
def accRead (f16 : Bool) (accs : SMap (List Acc)) (i l : Nat) : AccV :=
  if f16 then
    let lo := laneGet {} accs (2 * i) l
    let hi := laneGet {} accs (2 * i + 1) l
    { info := lo, val := lo.val.toNat + hi.val.toNat * 2 ^ 96 }
  else
    let a := laneGet {} accs i l
    { info := a, val := a.val.toNat }

/-- Write accumulator i of all 256 lanes in a mode. -/
def accWrite (f16 : Bool) (accs : SMap (List Acc)) (i : Nat) (f : Nat → AccV) : SMap (List Acc) :=
  let vs := (List.range 256).map f
  if f16 then
    let a := SMap.set accs (2 * i) (vs.map (fun v => { v.info with val := BitVec.ofNat 96 v.val }))
    SMap.set a (2 * i + 1) (vs.map (fun v => { v.info with val := BitVec.ofNat 96 (v.val / 2 ^ 96) }))
  else SMap.set accs i (vs.map (fun v => { v.info with val := BitVec.ofNat 96 v.val }))

/-- R63: the anchor a pass records and uses. BF16 passes use none (R73); it is recorded as 0. -/
def passAnchor (pair smode : Nat) (field : Int) : Int :=
  let x := pair / 16
  let w := pair % 16
  if x = 5 ∨ x = 6 ∨ x = 8 then 0
  else if x = 7 then -48
  else if smode = 2 then lsbOf x + lsbOf w - 18
  else field

/-- R63, R66: what the first contribution of a pass does to an accumulator it names: with ZERO it starts
afresh and takes the pass's anchor, pair, mode; without, a difference sets MISMATCH and the NaN tag. -/
def accStart (zero : Bool) (f16 : Bool) (pair smode : Nat) (anchor : Int) (a : AccV) : AccV :=
  if zero then
    { info := { val := 0, anchor := anchor, pair := pair, smode := smode, f16 := f16 }, val := 0 }
  else if a.info.anchor = anchor ∧ a.info.pair = pair ∧ a.info.smode = smode ∧ a.info.f16 = f16 then a
  else { a with info := { a.info with mismatch := true, tag := .nan } }

/-- R64, R68: add a block's sum with its two scales to an accumulator. -/
def accBlock (f16 : Bool) (lx lw : Int) (sx sw : Scale) (b : BlockSum) (anchor : Int) (a : AccV) : AccV :=
  match sx, sw with
  | .pow p, .pow q =>
    let g := gridPlace anchor b.s (lx + lw + p + q)
    { info := { a.info with loss := a.info.loss || g.2, tag := a.info.tag.comb b.tag }, val := valAdd f16 a.val g.1 }
  | .int p, .int q =>
    let g := gridPlace anchor (b.s * (p * q : Nat)) (lx + lw - 18)
    { info := { a.info with loss := a.info.loss || g.2, tag := a.info.tag.comb b.tag }, val := valAdd f16 a.val g.1 }
  | _, _ => { a with info := { a.info with tag := .nan } }

/-- R73: one BF16 product added to the FP32 value in bits [31:0], rounded once. -/
def bf16Step (acc : Nat) (x w : Nat) : Nat :=
  (f32.fma .rne (bf16.unpack x) (bf16.unpack w) (f32.unpack acc)).1

/-- R73: the products of a chunk, in ascending K. -/
def bf16Chunk (a : AccV) (xs ws : List Nat) : AccV :=
  let v := (xs.zip ws).foldl (fun acc p => bf16Step acc p.1 p.2) (a.val % 2 ^ 32)
  { a with val := putBits a.val 31 0 v }

/-- Sum or difference of two FP16 codes, rounded to FP16 nearest even (R76). -/
def fp16Add (x y : Nat) : Nat := (f16.add .rne (f16.unpack x) (f16.unpack y)).1
def fp16Sub (x y : Nat) : Nat := (f16.sub .rne (f16.unpack x) (f16.unpack y)).1
def fp16Neg (x : Nat) : Nat := if x % 65536 ≥ 32768 then x % 65536 - 32768 else x % 65536 + 32768

/-- Pairs (real, imaginary) of a list whose even places are real (R112). -/
def complexOf (l : List Nat) : List (Nat × Nat) :=
  match l with
  | a :: b :: r => (a, b) :: complexOf r
  | _ => []

/-- R75, R112: the operand codes pass p of a KIND multiplies, from an activation chunk and a stationary
chunk of 16-bit elements. -/
def complexOperands (kind p : Nat) (xs ws : List Nat) : List (Nat × Nat) :=
  ((complexOf xs).zip (complexOf ws)).map (fun q =>
    let xr := q.1.1
    let xi := q.1.2
    let wr := q.2.1
    let wi := q.2.2
    if kind = 1 then
      match p with
      | 0 => (xr, wr) | 1 => (xi, fp16Neg wi) | 2 => (xr, wi) | _ => (xi, wr)
    else
      match p with
      | 0 => (fp16Add xr xi, wr) | 1 => (xr, fp16Sub wi wr) | _ => (xi, fp16Add wr wi))

/-- Passes of a KIND (R112). -/
def kindPasses (kind : Nat) : Nat := match kind with | 0 => 1 | 2 => 3 | 3 => 3 | _ => 4
/-- Chunks per vector of a pass of a KIND (R112). -/
def kindChunks (kind : Nat) : Nat := if kind ≥ 3 then 8 else 16
/-- Planes of pass p (R75): whether the activation and the stationary plane is the high one. -/
def kindPlanes (kind p : Nat) : Bool × Bool :=
  match kind, p with
  | 3, 0 => (false, true) | 3, 1 => (true, false) | 3, _ => (true, true)
  | 4, 0 => (false, false) | 4, 1 => (false, true) | 4, 2 => (true, false) | 4, _ => (true, true)
  | _, _ => (false, false)
/-- Grid shift of pass p of KIND 4 (R75). -/
def kindShift (kind p : Nat) : Int :=
  match kind, p with | 4, 0 => 0 | 4, 1 => 8 | 4, 2 => 8 | 4, _ => 16 | _, _ => 0
/-- Accumulator of vector v in pass p (R112). -/
def kindAcc (kind p abase v : Nat) : Nat :=
  match kind with
  | 1 => abase + 2 * v + (if p < 2 then 0 else 1)
  | 2 => abase + 3 * v + p
  | _ => abase + v
/-- Accumulators that B vectors of a KIND name (R44, R112). -/
def kindAccCount (kind b : Nat) : Nat := match kind with | 1 => 2 * b | 2 => 3 * b | _ => b
/-- Whether pass p makes the first contribution to its accumulator (R112). -/
def kindFirst (kind p : Nat) : Bool :=
  match kind with | 1 => p = 0 || p = 2 | 2 => true | _ => p = 0

/-- The products of one chunk in one lane on the grid: integers and tags. -/
def chunkProducts (kind p pair : Nat) (xc wc : Nat) : List (Int × Tag) :=
  let x := pair / 16
  let w := pair % 16
  let xs := chunkSplit (classOf x) xc
  let ws := chunkSplit (classOf w) wc
  if kind = 1 || kind = 2 then
    (complexOperands kind p xs ws).map (fun q => mulElem (decodeElem 7 q.1) (decodeElem 7 q.2))
  else if kind = 4 then
    let pl := kindPlanes kind p
    let f (hi : Bool) (c : Nat) : Elem := .int (if hi then toSigned 8 c else (c : Int))
    (xs.zip ws).map (fun q => mulElem (f pl.1 q.1) (f pl.2 q.2))
  else (xs.zip ws).map (fun q => mulElem (decodeElem x q.1) (decodeElem w q.2))

/-- Whether acc holds an FP32 value rather than a grid integer (R73). -/
def isBf16Acc (a : Acc) : Bool := decide (a.pair = 0x88)

/-- A drained output: its bits and which of DOVF, NAN and INF it sets (R69). -/
structure Drained where
  bits : Nat
  dovf : Bool := false
  nan : Bool := false
  inf : Bool := false
deriving DecidableEq, Repr

/-- The ACCRD target formats (R116). -/
def drainFmt (target : Nat) : Option NFmt :=
  match target with
  | 0 => some nFP32 | 1 => some nBF16 | 2 => some nFP16 | 3 => some nE4M3 | 4 => some nE5M2 | _ => none

/-- Bytes per output of a target (R117). -/
def drainBytes (target : Nat) (f16 : Bool) : Nat :=
  match target with
  | 0 => 4 | 1 => 2 | 2 => 2 | 3 => 1 | 4 => 1 | _ => if f16 then 32 else 16

/-- The Inf outcome of R69: the target's Inf, or with SAT its largest finite value, and for E4M3 NaN or ±448. -/
def infOutcome (f : NFmt) (sat s : Bool) : Nat × Bool :=
  if sat then (f.sign s + f.maxBits, false)
  else match f.inf, f.nan with
    | some i, _ => (f.sign s + i, false)
    | none, some n => (n, true)
    | none, none => (f.sign s + f.maxBits, false)

/-- R69: convert (−1)^s m 2^e, or a tag, times DSCALE into the target format. -/
def drainConvert (f : NFmt) (rtz sat : Bool) (tag : Tag) (v : Int) (e : Int) (dscale : BitVec 32) : Drained :=
  let nanBits := f.nan.getD 0
  let ds := f32.unpack dscale.toNat
  match tag with
  | .nan => { bits := nanBits, nan := true }
  | .pinf | .ninf =>
    let ts := decide (tag = .ninf)
    if ds.isNaN || ds.isZero then { bits := nanBits, nan := true, inf := true }
    else
      let r := infOutcome f sat (ts != ds.sign)
      { bits := r.1, nan := r.2, inf := true }
  | .none =>
    match ds with
    | .nan _ => { bits := nanBits, nan := true }
    | .inf t =>
      if v = 0 then { bits := nanBits, nan := true }
      else
        let r := infOutcome f sat (t != decide (v < 0))
        { bits := r.1, nan := r.2, dovf := true }
    | .fin t m g =>
      if v = 0 ∨ m = 0 then { bits := 0 }
      else
        let s := t != decide (v < 0)
        let r := f.roundMag (if rtz then .rtz else .rne) s (v.natAbs * m) (e + g)
        if r.2.1 then
          if rtz then { bits := f.sign s + f.maxBits, dovf := true }
          else
            let o := infOutcome f sat s
            { bits := o.1, nan := o.2, dovf := true }
        else { bits := if r.1 = 0 then 0 else f.sign s + r.1 }

/-- R69, R73: drain an accumulator into a target format. -/
def drainAcc (f : NFmt) (rtz sat : Bool) (a : AccV) (dscale : BitVec 32) : Drained :=
  if isBf16Acc a.info then
    match f32.unpack (a.val % 2 ^ 32) with
    | .nan _ => drainConvert f rtz sat .nan 0 0 dscale
    | .inf s => drainConvert f rtz sat (Tag.ofInf s) 0 0 dscale
    | .fin s m e => drainConvert f rtz sat .none (if s then -(m : Int) else (m : Int)) e dscale
  else drainConvert f rtz sat a.info.tag (toSigned (accWidth a.info.f16) a.val) a.info.anchor dscale

/-- R70: the field word of a record (word 3, or word 6 in FP16 mode). -/
def recWord (a : Acc) : Nat :=
  ofSigned 10 a.anchor * 2 ^ 16 + (a.pair % 256) * 2 ^ 8 + (a.smode % 4) * 2 ^ 6
    + (if a.f16 then 32 else 0) + (if a.mismatch then 16 else 0) + (if a.loss then 8 else 0) + a.tag.code

/-- R70: the accumulator record, 16 or 32 bytes, as a little-endian number. -/
def recBits (a : AccV) : Nat :=
  if a.info.f16 then a.val % 2 ^ 192 + recWord a.info * 2 ^ 192
  else a.val % 2 ^ 96 + recWord a.info * 2 ^ 96

/-- R118, R522: the accumulator a record loads in the layout taken; a record whose FP16 bit disagrees takes
MISMATCH and the NaN tag. -/
def recLoad (f16 : Bool) (x : Nat) : AccV :=
  let w := if f16 then bitsOf x 223 192 else bitsOf x 127 96
  let bad := w.testBit 5 != f16
  { val := if f16 then x % 2 ^ 192 else x % 2 ^ 96
    info := { anchor := toSigned 10 (bitsOf w 25 16)
              pair := bitsOf w 15 8
              smode := bitsOf w 7 6
              f16 := f16
              mismatch := w.testBit 4 || bad
              loss := w.testBit 3
              tag := if bad then .nan else Tag.ofCode (w % 4) } }

/-- R71: combine two accumulator records of one width. -/
def recCombine (a b : AccV) : AccV :=
  let diff := !(decide (a.info.anchor = b.info.anchor ∧ a.info.pair = b.info.pair ∧ a.info.smode = b.info.smode))
  { val := (a.val + b.val) % 2 ^ accWidth a.info.f16
    info := { a.info with
      loss := a.info.loss || b.info.loss
      mismatch := a.info.mismatch || b.info.mismatch || diff
      tag := if diff then .nan else a.info.tag.comb b.info.tag } }

/-- R75, R116: the Gauss form of a triple: real k1 − k3 and imaginary k1 + k2, exact modulo 2^192. -/
def gaussForm (k1 k2 k3 : AccV) : AccV × AccV :=
  let diff := !(decide (k1.info.pair = k2.info.pair ∧ k1.info.pair = k3.info.pair ∧
                        k1.info.smode = k2.info.smode ∧ k1.info.smode = k3.info.smode))
  let mk (o : AccV) (neg : Bool) : AccV :=
    { val := ofSigned 192 (if neg then (k1.val : Int) - o.val else (k1.val : Int) + o.val)
      info := { k1.info with
        anchor := -48, f16 := true
        loss := k1.info.loss || o.info.loss
        mismatch := k1.info.mismatch || o.info.mismatch || diff
        tag := if diff then .nan else k1.info.tag.comb (if neg then o.info.tag.neg else o.info.tag) } }
  (mk k3 true, mk k2 false)

end Sys2Proof.Machine
end

