-- ==== Sys2Proof/Machine/RowUnit.lean ====
section
/-! DEFINITION. The matrix unit of one lane row (R40 to R54, R108 to R120): the checks made when a row
instruction is issued, the row queue, fills, passes chunk by chunk, and drains. Cluster SRAM is read through
the argument `rd`: offset and byte count to a little-endian number. Results that go to registers or SRAM
are answered as lists for the caller to place. -/

namespace Sys2Proof.Machine

/-- First byte beyond cluster SRAM (R94, R111). -/
def sramSize : Nat := 0x200000

/-- Bytes of an element in a tile, doubled so that 4-bit formats count 1 (R54). -/
def elemBytes (cls : Nat) : Nat := match cls with | 2 => 2 | _ => 1
/-- R54: bytes of an engine-ready tile of a class. -/
def tileBytes (cls : Nat) : Nat := match cls with | 1 => 8192 | 2 => 32768 | _ => 16384

/-- R54: byte offset of element (k, n) in an engine-ready tile of the 8-bit or 16-bit class. -/
def tileOff (cls k n : Nat) : Nat :=
  let c := chunkElems cls
  (k / c * 128 + n) * 8 + (k % c) * elemBytes cls

/-- One element of a tile as a number; 4-bit classes address nibbles, low nibble first (R54). -/
def tileElem (rd : Nat → Nat → Nat) (cls base k n : Nat) : Nat :=
  match cls with
  | 1 => let b := rd (base + (k / 16 * 128 + n) * 8 + (k % 16) / 2) 1
         if k % 2 = 0 then b % 16 else b / 16
  | 2 => rd (base + tileOff 2 k n) 2
  | _ => rd (base + tileOff 0 k n) 1

/-- R111: the 8-byte chunk j of vector v at operand address a, direct or transposed. -/
def operandChunk (rd : Nat → Nat → Nat) (cls : Nat) (tr : Bool) (a v j : Nat) : Nat :=
  if tr then
    let n0 := a % 1024 / 8
    let base := a - 8 * n0
    let c := chunkElems cls
    ((List.range c).map (fun i => tileElem rd cls base (n0 + v) (j * c + i) <<< (i * (64 / c)))).sum
  else rd (a + 1024 * j + 8 * v) 8

/-- R113: chunk j of lane l of the K-slice a WFILL reads. -/
def fillChunk (rd : Nat → Nat → Nat) (cls : Nat) (tr : Bool) (a stride l j : Nat) : Nat :=
  let blk := a + l / 128 * stride * 1024
  if tr then
    let c := chunkElems cls
    ((List.range c).map (fun i => tileElem rd cls blk (l % 128) (j * c + i) <<< (i * (64 / c)))).sum
  else rd (blk + 1024 * j + 8 * (l % 128)) 8

/-- R61: scale bytes of a K-slice. -/
def fillScales (smode cls : Nat) : Nat := if smode = 0 then 0 else 16 / blockChunks smode cls

/-- R113: the bank a WFILL fills. -/
def fillBank (rd : Nat → Nat → Nat) (a sa stride : Nat) (d : FillDesc) (tr : Bool) : Bank :=
  { full := true
    desc := some d
    data := (List.range 256).map (fun l =>
      BitVec.ofNat 1024 ((List.range 16).map (fun j => fillChunk rd d.cls tr a stride l j <<< (64 * j))).sum)
    scales := (List.range 256).map (fun l =>
      BitVec.ofNat 128 ((List.range (fillScales d.smode d.cls)).map (fun b =>
        rd (sa + l / 128 * 2048 + 128 * b + l % 128) 1 <<< (8 * b))).sum) }

/-- The stationary chunk j of lane l. -/
def Bank.chunk (b : Bank) (l j : Nat) : Nat := bitsOf ((b.data.getD l 0).toNat) (64 * j + 63) (64 * j)
/-- The scale byte of block k of lane l. -/
def Bank.scale (b : Bank) (l k : Nat) : Nat := bitsOf ((b.scales.getD l 0).toNat) (8 * k + 7) (8 * k)

/-! ### Checks at issue (R107 causes 0x10 to 0x16) -/

/-- The first of a list of causes whose condition holds. -/
def firstCause (l : List (Bool × Nat)) : Option Nat := (l.find? (·.1)).map (·.2)

/-- R111: whether an operand of B vectors at address a runs out of its tile columns or of cluster SRAM. -/
def operandBad (cls : Nat) (tr : Bool) (a b chunks : Nat) : Bool :=
  let n0 := a % 1024 / 8
  let lastByte :=
    if tr then a - 8 * n0 + tileOff cls (n0 + b - 1) (chunks * chunkElems cls - 1) + elemBytes cls - 1
    else a + 1024 * (chunks - 1) + 8 * (b - 1) + 7
  decide (a % 8 ≠ 0) || decide (n0 + b > 128) || decide (lastByte ≥ sramSize) ||
    (tr && (cls == 1 || decide (n0 % 8 ≠ 0)))

/-- R111: whether the scale bytes of B vectors run out of cluster SRAM. -/
def scaleBad (smode cls sa n0 b : Nat) : Bool :=
  decide (smode ≠ 0) && decide (sa + 128 * (fillScales smode cls - 1) + n0 + b - 1 ≥ sramSize)

/-- Accumulators that exist in the mode of a pair (R44). -/
def accLimit (pair : Nat) : Nat := if pair = 0x77 then 32 else 64

/-- R113: whether the bank a pass uses differs from it in class, scale mode or KIND. -/
def bankBad (d : Option FillDesc) (pair smode kind : Nat) : Bool :=
  match d with
  | none => true
  | some d => !(decide (d.cls = classOf (pair % 16) ∧ d.smode = smode ∧ d.kind = kind))

/-- R112: the operand pair a KIND needs. -/
def kindPairOk (kind pair smode : Nat) : Bool :=
  match kind with
  | 0 => true
  | 1 => pair == 0x77 && smode == 0
  | 2 => pair == 0x77 && smode == 0
  | 3 => pair == 0x88 && smode == 0
  | 4 => pair == 0x55 && smode == 0
  | _ => false

/-- MPASS at issue: the cause it stops with, if any (R43, R44, R48, R60, R111 to R113). -/
def mpassCause (r : Row) (a : PassArgs) : Option Nat :=
  let cls := classOf (a.pair / 16)
  firstCause
    [ (!(pairLegal (a.pair / 16) (a.pair % 16)) || !(smodeLegal a.smode (a.pair / 16)) ||
        !(smodeLegal a.smode (a.pair % 16)) || !(kindPairOk a.kind a.pair a.smode), 0x10),
      (decide (a.abase + kindAccCount a.kind a.b > accLimit a.pair), 0x11),
      (!a.reuse && r.issFill.isNone, 0x12),
      (bankBad (if a.reuse then r.issActive else r.issFill) a.pair a.smode a.kind, 0x13),
      (operandBad cls a.tr a.addr a.b 16 || scaleBad a.smode cls a.scaleAddr (a.addr % 1024 / 8) a.b, 0x14) ]

/-- Whether chunk j opens a scale block (R114). -/
def opensBlock (smode cls j : Nat) : Bool := smode == 0 || decide (j % blockChunks smode cls = 0)
/-- Whether chunk j closes its block; under NONE each MSTEP is its own block (R114). -/
def closesBlock (smode cls j : Nat) : Bool :=
  smode == 0 || decide (j % blockChunks smode cls = blockChunks smode cls - 1)

/-- R114: whether an MSTEP continues or opens a scale block as it must. -/
def stepBlockOk (r : Row) (a : PassArgs) (j : Nat) : Bool :=
  let cls := classOf (a.pair / 16)
  if a.smode = 0 then r.issBlock.isNone
  else match r.issBlock with
    | none => opensBlock a.smode cls j
    | some b => decide (b.acc = a.abase ∧ b.nextJ = j) && !(opensBlock a.smode cls j)

/-- MSTEP at issue (R114). -/
def mstepCause (r : Row) (a : PassArgs) (j : Nat) (swap : Bool) : Option Nat :=
  firstCause
    [ (!(pairLegal (a.pair / 16) (a.pair % 16)) || !(smodeLegal a.smode (a.pair / 16)) ||
        !(smodeLegal a.smode (a.pair % 16)) || decide (a.b ≠ 1), 0x10),
      (decide (a.abase + 1 > accLimit a.pair), 0x11),
      (swap && r.issFill.isNone, 0x12),
      (bankBad (if swap then r.issFill else r.issActive) a.pair a.smode 0, 0x13),
      (decide (a.addr % 8 ≠ 0) || decide (a.addr % 1024 / 8 + 1 > 128) ||
        decide (a.addr + 1024 * j + 7 ≥ sramSize) || (decide (a.smode ≠ 0) && decide (a.scaleAddr ≥ sramSize)), 0x14),
      (!(stepBlockOk r a j), 0x15) ]

/-- BCAST at issue (R110, R111, R115): the control word uses only B1 and PAIR [7:4]. -/
def bcastCause (cw addr b : Nat) (tr : Bool) (code : Nat) : Option Nat :=
  firstCause
    [ (decide (code > 8) || decide (bitsOf cw 31 20 ≠ 0) || decide (bitsOf cw 15 6 ≠ 0), 0x10),
      (operandBad (classOf code) tr addr b 16, 0x14) ]

/-- WFILL at issue (R113). -/
def wfillCause (addr sa stride strideHi : Nat) (d : FillDesc) (tr : Bool) : Option Nat :=
  let kindOk := match d.kind with
    | 0 => true
    | 4 => d.cls == 0 && d.smode == 0
    | k => decide (k ≤ 3) && d.cls == 2 && d.smode == 0
  let lastByte :=
    if tr then addr + stride * 1024 + tileOff d.cls 127 (16 * chunkElems d.cls - 1) + elemBytes d.cls - 1
    else addr + stride * 1024 + 1024 * 15 + 8 * 127 + 7
  let scaleLast := sa + 2048 + 128 * (fillScales d.smode d.cls - 1) + 127
  firstCause
    [ (decide (d.cls > 2) || decide (d.smode > 2) || !kindOk || decide (strideHi ≠ 0) ||
        (d.cls == 2 && decide (d.smode ≠ 0)), 0x10),
      (decide (addr % 8 ≠ 0) || (tr && d.cls == 1) || decide (lastByte ≥ sramSize) ||
        (decide (d.smode ≠ 0) && decide (scaleLast ≥ sramSize)), 0x14) ]

/-- Outputs of a drain: N, or 2N with GAUSS (R116, R117). -/
def DrainArgs.outputs (d : DrainArgs) : Nat := if d.gauss then 2 * d.n else d.n
/-- Accumulators a drain names: N, or N triples (R116). -/
def DrainArgs.named (d : DrainArgs) : Nat := if d.gauss then 3 * d.n else d.n
def DrainArgs.raw (d : DrainArgs) : Bool := d.target == 15
/-- Registers a drain to registers writes or a load from registers reads (R117). -/
def DrainArgs.regs (d : DrainArgs) : Nat := if d.raw then (if d.f16 then 8 else 4) else d.outputs

/-- R117: placement of a drain in cluster SRAM that is misaligned or runs out of its tile or of SRAM. -/
def drainPlaceBad (d : DrainArgs) : Bool :=
  if !d.dest then false
  else if d.raw || d.target == 0 then
    let r := drainBytes d.target d.f16
    decide (d.addr % r ≠ 0) || decide (d.addr + r * (256 * (d.outputs - 1) + 255) + r - 1 ≥ sramSize)
  else
    let cls := if drainBytes d.target d.f16 = 2 then 2 else 0
    let n0 := d.addr % 1024 / 8
    decide (d.addr % 8 ≠ 0) || decide (n0 + d.outputs > 128) ||
      decide (d.addr - 8 * n0 + tileBytes cls + tileOff cls 127 (n0 + d.outputs - 1) + elemBytes cls - 1 ≥ sramSize)

/-- The mode of a named accumulator, as the latest earlier-issued ZERO pass set it (R116). -/
def issuedMode (r : Row) (f16 : Bool) (i : Nat) : Bool :=
  if f16 then SMap.get false r.issMode (2 * i) && SMap.get false r.issMode (2 * i + 1)
  else SMap.get false r.issMode i

/-- ACCRD at issue (R116, R117). -/
def accrdCause (r : Row) (cw : Nat) (d : DrainArgs) : Option Nat :=
  firstCause
    [ (decide (bitsOf cw 31 21 ≠ 0) || !(decide (d.target ≤ 4) || d.raw), 0x10),
      (decide (d.acc + d.named > (if d.f16 then 32 else 64)) || (d.gauss && !d.f16) ||
        (d.raw && !d.dest && (decide (d.n > 1) || d.gauss)) ||
        ((List.range d.named).any (fun i => issuedMode r d.f16 (d.acc + i) != d.f16)), 0x11),
      (drainPlaceBad d, 0x14) ]

/-- ACCLD at issue (R118): TARGET is RAW, and GAUSS, RTZ and SAT have no use. -/
def accldCause (cw : Nat) (d : DrainArgs) : Option Nat :=
  firstCause
    [ (decide (bitsOf cw 31 21 ≠ 0) || !d.raw || d.gauss || d.rtz || d.sat, 0x10),
      (decide (d.acc + d.n > (if d.f16 then 32 else 64)) || (!d.dest && decide (d.n > 1)), 0x11),
      (drainPlaceBad d, 0x14) ]

/-- Elements a TLD gives a register, by class (R119). -/
def tldElems (cls : Nat) : Nat := match cls with | 1 => 8 | 2 => 2 | _ => 4

/-- TLD at issue (R119). -/
def tldCause (addr n0 cls : Nat) : Option Nat :=
  firstCause
    [ (decide (cls > 2), 0x10),
      (decide (addr % 1024 ≠ 0) || decide (n0 % tldElems cls ≠ 0) || decide (n0 + tldElems cls > 128) ||
        decide (addr + 2 * tileBytes cls > sramSize), 0x14) ]

/-! ### Issue: entering the row queue (R108) -/

def RowOp.isFill : RowOp → Bool | .wfill .. => true | _ => false
def RowOp.isRachis : RowOp → Bool | .mpass .. => true | .mstep .. => true | .bcast .. => true | _ => false
def RowOp.isDrain : RowOp → Bool | .accrd .. => true | .accld .. => true | .tld .. => true | _ => false
def RowOp.slot : RowOp → Nat
  | .wfill s .. => s | .mpass a => a.slot | .mstep a .. => a.slot | .bcast s .. => s
  | .accrd d => d.slot | .accld d _ => d.slot | .tld s .. => s

/-- R108: the row queue has 8 entries. -/
def Row.queueFull (r : Row) : Bool := decide (r.queue.length ≥ 8)
/-- R47: a row holds one waiting WFILL. -/
def Row.fillWaiting (r : Row) : Bool := r.queue.any (fun e => e.op.isFill)

/-- What issue records beside the queue entry (R48, R113, R114, R116). -/
def Row.noteIssue (r : Row) (o : RowOp) : Row :=
  let setModes (l : List Nat) (f16 : Bool) : SMap Bool :=
    l.foldl (fun m i => if f16 then SMap.set (SMap.set m (2 * i) true) (2 * i + 1) true else SMap.set m i false) r.issMode
  match o with
  | .wfill _ _ _ _ d _ => { r with issFill := some d }
  | .mpass a =>
    let sw := if a.reuse then r else { r with issActive := r.issFill, issFill := none }
    { sw with
      issBlock := none
      issMode := if a.zero then
          setModes ((List.range (kindAccCount a.kind a.b)).map (a.abase + ·)) (a.pair == 0x77)
        else r.issMode }
  | .mstep a j swap last =>
    let sw := if swap then { r with issActive := r.issFill, issFill := none } else r
    { sw with
      issBlock := if last then none else some { acc := a.abase, nextJ := j + 1, slot := a.slot }
      issMode := if a.zero then setModes [a.abase] (a.pair == 0x77) else r.issMode }
  | .bcast .. => { r with issBlock := none }
  | .accld d _ => { r with issMode := setModes ((List.range d.n).map (d.acc + ·)) d.f16 }
  | .accrd _ => r
  | .tld .. => r

/-- R108: a row instruction enters the row queue. -/
def Row.issue (r : Row) (o : RowOp) : Row := 
  { r.noteIssue o with queue := r.queue ++ [{ seq := r.nextSeq, op := o }], nextSeq := r.nextSeq + 1 }

/-! ### Fill port (R46, R47) -/

/-- The first queue entry that satisfies p, and the queue without it. -/
def takeFirst (p : RowOp → Bool) (q : List RowEntry) : Option (Nat × RowOp × List RowEntry) :=
  match q.find? (fun e => p e.op) with
  | none => none
  | some e => some (e.seq, e.op, q.eraseP (fun e => p e.op))

/-- R47: the waiting WFILL starts once the shadow bank has been swapped in. Answers none while it waits. -/
def Row.fillStart (rd : Nat → Nat → Nat) (r : Row) : Option Row :=
  if r.shadow.full || r.filling.isSome then none
  else match takeFirst RowOp.isFill r.queue with
    | some (_, .wfill slot a sa st d tr, q) =>
      some { r with queue := q, filling := some (fillBank rd a sa st d tr), fillSlot := slot }
    | _ => none

/-- R47: the fill has written lane group 15; the shadow is full. -/
def Row.fillDone (r : Row) : Option Row :=
  match r.filling with
  | some b => some { r with shadow := b, filling := none }
  | none => none

/-- R45, R46: the banks swap at the front; the old active bank becomes the shadow, open to WFILL. -/
def Row.swap (r : Row) : Row := { r with active := r.shadow, shadow := { r.active with full := false } }

/-! ### Rachis (R41, R42, R46, R50, R63 to R68, R73, R75, R112, R114, R115) -/

/-- The accumulators a pass's vectors name, as narrow places. -/
def narrowPlaces (f16 : Bool) (l : List Nat) : List Nat :=
  if f16 then l.flatMap (fun i => [2 * i, 2 * i + 1]) else l

/-- The accumulator places a drain-port instruction names. -/
def RowOp.drainPlaces : RowOp → List Nat
  | .accrd d => narrowPlaces d.f16 ((List.range d.named).map (d.acc + ·))
  | .accld d _ => narrowPlaces d.f16 ((List.range d.n).map (d.acc + ·))
  | _ => []

/-- The accumulator places a pass or MSTEP writes. -/
def RowOp.passPlaces : RowOp → List Nat
  | .mpass a => narrowPlaces (a.pair == 0x77) ((List.range (kindAccCount a.kind a.b)).map (a.abase + ·))
  | .mstep a _ _ _ => narrowPlaces (a.pair == 0x77) [a.abase]
  | _ => []

/-- Outcome of asking a pass to start: nothing to start, held for the shadow bank (R46), or started. -/
inductive PassStart where
  | none
  | heldShadow
  | started (r : Row)
deriving DecidableEq, Repr

/-- R46: the head MPASS or BCAST takes the rachis; a pass with REUSE = 0 waits for the shadow bank and swaps. A
BCAST waits while chunks of its sheaf's previous BCAST are unread (R115). -/
def Row.passStart (r : Row) : PassStart :=
  if r.run.isSome then .none
  else match takeFirst RowOp.isRachis r.queue with
    | some (n, .mpass a, q) =>
      if a.reuse then .started { r with queue := q, run := some { seq := n, op := .mpass a, p := 0, v := 0, j := 0 } }
      else if r.shadow.full then
        .started { r.swap with queue := q, run := some { seq := n, op := .mpass a, p := 0, v := 0, j := 0 } }
      else .heldShadow
    | some (n, .bcast s a b tr c, q) =>
      if r.rx.any (fun e => e.1 == s) then .none
      else .started { r with queue := q, run := some { seq := n, op := .bcast s a b tr c, p := 0, v := 0, j := 0 } }
    | _ => .none

/-- Outcome of one array cycle at the injection stage (R50). -/
inductive Inject where
  | idle
  | heldShadow
  | heldAcc
  | heldRx
  | done (r : Row) (loss mism nanT infT : Bool)
deriving DecidableEq, Repr

/-- Whether a drain issued before pass `n` still holds one of these accumulator places (R50, R51). -/
def Row.accDraining (r : Row) (n : Nat) (places : List Nat) : Bool :=
  r.queue.any (fun e => decide (e.seq < n) && e.op.drainPlaces.any (fun i => places.contains i))

/-- One chunk multiplied in every lane and added to accumulator i (R41, R64, R73, R112). `jx` and `jw` are the
chunk positions in the operand and the bank, `sx` the scale byte of the broadcast block, `first` and `last`
whether the chunk opens and closes its block, `start` whether it is the pass's first for this accumulator. -/
def Row.mulChunk (r : Row) (a : PassArgs) (p i jw xc sx : Nat) (first last start zero : Bool) : Row :=
  let f16 := a.pair == 0x77
  let lx := lsbOf (a.pair / 16)
  let lw := lsbOf (a.pair % 16)
  let cls := classOf (a.pair / 16)
  let blk := jw / blockChunks a.smode cls
  let lanes := (List.range 256).map (fun l =>
    let acc0 := accRead f16 r.accs i l
    let acc1 := if start then accStart zero f16 a.pair a.smode a.anchor acc0 else acc0
    let wc := r.active.chunk l jw
    if a.pair = 0x88 then
      let xs := chunkSplit 2 xc
      let ws := chunkSplit 2 wc
      (bf16Chunk acc1 xs ws, ({} : BlockSum))
    else
      let b0 : BlockSum := if first then {} else r.block.getD l {}
      let b1 := b0.add (chunkProducts a.kind p a.pair xc wc)
      if last then
        let e := kindShift a.kind p
        let sw := decodeScale a.smode (r.active.scale l blk)
        (accBlock f16 (lx + e) lw (decodeScale a.smode sx) sw b1 acc1.info.anchor acc1, {})
      else (acc1, b1))
  { r with
    accs := accWrite f16 r.accs i (fun l => (lanes.getD l (accRead f16 r.accs i l, {})).1)
    block := lanes.map (·.2) }

/-- Whether any lane's accumulator i shows a bit after a change that it did not show before: LOSS, MISMATCH, NaN
tag, Inf tag (CLS_MXFLAG). -/
def flagRise (f16 : Bool) (old new : SMap (List Acc)) (i : Nat) (p : Acc → Bool) : Bool :=
  (List.range 256).any (fun l => p (accRead f16 new i l).info && !(p (accRead f16 old i l).info))

def injectDone (old new : Row) (f16 : Bool) (i : Nat) : Inject :=
  let fr := flagRise f16 old.accs new.accs i
  .done new (fr (·.loss)) (fr (·.mismatch)) (fr (fun a => a.tag == .nan)) (fr (fun a => a.tag == .pinf || a.tag == .ninf))

/-- The scale byte of the block chunk j opens or lies in, for vector v of an MPASS (R55, R111). -/
def passScale (rd : Nat → Nat → Nat) (a : PassArgs) (v j : Nat) : Nat :=
  if a.smode = 0 then 0
  else rd (a.scaleAddr + 128 * (j / blockChunks a.smode (classOf (a.pair / 16))) + a.addr % 1024 / 8 + v) 1

/-- Advance a run past its present chunk: next chunk, vector, pass; a finished pass lands (R45, R75, R112). -/
def Row.advance (r : Row) (a : PassArgs) (u : PassRun) : Row :=
  let nj := kindChunks a.kind
  if u.j + 1 < nj then { r with run := some { u with j := u.j + 1 } }
  else if u.v + 1 < a.b then { r with run := some { u with v := u.v + 1, j := 0 } }
  else
    let lastPass := decide (u.p + 1 ≥ kindPasses a.kind)
    { r with
      run := if lastPass then none else some { u with p := u.p + 1, v := 0, j := 0 }
      landing := r.landing ++ [{ seq := u.seq, slot := a.slot, accs := u.op.passPlaces, counts := true }] }

/-- One array cycle of the injection stage: the next chunk of the pass or BCAST that holds the rachis, or the
MSTEP at the head of the rachis path (R50, R114, R115). -/
def Row.inject (rd : Nat → Nat → Nat) (r : Row) : Inject :=
  match r.run with
  | some u =>
    match u.op with
    | .mpass a =>
      let f16 := a.pair == 0x77
      let i := kindAcc a.kind u.p a.abase u.v
      let pl := kindPlanes a.kind u.p
      let jx := u.j + (if pl.1 then 8 else 0)
      let jw := u.j + (if pl.2 then 8 else 0)
      let start := decide (u.j = 0) && (kindFirst a.kind u.p)
      if u.j = 0 ∧ r.accDraining u.seq (narrowPlaces f16 [i]) then .heldAcc
      else
        let cls := classOf (a.pair / 16)
        let bc := if a.kind ≥ 3 then 8 else blockChunks a.smode cls
        let xc := operandChunk rd cls a.tr a.addr u.v jx
        let r1 := r.mulChunk a u.p i jw xc (passScale rd a u.v u.j)
          (decide (u.j % bc = 0)) (decide (u.j % bc = bc - 1)) start a.zero
        injectDone r (r1.advance a u) f16 i
    | .bcast s addr b tr cls =>
      if r.rx.length ≥ 32 then .heldRx
      else
        let c := BitVec.ofNat 64 (operandChunk rd cls tr addr u.v u.j)
        let r1 := { r with rx := r.rx ++ [(s, c)] }
        let r2 :=
          if u.j + 1 < 16 then { r1 with run := some { u with j := u.j + 1 } }
          else if u.v + 1 < b then { r1 with run := some { u with v := u.v + 1, j := 0 } }
          else { r1 with run := none }
        .done r2 false false false false
    | _ => .idle
  | none =>
    match takeFirst RowOp.isRachis r.queue with
    | some (n, .mstep a j swap last, q) =>
      let f16 := a.pair == 0x77
      if swap && !r.shadow.full then .heldShadow
      else if r.accDraining n (narrowPlaces f16 [a.abase]) then .heldAcc
      else
        let cls := classOf (a.pair / 16)
        let r0 : Row := { (if swap then r.swap else r) with queue := q }
        let xc := rd (a.addr + 1024 * j) 8
        let sx := if a.smode = 0 then 0 else rd a.scaleAddr 1
        let r1 := r0.mulChunk a 0 a.abase j xc sx (opensBlock a.smode cls j) last true a.zero
        let r2 := { r1 with landing := r1.landing ++ [{ seq := n, slot := a.slot, accs := narrowPlaces f16 [a.abase], counts := false }] }
        injectDone r r2 f16 a.abase
    | _ => .idle

/-- The last accumulation of the oldest landing pass completes (R45). Answers the row and whether a pass (not an
MSTEP) completed, none when none is landing. -/
def Row.land (r : Row) : Option (Row × Landing) :=
  match r.landing with
  | [] => none
  | x :: q => some ({ r with landing := q }, x)

/-! ### Drain port (R51, R69, R70, R117 to R119) -/

/-- R51: whether a pass issued before drain `n` has still to write one of these accumulator places. -/
def Row.accWriting (r : Row) (n : Nat) (places : List Nat) : Bool :=
  let hit (m : Nat) (l : List Nat) : Bool := decide (m < n) && l.any (fun i => places.contains i)
  r.queue.any (fun e => hit e.seq e.op.passPlaces) || r.landing.any (fun x => hit x.seq x.accs) ||
  (match r.run with | some u => hit u.seq u.op.passPlaces | none => false)

/-- The head of the drain path, when it may run (R51). -/
def Row.drainReady (r : Row) : Option (RowOp × List RowEntry) :=
  match takeFirst RowOp.isDrain r.queue with
  | some (n, o, q) => if r.accWriting n o.drainPlaces then none else some (o, q)
  | none => none

/-- Output i of lane l of a drain (R69, R70, R116). -/
def drainOutput (accs : SMap (List Acc)) (d : DrainArgs) (i l : Nat) : Drained :=
  let src : AccV :=
    if d.gauss then
      let k (n : Nat) := accRead true accs (d.acc + 3 * (i / 2) + n) l
      let g := gaussForm (k 0) (k 1) (k 2)
      if i % 2 = 0 then g.1 else g.2
    else accRead d.f16 accs (d.acc + i) l
  match drainFmt d.target with
  | some f => drainAcc f d.rtz d.sat src d.dscale
  | none => { bits := recBits { src with info := { src.info with f16 := d.f16 } } }

/-- R117: the cluster SRAM offset of output i of lane l. -/
def drainAddr (d : DrainArgs) (i l : Nat) : Nat :=
  if d.raw || d.target == 0 then d.addr + drainBytes d.target d.f16 * (256 * i + l)
  else
    let cls := if drainBytes d.target d.f16 = 2 then 2 else 0
    let n0 := d.addr % 1024 / 8
    d.addr - 8 * n0 + l / 128 * tileBytes cls + tileOff cls (l % 128) (n0 + i)

/-- R118: the record source offset of record i of lane l. -/
def accldAddr (d : DrainArgs) (i l : Nat) : Nat := d.addr + drainBytes 15 d.f16 * (256 * i + l)

/-- R119: the register word TLD loads in lane l. -/
def tldWord (rd : Nat → Nat → Nat) (cls addr n0 l : Nat) : Nat :=
  let e := tldElems cls
  let w := 32 / e
  ((List.range e).map (fun i =>
    tileElem rd cls (addr + l / 128 * tileBytes cls) (l % 128) (n0 + i) <<< (i * w))).sum

/-- R120: whether a sheaf has row instructions that have not completed. -/
def Row.busyFor (r : Row) (slot : Nat) : Bool :=
  r.queue.any (fun e => e.op.slot == slot) || (r.filling.isSome && r.fillSlot == slot) ||
  (match r.run with | some u => u.op.slot == slot | none => false) ||
  r.landing.any (fun x => x.slot == slot)

/-- R115: the oldest chunk of a sheaf's stream, and the queue without it. -/
def Row.takeChunk (r : Row) (slot : Nat) : Option (BitVec 64 × Row) :=
  match r.rx.find? (fun e => e.1 == slot) with
  | some e => some (e.2, { r with rx := r.rx.eraseP (fun e => e.1 == slot) })
  | none => none

/-- Whether chunks of a sheaf's BCAST are still to come. -/
def Row.bcastPending (r : Row) (slot : Nat) : Bool :=
  r.queue.any (fun e => match e.op with | .bcast s .. => s == slot | _ => false) ||
  (match r.run with | some u => (match u.op with | .bcast s .. => s == slot | _ => false) | none => false)

/-- R102, R115: HALT discards the sheaf's unread chunks. -/
def Row.discardChunks (r : Row) (slot : Nat) : Row := { r with rx := r.rx.filter (fun e => e.1 != slot) }

/-- R109: the matrix unit as a KERNEL on an idle row finds it. -/
def Row.reset : Row := {}

end Sys2Proof.Machine
end

