-- ==== Sys2Proof/Machine/Cores.lean ====
section
/-! DEFINITION. The SYSTEM group (R102, R103, R256, R259, R260, R266, R271), interrupts and events of the cores (R263,
R264, R266), and taking cores out of service and back (R268, R269). -/

namespace Sys2Proof.Machine

open Sys2Proof

/-! ## System registers of a core (R271) -/

/-- R271: the lowest level that may access a system register and whether it is writable; none when the table has no
such number. -/
def csrKind (k : Nat) : Option (Nat × Bool) :=
  if k = 0x001 then some (0, true)
  else if 0x010 ≤ k ∧ k ≤ 0x013 then some (0, false)
  else if k = 0x102 ∨ k = 0x10B then some (1, false)
  else if k = 0x100 ∨ k = 0x101 ∨ (0x104 ≤ k ∧ k ≤ 0x10A) ∨ (0x110 ≤ k ∧ k ≤ 0x112) then some (1, true)
  else if k = 0x30B then some (3, false)
  else if k = 0x113 ∨ k = 0x300 ∨ (0x304 ≤ k ∧ k ≤ 0x30A) then some (3, true)
  else none

/-- R264, R271: EVCLAIM: the oldest event of the level's queue with VALID, removed and its PEND cleared; 0 when empty. -/
def Dev.evclaim (d : Dev) (n : Nat) (toM : Bool) : Nat × Dev :=
  let c := d.core n
  match (if toM then c.evqM else c.evqS) with
  | [] => (0, d)
  | e :: rest =>
    (2 ^ 31 + e, (d.setCore n (fun c => if toM then { c with evqM := rest } else { c with evqS := rest })).setBit
      (rCrownEvroute e) 30 false)

/-- R271: the value a system register reads. CYCLE counts clock cycles, which the model does not: a free value. -/
def Dev.csrRead (d : Dev) (n k : Nat) : Nat × Dev :=
  if k = 0x010 then (d.time, d)
  else if k = 0x011 then let (v, d) := d.fresh; (v.toNat, d)
  else if k = 0x012 then ((d.core n).retired, d)
  else if k = 0x013 then (n, d)
  else if k = 0x102 then ((d.core n).ipend, d)
  else if k = 0x10B then d.evclaim n false
  else if k = 0x30B then d.evclaim n true
  else ((d.core n).getCsr k, d)

/-- R271: the bits of a system register that software writes at a level. -/
def csrMask (k lvl : Nat) : Nat :=
  if k = 0x001 then 0xFF
  else if k = 0x100 then (if lvl = 3 then 0x41933 else 0x40111)
  else if k = 0x101 then (if lvl = 3 then 0xF else 0x3)
  else if k = 0x104 ∨ k = 0x304 then 0xFFFFFFFFFFFFFF00
  else if k = 0x110 then 0xFFF
  else if k = 0x111 ∨ k = 0x112 then 0xFFFFFFFFFE0000
  else if k = 0x113 then 0x1
  else 0xFFFFFFFFFFFFFFFF

/-- R266, R271: write a system register; a TIMECMP above TIME clears its timer's pending bit. -/
def Dev.csrWrite (d : Dev) (n k v : Nat) : Dev :=
  d.setCore n (fun c =>
    let m := csrMask k c.level
    let w := (v &&& m) ||| (c.getCsr k - (c.getCsr k &&& m))
    let c := c.setCsr k w
    if k = 0x10A then { c with timS := c.timS && decide (w ≤ d.time) }
    else if k = 0x30A then { c with timM := c.timM && decide (w ≤ d.time) }
    else c)

/-- R102: the three accesses. -/
inductive CsrOp where
  | rw | rs | rc
deriving DecidableEq, Repr

/-- The value written. -/
def CsrOp.eval : CsrOp → Nat → Nat → Nat
  | .rw, _, x => x
  | .rs, old, x => old ||| x
  | .rc, old, x => old - (old &&& x)

/-- R102, R271: an access of a core. CSRRS and CSRRC with RA = 0 write nothing, so that a read-only register can be read
(notes/assumptions/24.md). -/
def Dev.csrCore (d : Dev) (op : CsrOp) (f : SysF) (n : Nat) : CEnd × Dev :=
  let k := f.csr.toNat
  let writes := op == .rw || f.ra != 0
  match csrKind k with
  | none => (.exc 1 0 0, d)
  | some (lvl, w) =>
    if decide ((d.core n).level < lvl) || (writes && !w) then (.exc 1 0 0, d)
    else
      let x := (d.x n f.ra.toNat).toNat
      let (old, d) := d.csrRead n k
      let d := if writes then d.csrWrite n k (op.eval old x) else d
      (.next, d.putX n f.rd.toNat (BitVec.ofNat 64 old))

/-! ## System registers of a lane (R103) -/

/-- R103: GRPIDX: the cluster's index among those that run the command. -/
def Dev.grpIdx (d : Dev) (k : Nat) : Nat :=
  match (d.sheaf k).cmd with
  | some r => (d.cp.kernels.get {} r).clusters.idxOf (keyCls k)
  | none => 0

/-- R103: the value of a lane register; none when the table has no such number. -/
def Dev.laneCsr (d : Dev) (k num l : Nat) : Option Nat :=
  let s := d.sheaf k
  if num = 0 then some l
  else if num = 1 then some (keyRow k % 16)
  else if num = 2 then some (keyC k)
  else if num = 3 then some (keyTil k)
  else if num = 4 then some (keySlot k)
  else if num = 5 then some (d.sheafCtx k)
  else if num = 6 then some (d.grpIdx k)
  else if num = 8 then some (d.time % 2 ^ 32)
  else if num = 9 then some (lane 0 s.timeHi l).toNat
  else if 0x10 ≤ num ∧ num < 0x20 then
    some (match s.cmd with | some r => ((d.cp.kernels.get {} r).kargs.getD (num - 16) 0).toNat | none => 0)
  else if num = 0x20 then some (s.getL l).toNat
  else none

/-- R102, R103: an access of a sheaf. A refused one is illegal with cause 0x04. -/
def Dev.csrLane (d : Dev) (op : CsrOp) (f : SysF) (k : Nat) : LEnd × Dev :=
  let num := f.csr.toNat
  let writes := op == .rw || f.ra != 0
  match (d.sheaf k).first with
  | none => (.next, d)
  | some l0 =>
    if (d.laneCsr k num 0).isNone || (writes && num != 0x20) then (.exc 4 .illegalInstruction l0, d)
    else
      let old := fun l => (d.laneCsr k num l).getD 0
      let s0 := d.sheaf k
      let d := d.setSheaf k (fun s => s.putV f.rd.toNat (fun l => BitVec.ofNat 32 (old l)))
      let d := if num = 8 then d.setSheaf k (fun s => { s with timeHi := (List.range 256).map (fun l =>
          if s.on l then BitVec.ofNat 32 (d.time / 2 ^ 32) else lane 0 s.timeHi l) }) else d
      (.next, if writes then d.setSheaf k (fun s => { s with lflags := (List.range 256).map (fun l =>
          if s.on l then BitVec.ofNat 5 (op.eval (old l) (s0.getV f.ra.toNat l).toNat) else s.getL l) }) else d)

/-- R102: CSRRW, CSRRS and CSRRC. -/
def Dev.csr (d : Dev) (i : Instr) (a : Agent) (op : CsrOp) (f : SysF) : Dev :=
  d.ghety i a 0 false (fun n d => d.csrCore op f n) none (fun k d => d.csrLane op f k)

/-- R264: a read of EVCLAIM of the level the core runs at. -/
def Dev.evclaimRead (d : Dev) (i : Instr) (a : Agent) (rd : BitVec 5) : Dev :=
  d.ghety i a 1 false
    (fun n d => d.csrCore .rs ⟨if (d.core n).level = 3 then 0x30B else 0x10B, 0, rd⟩ n) none
    (fun k d => d.csrLane .rs ⟨0x10B, 0, rd⟩ k)

/-! ## System instructions (R102) -/

/-- R78: fields that the instruction does not use. -/
def sysUsed (f : SysF) : Bool := f.csr != 0 || f.ra != 0 || f.rd != 0

/-- R261: the code of ECALL at a level. -/
def callCode (lvl : Nat) : Nat := if lvl = 0 then 3 else if lvl = 1 then 4 else 5

/-- R102, R107: EBREAK. -/
def Dev.ebreak (d : Dev) (i : Instr) (a : Agent) (f : SysF) : Dev :=
  d.ghety i a 0 (sysUsed f) (fun n d => (.exc 2 (d.core n).pc.toNat 0, d)) (cause1 (sysUsed f))
    (fun k d => match (d.sheaf k).first with | some l => (.exc 0x30 .laneTrap l, d) | none => (.next, d))

/-- R260: ERET. -/
def Dev.eretC (d : Dev) (i : Instr) (a : Agent) (f : SysF) : Dev :=
  d.onlyC i a 1 (sysUsed f) (fun n d => (.wait, d.setCore n (fun c => { c.eret with retired := c.retired + 1 })))

/-- R259: the entries of core n's translation cache that TLBI drops: those of the page that holds an address, or all. -/
def Dev.tlbi (d : Dev) (n : Nat) (va : Option Nat) : Dev :=
  { d with ms := { d.ms with tlb := d.ms.tlb.upd [] (32 + n) (fun t =>
      match va with
      | none => []
      | some v => t.filter (fun e =>
          e.1 % 2 ^ 40 != (if e.2.huge then v / 2 ^ 29 else v / 65536))) } }

/-- R102: HALT ends the sheaf and discards its unread chunks (R115). -/
def Dev.halt (d : Dev) (i : Instr) (a : Agent) (f : SysF) : Dev :=
  d.onlyL i a (cause1 (sysUsed f)) (fun k d =>
    (.next, (d.setSheaf k (fun s => { s with st := .halted })).setRow (keyRow k) (fun r => r.discardChunks (keySlot k))))

/-! ## Interrupts and events (R263 to R266) -/

/-- R266: the first pending interrupt is taken, unless a deferred error goes before it. FADDR holds a free value: R261
gives it none for an interrupt (notes/assumptions/3.md). -/
def Dev.interruptTaken (d : Dev) (n : Nat) : Dev :=
  if !d.coreActs n || ((d.core n).deferredNow).isSome then d else
  match (d.core n).interrupt with
  | none => d
  | some (code, toM) =>
    let (v, d) := d.fresh
    d.takeException n toM (d.core n).pc.toNat (2 ^ 63 + code) v.toNat 0

/-- R266: TIME has reached TIMECMP. -/
def Dev.timerExpiry (d : Dev) (n : Nat) (machine : Bool) : Dev :=
  let c := d.core n
  if !d.coreActs n || decide (d.time < c.getCsr (if machine then 0x30A else 0x10A)) then d
  else d.setCore n (fun c => if machine then { c with timM := true } else { c with timS := true })

/-- R263: the pending deferred error is taken. -/
def Dev.deferredTaken (d : Dev) (n : Nat) : Dev :=
  if !d.coreActs n then d else
  match (d.core n).deferredNow with
  | none => d
  | some (e, toM) =>
    (d.setCore n (fun c => { c with deferred := none })).takeException n toM (d.core n).pc.toNat 0x18 e.addr
      (e.status * 2 ^ 48 + min e.merged 65535 * 2 ^ 32)

/-- An event stands in some core's queue. -/
def Dev.evQueued (d : Dev) (e : Nat) : Bool := d.cores.any (fun c => c.2.evqS.contains e || c.2.evqM.contains e)

/-- R264: the router writes a pending event into the queue it names, when that can take it. -/
def Dev.eventDelivery (d : Dev) (e : Nat) : Dev :=
  let r := rCrownEvroute e
  let n := d.fld r 6 0
  let toM := d.bit r 29
  let q := if toM then (d.core n).evqM else (d.core n).evqS
  if d.bit r 31 && d.bit r 30 && decide (n < 96) && d.coreActs n && !d.evQueued e && decide (q.length < 32) then
    d.setCore n (fun c => if toM then { c with evqM := c.evqM ++ [e] } else { c with evqS := c.evqS ++ [e] })
  else d

/-! ## Offlining and bringing cores back (R268, R269) -/

/-- The state of a core is lost: registers, queues of events (which stay pending in the router), translations. -/
def Dev.coreLost (d : Dev) (n : Nat) : Dev :=
  { (d.tlbi n none) with cores := d.cores.del n }

/-- R268: REQ = OFFLINE: an ACTIVE core stops at its next instruction boundary. -/
def Dev.coreOffline (d : Dev) (n : Nat) : Dev :=
  if d.coreState n = 0 then d.setFld (rCorestat n) 2 0 1 else d

/-- R268: the buffers drain, dirty lines go to the Culm shared cache, and the core powers down. -/
def Dev.coreOfflineDone (d : Dev) (n : Nat) : Dev :=
  if d.coreState n = 1 && d.dieActive (slotCulm (n / 48)) then
    let d := d.ntDrainAll n
    if !d.ntEmpty n then d
    else
      let d := ((d.cache (10 + n)).lines.map (·.1)).foldl (fun d l => d.coreEvict n l) d
      ((d.coreLost n).setFld (rCorestat n) 2 0 2).addSat (rCorestat n) 15 8 1
  else d

/-- R268, R269: REQ = ONLINE: an OFFLINE or FAILED core powers up with its caches invalid; a held one ignores it. -/
def Dev.coreOnline (d : Dev) (n : Nat) : Dev :=
  if (d.coreState n = 2 ∨ d.coreState n = 4) ∧ !d.bit (rCorestat n) 7 then
    (d.setCache (10 + n) (fun _ => {})).setFld (rCorestat n) 2 0 3
  else d

/-- R268, R271: a core starts at M at CULM_RSTVEC with every system register at its reset value. -/
def Dev.coreStart (d : Dev) (n : Nat) : Dev :=
  let v := d.reg (rCulmRstvec (n / 48)) / 256 * 256 % 2 ^ 56
  let d := (d.coreLost n).setCore n (fun _ => { pc := BitVec.ofNat 64 v, csr := [(0x304, BitVec.ofNat 64 v)] })
  (d.setFld (rCorestat n) 2 0 0).setFld (rCorestat n) 31 24 0

/-- R268, R269: the self-test of a core that is coming online ends. -/
def Dev.coreSelftestDone (d : Dev) (n : Nat) (ok : Bool) : Dev :=
  if d.coreState n = 3 && d.dieActive (slotCulm (n / 48)) then
    if ok then d.coreStart n
    else
      let d := (d.setFld (rCorestat n) 2 0 4).addSat (rCorestat n) 31 24 1
      if 3 ≤ d.fld (rCorestat n) 31 24 then d.setBit (rCorestat n) 7 true else d
  else d

/-- R269: a core fails in its own logic. Of the lines it held modified, those that could not be corrected are written as
poison; which they are is free (notes/assumptions/3.md). -/
def Dev.coreFailed (d : Dev) (n : Nat) : Dev :=
  if d.coreActs n then
    let d := (d.dirtyLines (10 + n)).foldl (fun d l =>
      let (v, d) := d.fresh
      let d := d.writeHome l
      if v.getLsbD 0 then d.poisonLine l else d) d
    let d := (d.setCache (10 + n) (fun _ => {})).coreLost n
    (d.setFld (rCorestat n) 2 0 4).error 0x10 (slotCulm (n / 48)) (n % 48)
  else d

/-- R102, R261: ECALL. -/
def execEcall (a : Agent) (f : SysF) (s : State) : Out :=
  doCmd a.wf (fun d => d.onlyC (.ecall a f) a 0 (sysUsed f) (fun n d => (.exc (callCode (d.core n).level) 0 0, d))) s

/-- R102: EBREAK. -/
def execEbreak (a : Agent) (f : SysF) (s : State) : Out := doCmd a.wf (fun d => d.ebreak (.ebreak a f) a f) s

/-- R260: ERET. -/
def execEret (a : Agent) (f : SysF) (s : State) : Out := doCmd a.wf (fun d => d.eretC (.eret a f) a f) s

/-- R266: WFI may return for no reason; it returns at once. -/
def execWfi (a : Agent) (f : SysF) (s : State) : Out :=
  doCmd a.wf (fun d => d.onlyC (.wfi a f) a 1 (sysUsed f) (fun _ d => (.next, d))) s

/-- R102: CSRRW. -/
def execCsrrw (a : Agent) (f : SysF) (s : State) : Out := doCmd a.wf (fun d => d.csr (.csrrw a f) a .rw f) s

/-- R102: CSRRS. -/
def execCsrrs (a : Agent) (f : SysF) (s : State) : Out := doCmd a.wf (fun d => d.csr (.csrrs a f) a .rs f) s

/-- R102: CSRRC. -/
def execCsrrc (a : Agent) (f : SysF) (s : State) : Out := doCmd a.wf (fun d => d.csr (.csrrc a f) a .rc f) s

/-- R102, R259: TLBI. -/
def execTlbi (a : Agent) (f : SysF) (s : State) : Out :=
  doCmd a.wf (fun d => d.onlyC (.tlbi a f) a 1 (f.csr != 0 || f.rd != 0) (fun n d => (.next, d.tlbi n (if f.ra = 0 then none else some (d.x n f.ra.toNat).toNat)))) s

/-- R102: HALT. -/
def execHalt (a : Agent) (f : SysF) (s : State) : Out := doCmd a.wf (fun d => d.halt (.halt a f) a f) s

/-- R264: EVCLAIM is read. -/
def execEvclaimRead (a : Agent) (rd : BitVec 5) (s : State) : Out :=
  doCmd a.wf (fun d => d.evclaimRead (.evclaimRead a rd) a rd) s

/-- R103: TIMELO is read. -/
def execTimeloRead (a : Agent) (rd : BitVec 5) (s : State) : Out :=
  doCmd a.wf (fun d => d.csr (.timeloRead a rd) a .rs ⟨8, 0, rd⟩) s

/-- R266: an interrupt is taken. -/
def execInterruptTaken (n : Nat) (s : State) : Out := doCmd (decide (n < 96)) (fun d => d.interruptTaken n) s

/-- R266: a timer expires. -/
def execTimerExpiry (n : Nat) (machine : Bool) (s : State) : Out :=
  doCmd (decide (n < 96)) (fun d => d.timerExpiry n machine) s

/-- R263: a deferred error is taken. -/
def execDeferredError (n : Nat) (s : State) : Out := doCmd (decide (n < 96)) (fun d => d.deferredTaken n) s

/-- R264: an event is delivered. -/
def execEventDelivery (ev : Nat) (s : State) : Out := doCmd (decide (ev < 2048)) (fun d => d.eventDelivery ev) s

/-- R268: a core's self-test ends. -/
def execCoreSelftestDone (n : Nat) (ok : Bool) (s : State) : Out :=
  doCmd (decide (n < 96)) (fun d => d.coreSelftestDone n ok) s

/-- R269: a core fails. -/
def execCoreFailed (n : Nat) (s : State) : Out := doCmd (decide (n < 96)) (fun d => d.coreFailed n) s

/-- R268: a core is OFFLINE. -/
def execCoreOfflineDone (n : Nat) (s : State) : Out := doCmd (decide (n < 96)) (fun d => d.coreOfflineDone n) s

end Sys2Proof.Machine
end

