-- ==== Sys2Proof/Machine/Cp.lean ====
section
/-! DEFINITION. Shared operations of the command processor: queues, completion queues, started commands and their
ends (R272 to R285, R300, R306 to R311), wind-down of waiters (R197, R198), cluster groups (R28). -/

namespace Sys2Proof.Machine

open Sys2Proof

/-! ## Commands -/

/-- Word i of a command. -/
def Cmd.w (c : Cmd) (i : Nat) : Nat := (c.words.getD i 0).toNat

/-- The 64-bit field at words i and i + 1. -/
def Cmd.dw (c : Cmd) (i : Nat) : Nat := c.w i + 2 ^ 32 * c.w (i + 1)

/-- Bits [hi:lo] of word i. -/
def Cmd.f (c : Cmd) (i hi lo : Nat) : Nat := bitsOf (c.w i) hi lo

/-- OPCODE (R274). -/
def Cmd.op (c : Cmd) : Nat := c.f 0 30 23
/-- BARRIER. -/
def Cmd.barrier (c : Cmd) : Bool := (c.w 0).testBit 22
/-- NOCQE. -/
def Cmd.nocqe (c : Cmd) : Bool := (c.w 0).testBit 21
/-- IRQ. -/
def Cmd.irq (c : Cmd) : Bool := (c.w 0).testBit 20
/-- HALTERR. -/
def Cmd.halterr (c : Cmd) : Bool := (c.w 0).testBit 19
/-- TAG. -/
def Cmd.tag (c : Cmd) : Nat := c.w 1

/-- The first word from i on, below n, that is not 0. -/
def Cmd.nonzero (c : Cmd) (i n : Nat) : Option Nat := (List.range n).find? (fun k => decide (i ≤ k) && c.w k != 0)

/-- R286: a check of a command's fields: the status and INFO it completes with. -/
abbrev Chk := Option (Status × Nat)

/-- R286: a field is at fault: INVALID_FIELD with its word. -/
def badIf (b : Bool) (info : Nat) : Chk := if b then some (.invalidField, info) else none

/-- R521: an address is misaligned: PROTECTION. -/
def protIf (b : Bool) : Chk := if b then some (.protection, 0) else none

/-- R286: reserved words from i on, below n, that are not 0. -/
def Cmd.zeros (c : Cmd) (i n : Nat) : Chk := (c.nonzero i n).map (fun k => (.invalidField, k))

/-- The first check that fails. -/
def firstBad (l : List Chk) : Chk := l.findSome? id

/-! ## Queues and runs -/

/-- R492: the CP dispatches, writes entries and performs signals. -/
def Dev.cpRuns (d : Dev) : Bool := d.bit rCpStat 31 && !d.bit rCpStat 30

/-- A queue as it stands. -/
def Dev.queue (d : Dev) (q : Nat) : Queue := d.cp.queues.get {} q

/-- The queue is not FREE. -/
def Dev.queueUsed (d : Dev) (q : Nat) : Bool := (d.cp.queues.find q).isSome

/-- Change a queue that is not FREE. -/
def Dev.setQueue (d : Dev) (q : Nat) (f : Queue → Queue) : Dev :=
  { d with cp := { d.cp with queues := d.cp.queues.adj q f } }

/-- A run as it stands. -/
def Dev.run? (d : Dev) (r : Nat) : Option Run := d.cp.runs.find r

/-- Change a run. -/
def Dev.setRun (d : Dev) (r : Nat) (f : Run → Run) : Dev := { d with cp := { d.cp with runs := d.cp.runs.adj r f } }

/-- A kernel as it stands. -/
def Dev.kern (d : Dev) (r : Nat) : KernelRun := d.cp.kernels.get {} r

/-- Change a kernel. -/
def Dev.setKern (d : Dev) (r : Nat) (f : KernelRun → KernelRun) : Dev :=
  { d with cp := { d.cp with kernels := d.cp.kernels.adj r f } }

/-- A context's scheduling state. -/
def Dev.ctxSt (d : Dev) (x : Nat) : CtxSt := d.cp.ctxs.get {} x

/-- Change a context's scheduling state. -/
def Dev.setCtx (d : Dev) (x : Nat) (f : CtxSt → CtxSt) : Dev := { d with cp := { d.cp with ctxs := d.cp.ctxs.upd {} x f } }

/-- R314: CP_CTXDESC.STATE: 0 FREE, 1 ACTIVE, 2 SUSPENDED, 3 DESTROYING. Context 0 is always ACTIVE. -/
def Dev.ctxState (d : Dev) (x : Nat) : Nat := if x = 0 then 1 else d.fld (rCpCtxdesc x) 63 61

/-- A fresh execution number. -/
def Dev.freshRun (d : Dev) : Nat × Dev := (d.cp.nextRun, { d with cp := { d.cp with nextRun := d.cp.nextRun + 1 } })

/-- R311: entries written or reserved and not consumed are below the ring's size. -/
def Cq.free (c : Cq) : Bool := decide ((c.written + c.reserved + (2 ^ 32 - c.cons % 2 ^ 32)) % 2 ^ 32 < 2 ^ c.log2)

/-- R284: a queue that is ACTIVE or PARKED halts. -/
def Dev.haltQueue (d : Dev) (q : Nat) (h : HaltSt) : Dev :=
  d.setQueue q (fun x => if x.st = .active ∨ x.st = .parked then { x with st := .halted, halt := h, cur := none } else x)

/-- A queue-level entry, or that of a flow command: it has ended, and waits for a free entry (R287, R311). -/
def Dev.newEntry (d : Dev) (q : Nat) (c : Cmd) (s info : Nat) : Dev :=
  let v : Run := { qid := q, cmd := c, cls := 6, reserved := false, start := d.time, fin := d.time, status := some s,
                   info := info, done := true, order := d.cp.ended, began := true }
  { d with cp := { d.cp with runs := d.cp.runs.set c.rid v, ended := d.cp.ended + 1 } }

/-- R285: statuses that halt the queue whatever HALTERR says. -/
def haltsAlways (s : Nat) : Bool := s == Status.invalidField.code || s == Status.badOpcode.code

/-- R285, R308: a run's work has ended. -/
def Dev.endRun (d : Dev) (r : Nat) : Dev :=
  match d.run? r with
  | none => d
  | some v =>
    if v.done then d else
    let s := v.status.getD 0
    let d := d.setRun r (fun v => { v with done := true, began := true, fin := d.time, order := d.cp.ended })
    let d := { d with cp := { d.cp with ended := d.cp.ended + 1 } }
    if s != 0 && (haltsAlways s || v.cmd.halterr) then d.haltQueue v.qid (.cmd v.cmd) else d

/-- A run ends with a status, unless it met another before (R308). -/
def Dev.failRun (d : Dev) (r : Nat) (s : Status) (info : Nat := 0) : Dev := (d.runStatus r s info).endRun r

/-- R225, R247: stores of a run to other devices that have not been answered: not yet performed. -/
def Dev.storesOut (d : Dev) (r : Nat) : Bool := d.fe.reqs.any (fun e => !e.2.load && e.2.origin == .cmd r)

/-- R247, R300, R308: an answer or a drop has reached a store of a run that had ended: the run's end is the performing of its last
store, and a first status met then halts its queue as at its end. `before` is the part before the answer. -/
def Dev.storesSettle (d before : Dev) (w : Waiter) : Dev :=
  match w with
  | .cmd r =>
    match before.run? r, d.run? r with
    | some u, some v =>
      let s := v.status.getD 0
      let d := if v.done && u.status.isNone && s != 0 && (haltsAlways s || v.cmd.halterr) then d.haltQueue v.qid (.cmd v.cmd) else d
      if v.done && !d.storesOut r then
        let d := d.setRun r (fun v => { v with fin := d.time, order := d.cp.ended })
        { d with cp := { d.cp with ended := d.cp.ended + 1 } }
      else d
    | _, _ => d
  | _ => d

/-- R335 step 3: the run is within a descriptor, strip, page or vector: it has written a part of it, or waits for an answer to a
load. -/
def Dev.midUnit (d : Dev) (r : Nat) (v : Run) : Bool :=
  v.pos != 0 || d.fe.reqs.any (fun e => e.2.load && e.2.origin == .cmd r) || d.fe.answers.any (fun a => a.who == .cmd r)

/-- R335 step 3: an abort has reached the run and it stands at its safe point: it begins no further descriptor, strip, page or
vector. -/
def Dev.atSafePoint (d : Dev) (r : Nat) (v : Run) : Bool := v.aborting && !d.midUnit r v

/-- The run is the engine's: begun, not ended. -/
def Dev.runLive (d : Dev) (r : Nat) : Bool := match d.run? r with | some v => v.began && !v.done | none => false

/-- R306: a run begins on an instance. -/
def Dev.beginRun (d : Dev) (r inst : Nat) : Dev :=
  d.setRun r (fun v => { v with began := true, inst := inst, start := d.time })

/-- An execution is over: the signals that cover it see its end and whether it ended in error (R296, R297). -/
def Dev.uncover (d : Dev) (q r : Nat) (err : Bool) : Dev :=
  let out := fun (l : List Nat) => l.filter (· != r)
  let add := fun (l e : List Nat) => if err && l.contains r then e ++ [r] else e
  d.setQueue q (fun x => { x with
    span := out x.span, spanErrs := add x.span x.spanErrs,
    sigs := x.sigs.map (fun g => { g with covers := out g.covers, errs := add g.covers g.errs }) })

/-- R297: a command executed again counts by its last execution: `old` becomes `new`. -/
def Queue.reexec (x : Queue) (old new : Nat) : Queue :=
  let sub := fun (c e : List Nat) => if c.contains old || e.contains old then c.filter (· != old) ++ [new] else c
  let out := fun (l : List Nat) => l.filter (· != old)
  { x with
    span := sub x.span x.spanErrs, spanErrs := out x.spanErrs,
    sigs := x.sigs.map (fun g => { g with covers := sub g.covers g.errs, errs := out g.errs }) }

/-- A run is over: its reservation is released and it is no longer kept. -/
def Dev.dropRun (d : Dev) (r : Nat) : Dev :=
  match d.run? r with
  | none => d
  | some v =>
    let d := (d.uncover v.qid r (v.status.getD 0 != 0))
    let d := { d with cp := { d.cp with runs := d.cp.runs.del r, kernels := d.cp.kernels.del r } }
    if v.reserved then
      { d with cp := { d.cp with cqs := d.cp.cqs.adj (d.queue v.qid).cqid (fun c => { c with reserved := c.reserved - 1 }) } }
    else d

/-! ## Who accesses -/

/-- R192, R195: a run's accesses through the Crown cache. -/
def Dev.whoRun (d : Dev) (r : Nat) : Who :=
  match d.run? r with
  | some v => { tlb := 20, via := .engine, ctx := v.qid / 256, waiter := .cmd r, cls := v.cls, inst := v.inst, qid := v.qid, tag := v.cmd.tag }
  | none => { tlb := 20, via := .engine, ctx := 0, waiter := .cmd r }

/-- R276: the fetches of a queue. -/
def whoFetch (q : Nat) : Who := { tlb := 20, via := .engine, ctx := q / 256, waiter := .fetch q, cls := 6, qid := q }

/-- A flow command's accesses. -/
def whoFlow (q : Nat) (c : Cmd) : Who :=
  { tlb := 20, via := .engine, ctx := q / 256, waiter := .cmd c.rid, cls := 6, qid := q, tag := c.tag }

/-- An access that did not end: a fault holds it, a refusal goes to `fail`. -/
def Dev.acsEnd (d : Dev) (w : Who) (a : Acs) (fail : Dev → Status → Dev) : Dev :=
  match a with
  | .ok => d
  | .fault c l va k => d.hold w c l va k
  | .fail s => fail d s
  | .wait => d

/-- R401: the host ports a run's bytes go through. -/
def Dev.runPort (d : Dev) (r : Nat) (h : Home) : Dev :=
  match h with
  | .host _ p => d.setRun r (fun v => { v with ports := if v.ports.contains p then v.ports else v.ports ++ [p], lastPort := some p })
  | _ => d

/-- R401: note the ports of a virtual range that a run has written. -/
def Dev.notePorts (d : Dev) (r va n : Nat) : Dev :=
  (cut 65536 va n).foldl (fun d p =>
    match d.resolve (d.whoRun r) p.1 .write with
    | (.ok, h, _, d) => d.runPort r h
    | (_, _, _, d) => d) d

/-! ## Ends of flow commands, fetches and waits (R276, R285, R294) -/

/-- A flow command ends in an error: its entry is written, and its queue halts. -/
def Dev.flowError (d : Dev) (q : Nat) (c : Cmd) (s : Status) (info : Nat := 0) : Dev :=
  ((d.newEntry q c s.code info).haltQueue q (.cmd c)).setQueue q (fun x => { x with cur := none })

/-- A flow command ends well. -/
def Dev.flowDone (d : Dev) (q : Nat) (c : Cmd) : Dev :=
  (d.setQueue q (fun x => { x with cur := none })).uncover q c.rid false

/-- R285: a status ends a fetch: its entry names the SEQ of the ring slot, with TAG 0. -/
def Dev.fetchError (d : Dev) (q : Nat) (s : Status) : Dev :=
  let x := d.queue q
  let (rid, d) := d.freshRun
  let seq := match x.place with | .ring => x.n % 65536 | .buf _ _ _ => x.outerSeq
  let c : Cmd := { words := [], seq := seq, place := x.place, rid := rid }
  (d.newEntry q c s.code 0).haltQueue q .fetch

/-- R294: a blocked wait ends in an error. -/
def Dev.waitError (d : Dev) (q : Nat) (s : Status) : Dev :=
  match (d.queue q).wait with
  | none => d
  | some w => (d.setQueue q (fun x => { x with wait := none })).flowError q w.cmd s

/-- R296: the performing of a signal fails: its entry is written, and its queue halts; on a queue that is being
destroyed the signal is given up. -/
def Dev.sigError (d : Dev) (q rid : Nat) (s : Status) : Dev :=
  match (d.queue q).sigs.find? (fun g => g.cmd.rid == rid) with
  | none => d
  | some g =>
    let d := (d.newEntry q g.cmd s.code 0).haltQueue q (.signal rid)
    d.setQueue q (fun x =>
      let sigs := if x.destroying then x.sigs.filter (fun g => g.cmd.rid != rid)
        else x.sigs.map (fun g => if g.cmd.rid = rid then { g with failed := true } else g)
      { x with sigs := sigs })

/-- The queue a flow command, wait or signal of this execution number stands in. -/
def Dev.flowQueue (d : Dev) (rid : Nat) : Option Nat :=
  d.cp.queues.firstP (fun _ x =>
    (match x.cur with | some c => c.rid == rid | none => false) ||
    (match x.wait with | some w => w.cmd.rid == rid | none => false) ||
    x.sigs.any (fun g => g.cmd.rid == rid))

/-- R197, R198: what waited ends with a status. -/
def Dev.waiterFail (d : Dev) (w : Waiter) (s : Status) : Dev :=
  match w with
  | .core _ => d
  | .fetch q => d.fetchError q s
  | .sheaf k => match (d.sheaf k).cmd with | some r => (d.kernelStatus r s).stopSheaves r | none => d
  | .lane k _ => match (d.sheaf k).cmd with | some r => (d.kernelStatus r s).stopSheaves r | none => d
  | .cmd r =>
    if (d.run? r).isSome then d.failRun r s else
    match d.flowQueue r with
    | none => d
    | some q =>
      let x := d.queue q
      match x.cur, x.wait with
      | some c, _ => if c.rid = r then d.flowError q c s else d.sigError q r s
      | none, some w => if w.cmd.rid = r then d.waitError q s else d.sigError q r s
      | none, none => d.sigError q r s

/-! ## Cluster groups (R28, R304, R319) -/

/-- The keys of the enabled clusters of an ACTIVE Tiller, in ascending order. -/
def Dev.tilClusters (d : Dev) (t : Nat) : List Nat :=
  if d.dieActive (slotTil t) then ((List.range 84).filter (fun c => d.clsEnabled t c)).map (fun c => clsKey t c) else []

/-- R28: the groups of a Tiller: eight clusters each, the last one what remains. -/
def Dev.tilGroups (d : Dev) (t : Nat) : List Group :=
  let l := d.tilClusters t
  (List.range ((l.length + 7) / 8)).map (fun i => ⟨t, i, (l.drop (8 * i)).take 8⟩)

/-- Every group, in ascending (Tiller, group). -/
def Dev.allGroups (d : Dev) : List Group := (List.range 8).flatMap d.tilGroups

/-- R471, R488: the group's Tiller is being drained, or it is under test: the CP does not grant it. -/
def Dev.groupOut (d : Dev) (g : Group) : Bool :=
  (d.dies.get {} (slotTil g.til)).drain.isSome || (match d.sup.test with | some t => t.cur == some (g.til, g.idx) | none => false)

/-- R319: the groups that no context holds and that may be granted. -/
def Dev.freeGroups (d : Dev) : List Group :=
  d.allGroups.filter (fun g => !d.groupOut g && !d.cp.ctxs.any (fun e => e.2.groups.any (fun h => h.til == g.til && h.idx == g.idx)))

/-- R304: groups in ascending (Tiller, group). -/
def sortGroups (l : List Group) : List Group :=
  l.mergeSort (fun a b => decide (a.til * 16 + a.idx ≤ b.til * 16 + b.idx))

/-- R321: a context's groups are released; what their clusters' SRAM held is lost. -/
def Dev.releaseGroups (d : Dev) (x : Nat) : Dev :=
  let gs := (d.ctxSt x).groups
  let d := d.setCtx x (fun c => { c with groups := [], last := if gs.isEmpty then c.last else gs })
  (gs.flatMap (·.clusters)).foldl Dev.sramLose d

/-! ## Resets of a cluster (R84, R305) -/

/-- The sheaves of a run. -/
def Dev.runSheaves (d : Dev) (r : Nat) : List Nat := d.sheaves.keysP (fun _ s => s.cmd == some r)

/-! ## Completion entries and notices (R303, R306, R310, R323) -/

/-- R294: the fence may lie there: T2, T3 or T5. -/
def fenceTier : Home → Bool
  | .hbm _ => true
  | .core _ _ => true
  | .host _ _ => true
  | _ => false

/-- The completion queue of context x with local index i (R273). -/
def Dev.cqOf (d : Dev) (x i : Nat) : Option Nat := d.cp.cqs.firstP (fun _ c => c.ctx == x && c.cqx == i)

/-- R306: the words of an entry, with its phase. -/
def entryWords (phase cls inst status qid tag seq info start fin : Nat) : List Nat :=
  [phase * 2 ^ 31 + cls * 2 ^ 27 + inst % 1024 * 2 ^ 16 + status % 65536, qid % 2 ^ 20 * 4096, tag % 2 ^ 32,
   seq % 65536 * 65536 + min 65535 info, start % 2 ^ 32, start / 2 ^ 32 % 2 ^ 32, fin % 2 ^ 32, fin / 2 ^ 32 % 2 ^ 32]

/-- Where the next entry of a completion queue goes. -/
def Cq.nextAddr (c : Cq) : Nat := c.base + 32 * (c.written % 2 ^ c.log2)

/-- R303, R306, R310: write an entry into a completion queue as an access of its context; `irq` raises its interrupt. A
refused entry is lost and counted. `held` says that a reservation is released. -/
def Dev.writeEntry (d : Dev) (k : Nat) (words : Nat → List Nat) (irq held : Bool) : Dev :=
  let c := d.cp.cqs.get {} k
  let pa := c.nextAddr
  let free := fun (c : Cq) => if held then { c with reserved := c.reserved - 1 } else c
  let v := d.rangeVerdict c.ctx pa 32 true
  let d := { d with cp := { d.cp with cqs := d.cp.cqs.adj k free } }
  if (v = .pass ∨ v = .wait) ∧ fenceTier (d.home pa) then
    let d := d.crownWrite pa (wordBytes (words (1 - c.written / 2 ^ c.log2 % 2)))
    let d := { d with cp := { d.cp with cqs := d.cp.cqs.adj k (fun c => { c with written := (c.written + 1) % 2 ^ 32 }) } }
    if irq then d.interrupt c.dest c.vec else d
  else d.addSat rCpDbstat 63 48 1

/-- R323: the notice a context has not been given is written, once its completion queue has a free entry. -/
def Dev.noticeWrite (d : Dev) (x : Nat) : Dev :=
  let c := d.ctxSt x
  match d.cqOf x (d.fld (rCpCtxdesc x) 49 42) with
  | none => d
  | some k =>
    if c.notice && d.cpRuns && (d.cp.cqs.get {} k).free then
      let d := d.setCtx x (fun c => { c with notice := false })
      d.writeEntry k (fun ph => entryWords ph 6 0 Status.geometryChanged.code (x * 256) (d.fld rCrownGeom 63 56) 0 c.groups.length
        c.noticeTime c.noticeTime) true false
    else d

/-- R323: a notice waits while its completion queue is full. -/
def Dev.noticeFlush (d : Dev) : Dev := (d.cp.ctxs.keysP (fun _ c => c.notice)).foldl Dev.noticeWrite d

end Sys2Proof.Machine
end

