-- ==== Sys2Proof/Machine/Faults.lean ====
section
/-! DEFINITION. Faults and their records, lending and invalidation (R182 to R201, R520), caches as events see them
(R210 to R218, R235), the timeouts of fabric accesses (R250). -/

namespace Sys2Proof.Machine

open Sys2Proof

/-! ## The fault table (R194 to R198) -/

/-- R194: the record of fault i is written. -/
def Dev.faultRecordWrite (d : Dev) (i : Nat) : Dev :=
  match d.flt.table.find i with
  | none => d
  | some f =>
    let d := d.faultRecord i
    d.setBit (rCrownFqctl (d.fld (rCrownCtxxlt f.ctx) 63 60)) 30
      (d.ringOn (d.fld (rCrownCtxxlt f.ctx) 63 60) && d.ringFull (d.fld (rCrownCtxxlt f.ctx) 63 60))

/-- R197, R198: fault i ends as FAIL does: every waiter's command completes with FAULT_UNSERVICED. -/
def Dev.faultFailed (d : Dev) (i : Nat) : Dev :=
  match d.flt.table.find i with
  | none => d
  | some f => f.waiters.foldl (fun d w => d.waiterFail w .faultUnserviced) (d.faultFree i)

/-- R197: a write of CROWN_FRESUME: 1 RETRY frees the fault, so that its waiters replay; 2 FAIL ends them. -/
def Dev.faultResume (d : Dev) (action id : Nat) : Dev :=
  if !(action == 1 || action == 2) then d else
  let i := id % 65536
  match d.flt.table.find i with
  | some f =>
    if f.gen % 256 = id / 65536 % 256 then (if action = 1 then d.faultFree i else d.faultFailed i)
    else d.addSat rCrownFaultstat 63 48 1
  | none => d.addSat rCrownFaultstat 63 48 1

/-! ## Record rings (R520) -/

/-- R520: a write of a ring's control register that sets EN from 0 to 1 or clears it, by the value before. -/
def Dev.ringSwitched (d : Dev) (n : Nat) (was : Bool) : Dev :=
  let d := if d.ringOn n && !was then d.ringStart n else d
  if n < 16 then
    (if d.ringOn n then d.faultFlush n else d.setBit (rCrownFqctl n) 30 false)
  else d

/-! ## Lending (R182 to R186) -/

/-- R185: revocation. -/
def Dev.revoke (d : Dev) (n : Nat) : Dev :=
  let r := rCrownFadmit n
  ((d.setFld r 31 30 0).setBit r 29 false).setBit r 28 false

/-- R185: a write of CROWN_FADMIT[n]. -/
def Dev.fadmitWrite (d : Dev) (n v : Nat) : Dev :=
  let r := rCrownFadmit n
  let mode := if bitsOf v 31 30 = 3 then 0 else bitsOf v 31 30
  if d.bit r 29 then (if mode = 0 then d.revoke n else d)
  else if v.testBit 29 then
    match d.fld r 31 30 with
    | 1 =>
      if d.routed (d.fld r 14 0) || d.ownId == some (d.fld r 14 0) then
        let d := d.setBit r 29 true
        { d with fe := { d.fe with tx := d.fe.tx ++ [.reclaim (d.fld r 14 0) n (d.fld rCrownLendcfg 15 0)] } }
      else d.revoke n
    | 2 => d.setBit r 29 true
    | _ => d
  else (d.setFld r 31 30 mode).setFld r 14 0 v

/-- R185: the borrower receives a reclaim notice of unit n of device dev, which carries the lender's NOTICE. -/
def Dev.reclaimNotice (d : Dev) (dev n notice : Nat) : Dev :=
  let q := d.fld rCrownLendcfg 31 28
  let t := (d.time + notice * 1000000) % 2 ^ 64
  let a := windowAddr dev (n * 2 ^ 29)
  d.looseRecord q (faultWords 0 3 0 0 0 0 0 0 0 a t)

/-- R185: a write of CROWN_LENDREL: the lender is told. An address that names no unit of the window is ignored. -/
def Dev.lendRelease (d : Dev) (v : Nat) : Dev :=
  let dev := bitsOf v 54 40
  let off := bitsOf v 39 0
  if v / 2 ^ 55 = 1 ∧ off % 2 ^ 29 = 0 ∧ off < 1152 * 2 ^ 29 then
    { d with fe := { d.fe with tx := d.fe.tx ++ [.release dev (off / 2 ^ 29)] } }
  else d

/-- R185: the lender receives a release: RELEASED becomes 1, which revokes the unit. -/
def Dev.lendReleased (d : Dev) (dev n : Nat) : Dev :=
  let r := rCrownFadmit n
  if d.fld r 31 30 = 1 ∧ d.fld r 14 0 = dev then d.revoke n else d

/-- R185: the notice of a reclaim has passed. -/
def Dev.lendExpired (d : Dev) (n : Nat) : Dev := if d.bit (rCrownFadmit n) 29 then d.revoke n else d

/-! ## Invalidation (R199 to R201) -/

/-- R199: the checks of INVALIDATE. -/
def invalidateBad (c : Cmd) : Chk :=
  let all := c.w 2 / 2 ^ 31 = 1
  let ctxall := bitsOf (c.w 2) 30 30 = 1
  firstBad [badIf (c.f 2 29 12 != 0) 2, badIf (decide (all ∧ ctxall)) 2, c.zeros 3 4,
    badIf (decide ((all ∨ ctxall) ∧ c.w 4 ≠ 0)) 4, badIf (decide ((all ∨ ctxall) ∧ c.w 5 ≠ 0)) 5,
    badIf (decide ((all ∨ ctxall) ∧ c.w 6 ≠ 0)) 6, badIf (decide ((all ∨ ctxall) ∧ c.w 7 ≠ 0)) 7,
    badIf (c.dw 4 % 65536 != 0) 4, badIf (c.dw 6 % 65536 != 0) 6, c.zeros 8 16]

/-- R199, R200: the entry of key `k` (context, size, page) matches. -/
def invalidateHits (c : Cmd) (k : Nat) : Bool :=
  let ctx := k / 2 ^ 41
  let huge := k / 2 ^ 40 % 2 = 1
  let size := if huge then 2 ^ 29 else 65536
  let va := k % 2 ^ 40 * size
  (c.w 2).testBit 31 || (ctx == c.f 2 11 0 && ((c.w 2).testBit 30 ||
    decide (va < c.dw 4 + c.dw 6 ∧ c.dw 4 < va + size)))

/-- R200 step 1, R201: INVALIDATE begins once no other runs: every translation cache drops its matching entries. -/
def Dev.invalidate (d : Dev) (r : Nat) : Dev :=
  match d.run? r with
  | none => d
  | some v =>
    if v.cmd.op != 0x18 || v.began || d.cp.inval.isSome || !d.cpRuns then d else
    match invalidateBad v.cmd with
    | some (s, i) => d.failRun r s i
    | none =>
      let d := (d.beginRun r 0).tlbDrop (invalidateHits v.cmd)
      let d := d.setRun r (fun v => { v with step := d.fe.nextId })
      { d with cp := { d.cp with inval := some r } }

/-- R200 step 2: every request translated before has completed: fabric requests are answered, and no store stands in a
core's combining buffer. -/
def Dev.drained (d : Dev) (id : Nat) : Bool :=
  !d.fe.reqs.any (fun e => decide (e.1 < id)) && d.cores.all (fun e => e.2.nt.isEmpty)

/-- R200: INVALIDATE completes. -/
def Dev.invalidateComplete (d : Dev) (r : Nat) : Dev :=
  match d.run? r with
  | none => d
  | some v =>
    if d.cp.inval == some r && d.runLive r && d.drained v.step then
      let d := d.endRun r
      { d with cp := { d.cp with inval := none } }
    else d

/-! ## Caches (R210 to R218, R235) -/

/-- The cache's die is ACTIVE. -/
def Dev.cacheActs (d : Dev) (k : Nat) : Bool := d.dieActive (cacheSlot k)

/-- R218: the whole-cache operation is over. -/
def Dev.sweepDone (d : Dev) (k : Nat) : Dev :=
  if d.cacheActs k && d.bit (rScstat k) 30 then
    (d.setCache k (fun c => { c with sweep := 0 })).setBit (rScstat k) 30 false
  else d

/-- R217: the reset invalidation of a die's shared cache is over. -/
def Dev.cacheInitDone (d : Dev) (k : Nat) : Dev :=
  if d.bit (rScstat k) 31 then d else (d.cacheReset k).setBit (rScstat k) 31 true

/-- R214: a miss of a shared cache; of a core's private caches, whose replacement the spec leaves to the hardware, the
line `victim` goes (R221). -/
def Dev.cacheMiss (d : Dev) (k line : Nat) (streaming : Bool) (victim : Option Nat) : Dev :=
  if !d.cacheActs k then d
  else if k < 10 then
    (if (d.cached k line).isSome || ((d.cache k).fills.find line).isSome then d else d.sharedMiss k line streaming)
  else match victim with
    | some v => d.coreEvict (k - 10) v
    | none => d

/-- R210, R220: a fill returns; the directory may have evicted an entry for it. -/
def Dev.cacheFill (d : Dev) (k line : Nat) (evict : Option Nat) : Dev :=
  if !d.cacheActs k then d else
  let d := match evict with | some l => d.dirEvict l | none => d
  if k < 10 then d.fillReturn k line else d

/-- R213: 1,024 cache-clock cycles have passed without a store to a region. -/
def Dev.seqTimeout (d : Dev) (k region : Nat) : Dev := d.setCache k (fun c => c.seqBreak region)

/-- R235: 1,024 core cycles have passed without an STN from the core. -/
def Dev.ntIdle (d : Dev) (n : Nat) : Dev := if d.dieActive (slotCulm (n / 48)) then d.ntDrainAll n else d

/-! ## Fabric accesses without an answer (R250, R251) -/

/-- R250: the thread or command an access belongs to. -/
def Waiter.thread : Waiter → Waiter
  | .lane k _ => .sheaf k
  | w => w

/-- R253: CLASS and INST of who issued a store. -/
def Dev.lossUnit (d : Dev) (w : Waiter) : Nat × Nat :=
  match w with
  | .core n => (7, n)
  | .sheaf k => (0, 128 * keyTil k + keyC k)
  | .cmd i => match d.run? i with | some v => (v.cls, v.inst) | none => (6, 0)
  | _ => (6, 0)

/-- R250: stores of one thread to one destination are dropped with one record: CLASS and INST of who issued them. -/
def Dev.dropStores (d : Dev) (r : FabReq) (s : Status) : Dev :=
  let same := fun (e : FabReq) => !e.load && e.dev == r.dev && e.origin.thread == r.origin.thread
  let n := d.fe.reqs.countP (fun _ e => same e)
  let (cls, inst) := d.lossUnit r.origin.thread
  let first := (d.fe.reqs.find? (fun e => same e.2)).map (·.2) |>.getD r
  let was := d
  let d := { d with fe := { d.fe with reqs := d.fe.reqs.filter (fun e => !same e.2) } }
  let dest := match was.fe.bcasts.find? (fun b => r.dev == 0x7FFF && was.ownId == some b.src && b.seq == r.seq) with
    | some b => b.waits.headD 0x7FFF
    | none => r.dev
  let d := { d with fe := { d.fe with bcasts := d.fe.bcasts.filter (fun b => !(r.dev == 0x7FFF && was.ownId == some b.src && b.seq == r.seq)) } }
  let d := d.storeLoss dest n s cls inst r.qid r.ctx r.tag (windowAddr first.dev first.off)
  ((List.range n).foldl (fun d _ => d.storeDropped r.origin.thread (windowAddr first.dev first.off) s) d).storesSettle was r.origin

/-- R250: the response timeout of a store expires. -/
def Dev.fabStoreTimeout (d : Dev) (id : Nat) : Dev :=
  match d.fe.reqs.find id with
  | some r => if r.load then d else d.dropStores r .remoteDead
  | none => d

/-- R250: the response timeout of a load expires: it returns REMOTE_DEAD. -/
def Dev.fabLoadTimeout (d : Dev) (id : Nat) : Dev :=
  match d.fe.reqs.find id with
  | some r =>
    if r.load then
      { d with fe := { d.fe with
          reqs := d.fe.reqs.del id,
          answers := d.fe.answers ++ [⟨r.origin, windowAddr r.dev r.off, Status.remoteDead.code, []⟩] } }
    else d
  | none => d

/-! ## Their commands -/

/-- R194: a fault record is written. -/
def execFaultRecordWrite (fid : Nat) (s : State) : Out :=
  doCmd (decide (fid < 65536)) (fun d => d.faultRecordWrite fid) s

/-- R198: a fault times out. -/
def execFaultTimeout (fid : Nat) (s : State) : Out := doCmd (decide (fid < 65536)) (fun d => d.faultFailed fid) s

/-- R185: a reclaim notice arrives. -/
def execReclaimNotice (dev : Nat) (unit : Nat) (notice : Nat) (s : State) : Out :=
  doCmd (decide (dev < 32768) && decide (unit < 1152) && decide (notice < 65536)) (fun d => d.reclaimNotice dev unit notice) s

/-- R185: a release arrives. -/
def execLendReleaseReceived (dev : Nat) (unit : Nat) (s : State) : Out :=
  doCmd (decide (dev < 32768) && decide (unit < 1152)) (fun d => d.lendReleased dev unit) s

/-- R185: a notice expires. -/
def execLendNoticeExpiry (unit : Nat) (s : State) : Out := doCmd (decide (unit < 1152)) (fun d => d.lendExpired unit) s

/-- R199, R200: INVALIDATE. -/
def execInvalidate (run : Nat) (s : State) : Out := doCmd true (fun d => d.invalidate run) s

/-- R200: INVALIDATE completes. -/
def execInvalidateComplete (run : Nat) (s : State) : Out := doCmd true (fun d => d.invalidateComplete run) s

/-- R218: a whole-cache operation ends. -/
def execSccmdDone (k : Nat) (s : State) : Out := doCmd (decide (k < 10)) (fun d => d.sweepDone k) s

/-- R217: a cache's reset invalidation ends. -/
def execCacheInitDone (k : Nat) (s : State) : Out := doCmd (decide (k < 10)) (fun d => d.cacheInitDone k) s

/-- R214: a cache misses. -/
def execCacheMiss (k : Nat) (line : Nat) (streaming : Bool) (victim : Option Nat) (s : State) : Out :=
  doCmd (decide (k < 106)) (fun d => d.cacheMiss k line streaming victim) s

/-- R210: a fill returns. -/
def execCacheFillReturn (k : Nat) (line : Nat) (evict : Option Nat) (s : State) : Out :=
  doCmd (decide (k < 106)) (fun d => d.cacheFill k line evict) s

/-- R213: a sequential-store region idles. -/
def execSeqdetTimeout (k : Nat) (region : Nat) (s : State) : Out :=
  doCmd (decide (k < 106)) (fun d => d.seqTimeout k region) s

/-- R235: a combining buffer idles. -/
def execNtbufIdleDrain (n : Nat) (s : State) : Out := doCmd (decide (n < 96)) (fun d => d.ntIdle n) s

/-- R250: a fabric store has no answer. -/
def execFabricStoreTimeout (id : Nat) (s : State) : Out := doCmd true (fun d => d.fabStoreTimeout id) s

/-- R250: a fabric load has no answer. -/
def execFabricLoadTimeout (id : Nat) (s : State) : Out := doCmd true (fun d => d.fabLoadTimeout id) s

end Sys2Proof.Machine
end

