-- ==== Sys2Proof/Machine/Flow.lean ====
section
/-! DEFINITION. Submission queues: doorbells, fetching, the place in the command stream (R272 to R285), flow commands
(R287 to R299), fences and their watchdog (R294 to R299, R336 to R339). -/

namespace Sys2Proof.Machine

open Sys2Proof

/-! ## Doorbells (R277, R278, R309) -/

/-- R277, R278, R309: a doorbell write that is ignored. -/
def Dev.badDoorbell (d : Dev) : Dev := d.addSat rCpDbstat 31 0 1

/-- R278: a submission doorbell of slot i of context x's page. -/
def Dev.submitDoorbell (d : Dev) (x i v : Nat) : Dev :=
  let q := 256 * x + i
  match d.cp.queues.find q with
  | none => d.badDoorbell
  | some y =>
    let prod := bitsOf v 31 0
    if bitsOf v 47 40 = i ∧ bitsOf v 39 32 = 0 ∧ bitsOf v 63 48 = (prod + 65535) % 65536 ∧
        (prod + (2 ^ 32 - y.p)) % 2 ^ 32 < 2 ^ 31 ∧ (prod + (2 ^ 32 - y.n)) % 2 ^ 32 ≤ 2 ^ y.log2 ∧ y.st ≠ .draining then
      let d := d.setQueue q (fun y => { y with p := prod, st := if y.st = .parked then .active else y.st })
      if prod = y.p then d else d.setCtx x (fun c => { c with bells := c.bells ++ [(q, prod)] })
    else d.badDoorbell

/-- R309: a consumer doorbell. -/
def Dev.consumeDoorbell (d : Dev) (x i v : Nat) : Dev :=
  match d.cqOf x i with
  | none => d.badDoorbell
  | some k =>
    let c := d.cp.cqs.get {} k
    let cons := bitsOf v 31 0
    let old := c.cons % 2 ^ 32
    if v / 2 ^ 32 = 0 ∧ (cons + (2 ^ 32 - old)) % 2 ^ 32 ≤ (c.written + (2 ^ 32 - old)) % 2 ^ 32 then
      { d with cp := { d.cp with cqs := d.cp.cqs.adj k (fun c => { c with cons := cons }) } }.noticeFlush
    else d.badDoorbell

/-- R206, R277: a store into the doorbell space at an offset of it, from a context. False when it is refused. -/
def Dev.doorbellWrite (d : Dev) (ctx off size v : Nat) : Bool × Dev :=
  let x := off / 4096
  if ctx != 0 && ctx != x then (false, d)
  else if size = 8 ∧ off % 8 = 0 then
    (true, if off % 16 = 0 then d.submitDoorbell x (off / 16 % 256) v else d.consumeDoorbell x (off / 16 % 256) v)
  else (true, d.badDoorbell)

/-- A doorbell write as context `ctx`; a refused one is a control-space access error (R206). -/
def Dev.doorbell (d : Dev) (ctx page idx val : Nat) (cons : Bool) : Dev :=
  let off := 4096 * page + 16 * idx + (if cons then 8 else 0)
  match d.doorbellWrite ctx off 8 val with
  | (true, d) => d
  | (false, d) => d.ctrlError (0x10000000 + off)

/-! ## Fetching (R275, R276, R279) -/

/-- R275: the slot is current for command number n. -/
def slotCurrent (log2 n w0 : Nat) : Bool :=
  (w0 / 2 ^ 31 % 2 == 1 - n / 2 ^ log2 % 2) && (w0 % 65536 == n % 65536)

/-- Read a slot at a virtual address for a queue: its words, once they are here. -/
def Dev.readSlot (d : Dev) (q va : Nat) : Option (List (BitVec 32)) × Dev :=
  let w := whoFetch q
  match d.readV w va 64 with
  | (.ok, l, bad, d) =>
    if bad then (none, (d.fabDone w.waiter).fetchError q .poison)
    else (some ((bytesWords l).map (BitVec.ofNat 32)), d.fabDone w.waiter)
  | (a, _, _, d) => (none, d.acsEnd w a (fun d s => d.fetchError q s))

/-- The address of ring slot n. -/
def Queue.slotVa (x : Queue) (n : Nat) : Nat := x.ring + 64 * (n % 2 ^ x.log2)

/-- R279, R318: the queue fetches: it is ACTIVE, no fault holds its fetch, and its context exists; SUSPEND stops dispatch, not
fetching. -/
def Dev.fetches (d : Dev) (q : Nat) : Bool :=
  d.cpRuns && d.queueUsed q && decide ((d.queue q).st = .active) && !d.faultHeld (.fetch q) && (d.ctxState (q / 256) == 1 || d.ctxState (q / 256) == 2)

/-- The ring slot to fetch next, with the command it replaces when RESUME_RETRY reads it again. -/
def Queue.nextSlot (x : Queue) : Option (Nat × Option Cmd) :=
  match x.retry with
  | some c => match c.place with | .ring => some (c.num, some c) | .buf _ _ _ => none
  | none => if x.n = x.p ∨ 8 ≤ x.fetched.length then none else some (x.n, none)

/-- A ring slot has been read and is current: it joins the fetched commands. -/
def Queue.fetchedSlot (x : Queue) (n : Nat) (ws : List (BitVec 32)) (old : Option Cmd) : Queue :=
  let c : Cmd := { words := ws, seq := n % 65536, place := .ring, num := n }
  match old with
  | some o => { x with fetched := { c with patch := o.patch, rid := o.rid } :: x.fetched, retry := none, stale := none }
  | none => { x with fetched := x.fetched ++ [c], n := (x.n + 1) % 2 ^ 32, stale := none }

/-- R279: fetch one slot. A slot that COND skips is consumed without the check of R275 (R288). -/
def Dev.slotFetch1 (d : Dev) (q : Nat) : Dev :=
  let x := d.queue q
  if !d.fetches q || x.stale.isSome then d else
  match x.nextSlot with
  | none => d
  | some (n, old) =>
    if old.isNone && decide (0 < x.skip) && x.fetched.isEmpty && decide (x.place = .ring) then
      d.setQueue q (fun x => { x with n := (x.n + 1) % 2 ^ 32, skip := x.skip - 1 })
    else match d.readSlot q (x.slotVa n) with
      | (some ws, d) => d.setQueue q (fun x =>
          if slotCurrent x.log2 n (ws.getD 0 0).toNat then x.fetchedSlot n ws old else { x with stale := some 0 })
      | (none, d) => d

/-- R279: slots are fetched in order, up to P, in a run of at most eight. -/
def Dev.slotFetch (d : Dev) (q : Nat) : Dev := iter 8 (fun d => d.slotFetch1 q) d

/-- R279: the last refetch is stale: the entry is written and the queue parks. -/
def Dev.doorbellAhead (d : Dev) (q n : Nat) : Dev :=
  let (rid, d) := d.freshRun
  let d := (d.newEntry q { words := [], seq := n % 65536, place := .ring, num := n, rid := rid } Status.doorbellAhead.code 0).addSat
    rCpDbstat 47 32 1
  d.setQueue q (fun x => { x with st := .parked, stale := none })

/-- R279: a stale slot is fetched again: at 1, 3, 7, 15, 31, 63 and 100 µs. -/
def Dev.slotRefetch (d : Dev) (q : Nat) : Dev :=
  let x := d.queue q
  if !d.fetches q then d else
  match x.stale, x.nextSlot with
  | some k, some (n, old) =>
    match d.readSlot q (x.slotVa n) with
    | (none, d) => d
    | (some ws, d) =>
      if slotCurrent x.log2 n (ws.getD 0 0).toNat then d.setQueue q (fun x => x.fetchedSlot n ws old)
      else if k + 1 < 7 then d.setQueue q (fun x => { x with stale := some (k + 1) })
      else d.doorbellAhead q n
  | _, _ => d

/-! ## The place in the stream (R288 to R290) -/

/-- R290: the buffer ends: the stack is popped. -/
def Queue.pop (x : Queue) : Queue :=
  match x.stack with
  | [] => { x with place := .ring }
  | p :: rest => { x with place := p, stack := rest, loops := x.loops.filter (fun l => decide (l.depth ≤ rest.length)) }

/-- Write a parameter register. -/
def Queue.setParam (x : Queue) (i : Nat) (v : Nat) : Queue :=
  { x with params := (List.range 8).map (fun k => if k = i then BitVec.ofNat 64 v else x.params.getD k 0) }

/-- A parameter register. -/
def Queue.param (x : Queue) (i : Nat) : Nat := (x.params.getD i 0).toNat

/-- R289, R290: where a body or a buffer has been run to its end, the next iteration begins or the stack is popped.
True when a PATCH would lose its target so (R293). -/
def Queue.settle (fuel : Nat) (x : Queue) : Queue × Bool :=
  match fuel with
  | 0 => (x, false)
  | k + 1 =>
    match x.place with
    | .ring => (x, false)
    | .buf t len i =>
      let ends := if len ≤ i then (if x.patch.isSome then (x, true) else x.pop.settle k) else (x, false)
      match x.loops with
      | l :: rest =>
        if l.depth = x.stack.length ∧ l.first + l.body ≤ i then
          if l.i + 1 < l.count then
            ({ x with place := .buf t len l.first, loops := { l with i := l.i + 1 } :: rest }.setParam l.preg
              (l.start + (l.i + 1) * l.step), false)
          else { x with loops := rest }.settle k
        else ends
      | [] => ends

/-- R288: slots skipped: to the end of the loop body or of the buffer at most; in the ring, fetched ones first and the
others as doorbells cover them. -/
def Queue.skipSlots (x : Queue) (n : Nat) : Queue :=
  match x.place with
  | .ring => { x with skip := n - x.fetched.length, fetched := x.fetched.drop n,
                      stale := if n ≤ x.fetched.length then x.stale else none }
  | .buf t len i =>
    let stop := match x.loops with
      | l :: _ => if l.depth = x.stack.length then l.first + l.body else len
      | [] => len
    { x with place := .buf t len (min (i + n) stop) }

/-- The place is inside a loop body of its own buffer (R290). -/
def Queue.inBody (x : Queue) : Bool := match x.loops with | l :: _ => l.depth == x.stack.length | [] => false

/-! ## Flow commands (R286 to R293) -/

/-- Run a flow command that has been taken, if it has this opcode. -/
def Dev.flow (d : Dev) (q op : Nat) (f : Dev → Cmd → Dev) : Dev :=
  match (d.queue q).cur with
  | none => d
  | some c => if c.op = op ∧ d.cpRuns ∧ !d.faultHeld (.cmd c.rid) then f d c else d

/-- A flow command with its checks: the first that fails ends it. -/
def Dev.flowChecked (d : Dev) (q op : Nat) (bad : Dev → Cmd → Chk) (f : Dev → Cmd → Dev) : Dev :=
  d.flow q op (fun d c => match bad d c with
    | some (s, i) => d.flowError q c s i
    | none => f d c)

/-- R286: NOP. -/
def Dev.flowNop (d : Dev) (q : Nat) : Dev := d.flowChecked q 0 (fun _ c => c.zeros 2 16) (fun d c => d.flowDone q c)

/-- R288: the comparison of COND. -/
def condHolds (op x v : Nat) : Bool :=
  match op with
  | 0 => x == v
  | 1 => x != v
  | 2 => decide (v ≤ x)
  | 3 => decide (x < v)
  | 4 => decide (v < x)
  | _ => decide (x ≤ v)

/-- R288: the checks of COND. -/
def condBad (c : Cmd) : Chk :=
  firstBad [badIf (decide (5 < c.f 2 31 29) || c.f 2 27 16 != 0 || c.f 2 15 0 == 0) 2, c.zeros 3 4,
    protIf (c.dw 4 % (if (c.w 2).testBit 28 then 8 else 4) != 0), c.zeros 10 16]

/-- A flow command reads memory: what it read goes to `f`. -/
def Dev.flowRead (d : Dev) (q : Nat) (c : Cmd) (va n : Nat) (f : Dev → Nat → Dev) : Dev :=
  let w := whoFlow q c
  match d.readV w va n with
  | (.ok, l, bad, d) =>
    let d := d.fabDone w.waiter
    if bad then d.flowError q c .poison else f d (ofLe l)
  | (a, _, _, d) => d.acsEnd w a (fun d s => d.flowError q c s)

/-- R288: COND. -/
def Dev.flowCond (d : Dev) (q : Nat) : Dev :=
  d.flowChecked q 3 (fun _ c => condBad c) (fun d c =>
    let n := if (c.w 2).testBit 28 then 8 else 4
    d.flowRead q c (c.dw 4) n (fun d m =>
      let d := d.flowDone q c
      if condHolds (c.f 2 31 29) (m &&& (c.dw 8 % 2 ^ (8 * n))) (c.dw 6 % 2 ^ (8 * n)) then d
      else d.setQueue q (fun x => x.skipSlots (c.f 2 15 0))))

/-- R289: the checks of LOOP. -/
def loopBad (x : Queue) (c : Cmd) : Chk :=
  let body := c.f 2 15 0
  let past := match x.place with
    | .ring => true
    | .buf _ len i => decide (len < i + body) || (match x.loops with
        | l :: _ => l.depth == x.stack.length && decide (l.first + l.body < i + body)
        | [] => false)
  firstBad [badIf ((c.w 2).testBit 31 || c.f 2 27 16 != 0 || body == 0) 2, c.zeros 8 16, badIf past 2,
    badIf (decide (4 ≤ x.loops.length)) 0xFFFF]

/-- R289: LOOP. -/
def Dev.flowLoop (d : Dev) (q : Nat) : Dev :=
  d.flowChecked q 4 (fun d c => loopBad (d.queue q) c) (fun d c =>
    let d := d.flowDone q c
    d.setQueue q (fun x => match x.place with
      | .ring => x
      | .buf t len i =>
        if c.w 3 = 0 then { x with place := .buf t len (i + c.f 2 15 0) }
        else
          let l : LoopSt := { depth := x.stack.length, first := i, body := c.f 2 15 0, preg := c.f 2 30 28, count := c.w 3,
                              i := 0, start := c.dw 4, step := c.dw 6 }
          { x with loops := l :: x.loops }.setParam l.preg l.start))

/-- R290: the checks of JUMP and CALL. -/
def bufBad (c : Cmd) : Chk :=
  firstBad [c.zeros 2 3, badIf (c.w 3 == 0 || decide (1048576 < c.w 3)) 3, protIf (c.dw 4 % 64 != 0), c.zeros 6 16]

/-- R290: JUMP. -/
def Dev.flowJump (d : Dev) (q : Nat) : Dev :=
  d.flowChecked q 5 (fun _ c => bufBad c) (fun d c =>
    (d.flowDone q c).setQueue q (fun x => { x with place := .buf (c.dw 4) (c.w 3) 0 }))

/-- R290: CALL. -/
def Dev.flowCall (d : Dev) (q : Nat) : Dev :=
  d.flowChecked q 6 (fun d c => firstBad [bufBad c, badIf (decide (8 ≤ (d.queue q).stack.length)) 0xFFFF]) (fun d c =>
    (d.flowDone q c).setQueue q (fun x => { x with
      place := .buf (c.dw 4) (c.w 3) 0, stack := x.place :: x.stack, outerSeq := if x.place = .ring then c.seq else x.outerSeq }))

/-- R290: RETURN. -/
def Dev.flowReturn (d : Dev) (q : Nat) : Dev :=
  d.flowChecked q 7 (fun _ c => c.zeros 2 16) (fun d c => (d.flowDone q c).setQueue q Queue.pop)

/-- R292: the checks of PARAM. -/
def paramBad (c : Cmd) : Chk :=
  let op := c.f 2 31 30
  firstBad [badIf (op == 3 || c.f 2 26 0 != 0) 2, c.zeros 3 4,
    if op = 1 then firstBad [protIf (c.dw 4 % 8 != 0), c.zeros 6 8] else c.zeros 4 6, c.zeros 8 16]

/-- R292: PARAM, as the operation `op` that its row names. -/
def Dev.flowParam (d : Dev) (q op : Nat) : Dev :=
  d.flow q 8 (fun d c =>
    match paramBad c with
    | some (s, i) => d.flowError q c s i
    | none =>
      let i := c.f 2 29 27
      if c.f 2 31 30 != op then d
      else if op = 0 then (d.flowDone q c).setQueue q (fun x => x.setParam i (c.dw 6))
      else if op = 2 then (d.flowDone q c).setQueue q (fun x => x.setParam i (x.param i + c.dw 6))
      else d.flowRead q c (c.dw 4) 8 (fun d v => (d.flowDone q c).setQueue q (fun x => x.setParam i v)))

/-- R293: the checks of PATCH. -/
def patchBad (c : Cmd) : Chk :=
  let n := c.f 2 3 0
  firstBad ([badIf (c.f 2 31 4 != 0 || n == 0 || decide (13 < n)) 2] ++
    (List.range n).map (fun i =>
      let w := c.w (3 + i)
      let t := bitsOf w 31 28
      badIf (decide (t < 2) || (w.testBit 27 && t == 15) || bitsOf w 23 0 != 0) (3 + i)) ++
    [c.zeros (3 + n) 16])

/-- R293: PATCH waits for the next command of its buffer. -/
def Dev.flowPatch (d : Dev) (q : Nat) : Dev :=
  d.flowChecked q 9 (fun _ c => patchBad c) (fun d c =>
    d.setQueue q (fun x => { x with cur := none, patch := some c }))

/-- R293: the entries of a PATCH, applied to a command's words. -/
def applyPatch (x : Queue) (p ws : List (BitVec 32)) : List (BitVec 32) :=
  let n := bitsOf (p.getD 2 0).toNat 3 0
  (List.range n).foldl (fun ws i =>
    let e := (p.getD (3 + i) 0).toNat
    let t := bitsOf e 31 28
    let v := x.param (bitsOf e 26 24)
    let ws := ws.set t (BitVec.ofNat 32 v)
    if e.testBit 27 then ws.set (t + 1) (BitVec.ofNat 32 (v / 2 ^ 32)) else ws) ws

/-! ## Fences (R294 to R297) -/

/-- What an evaluation of a fence finds: its value; a fault that holds it; a wait; a status that ends it. -/
inductive FenceEnd where
  | value (v : Nat)
  | held
  | fail (s : Status)
deriving DecidableEq, Repr

/-- R294: read the fence of a wait or of a signal through the tables of its context. -/
def Dev.fenceRead (d : Dev) (q : Nat) (c : Cmd) (write : Bool) : FenceEnd × Home × Dev :=
  let w := whoFlow q c
  match d.resolve w (c.dw 4) (if write then .atomic else .read) with
  | (.fault k l va a, _, _, d) => (.held, .outside, d.hold w k l va a)
  | (.fail s, _, _, d) => (.fail s, .outside, d)
  | (.wait, _, _, d) => (.held, .outside, d)
  | (.ok, h, _, d) =>
    if !fenceTier h then (.fail .protection, h, d) else
    match d.verdict h w.ctx write with
    | .refuse s => (.fail s, h, d)
    | .wait => (.held, h, d)
    | .pass => if d.badHome h 8 then (.fail .poison, h, d.poisonRead .engine h 8) else (.value (ofLe (d.readHome h 8)), h, d)

/-- R294: the checks of FENCE_WAIT. -/
def fenceWaitBad (c : Cmd) : Chk :=
  firstBad [badIf (c.f 2 30 0 != 0) 2, c.zeros 3 4, protIf (c.dw 4 % 8 != 0), badIf ((c.w 7).testBit 31) 7, c.zeros 8 16]

/-- R294: the wait of a queue is evaluated. -/
def Dev.fenceEval (d : Dev) (q : Nat) : Dev :=
  match (d.queue q).wait with
  | none => d
  | some w =>
    if !d.cpRuns || d.faultHeld (.cmd w.cmd.rid) then d else
    match d.fenceRead q w.cmd false with
    | (.held, _, d) => d
    | (.fail s, _, d) => d.waitError q s
    | (.value v, _, d) =>
      if v.testBit 63 && !(w.cmd.w 2).testBit 31 then d.waitError q .fenceError
      else if decide (w.cmd.dw 6 ≤ v % 2 ^ 63) then
        (d.setQueue q (fun x => { x with wait := none })).uncover q w.cmd.rid false
      else d

/-- Where a fence lies: what its address reaches, in the context of its queue. -/
def Dev.fenceKey (d : Dev) (q : Nat) (c : Cmd) : Option Nat :=
  match d.resolve (whoFlow q c) (c.dw 4) .read with
  | (.ok, h, _, _) => h.key
  | _ => none

/-- R336: the queues a wait edge of `q` leads to. -/
def Dev.waitEdges (d : Dev) (q : Nat) : List Nat :=
  match (d.queue q).wait with
  | none => []
  | some w =>
    match d.fenceKey q w.cmd with
    | none => []
    | some f => d.cp.queues.keysP (fun b x => x.wait.isSome && x.fetched.any (fun c => c.op == 2 && d.fenceKey b c == some f))

/-- R337: the queues reached from `q` by at most `n` wait edges. -/
def Dev.waitReach (d : Dev) (n : Nat) (l : List Nat) : List Nat :=
  match n with
  | 0 => []
  | k + 1 =>
    let next := (l.flatMap d.waitEdges).dedup
    next ++ d.waitReach k next

/-- R337: the wait of `q` closes a cycle. -/
def Dev.deadlocked (d : Dev) (q : Nat) : Bool := (d.waitReach 8 [q]).contains q

/-- Waits in watch entries (R295). -/
def Dev.watched (d : Dev) : Nat := d.cp.queues.countP (fun _ x => match x.wait with | some w => w.watched | none => false)

/-- Waits beyond the watch entries. -/
def Dev.swept (d : Dev) : Nat := d.cp.queues.countP (fun _ x => match x.wait with | some w => !w.watched | none => false)

/-- R294, R295, R337: FENCE_WAIT is reached: it is evaluated at once; when it blocks, it is watched, and a cycle of waits
ends it. -/
def Dev.flowFenceWait (d : Dev) (q : Nat) : Dev :=
  d.flowChecked q 1 (fun _ c => fenceWaitBad c) (fun d c =>
    let watched := decide (d.watched < 65536)
    let d := d.setQueue q (fun x => { x with cur := none, wait := some { cmd := c, watched := watched } })
    let d := d.fenceEval q
    if (d.queue q).wait.isSome && !d.faultHeld (.cmd c.rid) && d.deadlocked q then d.waitError q .deadlock else d)

/-- R295: a wait is evaluated again: after a write to the line of a watched fence, or every 10 µs for a fence in T5. -/
def Dev.fenceReevaluate (d : Dev) (q : Nat) (host : Bool) : Dev :=
  match (d.queue q).wait with
  | none => d
  | some w =>
    let t5 := match d.resolve (whoFlow q w.cmd) (w.cmd.dw 4) .read with
      | (.ok, .host _ _, _, _) => true
      | _ => false
    if w.watched && t5 == host then d.fenceEval q else d

/-- R295: the sweep: every wait beyond the watch entries is evaluated, then takes an entry that has come free. -/
def Dev.fenceSweep (d : Dev) : Dev :=
  let qs := d.cp.queues.keysP (fun _ x => match x.wait with | some w => !w.watched | none => false)
  qs.foldl (fun d q =>
    let d := d.fenceEval q
    if d.watched < 65536 then d.setQueue q (fun x => { x with wait := x.wait.map (fun w => { w with watched := true }) }) else d) d

/-- R338, R339: a millisecond of the watchdog for one queue. -/
def Dev.watchdogQueue (d : Dev) (q : Nat) : Dev :=
  match (d.queue q).wait with
  | none => d
  | some w =>
    if decide ((d.queue q).st = .active) && d.ctxState (q / 256) == 1 then
      let d := d.setQueue q (fun x => { x with wait := some { w with ms := w.ms + 1 } })
      if max 10 (d.fld rCpFencecfg 15 0) ≤ w.ms + 1 then
        let d := d.fenceEval q
        if (d.queue q).wait.isSome then d.waitError q .fenceTimeout else d
      else d
    else d

/-- R338: each millisecond. -/
def Dev.watchdogTick (d : Dev) : Dev :=
  if !d.cpRuns then d else (d.cp.queues.keysP (fun _ x => x.wait.isSome)).foldl Dev.watchdogQueue d

/-- R296: the checks of FENCE_SIGNAL. -/
def fenceSignalBad (c : Cmd) : Chk :=
  firstBad [badIf (decide (1 < c.f 2 31 30) || c.f 2 28 0 != 0) 2, c.zeros 3 4, protIf (c.dw 4 % 8 != 0),
    badIf ((c.w 7).testBit 31) 7, c.zeros 8 16]

/-- R296: a signal joins those outstanding: it covers the span, or nothing with NOWAIT. -/
def Queue.pushSig (x : Queue) (c : Cmd) (aborted : Bool) : Queue :=
  let nowait := (c.w 2).testBit 29
  let own := fun (l : List Nat) => l.filter (· != c.rid)
  if nowait then
    { x with cur := none, sigs := x.sigs ++ [{ cmd := c, covers := [], errs := [], nowait := true, aborted := aborted }] }
  else
    { x with cur := none, span := [], spanErrs := [],
             sigs := x.sigs ++ [{ cmd := c, covers := own x.span, errs := x.spanErrs, nowait := false, aborted := aborted }] }

/-- R296: FENCE_SIGNAL is reached. -/
def Dev.flowFenceSignal (d : Dev) (q : Nat) : Dev :=
  d.flowChecked q 2 (fun _ c => fenceSignalBad c) (fun d c => d.setQueue q (fun x => x.pushSig c false))

/-- R297: the value a signal leaves: SET keeps the maximum, ADD adds; bit 63 takes e. -/
def sigValue (mode old v : Nat) (e : Bool) : Nat :=
  let b := if e then 2 ^ 63 else 0
  if mode = 0 then max old (v ||| b) else ((old + v) % 2 ^ 64) ||| b

/-- The signal a queue performs next: signals go in slot order, one that failed steps aside. -/
def Queue.nextSig (x : Queue) : Option Sig := x.sigs.find? (fun g => !g.failed)

/-- R297: the next signal is performed once the commands it covers have completed: one atomic on its fence. -/
def Dev.signalPerform (d : Dev) (q : Nat) : Dev :=
  match (d.queue q).nextSig with
  | none => d
  | some g =>
    let rid := g.cmd.rid
    if !d.cpRuns || !g.covers.isEmpty || d.faultHeld (.cmd rid) then d else
    match d.fenceRead q g.cmd true with
    | (.held, _, d) => d
    | (.fail s, _, d) => d.sigError q rid s
    | (.value old, h, d) =>
      let v := sigValue (g.cmd.f 2 31 30) old (g.cmd.dw 6) (g.aborted || !g.errs.isEmpty)
      let d := match h.line with | some l => d.recall l false | none => d
      let d := d.storeLine .engine h (leBytes 8 v)
      (d.setQueue q (fun x => { x with sigs := x.sigs.filter (fun s => s.cmd.rid != rid) })).uncover q rid false

/-! ## Their commands -/

/-- R278: a submission doorbell. -/
def execSubmissionDoorbell (ctx : Nat) (page : Nat) (idx : Nat) (val : Nat) (s : State) : Out :=
  doCmd (decide (ctx < 4096) && decide (page < 4096) && decide (idx < 256) && decide (val < 2 ^ 64)) (fun d => d.doorbell ctx page idx val false) s

/-- R309: a consumer doorbell. -/
def execCqConsumerDoorbell (ctx : Nat) (page : Nat) (idx : Nat) (val : Nat) (s : State) : Out :=
  doCmd (decide (ctx < 4096) && decide (page < 4096) && decide (idx < 256) && decide (val < 2 ^ 64)) (fun d => d.doorbell ctx page idx val true) s

/-- R279: slots are fetched. -/
def execSlotFetch (q : Nat) (s : State) : Out := doCmd (decide (q < 2 ^ 20)) (fun d => d.slotFetch q) s

/-- R279: a stale slot is fetched again. -/
def execSlotRefetch (q : Nat) (s : State) : Out := doCmd (decide (q < 2 ^ 20)) (fun d => d.slotRefetch q) s

/-- R286: NOP. -/
def execNop (q : Nat) (s : State) : Out := doCmd (decide (q < 2 ^ 20)) (fun d => d.flowNop q) s

/-- R294: FENCE_WAIT. -/
def execFenceWait (q : Nat) (s : State) : Out := doCmd (decide (q < 2 ^ 20)) (fun d => d.flowFenceWait q) s

/-- R295: a watched fence was written. -/
def execFenceReevaluate (q : Nat) (s : State) : Out :=
  doCmd (decide (q < 2 ^ 20)) (fun d => d.fenceReevaluate q false) s

/-- R295: a fence in T5 is read again. -/
def execFencePoll (q : Nat) (s : State) : Out := doCmd (decide (q < 2 ^ 20)) (fun d => d.fenceReevaluate q true) s

/-- R295: the sweep. -/
def execFenceSweep  (s : State) : Out := doCmd true (fun d => d.fenceSweep) s

/-- R338: the watchdog counts. -/
def execFenceWatchdogTick  (s : State) : Out := doCmd true (fun d => d.watchdogTick) s

/-- R296: FENCE_SIGNAL. -/
def execFenceSignal (q : Nat) (s : State) : Out := doCmd (decide (q < 2 ^ 20)) (fun d => d.flowFenceSignal q) s

/-- R288: COND. -/
def execCond (q : Nat) (s : State) : Out := doCmd (decide (q < 2 ^ 20)) (fun d => d.flowCond q) s

/-- R289: LOOP. -/
def execLoop (q : Nat) (s : State) : Out := doCmd (decide (q < 2 ^ 20)) (fun d => d.flowLoop q) s

/-- R290: JUMP. -/
def execJump (q : Nat) (s : State) : Out := doCmd (decide (q < 2 ^ 20)) (fun d => d.flowJump q) s

/-- R290: CALL. -/
def execCall (q : Nat) (s : State) : Out := doCmd (decide (q < 2 ^ 20)) (fun d => d.flowCall q) s

/-- R290: RETURN. -/
def execRetCmd (q : Nat) (s : State) : Out := doCmd (decide (q < 2 ^ 20)) (fun d => d.flowReturn q) s

/-- R292: PARAM SET. -/
def execParamSet (q : Nat) (s : State) : Out := doCmd (decide (q < 2 ^ 20)) (fun d => d.flowParam q 0) s

/-- R292: PARAM LOAD. -/
def execParamLoad (q : Nat) (s : State) : Out := doCmd (decide (q < 2 ^ 20)) (fun d => d.flowParam q 1) s

/-- R292: PARAM ADD. -/
def execParamAdd (q : Nat) (s : State) : Out := doCmd (decide (q < 2 ^ 20)) (fun d => d.flowParam q 2) s

/-- R293: PATCH. -/
def execPatch (q : Nat) (s : State) : Out := doCmd (decide (q < 2 ^ 20)) (fun d => d.flowPatch q) s

end Sys2Proof.Machine
end

