-- ==== Sys2Proof/Machine/Mgmt.lean ====
section
/-! DEFINITION. Management commands of queues and completion queues (R301 to R303, R335), completion entries (R306 to
R311, R401), resuming (R285). -/

namespace Sys2Proof.Machine

open Sys2Proof

/-! ## Completion entries -/

/-- R401: the entry port of a run: that of its completion queue in T5, else the last port it wrote through. -/
def Dev.entryPort (d : Dev) (v : Run) : Option Nat :=
  match d.home (d.cp.cqs.get {} (d.queue v.qid).cqid).base with
  | .host _ p => some p
  | _ => v.lastPort

/-- R401: the ports that still need a flushing read. -/
def Dev.flushPorts (d : Dev) (v : Run) : List Nat := v.ports.filter (fun p => some p != d.entryPort v)

/-- R306: entries of one completion queue go in order of completion: no run that ended earlier and holds a reservation of
it still waits. A run with stores that are not performed has not completed (R247). -/
def Dev.entryTurn (d : Dev) (v : Run) : Bool :=
  !d.cp.runs.any (fun e => e.2.done && e.2.reserved && decide (e.2.order < v.order) && !d.storesOut e.1 && (d.queue e.2.qid).cqid == (d.queue v.qid).cqid)

/-- R306, R308, R310, R311: the entry of a run that has ended is written, or NOCQE suppresses it; the command has then
completed (R300). -/
def Dev.completionWrite (d : Dev) (r : Nat) : Dev :=
  match d.run? r with
  | none => d
  | some v =>
    let x := d.queue v.qid
    let s := v.status.getD 0
    if !v.done || d.storesOut r || !d.cpRuns || !(d.flushPorts v).isEmpty || !d.entryTurn v then d
    else if s = 0 ∧ v.cmd.nocqe then d.dropRun r
    else if !v.reserved && !(d.cp.cqs.get {} x.cqid).free then d
    else
      let words := fun ph => entryWords ph v.cls v.inst s v.qid v.cmd.tag v.cmd.seq v.info v.start v.fin
      let d := d.writeEntry x.cqid words (v.cmd.irq || s != 0) v.reserved
      let d := if s != 0 then d.setQueue v.qid (fun x => { x with lastStatus := s }) else d
      (d.setRun r (fun v => { v with reserved := false })).dropRun r

/-- R401: a flushing read returns. -/
def Dev.flushingRead (d : Dev) (r p : Nat) : Dev :=
  match d.run? r with
  | none => d
  | some v => if v.done && (d.flushPorts v).contains p then d.setRun r (fun v => { v with ports := v.ports.filter (· != p) }) else d

/-! ## CREATE_QUEUE, CREATE_CQ, DESTROY_CQ (R301, R303) -/

/-- Run a management command of this opcode that has not begun: its checks, else its effect. -/
def Dev.manage (d : Dev) (r op : Nat) (bad : Dev → Cmd → Chk) (f : Dev → Run → Dev) : Dev :=
  match d.run? r with
  | none => d
  | some v =>
    if v.cmd.op != op || v.began || !d.cpRuns then d else
    match bad d v.cmd with
    | some (s, i) => d.failRun r s i
    | none => f (d.beginRun r 0) v

/-- R301: the checks of CREATE_QUEUE, in the order of its table (notes/assumptions/33.md). -/
def createQueueBad (d : Dev) (c : Cmd) : Chk :=
  let q := c.f 2 31 12
  let st := d.ctxState (q / 256)
  firstBad [if d.queueUsed q then some (.busy, 0) else none,
    protIf (st == 0 || st == 3),
    protIf (match d.cp.cqs.find (c.f 3 17 0) with | some k => k.ctx != q / 256 | none => true),
    badIf (decide (5 < c.f 2 11 9) || c.f 2 6 5 != 0 || decide (c.f 2 4 0 < 6 ∨ 16 < c.f 2 4 0)) 2,
    badIf (c.f 3 31 18 != 0) 3, protIf (c.dw 4 % 4096 != 0), c.zeros 6 16]

/-- R301: CREATE_QUEUE. -/
def Dev.createQueue (d : Dev) (r : Nat) : Dev :=
  d.manage r 0x10 createQueueBad (fun d v =>
    let c := v.cmd
    let x : Queue := { cls := c.f 2 11 9, prio := c.f 2 8 7, log2 := c.f 2 4 0, ring := c.dw 4, cqid := c.f 3 17 0 }
    ({ d with cp := { d.cp with queues := d.cp.queues.set (c.f 2 31 12) x } }).endRun r)

/-- R303: the checks of CREATE_CQ. -/
def createCqBad (d : Dev) (c : Cmd) : Chk :=
  firstBad [badIf (c.f 2 9 5 != 0 || decide (c.f 2 4 0 < 6 ∨ 16 < c.f 2 4 0)) 2, badIf (c.f 3 20 18 != 0) 3,
    protIf (c.dw 4 % 4096 != 0 || !fenceTier (d.home (c.dw 4))), c.zeros 6 16,
    if (d.cp.cqs.find (c.f 3 17 0)).isSome || (d.cqOf (c.f 2 31 20) (c.f 2 19 12)).isSome then some (.busy, 0) else none]

/-- R303: CREATE_CQ. -/
def Dev.createCq (d : Dev) (r : Nat) : Dev :=
  d.manage r 0x13 createCqBad (fun d v =>
    let c := v.cmd
    let k : Cq := { ctx := c.f 2 31 20, cqx := c.f 2 19 12, dest := c.f 2 11 10, log2 := c.f 2 4 0, vec := c.f 3 31 21, base := c.dw 4 }
    ({ d with cp := { d.cp with cqs := d.cp.cqs.set (c.f 3 17 0) k } }).endRun r)

/-- R303: the checks of DESTROY_CQ. -/
def destroyCqBad (d : Dev) (c : Cmd) : Chk :=
  let k := c.f 3 17 0
  firstBad [c.zeros 2 3, badIf (c.f 3 31 18 != 0) 3, c.zeros 4 16, badIf (d.cp.cqs.find k).isNone 3,
    if d.cp.queues.any (fun e => e.2.cqid == k) then some (.busy, 0) else none]

/-- R303: DESTROY_CQ. -/
def Dev.destroyCq (d : Dev) (r : Nat) : Dev :=
  d.manage r 0x14 destroyCqBad (fun d v => ({ d with cp := { d.cp with cqs := d.cp.cqs.del (v.cmd.f 3 17 0) } }).endRun r)

/-! ## Destroying a queue (R335) -/

/-- The run has an engine that an abort reaches: its class is no management command's. -/
def Run.isEngine (v : Run) : Bool := decide (v.cls < 6)

/-- R335 step 1: a fetched FENCE_SIGNAL that step 5 performs. -/
def Cmd.keptSignal (c : Cmd) : Bool := c.op == 2 && (fenceSignalBad c).isNone

/-- R335 steps 1 and 2: the queue drains: what has not started is discarded, kept signals are outstanding, a wait is
cancelled, and every engine that holds started work is sent an abort. -/
def Dev.drainQueue (d : Dev) (q : Nat) : Dev :=
  let x := d.queue q
  let taken := match x.cur with | some c => [c] | none => []
  let left := taken ++ x.fetched
  let kept := left.filter Cmd.keptSignal
  let unbegun := d.cp.runs.keysP (fun _ v => v.qid == q && !v.began && v.isEngine)
  let d := unbegun.foldl Dev.dropRun d
  let d := d.faultLeave (.fetch q)
  let d := taken.foldl (fun d c => d.faultLeave (.cmd c.rid)) d
  let d := match x.wait with | some w => (d.faultLeave (.cmd w.cmd.rid)).uncover q w.cmd.rid false | none => d
  let (kept, d) := kept.foldl (fun a c => let (rid, d) := a.2.freshRun; (a.1 ++ [{ c with rid := rid }], d)) ([], d)
  let d := d.setQueue q (fun x => { x with
    st := .draining, destroying := true, discards := x.discards + unbegun.length + (left.length - kept.length),
    fetched := [], cur := none, wait := none, stale := none, retry := none, patch := none, span := [],
    sigs := x.sigs.map (fun g => { g with aborted := true, failed := false }) })
  let d := d.setQueue q (fun x => kept.foldl (fun x c => x.pushSig c true) x)
  { d with cp := { d.cp with runs := d.cp.runs.mapVals (fun _ v =>
      if v.qid = q ∧ v.isEngine ∧ !v.done then { v with aborting := true } else v) } }

/-- R335 step 6: nothing of the queue is left: no run, no signal, no request to another device. -/
def Dev.queueQuiet (d : Dev) (q : Nat) : Bool :=
  !d.cp.runs.any (fun e => e.2.qid == q) && (d.queue q).sigs.isEmpty && !d.fe.reqs.any (fun e => e.2.qid == q && decide (0 < q))

/-- R335 step 7: the queue becomes FREE. -/
def Dev.freeQueue (d : Dev) (q : Nat) : Dev := { d with cp := { d.cp with queues := d.cp.queues.del q } }

/-- R302: the checks of DESTROY_QUEUE. -/
def destroyQueueBad (d : Dev) (qid : Nat) (c : Cmd) : Chk :=
  firstBad [badIf (c.f 2 11 0 != 0) 2, c.zeros 3 16, badIf (!d.queueUsed (c.f 2 31 12) || c.f 2 31 12 == qid) 2]

/-- R302, R335: DESTROY_QUEUE begins or goes on with the destruction, and completes once nothing is left. -/
def Dev.destroyQueue (d : Dev) (r : Nat) : Dev :=
  match d.run? r with
  | none => d
  | some v =>
    let q := v.cmd.f 2 31 12
    if v.cmd.op != 0x11 || v.done || !d.cpRuns then d
    else if !v.began then
      match destroyQueueBad d v.qid v.cmd with
      | some (s, i) => d.failRun r s i
      | none =>
        let d := d.beginRun r 0
        if (d.queue q).destroying then d.setQueue q (fun x => { x with st := .draining }) else d.drainQueue q
    else if !d.queueUsed q then d.endRun r
    else if d.queueQuiet q then
      ((d.setRun r (fun v => { v with info := min 65535 (d.queue q).discards })).freeQueue q).endRun r
    else d

/-- R335: step 7 is not reached within 200 ms. -/
def Dev.destroyQueueTimeout (d : Dev) (r : Nat) : Dev :=
  match d.run? r with
  | none => d
  | some v =>
    if v.cmd.op = 0x11 ∧ d.runLive r then
      (d.setQueue (v.cmd.f 2 31 12) (fun x => { x with st := .halted, halt := .none })).failRun r .busy
    else d

/-! ## QUEUE_CTL (R285, R302) -/

/-- R285: RESUME goes on after what halted the queue: a slot that could not be fetched is passed over, a signal that failed
is given up. -/
def Queue.resume (x : Queue) : Queue :=
  let x := match x.halt with
    | .fetch => match x.place with
      | .ring => { x with n := (x.n + 1) % 2 ^ 32 }
      | .buf t len i => { x with place := .buf t len (i + 1) }
    | _ => x
  { x with st := .active, halt := .none, sigs := x.sigs.filter (fun g => !g.failed) }

/-- R285: RESUME_RETRY: the halting command is read again, a fetch runs again, a signal is performed again. -/
def Queue.resumeRetry (x : Queue) : Queue :=
  let x := match x.halt with
    | .cmd c => { x with retry := some c }
    | _ => x
  { x with st := .active, halt := .none, sigs := x.sigs.map (fun g => { g with failed := false }) }

/-- R302: the checks of QUEUE_CTL. -/
def queueCtlBad (d : Dev) (c : Cmd) : Chk :=
  let op := c.f 2 2 0
  firstBad [badIf (c.f 2 11 5 != 0 || op == 0 || decide (4 < op) || (op != 4 && c.f 2 4 3 != 0)) 2, c.zeros 3 16,
    badIf (!d.queueUsed (c.f 2 31 12)) 2,
    if decide ((d.queue (c.f 2 31 12)).st = .draining) || (d.queue (c.f 2 31 12)).destroying then some (.busy, 0) else none]

/-- R302: QUEUE_CTL of the OP that its row names. -/
def Dev.queueCtl (d : Dev) (r op : Nat) : Dev :=
  match d.run? r with
  | none => d
  | some v =>
    let c := v.cmd
    let q := c.f 2 31 12
    let legal := decide (1 ≤ c.f 2 2 0 ∧ c.f 2 2 0 ≤ 4)
    if legal && c.f 2 2 0 != op then d else
    d.manage r 0x12 queueCtlBad (fun d _ =>
      let d := d.setQueue q (fun x =>
        match op, x.st with
        | 1, .active => { x with st := .halted, halt := .none }
        | 1, .parked => { x with st := .halted, halt := .none }
        | 2, .halted => x.resume
        | 2, .parked => { x with st := .active }
        | 3, .halted => x.resumeRetry
        | 3, .parked => { x with st := .active }
        | 4, _ => { x with prio := c.f 2 4 3 }
        | _, _ => x)
      d.endRun r)

/-! ## Their commands -/

/-- R401: a flushing read returns. -/
def execFlushingRead (run : Nat) (p : Nat) (s : State) : Out :=
  doCmd (decide (p < 6)) (fun d => d.flushingRead run p) s

/-- R301: CREATE_QUEUE. -/
def execCreateQueue (run : Nat) (s : State) : Out := doCmd true (fun d => d.createQueue run) s

/-- R303: CREATE_CQ. -/
def execCreateCq (run : Nat) (s : State) : Out := doCmd true (fun d => d.createCq run) s

/-- R303: DESTROY_CQ. -/
def execDestroyCq (run : Nat) (s : State) : Out := doCmd true (fun d => d.destroyCq run) s

/-- R302, R335: DESTROY_QUEUE. -/
def execDestroyQueue (run : Nat) (s : State) : Out := doCmd true (fun d => d.destroyQueue run) s

/-- R335: DESTROY_QUEUE meets its bound. -/
def execDestroyQueueTimeout (run : Nat) (s : State) : Out := doCmd true (fun d => d.destroyQueueTimeout run) s

/-- R302: QUEUE_CTL HALT. -/
def execQueueHalt (run : Nat) (s : State) : Out := doCmd true (fun d => d.queueCtl run 1) s

/-- R285: QUEUE_CTL RESUME. -/
def execQueueResume (run : Nat) (s : State) : Out := doCmd true (fun d => d.queueCtl run 2) s

/-- R285: QUEUE_CTL RESUME_RETRY. -/
def execQueueResumeRetry (run : Nat) (s : State) : Out := doCmd true (fun d => d.queueCtl run 3) s

/-- R302: QUEUE_CTL SETPRIO. -/
def execQueueSetprio (run : Nat) (s : State) : Out := doCmd true (fun d => d.queueCtl run 4) s

end Sys2Proof.Machine
end

