-- ==== Sys2Proof/Machine/RowOps.lean ====
section
/-! DEFINITION. Row instructions and what a row's paths do with them (R40 to R54, R66 to R70, R77, R108 to R120). -/

namespace Sys2Proof.Machine

open Sys2Proof

/-- The cluster key of a row key. -/
def rowCls (row : Nat) : Nat := row / 16
/-- The cluster SRAM a row reads. -/
def Dev.rowRead (d : Dev) (row : Nat) : Nat → Nat → Nat := d.sramNat (rowCls row)
/-- A row acts while its Tiller is ACTIVE and its cluster enabled. -/
def Dev.rowActs (d : Dev) (row : Nat) : Bool :=
  d.dieActive (slotTil (rowCls row / 84)) && d.clsEnabled (rowCls row / 84) (rowCls row % 84)

/-- Set sticky flags of CLS_MXFLAG. -/
def Dev.mxFlag (d : Dev) (row v : Nat) : Dev :=
  let o := rClsMxflag (rowCls row / 84) (rowCls row % 84) (row % 16)
  d.setReg o (d.reg o ||| v)

/-- R77: a counter of the row, one cycle or pass on. -/
def Dev.rowCount (d : Dev) (row : Nat) (r : Nat → Nat → Nat → Nat) : Dev :=
  d.addWrap (r (rowCls row / 84) (rowCls row % 84) (row % 16)) 63 0 1

/-! ## The drain path -/

/-- R117: place the outputs of a drain to registers, in every lane (R109). -/
def drainToRegs (accs : SMap (List Acc)) (a : DrainArgs) (s : Sheaf) : Sheaf :=
  if a.raw then
    (List.range a.regs).foldl (fun t i =>
      t.putAll (a.rd + i) (fun l => BitVec.ofNat 32 ((drainOutput accs a 0 l).bits / 2 ^ (32 * i)))) s
  else (List.range a.outputs).foldl (fun t i =>
      t.putAll (a.rd + i) (fun l => BitVec.ofNat 32 (drainOutput accs a i l).bits)) s

/-- R117: place the outputs of a drain in cluster SRAM. -/
def Dev.drainToSram (d : Dev) (row : Nat) (accs : SMap (List Acc)) (a : DrainArgs) : Dev :=
  (List.range a.outputs).foldl (fun d i => (List.range 256).foldl (fun d l =>
    d.sramWrite (rowCls row) (drainAddr a i l) (leBytes (drainBytes a.target a.f16) (drainOutput accs a i l).bits)) d) d

/-- R69: the flags a drain sets: DOVF, and NAN and INF from tags and results. -/
def drainFlags (accs : SMap (List Acc)) (a : DrainArgs) : Nat :=
  let any := fun (p : Drained → Bool) => (List.range a.outputs).any (fun i => (List.range 256).any (fun l => p (drainOutput accs a i l)))
  (if any (·.nan) then 8 else 0) + (if any (·.inf) then 4 else 0) + (if any (·.dovf) then 1 else 0)

/-- R69, R70, R117: perform an ACCRD. -/
def Dev.drainAccrd (d : Dev) (row : Nat) (a : DrainArgs) : Dev :=
  let accs := (d.row row).accs
  let d := if a.dest then d.drainToSram row accs a else d.setSheaf (8 * row + a.slot) (drainToRegs accs a)
  d.mxFlag row (drainFlags accs a)

/-- R118: perform an ACCLD: each record in the layout F16 names; the accumulator takes its fields and mode. -/
def Dev.drainAccld (d : Dev) (row : Nat) (a : DrainArgs) (recs : List (BitVec 256)) : Dev :=
  let rd := d.rowRead row
  let rec_ := fun (i l : Nat) =>
    recLoad a.f16 (if a.dest then rd (accldAddr a i l) (drainBytes 15 a.f16) else (lane 0 recs l).toNat)
  let old := (d.row row).accs
  let new := (List.range a.n).foldl (fun m i => accWrite a.f16 m (a.acc + i) (rec_ i)) old
  let rise := fun (p : Acc → Bool) => (List.range a.n).any (fun i => flagRise a.f16 old new (a.acc + i) p)
  (d.setRow row (fun r => { r with accs := new })).mxFlag row
    ((if rise (·.mismatch) then 16 else 0) + (if rise (fun x => x.tag == .nan) then 8 else 0) +
     (if rise (fun x => x.tag == .pinf || x.tag == .ninf) then 4 else 0))

/-- R108, R51: the head of the drain path, when it is an ACCLD or TLD that may run, is performed. -/
def Dev.drainAuto (d : Dev) (row : Nat) : Option Dev :=
  match (d.row row).drainReady with
  | some (.accld a recs, q) => some ((d.drainAccld row a recs).setRow row (fun r => { r with queue := q }))
  | some (.tld slot rd addr n0 cls, q) =>
    let m := d.rowRead row
    some ((d.setSheaf (8 * row + slot) (fun s => s.putAll rd (fun l => BitVec.ofNat 32 (tldWord m cls addr n0 l)))).setRow row
      (fun r => { r with queue := q }))
  | _ => none

/-- Perform what the drain path can, until its head waits or is an ACCRD. -/
def Dev.rowSettle (d : Dev) (fuel row : Nat) : Dev :=
  match fuel with
  | 0 => d
  | f + 1 => match d.drainAuto row with | some d => d.rowSettle f row | none => d

/-- R69, R116: the ACCRD at the head of the drain path is performed once no pass has still to write its accumulators. -/
def Dev.accrdDrain (d : Dev) (row : Nat) : Dev :=
  if !d.rowActs row then d else
  match (d.row row).drainReady with
  | some (.accrd a, q) => ((d.drainAccrd row a).setRow row (fun r => { r with queue := q })).rowSettle 8 row
  | _ => d

/-! ## The fill port and the rachis -/

/-- R47: the waiting WFILL starts. -/
def Dev.wfillStart (d : Dev) (row : Nat) : Dev :=
  if !d.rowActs row then d else
  match Row.fillStart (d.rowRead row) (d.row row) with
  | some r => d.setRow row (fun _ => r)
  | none => d

/-- R47: the fill in progress ends. -/
def Dev.wfillDone (d : Dev) (row : Nat) : Dev :=
  if !d.rowActs row then d else
  match (d.row row).fillDone with
  | some r => d.setRow row (fun _ => r)
  | none => d

/-- R46: a pass or BCAST takes the rachis, or is held a cycle for the shadow bank. -/
def Dev.passStart (d : Dev) (row : Nat) : Dev :=
  if !d.rowActs row then d else
  match (d.row row).passStart with
  | .none => d
  | .heldShadow => d.rowCount row rClsSbnr
  | .started r => d.setRow row (fun _ => r)

/-- The rachis has a chunk to inject. -/
def Row.injects (r : Row) : Bool :=
  r.run.isSome || (match takeFirst RowOp.isRachis r.queue with | some (_, .mstep .., _) => true | _ => false)

/-- R115: HALT discards unread chunks, and those that still arrive for a sheaf that does not run. -/
def Dev.rxKeep (d : Dev) (row : Nat) (r : Row) : Row :=
  { r with rx := r.rx.filter (fun e => (d.sheaf (8 * row + e.1)).st == .running) }

/-- R50: one array cycle of injection: the limiter withholds it, the operand bank is not granted, a cause of R50 holds
it, or the chunk is injected. -/
def Dev.inject (d : Dev) (row : Nat) (granted permitted : Bool) : Dev :=
  if !d.rowActs row || !(d.row row).injects then d
  else if !permitted then d.rowCount row rClsLimit
  else if !granted then d.rowCount row rClsOpnr
  else match Row.inject (d.rowRead row) (d.rxKeep row (d.row row)) with
    | .idle => d
    | .heldShadow => d.rowCount row rClsSbnr
    | .heldAcc => d.rowCount row rClsAccbsy
    | .heldRx => d
    | .done r loss mism nan inf =>
      ((d.setRow row (fun _ => d.rxKeep row r)).mxFlag row ((if mism then 16 else 0) + (if nan then 8 else 0) + (if inf then 4 else 0) +
        (if loss then 2 else 0))).rowSettle 8 row

/-- R45: the oldest pass in flight makes its last accumulation. -/
def Dev.passComplete (d : Dev) (row : Nat) : Dev :=
  if !d.rowActs row then d else
  match (d.row row).land with
  | none => d
  | some (r, x) =>
    let d := d.setRow row (fun _ => r)
    (if x.counts then d.rowCount row rClsPasses else d).rowSettle 8 row

/-! ## Issue -/

/-- R108, R109: issue a row instruction with the operands of the lowest active lane. `mk` gives the cause it is illegal
with, or the entry. A full queue, or a second waiting WFILL (R47), holds the sheaf. -/
def Dev.rowIssue (d : Dev) (i : Instr) (a : Agent) (bad : Option Nat) (mk : Sheaf → Nat → Row → Nat → Nat ⊕ RowOp) : Dev :=
  d.onlyL i a bad (fun k d =>
    let s := d.sheaf k
    let row := keyRow k
    match s.first with
    | none => (.next, d)
    | some l =>
      match mk s l (d.row row) (keySlot k) with
      | .inl c => (.exc c (causeStatus c) l, d)
      | .inr o =>
        if (d.row row).queueFull || (o.isFill && (d.row row).fillWaiting) then (.wait, d)
        else (.next, (d.setRow row (fun r => r.issue o)).rowSettle 8 row))

/-- A cause, or the entry it would have. -/
def orOp (c : Option Nat) (o : RowOp) : Nat ⊕ RowOp := match c with | some c => .inl c | none => .inr o

/-- R110 to R112: the parameters of a pass: address, scale address and control word. -/
def passArgs (s : Sheaf) (l slot : Nat) (f : MF) (zero reuse tr : Bool) (kind : Nat) : PassArgs :=
  let cw := (s.getV f.rb.toNat l).toNat
  { slot := slot, addr := (s.getV f.ra.toNat l).toNat, scaleAddr := (s.getV (f.ra.toNat + 1) l).toNat,
    anchor := passAnchor (bitsOf cw 19 12) (bitsOf cw 21 20) (toSigned 10 (bitsOf cw 31 22)), smode := bitsOf cw 21 20,
    pair := bitsOf cw 19 12, abase := bitsOf cw 11 6, b := bitsOf cw 5 0 + 1, zero := zero, reuse := reuse, tr := tr, kind := kind }

/-- R116: the parameters of a drain: control word, address and DSCALE, 1.0 when FLAGS is 0. -/
def drainArgs (s : Sheaf) (l slot : Nat) (f : MF) : DrainArgs :=
  let cw := (s.getV f.rb.toNat l).toNat
  { slot := slot, rd := f.rd.toNat, addr := (s.getV f.ra.toNat l).toNat,
    dscale := if f.flags = 0 then 0x3F800000 else s.getV f.flags.toNat l,
    f16 := cw.testBit 20, gauss := cw.testBit 19, dest := cw.testBit 18, rtz := cw.testBit 17, sat := cw.testBit 16,
    target := bitsOf cw 15 12, n := bitsOf cw 11 6 + 1, acc := bitsOf cw 5 0 }

/-- R83: the run of registers of a drain or load, when it is more than one. -/
def drainRun (a : DrainArgs) : Option Nat :=
  if !a.dest && decide (1 < a.regs) && runBad a.rd a.regs then some 2 else none

/-- R113: WFILL. -/
def Dev.wfill (d : Dev) (i : Instr) (a : Agent) (f : MF) : Dev :=
  d.rowIssue i a (if runBad f.ra.toNat 2 then some 2 else none) (fun s l _ slot =>
    let addr := (s.getV f.ra.toNat l).toNat
    let sa := (s.getV (f.ra.toNat + 1) l).toNat
    let st := (s.getV f.rb.toNat l).toNat
    let desc : FillDesc := { cls := f.flags.toNat % 4, smode := f.flags.toNat / 4 % 4, kind := f.rd.toNat }
    let tr := f.flags.getLsbD 4
    orOp (wfillCause addr sa (st % 65536) (st / 65536) desc tr) (.wfill slot addr sa (st % 65536) desc tr))

/-- R112: MPASS. -/
def Dev.mpass (d : Dev) (i : Instr) (a : Agent) (f : MF) : Dev :=
  d.rowIssue i a (orCause (cause1 (decide (7 < f.flags.toNat))) (if runBad f.ra.toNat 2 then some 2 else none)) (fun s l r slot =>
    let p := passArgs s l slot f (f.flags.getLsbD 0) (f.flags.getLsbD 1) (f.flags.getLsbD 2) f.rd.toNat
    orOp (mpassCause r p) (.mpass p))

/-- R114: MSTEP: RD holds the chunk position, FLAGS [0] ZERO, FLAGS [1] SWAP. -/
def Dev.mstep (d : Dev) (i : Instr) (a : Agent) (f : MF) : Dev :=
  d.rowIssue i a (orCause (cause1 (decide (3 < f.flags.toNat) || decide (15 < f.rd.toNat))) (if runBad f.ra.toNat 2 then some 2 else none))
    (fun s l r slot =>
      let p := passArgs s l slot f (f.flags.getLsbD 0) true false 0
      let j := f.rd.toNat
      orOp (mstepCause r p j (f.flags.getLsbD 1)) (.mstep p j (f.flags.getLsbD 1) (closesBlock p.smode (classOf (p.pair / 16)) j)))

/-- R115: BCAST: PAIR [7:4] of its control word names the format of the stream. -/
def Dev.bcast (d : Dev) (i : Instr) (a : Agent) (f : MF) : Dev :=
  d.rowIssue i a (cause1 (f.flags &&& 0x1B != 0 || f.rd != 0)) (fun s l _ slot =>
    let cw := (s.getV f.rb.toNat l).toNat
    let addr := (s.getV f.ra.toNat l).toNat
    let code := bitsOf cw 19 16
    orOp (bcastCause cw addr (bitsOf cw 5 0 + 1) (f.flags.getLsbD 2) code)
      (.bcast slot addr (bitsOf cw 5 0 + 1) (f.flags.getLsbD 2) (classOf code)))

/-- R115: BRD: the oldest chunk of the sheaf's stream to the pair rd, in every lane. -/
def Dev.brd (d : Dev) (i : Instr) (a : Agent) (f : MF) : Dev :=
  d.onlyL i a (orCause (cause1 (f.flags != 0 || f.ra != 0 || f.rb != 0)) (if runBad f.rd.toNat 2 then some 2 else none)) (fun k d =>
    let row := keyRow k
    match (d.sheaf k).first with
    | none => (.next, d)
    | some l =>
      match (d.row row).takeChunk (keySlot k) with
      | some (c, r) =>
        (.next, (d.setRow row (fun _ => r)).setSheaf k (fun s =>
          (s.putAll f.rd.toNat (fun _ => c.setWidth 32)).putAll (f.rd.toNat + 1) (fun _ => (c >>> (32 : Nat)).setWidth 32)))
      | none => if (d.row row).bcastPending (keySlot k) then (.wait, d) else (.exc 0x16 .illegalRowSequence l, d))

/-- R116: ACCRD. -/
def Dev.accrd (d : Dev) (i : Instr) (a : Agent) (f : MF) : Dev :=
  d.rowIssue i a none (fun s l r slot =>
    let p := drainArgs s l slot f
    orOp (orCause (drainRun p) (accrdCause r (s.getV f.rb.toNat l).toNat p)) (.accrd p))

/-- R118: ACCLD. From registers it takes one record in each lane, from rd onward. -/
def Dev.accld (d : Dev) (i : Instr) (a : Agent) (f : MF) : Dev :=
  d.rowIssue i a none (fun s l _ slot =>
    let p := drainArgs s l slot f
    let recs := if p.dest then [] else (List.range 256).map (fun l =>
      BitVec.ofNat 256 ((List.range p.regs).map (fun i => (s.getV (p.rd + i) l).toNat * 2 ^ (32 * i))).sum)
    orOp (orCause (drainRun p) (accldCause (s.getV f.rb.toNat l).toNat p)) (.accld p recs))

/-- R119: TLD: FLAGS [1:0] is the class, RB holds n0. -/
def Dev.tld (d : Dev) (i : Instr) (a : Agent) (f : MF) : Dev :=
  d.rowIssue i a (cause1 (decide (3 < f.flags.toNat))) (fun s l _ slot =>
    let addr := (s.getV f.ra.toNat l).toNat
    let n0 := (s.getV f.rb.toNat l).toNat
    orOp (tldCause addr n0 f.flags.toNat) (.tld slot f.rd.toNat addr n0 f.flags.toNat))

/-- R120: RWAIT completes when every row instruction its sheaf issued has completed. -/
def Dev.rwait (d : Dev) (i : Instr) (a : Agent) (f : MF) : Dev :=
  d.onlyL i a (cause1 (f.flags != 0 || f.ra != 0 || f.rb != 0 || f.rd != 0)) (fun k d =>
    if (d.sheaf k).first.isSome && (d.row (keyRow k)).busyFor (keySlot k) then (.wait, d) else (.next, d))

/-- R113, R108 to R120: WFILL. -/
def execWfill (a : Agent) (f : MF) (s : State) : Out := doCmd a.wf (fun d => d.wfill (.wfill a f) a f) s

/-- R115, R108 to R120: BCAST. -/
def execBcast (a : Agent) (f : MF) (s : State) : Out := doCmd a.wf (fun d => d.bcast (.bcast a f) a f) s

/-- R115, R108 to R120: BRD. -/
def execBrd (a : Agent) (f : MF) (s : State) : Out := doCmd a.wf (fun d => d.brd (.brd a f) a f) s

/-- R114, R108 to R120: MSTEP. -/
def execMstep (a : Agent) (f : MF) (s : State) : Out := doCmd a.wf (fun d => d.mstep (.mstep a f) a f) s

/-- R112, R108 to R120: MPASS. -/
def execMpass (a : Agent) (f : MF) (s : State) : Out := doCmd a.wf (fun d => d.mpass (.mpass a f) a f) s

/-- R116, R108 to R120: ACCRD. -/
def execAccrd (a : Agent) (f : MF) (s : State) : Out := doCmd a.wf (fun d => d.accrd (.accrd a f) a f) s

/-- R118, R108 to R120: ACCLD. -/
def execAccld (a : Agent) (f : MF) (s : State) : Out := doCmd a.wf (fun d => d.accld (.accld a f) a f) s

/-- R119, R108 to R120: TLD. -/
def execTld (a : Agent) (f : MF) (s : State) : Out := doCmd a.wf (fun d => d.tld (.tld a f) a f) s

/-- R108 to R120: RWAIT. -/
def execRwait (a : Agent) (f : MF) (s : State) : Out := doCmd a.wf (fun d => d.rwait (.rwait a f) a f) s

/-- R47: a WFILL starts. -/
def execWfillStart (r : RowId) (s : State) : Out := doCmd r.wf (fun d => d.wfillStart (rowIdKey r)) s

/-- R47: a WFILL has written group 15. -/
def execWfillDone (r : RowId) (s : State) : Out := doCmd r.wf (fun d => d.wfillDone (rowIdKey r)) s

/-- R46: the head of the rachis path starts. -/
def execPassStart (r : RowId) (s : State) : Out := doCmd r.wf (fun d => d.passStart (rowIdKey r)) s

/-- R50: one array cycle of injection. -/
def execChunkInjection (r : RowId) (granted : Bool) (permitted : Bool) (s : State) : Out :=
  doCmd r.wf (fun d => d.inject (rowIdKey r) granted permitted) s

/-- R45: a pass completes. -/
def execPassComplete (r : RowId) (s : State) : Out := doCmd r.wf (fun d => d.passComplete (rowIdKey r)) s

/-- R69: an ACCRD is performed. -/
def execAccrdDrain (r : RowId) (s : State) : Out := doCmd r.wf (fun d => d.accrdDrain (rowIdKey r)) s

end Sys2Proof.Machine
end

