-- ==== Sys2Proof/Machine/Kernels.lean ====
section
/-! DEFINITION. Kernels and cluster groups: launch and completion (R304, R305, R106), grants and slices (R319 to R322),
preemption (R324 to R330), save areas and restore (R331 to R334), changes of geometry (R323). -/

namespace Sys2Proof.Machine

open Sys2Proof

/-! ## Contexts that want groups (R319) -/

/-- The command of a run. -/
def Dev.runCmd (d : Dev) (r : Nat) : Cmd := match d.run? r with | some v => v.cmd | none => { words := [], seq := 0, place := .ring }

/-- The KERNEL runs of a context that have not ended. -/
def Dev.ctxKernelRuns (d : Dev) (x : Nat) : List Nat := d.cp.runs.keysP (fun _ v => v.qid / 256 == x && v.cmd.op == 0x30 && !v.done)

/-- The launched kernels of a context that are not saved. -/
def Dev.ctxLive (d : Dev) (x : Nat) : List Nat := (d.ctxKernelRuns x).filter (fun r => (d.cp.kernels.find r).isSome && !(d.kern r).saved)

/-- The saved kernels of a context. -/
def Dev.ctxSaved (d : Dev) (x : Nat) : List Nat := (d.ctxKernelRuns x).filter (fun r => (d.kern r).saved)

/-- CP_CTXDESC.GROUPS, larger values treated as 80. -/
def Dev.ctxGroups (d : Dev) (x : Nat) : Nat := min 80 (d.fld (rCpCtxdesc x) 56 50)

/-- R319: the context is runnable. -/
def Dev.runnable (d : Dev) (x : Nat) : Bool := d.ctxState x == 1 && decide (1 ≤ d.ctxGroups x) && !(d.ctxKernelRuns x).isEmpty

/-- R319: the contexts that wait for groups, in the order in which they began to. -/
def Dev.refreshWaits (d : Dev) : Dev :=
  let on := fun x => d.runnable x && (d.ctxSt x).groups.isEmpty
  let xs := ((d.cp.runs.filter (fun e => e.2.cmd.op == 0x30)).map (fun e => e.2.qid / 256)).dedup
  let new := xs.filter (fun x => on x && !d.cp.waits.contains x)
  let d := new.foldl (fun d x => d.setCtx x (fun c => { c with waited := 0 })) d
  { d with cp := { d.cp with waits := d.cp.waits.filter on ++ new } }

/-- R319: the priority a waiting context is served at. -/
def Dev.waitPrio (d : Dev) (x : Nat) : Nat := if 8 ≤ (d.ctxSt x).waited then 3 else d.fld (rCpCtxdesc x) 59 58

/-- R319: the head waiter. -/
def Dev.headWaiter (d : Dev) : Option Nat :=
  let top := d.cp.waits.foldl (fun m x => max m (d.waitPrio x)) 0
  d.cp.waits.find? (fun x => d.waitPrio x == top)

/-- R319: the groups a grant holds. -/
def Dev.grantSize (d : Dev) (x : Nat) : Nat := min (d.ctxGroups x) d.allGroups.length

/-- R333: every group of the context's save still has its saved clusters. -/
def Dev.savedIntact (d : Dev) (x : Nat) : Bool :=
  !(d.ctxSaved x).isEmpty && !(d.ctxSt x).savedGroups.isEmpty && (d.ctxSt x).savedGroups.all (fun g => d.allGroups.contains g)

/-- R319, R333: the groups to grant to a context out of those available, if it fits: those of its save, else those it
held last, then the others in ascending order. -/
def Dev.chooseGroups (d : Dev) (x : Nat) (avail : List Group) : Option (List Group) :=
  let c := d.ctxSt x
  let n := d.grantSize x
  let same := fun (g h : Group) => g.til == h.til && g.idx == h.idx
  let pref := if d.savedIntact x then c.savedGroups else c.last
  let first := avail.filter (fun g => pref.any (same g))
  if n = 0 ∨ (d.savedIntact x ∧ !(c.savedGroups.take n).all (fun g => avail.contains g)) then none
  else
    let l := (first ++ avail.filter (fun g => !pref.any (same g))).take n
    if l.length = n then some (sortGroups l) else none

/-! ## Launch (R84, R109, R305, R324) -/

/-- The rows a KERNEL names. -/
def Cmd.kRows (c : Cmd) : List Nat := (List.range 16).filter (fun r => (c.w 2).testBit r)
/-- The thread slots a KERNEL names. -/
def Cmd.kSlots (c : Cmd) : List Nat := (List.range 8).filter (fun s => (c.w 3).testBit (24 + s))
/-- R324: the KERNEL has a control block. -/
def Cmd.kYields (c : Cmd) : Bool := decide (1 ≤ c.f 3 5 0) || (c.w 3).testBit 7
/-- RESTART. -/
def Cmd.kRestart (c : Cmd) : Bool := (c.w 3).testBit 7

/-- The keys of the sheaves a KERNEL has on a cluster. -/
def Cmd.kSheaves (c : Cmd) (cls : Nat) : List Nat := c.kRows.flatMap (fun r => c.kSlots.map (fun s => 8 * (16 * cls + r) + s))

/-- R305: the checks of KERNEL. -/
def kernelBad (c : Cmd) : Chk :=
  firstBad [badIf (decide (79 < c.f 2 31 24) || c.f 2 23 16 == 0 || decide (80 < c.f 2 23 16)) 2,
    badIf (decide (255 < c.f 3 23 16 + c.f 3 15 8) || (c.w 3).testBit 6 || decide (32 < c.f 3 5 0)) 3,
    protIf (c.dw 4 % 4 != 0), protIf (c.dw 6 % 64 != 0), c.zeros 8 16]

/-- R305: the clusters of the groups GFIRST to GFIRST + GCOUNT − 1, in GRPIDX order; none when the grant is smaller. -/
def Dev.kernelClusters (d : Dev) (x : Nat) (c : Cmd) : Option (List Nat) :=
  let g := (d.ctxSt x).groups
  if g.length < c.f 2 31 24 + c.f 2 23 16 then none
  else some (((g.drop (c.f 2 31 24)).take (c.f 2 23 16)).flatMap (·.clusters))

/-- R305: a named slot of a named row of these clusters is not free. -/
def Dev.slotsBusy (d : Dev) (c : Cmd) (cls : List Nat) : Bool := cls.any (fun k => (c.kSheaves k).any (fun s => (d.sheaf s).cmd.isSome))

/-- R305, R324: the control block of a launch. -/
def Dev.controlBlock (d : Dev) (cls reason launch n : Nat) : Dev :=
  d.sramWrite cls 0 (wordBytes [0, reason * 2 ^ 28 + launch % 65536, n, 0])

/-- R109: a row starts anew when no sheaf of another command runs on it. -/
def Dev.freshRow (d : Dev) (row r : Nat) : Dev :=
  if (List.range 8).any (fun s => match (d.sheaf (8 * row + s)).cmd with | some o => o != r | none => false) then d
  else d.setRow row (fun _ => Row.reset)

/-- R84, R122, R305: the sheaf starts at ENTRY with its mask, an empty mask stack and generator state 0. -/
def Sheaf.launch (s : Sheaf) (c : Cmd) (r : Nat) : Sheaf :=
  { s with st := .running, pc := BitVec.ofNat 64 (c.dw 4),
           mask := maskOf (fun l => decide (c.f 3 23 16 ≤ l ∧ l ≤ c.f 3 23 16 + c.f 3 15 8)),
           stack := [], rng := [], resv := [], fence := [], bar := false, cmd := some r }

/-- R305: start the sheaves of a run on one cluster, its control block written before. -/
def Dev.launchCluster (d : Dev) (r cls reason launch n : Nat) : Dev :=
  let c := d.runCmd r
  let d := if c.kYields then d.controlBlock cls reason launch n else d
  let d := c.kRows.foldl (fun d w => d.freshRow (16 * cls + w) r) d
  (c.kSheaves cls).foldl (fun d k => d.setSheaf k (fun s => s.launch c r)) d

/-- R305: read the argument block once; KARGS 0 gives zeros. What ends in an error ends the run. -/
def Dev.readKargs (d : Dev) (r : Nat) : Option (List (BitVec 32)) × Dev :=
  let c := d.runCmd r
  if c.dw 6 = 0 then (some (List.replicate 16 0), d) else
  let w := d.whoRun r
  match d.readV w (c.dw 6) 64 with
  | (.ok, l, bad, d) =>
    let d := d.fabDone w.waiter
    if bad then (none, d.failRun r .poison) else (some ((bytesWords l).map (BitVec.ofNat 32)), d)
  | (a, _, _, d) => (none, d.acsEnd w a (fun d s => d.failRun r s))

/-! ## Restore (R332, R333) -/

/-- What a saved kernel is restored as. -/
inductive Restore where
  | resume
  | regeom
  | mixed
  | replay
  | mismatch
deriving DecidableEq, Repr

/-- R332: the outcome for a kernel on the clusters it would now run on. -/
def Dev.restoreAs (d : Dev) (x r : Nat) (cls : List Nat) : Restore :=
  let k := d.kern r
  let same := (d.ctxSt x).groups == (d.ctxSt x).savedGroups
  if k.replay then .replay
  else if k.mid.isEmpty then
    (if k.imaged && cls.length == k.clusters.length then .resume else .regeom)
  else if same then .mixed
  else if (d.runCmd r).kRestart then .replay
  else .mismatch

/-- R332: the live region of image i of a save is put back into a cluster. -/
def Dev.loadImage (d : Dev) (x r i cls n : Nat) : Dev :=
  let base := d.fld (rCpCtxsave x) 55 24 * 2 ^ 24
  d.sramWrite cls 0 (d.crownRead (base + (d.kern r).imgBase + i * (d.kern r).imgSize) n)

/-- R328, R332: a cluster saved mid-kernel resumes where it stopped. -/
def Dev.resumeMid (d : Dev) (x r i cls : Nat) : Dev :=
  let c := d.runCmd r
  let d := d.loadImage x r i cls 2097152
  let d := c.kRows.foldl (fun d w => d.setRow (16 * cls + w) (fun _ => (d.ctxSt x).savedRows.get {} (16 * cls + w))) d
  (c.kSheaves cls).foldl (fun d k => d.setSheaf k (fun _ => (d.ctxSt x).savedSheaves.get {} k)) d

/-- R324, R332: relaunch a cluster: with RESUME its live image is restored, else its SRAM reads as zero. -/
def Dev.relaunch (d : Dev) (x r i cls reason n : Nat) : Dev :=
  let c := d.runCmd r
  let d := if reason = 1 then d.loadImage x r i cls (c.f 3 5 0 * 65536) else d.sramZero cls
  d.launchCluster r cls reason (d.kern r).launches n

/-- R141, R333: before a replay the context becomes ORDERED and the replay is counted. -/
def Dev.countReplay (d : Dev) (x : Nat) : Dev := (d.setBit (rCpCtxdesc x) 60 true).addSat (rCpCtxstat x) 56 48 1

/-- A kernel is no longer kept. -/
def Dev.forgetKernel (d : Dev) (r : Nat) : Dev := { d with cp := { d.cp with kernels := d.cp.kernels.del r } }

/-- R332: restore a saved kernel of a context that holds its groups. -/
def Dev.restoreKernel (d : Dev) (r : Nat) : Dev :=
  match d.run? r with
  | none => d
  | some v =>
    let x := v.qid / 256
    if !(d.kern r).saved || (d.ctxSt x).groups.isEmpty || (d.ctxSt x).preempting || d.ctxState x != 1 || d.faultHeld (.cmd r) then d else
    match d.kernelClusters x v.cmd with
    | none => (d.forgetKernel r).failRun r .noResource
    | some cls =>
      if d.slotsBusy v.cmd cls then d else
      match d.restoreAs x r cls with
      | .mismatch => (d.forgetKernel r).failRun r .geometryMismatch
      | how =>
        match d.readKargs r with
        | (none, d) => if d.runLive r then d else d.forgetKernel r
        | (some ks, d) =>
          let mid := (d.kern r).mid
          let old := (d.kern r).clusters
          let d := match how with | .replay => d.countReplay x | _ => d
          let d := d.setKern r (fun k => { k with clusters := cls, kargs := ks, launches := k.launches + 1, yielding := false })
          let d := cls.zipIdx.foldl (fun d e =>
            match how with
            | .mixed => if mid.contains (old.getD e.2 0) then d.resumeMid x r e.2 e.1 else d.relaunch x r e.2 e.1 1 cls.length
            | .resume => d.relaunch x r e.2 e.1 1 cls.length
            | .regeom => d.relaunch x r e.2 e.1 2 cls.length
            | _ => d.relaunch x r e.2 e.1 3 cls.length) d
          d.setKern r (fun k => { k with yielded := [], mid := [], saved := false, replay := false, imaged := false })

/-- R319, R333: grant the head waiter its groups, and restore what it has saved. -/
def Dev.groupGrant (d : Dev) : Dev :=
  let d := d.refreshWaits
  if !d.cpRuns then d else
  match d.headWaiter with
  | none => d
  | some x =>
    match d.chooseGroups x d.freeGroups with
    | none => d
    | some l =>
      let d := d.setCtx x (fun c => { c with groups := l, grantAt := d.time, waited := 0, preempting := false })
      let d := { d with cp := { d.cp with waits := d.cp.waits.filter (· != x) } }
      (d.ctxSaved x).foldl Dev.restoreKernel d

/-! ## KERNEL (R305) -/

/-- R305: KERNEL. It waits while its context holds no groups, is being preempted or suspended, or its slots are in
use. A saved one is restored. -/
def Dev.kernel (d : Dev) (r : Nat) : Dev :=
  match d.run? r with
  | none => d
  | some v =>
    let x := v.qid / 256
    if v.cmd.op != 0x30 || v.done || !d.cpRuns || d.faultHeld (.cmd r) then d
    else if (d.cp.kernels.find r).isSome then d.restoreKernel r
    else match kernelBad v.cmd with
    | some (s, i) => d.failRun r s i
    | none =>
      let d := d.refreshWaits
      if d.ctxState x != 1 || (d.ctxSt x).groups.isEmpty || (d.ctxSt x).preempting || decide (255 ≤ (d.ctxLive x).length) then d else
      match d.kernelClusters x v.cmd with
      | none => d.failRun r .noResource
      | some cls =>
        if d.slotsBusy v.cmd cls then d else
        match d.readKargs r with
        | (none, d) => d
        | (some ks, d) =>
          let first := cls.headD 0
          let d := d.beginRun r (128 * (first / 84) + first % 84)
          let d := { d with cp := { d.cp with kernels := d.cp.kernels.set r { clusters := cls, kargs := ks } } }
          cls.foldl (fun d k => d.launchCluster r k 0 0 cls.length) d

/-- A cluster of the kernel has been disabled or its die lost. -/
def Dev.kernelHit (d : Dev) (r : Nat) : Bool :=
  (d.kern r).clusters.any (fun k => !d.dieActive (slotTil (k / 84)) || !d.clsEnabled (k / 84) (k % 84))

/-- The sheaves of a run on a cluster have ended, their row instructions have completed and their stores to other
devices are answered (R305, R326). -/
def Dev.clusterQuiet (d : Dev) (r cls : Nat) : Bool :=
  ((d.runCmd r).kSheaves cls).all (fun k =>
    let s := d.sheaf k
    s.cmd != some r || (s.st != .running && !(d.row (keyRow k)).busyFor (keySlot k) &&
      !d.fe.reqs.any (fun e => e.2.origin.thread == .sheaf k)))

/-- The slots of a run are free again. -/
def Dev.freeSheaves (d : Dev) (r : Nat) : Dev := (d.runSheaves r).foldl (fun d k => d.setSheaf k (fun s => { s with st := .idle, cmd := none, bar := false })) d

/-- A kernel is over: its slots are free and it is no longer kept. -/
def Dev.dropKernel (d : Dev) (r : Nat) : Dev :=
  (d.freeSheaves r).forgetKernel r

/-- R106, R305, R334: a KERNEL whose sheaves have ended completes with its lane status, ABORTED, or SUCCESS. One that has
been counted as yielded or stopped by a save does not. -/
def Dev.kernelComplete (d : Dev) (r : Nat) : Dev :=
  match d.run? r, d.cp.kernels.find r with
  | some v, some k =>
    if v.done || k.saved || d.kernelHit r || !k.mid.isEmpty || (!k.yielded.isEmpty && k.yielded.length == k.clusters.length) ||
      !k.clusters.all (fun c => d.clusterQuiet r c) then d
    else
      let d := match k.lane with
        | some (s, c) => d.setRun r (fun v => if v.status = none then { v with status := some s, info := c } else v)
        | none => d
      let d := if v.aborting then d.runStatus r .aborted else d
      (d.dropKernel r).endRun r
  | _, _ => d

/-- R335: a KERNEL is aborted: a saved one completes with ABORTED, a running one is wound down. -/
def Dev.kernelAbort (d : Dev) (r : Nat) : Dev :=
  match d.cp.kernels.find r with
  | none => (d.faultLeave (.cmd r)).failRun r .aborted
  | some k =>
    if k.saved then ((d.faultLeave (.cmd r)).dropKernel r).failRun r .aborted
    else (d.setKern r (fun k => { k with mid := [], yielded := [] })).stopSheaves r

/-! ## Preemption (R320, R324 to R330) -/

/-- R324, R327: YIELD = 1 is written in every cluster of a kernel that declares boundaries. -/
def Dev.yieldRequest (d : Dev) (r : Nat) : Dev :=
  if (d.runCmd r).kYields then
    let d := (d.kern r).clusters.foldl (fun d c => d.sramWrite c 0 [1, 0, 0, 0]) d
    d.setKern r (fun k => { k with yielding := true })
  else d

/-- R327: the preemption of a context begins. -/
def Dev.preempt (d : Dev) (x : Nat) : Dev :=
  if (d.ctxSt x).preempting then d else
  let d := (d.setCtx x (fun c => { c with preempting := true })).addSat (rCpCtxstat x) 23 0 1
  (d.ctxLive x).foldl Dev.yieldRequest d

/-- R320: contexts that hold groups, longest first, whose PRIO is at or below `p` and that are not yet preempted. -/
def Dev.preemptable (d : Dev) (p : Nat) : List Nat :=
  ((d.cp.ctxs.filter (fun e => !e.2.groups.isEmpty && !e.2.preempting && decide (d.fld (rCpCtxdesc e.1) 59 58 ≤ p))).mergeSort
    (fun a b => decide (a.2.grantAt ≤ b.2.grantAt))).map (·.1)

/-- R320: preempt contexts in turn until the waiter fits into the groups that are free or will be. -/
def Dev.preemptFor (d : Dev) (w : Nat) (xs : List Nat) : Dev :=
  match xs with
  | [] => d
  | x :: rest =>
    let coming := (d.cp.ctxs.filter (fun e => e.2.preempting)).flatMap (fun e => e.2.groups)
    if (d.chooseGroups w (sortGroups (d.freeGroups ++ coming))).isSome then d else (d.preempt x).preemptFor w rest

/-- R319, R320: a slice ends: waiters have waited one slice more, and contexts are preempted for the head waiter. -/
def Dev.sliceEnd (d : Dev) : Dev :=
  let d := d.refreshWaits
  if !d.cpRuns then d else
  match d.headWaiter with
  | none => d
  | some w =>
    let d' := d.cp.waits.foldl (fun d x => d.setCtx x (fun c => { c with waited := c.waited + 1 })) d
    d'.preemptFor w (d.preemptable (d.waitPrio w))

/-- R320, R321: a context that has not been runnable for IDLE releases its groups without a save. -/
def Dev.idleRelease (d : Dev) (x : Nat) : Dev :=
  if !d.cpRuns || d.runnable x || (d.ctxSt x).groups.isEmpty || !(d.ctxLive x).isEmpty then d
  else (d.releaseGroups x).refreshWaits

/-- R326: a cluster has yielded, for each kernel asked to that has ended on it. -/
def Dev.clusterYielded (d : Dev) (cls : Nat) : Dev :=
  (d.cp.kernels.keysP (fun _ k => k.yielding && !k.saved && k.clusters.contains cls && !k.yielded.contains cls && !k.mid.contains cls)).foldl
    (fun d r =>
      if (d.kern r).lane.isNone && d.clusterQuiet r cls &&
          ((d.runCmd r).kSheaves cls).all (fun k => (d.sheaf k).st == .halted) then
        d.setKern r (fun k => { k with yielded := k.yielded ++ [cls] })
      else d) d

/-- R329: the sheaves of a run on a cluster that have not halted. -/
def Dev.sheavesLeft (d : Dev) (r cls : Nat) : Nat := (((d.runCmd r).kSheaves cls).filter (fun k => (d.sheaf k).st != .halted)).length

/-- R329: the size of a mid-kernel image with s sheaves. -/
def midSize (s : Nat) : Nat := (0x6C0000 + 40960 * s + 65535) / 65536 * 65536

/-- R329, R331: bytes per image of a kernel whose clusters `mid` are saved mid-kernel: its largest image. -/
def Dev.imageSize (d : Dev) (r : Nat) (mid : List Nat) : Nat :=
  mid.foldl (fun m c => max m (midSize (d.sheavesLeft r c))) ((d.runCmd r).f 3 5 0 * 65536)

/-- R331: the save area holds a header of 64 KiB and these images; R330: it is large enough and its memory takes them. -/
def Dev.saveFits (d : Dev) (x total : Nat) : Bool :=
  let base := d.fld (rCpCtxsave x) 55 24 * 2 ^ 24
  decide (65536 + total ≤ d.fld (rCpCtxsave x) 11 0 * 2 ^ 24) &&
  (match d.home base with | .hbm _ => true | .core _ _ => true | _ => false) &&
  d.rangeVerdict 0 base (65536 + total) true == .pass

/-- R328: rows whose pass or BCAST in flight completes its injection: no chunk of it waits. -/
def Dev.finishInjection (d : Dev) (fuel row : Nat) : Dev :=
  match fuel with
  | 0 => d
  | f + 1 => if (d.row row).run.isSome then (d.inject row true true).finishInjection f row else d

/-- R328: a cluster is saved mid-kernel: its sheaves stop, faulting accesses are abandoned, reservations are lost, and its
rows and sheaves are kept. -/
def Dev.midSave (d : Dev) (x r cls : Nat) : Dev :=
  let c := d.runCmd r
  let d := c.kRows.foldl (fun d w => d.finishInjection 8192 (16 * cls + w)) d
  let ks := c.kSheaves cls
  let d := ks.foldl (fun d k => (d.setSheaf k (fun s => { s with resv := [] })).faultLeave (.sheaf k)) d
  let d := d.setCtx x (fun e => { e with
    savedRows := c.kRows.foldl (fun m w => m.set (16 * cls + w) (d.row (16 * cls + w))) e.savedRows,
    savedSheaves := ks.foldl (fun m k => m.set k (d.sheaf k)) e.savedSheaves })
  let d := ks.foldl (fun d k => d.setSheaf k (fun s => if s.st = .running then { s with st := .stopped } else s)) d
  (d.setKern r (fun k => { k with mid := k.mid ++ [cls] })).addSat (rCpCtxstat x) 39 24 1

/-- The clusters of a kernel that have not yielded. -/
def KernelRun.late (k : KernelRun) : List Nat := k.clusters.filter (fun c => !k.yielded.contains c && !k.mid.contains c)

/-- R327, R328, R330: YIELDWAIT is over: clusters that have not yielded are saved mid-kernel, unless the area is too
small for the save. -/
def Dev.yieldWaitExpiry (d : Dev) (x : Nat) : Dev :=
  if !(d.ctxSt x).preempting || !d.cpRuns then d else
  let rs := (d.ctxLive x).filter (fun r => (d.kern r).lane.isNone && !(d.kern r).clusters.all (fun c => d.clusterQuiet r c))
  let d := rs.foldl (fun d r => (d.kern r).late.foldl Dev.clusterYielded d) d
  if rs.all (fun r => (d.kern r).late.isEmpty) then d else
  let total := (rs.map (fun r => (d.kern r).clusters.length * d.imageSize r ((d.kern r).late ++ (d.kern r).mid))).sum
  if !d.saveFits x total then d.addSat (rCpCtxstat x) 47 40 1
  else rs.foldl (fun d r => (d.kern r).late.foldl (fun d c => d.midSave x r c) d) d

/-- R331: the words of a save header. -/
def Dev.saveHeader (d : Dev) (x n : Nat) : List Nat :=
  let gs := (d.ctxSt x).groups
  let gb := (List.range 80).map (fun i => match gs[i]? with | some g => g.til * 16 + g.idx | none => 255)
  let counts := ((List.range 8).map (fun t => (d.fld (rTilClsen t) 6 0) * 2 ^ (7 * t))).sum
  [2 ^ 16 + x, n * 2 ^ 24 + gs.length * 2 ^ 16 + d.fld rCrownGeom 63 56 * 256, d.time % 2 ^ 32, d.time / 2 ^ 32 % 2 ^ 32,
   counts % 2 ^ 32, counts / 2 ^ 32, 0, 0] ++
  (List.range 20).map (fun i => gb.getD (4 * i) 0 + gb.getD (4 * i + 1) 0 * 256 + gb.getD (4 * i + 2) 0 * 65536 + gb.getD (4 * i + 3) 0 * 2 ^ 24) ++
  (List.range 8).flatMap (fun t => [d.reg (rTilClsmapl t) % 2 ^ 32, d.reg (rTilClsmapl t) / 2 ^ 32, d.reg (rTilClsmaph t) % 2 ^ 32]) ++
  List.replicate 12 0

/-- R331: the words of a command record. -/
def Dev.saveRecord (d : Dev) (r base size : Nat) : List Nat :=
  match d.run? r with
  | none => List.replicate 64 0
  | some v =>
    let k := d.kern r
    let bits := fun w => ((List.range 32).map (fun i => match k.clusters[32 * w + i]? with
      | some c => if k.mid.contains c then 2 ^ i else 0
      | none => 0)).sum
    [v.qid * 4096, v.cmd.seq % 65536 * 65536, v.cmd.tag, v.cmd.f 2 31 24 * 2 ^ 24 + v.cmd.f 2 23 16 * 65536 + k.clusters.length,
     base % 2 ^ 32, base / 2 ^ 32, v.start % 2 ^ 32, v.start / 2 ^ 32 % 2 ^ 32] ++ (List.range 16).map v.cmd.w ++ [size, 0] ++
    (List.range 20).map bits ++ List.replicate 18 0

/-- R329: the bytes of an image: cluster SRAM, and for a mid-kernel image what only the CP reads (Config.imageByte). -/
def Dev.imageBytes (d : Dev) (r cls : Nat) : List Byte :=
  if (d.kern r).mid.contains cls then
    d.sramRead cls 0 2097152 ++ (List.range (midSize (d.sheavesLeft r cls) - 2097152)).map (fun i => Config.imageByte d.free cls (2097152 + i))
  else d.sramRead cls 0 ((d.runCmd r).f 3 5 0 * 65536)

/-- R331: the kernels of a context are saved: images at their places, records, header. -/
def Dev.writeSave (d : Dev) (x : Nat) (rs : List Nat) : Dev :=
  let area := d.fld (rCpCtxsave x) 55 24 * 2 ^ 24
  let step := fun (a : Dev × Nat × Nat) (r : Nat) =>
    let (d, i, off) := a
    let size := d.imageSize r (d.kern r).mid
    let cl := (d.kern r).clusters
    let d := d.setKern r (fun k => { k with imgBase := off, imgSize := size, imaged := true })
    let d := d.crownWrite (area + 256 * (i + 1)) (wordBytes (d.saveRecord r off size))
    let d := cl.zipIdx.foldl (fun d e => d.crownWrite (area + off + e.2 * size) (d.imageBytes r e.1)) d
    (d, i + 1, off + cl.length * size)
  let (d, n, _) := rs.foldl step (d, 0, 65536)
  { (d.crownWrite area (wordBytes (d.saveHeader x n))) with free := d.free + 1 }

/-- R327, R330: the preemption of a context ends: every cluster of every kernel has yielded or been saved mid-kernel, or
the kernel has completed. Kernels are saved and the groups are released. An area too small keeps no image: the kernels
have yielded, and go on later from memory alone (REGEOM). -/
def Dev.saveComplete (d : Dev) (x : Nat) : Dev :=
  let rs := d.ctxLive x
  if !(d.ctxSt x).preempting || !d.cpRuns || rs.any (fun r => !(d.kern r).late.isEmpty) then d else
  let total := (rs.map (fun r => (d.kern r).clusters.length * d.imageSize r (d.kern r).mid)).sum
  let d := if rs.isEmpty then d
    else if d.saveFits x total then d.writeSave x rs
    else d.addSat (rCpCtxstat x) 47 40 1
  let d := rs.foldl (fun d r => (d.freeSheaves r).setKern r (fun k => { k with saved := true, yielding := false })) d
  let d := d.setCtx x (fun c => { c with preempting := false, savedGroups := if rs.isEmpty then c.savedGroups else c.groups })
  (d.releaseGroups x).refreshWaits

/-! ## Changes of geometry (R323) -/

/-- R31: the geometry has changed: GEN counts, and the CP will handle it. -/
def Dev.geometryChanged (d : Dev) : Dev :=
  let d := d.addWrap rCrownGeom 63 56 1
  { d with cp := { d.cp with geom := true } }

/-- R323 step 2: a kernel that ran on a cluster now gone: it is to be replayed, or completes with DIE_LOST. -/
def Dev.kernelLost (d : Dev) (r : Nat) : Dev :=
  let d := (d.stopSheaves r).freeSheaves r
  if (d.runCmd r).kRestart then
    d.setKern r (fun k => { k with saved := true, replay := true, yielding := false, yielded := [], mid := [], imaged := false, lane := none })
  else (d.forgetKernel r).failRun r .dieLost

/-- R323 step 3: the groups of a context after the change: those that still exist, with their present clusters, made up
from the free groups to what a grant would hold. -/
def Dev.regrant (d : Dev) (x : Nat) : Dev :=
  let gs := (d.ctxSt x).groups
  if gs.isEmpty then d else
  let kept := gs.filterMap (fun g => d.allGroups.find? (fun h => h.til == g.til && h.idx == g.idx))
  let more := (d.freeGroups).take (min (gs.length - kept.length) (d.grantSize x - kept.length))
  d.setCtx x (fun c => { c with groups := sortGroups (kept ++ more) })

/-- R323: the CP handles a change of geometry. -/
def Dev.geometryHandle (d : Dev) : Dev :=
  if !d.cp.geom || !d.cpRuns then d else
  let d := { d with cp := { d.cp with geom := false } }
  let d := (d.cp.kernels.keysP (fun _ k => !k.saved)).foldl (fun d r => if d.kernelHit r then d.kernelLost r else d) d
  let d := (d.cp.ctxs.keysP (fun _ c => !c.groups.isEmpty)).foldl Dev.regrant d
  let d := (d.cp.kernels.keysP (fun _ k => k.saved && k.replay)).foldl Dev.restoreKernel d
  let xs := (List.range 4096).filter (fun x => d.ctxState x != 0 && d.bit (rCpCtxdesc x) 57)
  let d := xs.foldl (fun d x => d.setCtx x (fun c => { c with notice := true, noticeTime := d.time })) d
  d.noticeFlush.refreshWaits

/-! ## Their commands -/

/-- R305: KERNEL. -/
def execKernel (run : Nat) (s : State) : Out := doCmd true (fun d => d.kernel run) s

/-- R106, R305: a KERNEL ends. -/
def execKernelComplete (run : Nat) (s : State) : Out := doCmd true (fun d => d.kernelComplete run) s

/-- R319: groups are granted. -/
def execGroupGrant  (s : State) : Out := doCmd true (fun d => d.groupGrant) s

/-- R320: a slice ends. -/
def execSliceEnd  (s : State) : Out := doCmd true (fun d => d.sliceEnd) s

/-- R320: an idle context releases its groups. -/
def execIdleRelease (ctx : Nat) (s : State) : Out := doCmd (decide (ctx < 4096)) (fun d => d.idleRelease ctx) s

/-- R326: a cluster has yielded. -/
def execClusterYielded (t : Nat) (c : Nat) (s : State) : Out :=
  doCmd (decide (t < 8) && decide (c < 84)) (fun d => d.clusterYielded (clsKey t c)) s

/-- R327: YIELDWAIT is over. -/
def execYieldwaitExpiry (ctx : Nat) (s : State) : Out := doCmd (decide (ctx < 4096)) (fun d => d.yieldWaitExpiry ctx) s

/-- R327, R331: a save has been performed. -/
def execSaveComplete (ctx : Nat) (s : State) : Out := doCmd (decide (ctx < 4096)) (fun d => d.saveComplete ctx) s

/-- R323: a change of geometry is handled. -/
def execGeometryChangedHandling  (s : State) : Out := doCmd true (fun d => d.geometryHandle) s

end Sys2Proof.Machine
end

