-- ==== Sys2Proof/Machine/Contexts.lean ====
section
/-! DEFINITION. Contexts: creation, destruction, suspension (R313 to R318). -/

namespace Sys2Proof.Machine

open Sys2Proof

/-- Give CP_CTXDESC.STATE a value. -/
def Dev.setCtxState (d : Dev) (x s : Nat) : Dev := d.setFld (rCpCtxdesc x) 63 61 s

/-- The queues of a context that are not FREE. -/
def Dev.ctxQueues (d : Dev) (x : Nat) : List Nat := d.cp.queues.keysP (fun q _ => q / 256 == x)

/-! ## CREATE_CONTEXT (R315, R316) -/

/-- R314 to R316: the checks of CREATE_CONTEXT. -/
def createContextBad (d : Dev) (c : Cmd) : Chk :=
  firstBad [badIf (c.f 2 31 20 == 0 || decide (80 < c.f 2 19 13) || c.f 2 10 0 != 0) 2, c.zeros 3 16,
    if d.ctxState (c.f 2 31 20) = 0 then none else some (.busy, 0)]

/-- R316: CREATE_CONTEXT. -/
def Dev.createContext (d : Dev) (r : Nat) : Dev :=
  d.manage r 0x20 createContextBad (fun d v =>
    let c := v.cmd
    let x := c.f 2 31 20
    let d := d.setReg (rCpCtxdesc x) (2 ^ 61 + 2 ^ 60 + c.f 2 12 11 * 2 ^ 58 + c.f 2 19 13 * 2 ^ 50)
    ({ d with cp := { d.cp with ctxs := d.cp.ctxs.del x } }).endRun r)

/-! ## DESTROY_CONTEXT (R317) -/

/-- R314, R315, R317: the checks of DESTROY_CONTEXT. -/
def destroyContextBad (d : Dev) (c : Cmd) : Chk :=
  firstBad [badIf (c.f 2 31 20 == 0 || c.f 2 19 0 != 0) 2, c.zeros 3 16, badIf (d.ctxState (c.f 2 31 20) == 0) 2]

/-- R318: a SUSPEND of the context that is still running, but for `r`. -/
def Dev.suspendRuns (d : Dev) (x r : Nat) : List Nat :=
  d.cp.runs.keysP (fun k v => k != r && v.cmd.op == 0x22 && v.cmd.f 2 2 0 == 1 && v.cmd.f 2 31 20 == x && v.began)

/-- R318: the wind-down of a SUSPEND stops: SUSPENDs still running complete with ABORTED. -/
def Dev.stopSuspend (d : Dev) (x r : Nat) : Dev :=
  let d := d.setCtx x (fun c => { c with suspending := false })
  (d.suspendRuns x r).foldl (fun d k => d.failRun k .aborted) d

/-- R317 steps 2 to 5, once the queues of the context are quiet: they become FREE, the groups are released, walking is
turned off, every translation of the context is dropped; once no request translated before is left the context is FREE. -/
def Dev.destroySteps (d : Dev) (x : Nat) : Dev :=
  let qs := d.ctxQueues x
  if d.ctxState x != 3 || !qs.all (fun q => d.queueQuiet q) then d else
  let d := qs.foldl Dev.freeQueue d
  let d := d.releaseGroups x
  let d := d.setBit (rCrownCtxxlt x) 0 false
  let d := d.tlbDrop (fun k => k / 2 ^ 41 == x)
  if d.fe.reqs.any (fun e => e.2.ctx == x) || d.cores.any (fun e => e.2.nt.any (fun n => n.ctx == x)) then d
  else
    let d := d.setCtxState x 0
    { d with cp := { d.cp with ctxs := d.cp.ctxs.del x, waits := d.cp.waits.filter (· != x) } }

/-- R335, R406: queues of context 0 that the CP destroys of its own accord become FREE once they are quiet. -/
def Dev.destroyOrphans (d : Dev) : Dev :=
  let asked := fun q => d.cp.runs.any (fun e => e.2.cmd.op == 0x11 && e.2.began && !e.2.done && e.2.cmd.f 2 31 12 == q)
  ((d.ctxQueues 0).filter (fun q => (d.queue q).destroying && (d.queue q).st == .draining && !asked q && d.queueQuiet q)).foldl Dev.freeQueue d

/-- R317, R335: destructions that go on. -/
def Dev.destroyTick (d : Dev) : Dev :=
  (((d.cp.queues.keysP (fun _ _ => true)).map (· / 256) ++ d.cp.ctxs.keysP (fun _ _ => true)).dedup.foldl Dev.destroySteps d).destroyOrphans

/-- R317: DESTROY_CONTEXT begins, goes on, and completes once the context is FREE and every SUSPEND it ended has its
entry. -/
def Dev.destroyContext (d : Dev) (r : Nat) : Dev :=
  match d.run? r with
  | none => d
  | some v =>
    let x := v.cmd.f 2 31 20
    if v.cmd.op != 0x21 || v.done || !d.cpRuns then d
    else if !v.began then
      match destroyContextBad d v.cmd with
      | some (s, i) => d.failRun r s i
      | none =>
        let d := d.beginRun r 0
        let d := (d.setCtxState x 3).stopSuspend x r
        (d.ctxQueues x).foldl (fun d q =>
          if (d.queue q).destroying then d.setQueue q (fun y => { y with st := .draining }) else d.drainQueue q) d
    else
      let d := d.destroySteps x
      if d.ctxState x = 0 ∧ (d.suspendRuns x r).isEmpty then d.endRun r else d

/-- R317: step 5 is not reached within 200 ms. -/
def Dev.destroyContextTimeout (d : Dev) (r : Nat) : Dev :=
  if (d.runCmd r).op = 0x21 ∧ d.runLive r then d.failRun r .busy else d

/-! ## CONTEXT_CTL (R318) -/

/-- R314, R315, R318: the checks of CONTEXT_CTL. -/
def contextCtlBad (d : Dev) (c : Cmd) : Chk :=
  let x := c.f 2 31 20
  firstBad [badIf (x == 0 || c.f 2 19 3 != 0 || !(c.f 2 2 0 == 1 || c.f 2 2 0 == 2)) 2, c.zeros 3 16,
    badIf (d.ctxState x == 0 || d.ctxState x == 3) 2]

/-- R318: the wind-down is over: kernels are saved, other commands but STREAM have completed, the groups are
released. -/
def Dev.suspendQuiet (d : Dev) (x : Nat) : Bool :=
  (d.ctxLive x).isEmpty && (d.ctxSt x).groups.isEmpty &&
  !d.cp.runs.any (fun e => e.2.qid / 256 == x && e.2.began && e.2.cls != 3 && !(d.kern e.1).saved)

/-- R318: SUSPEND begins the wind-down, or waits for the one going on. -/
def Dev.contextSuspend (d : Dev) (r : Nat) : Dev :=
  match d.run? r with
  | none => d
  | some v =>
    let x := v.cmd.f 2 31 20
    if v.cmd.op != 0x22 || v.cmd.f 2 2 0 == 2 || v.done || !d.cpRuns then d
    else if !v.began then
      match contextCtlBad d v.cmd with
      | some (s, i) => d.failRun r s i
      | none =>
        let d := d.beginRun r 0
        if d.ctxState x = 1 then
          let d := (d.setCtxState x 2).setCtx x (fun c => { c with suspending := true })
          if (d.ctxSt x).groups.isEmpty then d
          else if (d.ctxLive x).isEmpty then d.releaseGroups x
          else d.preempt x
        else d
    else
      let d := if d.suspendQuiet x then d.setCtx x (fun c => { c with suspending := false }) else d
      if (d.ctxSt x).suspending then d else d.endRun r

/-- R318: SUSPEND is not done within 200 ms. -/
def Dev.suspendTimeout (d : Dev) (r : Nat) : Dev :=
  if (d.runCmd r).op = 0x22 ∧ (d.runCmd r).f 2 2 0 = 1 ∧ d.runLive r then d.failRun r .busy else d

/-- R318: RESUME: a wind-down stops; kernels already asked to yield finish their save. It completes once the entry of
every SUSPEND it ended is written. -/
def Dev.contextResume (d : Dev) (r : Nat) : Dev :=
  match d.run? r with
  | none => d
  | some v =>
    let x := v.cmd.f 2 31 20
    if v.cmd.op != 0x22 || v.cmd.f 2 2 0 == 1 || v.done || !d.cpRuns then d
    else if !v.began then
      match contextCtlBad d v.cmd with
      | some (s, i) => d.failRun r s i
      | none =>
        let d := d.beginRun r 0
        if d.ctxState x = 1 then d.endRun r
        else
          let d := (d.setCtxState x 1).stopSuspend x r
          let asked := (d.ctxLive x).any (fun k => (d.kern k).yielding || !(d.kern k).mid.isEmpty)
          (d.setCtx x (fun c => { c with preempting := c.preempting && asked })).refreshWaits
    else if (d.suspendRuns x r).isEmpty then d.endRun r
    else d

/-! ## Their commands -/

/-- R315, R316: CREATE_CONTEXT. -/
def execCreateContext (run : Nat) (s : State) : Out := doCmd true (fun d => d.createContext run) s

/-- R317: DESTROY_CONTEXT. -/
def execDestroyContext (run : Nat) (s : State) : Out := doCmd true (fun d => d.destroyContext run) s

/-- R317: DESTROY_CONTEXT meets its bound. -/
def execDestroyContextTimeout (run : Nat) (s : State) : Out := doCmd true (fun d => d.destroyContextTimeout run) s

/-- R318: CONTEXT_CTL SUSPEND. -/
def execContextSuspend (run : Nat) (s : State) : Out := doCmd true (fun d => d.contextSuspend run) s

/-- R318: SUSPEND meets its bound. -/
def execSuspendTimeout (run : Nat) (s : State) : Out := doCmd true (fun d => d.suspendTimeout run) s

/-- R318: CONTEXT_CTL RESUME. -/
def execContextResume (run : Nat) (s : State) : Out := doCmd true (fun d => d.contextResume run) s

/-- R306: a completion entry is written. -/
def execCompletionEntryWrite (run : Nat) (s : State) : Out :=
  doCmd true (fun d => (d.completionWrite run).destroyTick) s

/-- R297: a signal is performed. -/
def execFenceSignalPerform (q : Nat) (s : State) : Out :=
  doCmd (decide (q < 2 ^ 20)) (fun d => (d.signalPerform q).destroyTick) s

end Sys2Proof.Machine
end

