-- ==== Sys2Proof/Machine/Glume.lean ====
section
/-! DEFINITION. Glumes as their stacks' events see them: reads, writes, scrubbing, temperature, repair (R146 to R153). -/

namespace Sys2Proof.Machine

open Sys2Proof

/-- A Glume as it stands. -/
def Dev.glume (d : Dev) (g : Nat) : Glume := d.glm.get {} g

/-- Change a Glume. -/
def Dev.setGlume (d : Dev) (g : Nat) (f : Glume → Glume) : Dev := { d with glm := d.glm.upd {} g f }

/-- The physical line of a stack-local line. -/
def glmLine (g line : Nat) : Nat := hbmInter g (line * 128) / 128

/-- R146: bits [62:0] of GLM_ERRREC for an error of a row. -/
def glmRecord (kind symbols loc : Nat) (r : DramRow) : Nat :=
  kind * 2 ^ 60 + loc / 256 % 16 * 2 ^ 56 + r.pc * 2 ^ 55 + r.bank * 2 ^ 49 + r.row * 2 ^ 32 + symbols * 2 ^ 24

/-- R146: the first record since GLM_ERRREC was last cleared. -/
def Dev.glumeRecord (d : Dev) (g kind symbols loc : Nat) (r : DramRow) : Dev := d.keepRecord g (glmRecord kind symbols loc r) loc

/-- R483: UNIT of a Glume kind: 16 × channel + bank group, the bank groups of a pseudo-channel's stack IDs counted through. -/
def DramRow.unit (r : DramRow) : Nat := 16 * r.ch + r.bank / 4

/-- R483, R484: an error record of a Glume kind about an error of the stack. DETAIL is its GLM_ERRREC. -/
def Dev.glumeError (d : Dev) (kind g rec loc : Nat) (r : DramRow) : Dev :=
  d.error kind (slotGlm g) (16 * (loc / 256 % 16) + r.bank / 4) 0 (loc / 256 * 256) (2 ^ 63 + rec)

/-- R483, R484: an error record of a repair, about its row. DETAIL is GLM_ERRREC as it stands. -/
def Dev.repairError (d : Dev) (kind g addr : Nat) (r : DramRow) : Dev :=
  d.error kind (slotGlm g) r.unit 0 addr (d.reg (rGlmErrrec g))

/-! ## Repair (R151 to R153) -/

/-- The spare rows used in the bank of a row. -/
def Glume.usedIn (x : Glume) (r : DramRow) : Nat :=
  match x.used.find? (fun e => e.1 == r.ch && e.2.1 == r.pc && e.2.2.1 == r.bank) with
  | some e => e.2.2.2
  | none => 0

/-- One spare row more is used in the bank of a row. -/
def Glume.useSpare (x : Glume) (r : DramRow) : Glume :=
  { x with used := (r.ch, r.pc, r.bank, x.usedIn r + 1) ::
      x.used.filter (fun e => !(e.1 == r.ch && e.2.1 == r.pc && e.2.2.1 == r.bank)) }

/-- A repair waits its turn, or is the next to run. -/
def Dev.requestRepair (d : Dev) (g : Nat) (r : Repair) : Dev :=
  let x := d.glume g
  if (match x.busy with | some b => b.row == r.row && b.hard == r.hard | none => false) || x.queue.any (fun b => b.row == r.row && b.hard == r.hard) then d
  else match x.busy with
    | some _ => d.setGlume g (fun x => { x with queue := x.queue ++ [r] })
    | none => (d.setGlume g (fun x => { x with busy := some r })).setBit (rGlmRepstat g) 0 true

/-- The repair in progress is over; the next one takes its turn. -/
def Dev.nextRepair (d : Dev) (g : Nat) : Dev :=
  match (d.glume g).queue with
  | [] => (d.setGlume g (fun x => { x with busy := none })).setBit (rGlmRepstat g) 0 false
  | r :: rest => d.setGlume g (fun x => { x with busy := some r, queue := rest })

/-- R153: a repair fails: a NOSPARE record for a failing row without a spare, REPAIR_FAIL and FAIL for a commanded one. -/
def Dev.repairFailed (d : Dev) (g : Nat) (r : Repair) (nospare : Bool) : Dev :=
  let d := if nospare then (d.glumeRecord g 3 0 r.addr r.row).glumeError 0x04 g (glmRecord 3 0 r.addr r.row) r.addr r.row else d
  let d := if r.byCmd then (d.setBit (rGlmRepstat g) 1 true).repairError 0x05 g r.addr r.row else d
  d.nextRepair g

/-- R151, R152: the repair of a row begins; with no spare left in its bank it fails. A row that is soft-repaired needs no
other spare to be hard-repaired. -/
def Dev.repairStart (d : Dev) (g : Nat) (row : DramRow) (hard : Bool) : Dev :=
  match (d.glume g).busy with
  | none => d
  | some r =>
    if r.row != row || r.hard != hard || r.started || !d.dieActive (slotGlm g) then d
    else if !(hard && (d.glume g).soft.contains row) && decide (Config.spareRows ≤ (d.glume g).usedIn row) then d.repairFailed g r true
    else d.setGlume g (fun x => { x with busy := some { r with started := true } })

/-- R152: a repair ends: its row is mapped, or it failed. HARDAUTO follows a soft repair with a hard one. -/
def Dev.repairDone (d : Dev) (g : Nat) (failed : Bool) : Dev :=
  match (d.glume g).busy with
  | none => d
  | some r =>
    if !r.started || !d.dieActive (slotGlm g) then d
    else if failed then d.repairFailed g r false
    else
      let was := (d.glume g).soft.contains r.row
      let d := d.setGlume g (fun x =>
        let x := if was then x else x.useSpare r.row
        { x with soft := if r.hard then x.soft.filter (· != r.row) else x.soft ++ [r.row],
                 rowErrs := x.rowErrs.filter (fun e => e.1 != r.row) })
      let d := { d with nv := { d.nv with
        hard := if r.hard then d.nv.hard.upd [] g (· ++ [r.row]) else d.nv.hard,
        soft := if r.hard then d.nv.soft.upd [] g (fun l => l.filter (· != r.row)) else d.nv.soft.upd [] g (· ++ [r.row]) } }
      let d := (d.repairError 0x03 g r.addr r.row).nextRepair g
      if !r.hard && d.bit (rGlmRepctl g) 30 then d.requestRepair g { row := r.row, hard := true, addr := r.addr } else d

/-- R151: corrected errors of one row reach THRESH within 24 hours, or the row has an uncorrectable one. -/
def Dev.rowError (d : Dev) (g : Nat) (row : DramRow) (addr : Nat) (uncorr : Bool) : Dev :=
  let day := 24 * 3600 * 1000000000
  let (n, since) := match (d.glume g).rowErrs.find? (fun e => e.1 == row) with
    | some e => if d.time - e.2.2 < day then (e.2.1 + 1, e.2.2) else (1, d.time)
    | none => (1, d.time)
  let d := if uncorr then d
    else d.setGlume g (fun x => { x with rowErrs := (row, n, since) :: x.rowErrs.filter (fun e => e.1 != row) })
  if d.bit (rGlmRepctl g) 31 && (uncorr || decide (max 1 (d.fld (rGlmRepctl g) 23 16) ≤ n)) then
    d.requestRepair g { row := row, hard := false, addr := addr }
  else d

/-- R151, R152: a GLM_REPCMD of OP SOFT, HARD or HARDALL; ignored while BUSY is 1. -/
def Dev.repairCommand (d : Dev) (g op : Nat) (row : DramRow) : Dev :=
  if d.bit (rGlmRepstat g) 0 then d
  else match op with
    | 1 => d.requestRepair g { row := row, hard := false, byCmd := true }
    | 2 => d.requestRepair g { row := row, hard := true, byCmd := true }
    | 3 => (d.glume g).soft.foldl (fun d r => d.requestRepair g { row := r, hard := true, byCmd := true }) d
    | _ => d

/-- The row a value written to GLM_REPCMD names. -/
def repRow (v : Nat) : DramRow := ⟨bitsOf v 59 56, bitsOf v 55 55, bitsOf v 54 49, bitsOf v 48 32⟩

/-! ## Reads, writes, scrubbing (R146, R147, R150) -/

/-- R146, R147: a read of the stack finds `errs` bad symbols: up to 3 are corrected and written back, more make the line
poisoned. -/
def Dev.stackError (d : Dev) (g line errs : Nat) (row : DramRow) (scrub : Bool) : Dev :=
  let loc := line * 128
  if errs = 0 then d
  else if errs ≤ 3 then
    ((d.addSat (rGlmEcccnt g) 31 0 1).glumeRecord g 0 errs loc row).rowError g row (loc / 256 * 256) false
  else
    let rcd := glmRecord (if scrub then 4 else 1) 255 loc row
    let d := ((d.addSat (rGlmEcccnt g) 63 32 1).poisonLine (glmLine g line)).glumeRecord g (if scrub then 4 else 1) 255 loc row
    (d.glumeError (if scrub then 0x02 else 0x01) g rcd loc row).rowError g row (loc / 256 * 256) true

/-- A repair holds the bank. -/
def Dev.bankHeld (d : Dev) (g : Nat) (row : DramRow) : Bool :=
  match (d.glume g).busy with
  | some r => r.started && r.row.ch == row.ch && r.row.pc == row.pc && r.row.bank == row.bank
  | none => false

/-- R146, R147, R203: a stack read: checked, corrected or found uncorrectable, and returned. -/
def Dev.glumeRead (d : Dev) (g ctx line errs : Nat) (row : DramRow) : Dev :=
  let h := Home.hbm (hbmInter g (line * 128))
  if d.verdict h ctx false != .pass || d.bankHeld g row then d
  else
    let d := if d.lineBad (glmLine g line) then d.glumeRecord g 2 0 (line * 128) row else d.stackError g line errs row false
    { d with out := d.readHome h 128 }

/-- R147, R203: a stack write: a write of all 128 bytes clears poison. -/
def Dev.glumeWrite (d : Dev) (g ctx line size : Nat) (data : List Byte) : Dev :=
  let h := Home.hbm (hbmInter g (line * 128))
  if d.verdict h ctx true != .pass then d else d.storeLine .engine h (data.take (min size 128))

/-- R150, R523: a scrub read. Poisoned lines are skipped. -/
def Dev.scrubRead (d : Dev) (g line errs : Nat) (row : DramRow) : Dev :=
  if !d.bit (rGlmScrub g) 31 || !d.setOnline (g / 3) || d.lineBad (glmLine g line) || d.bankHeld g row then d
  else d.stackError g line errs row true

/-- R148: the stack temperature is read. -/
def Dev.stackTemp (d : Dev) (g : Nat) (t : Int) : Dev :=
  if !d.dieActive (slotGlm g) then d else
  let d := (d.setFld (rGlmStat g) 31 24 (min 255 t.toNat)).setBit (rGlmStat g) 17 (decide (95 < t))
  if 85 < t then (d.setGlume g (fun x => { x with coolSince := none })).setFld (rGlmStat g) 19 18 1
  else if 83 < t then d.setGlume g (fun x => { x with coolSince := none })
  else
    match (d.glume g).coolSince with
    | none => d.setGlume g (fun x => { x with coolSince := some d.time })
    | some s => if 10000000 ≤ d.time - s then d.setFld (rGlmStat g) 19 18 0 else d

/-! ## Their commands -/

/-- R146: a stack read. -/
def execGlumeRead (g : Nat) (ctx : Nat) (line : Nat) (errs : Nat) (row : DramRow) (s : State) : Out :=
  doCmd (decide (g < 12) && decide (ctx < 4096) && row.wf) (fun d => d.glumeRead g ctx line errs row) s

/-- R147: a stack write. -/
def execGlumeWrite (g : Nat) (ctx : Nat) (line : Nat) (size : Nat) (data : List (BitVec 8)) (s : State) : Out :=
  doCmd (decide (g < 12) && decide (ctx < 4096) && decide (0 < size ∧ size ≤ 128) && decide (data.length = size)) (fun d => d.glumeWrite g ctx line size data) s

/-- R148: the stack temperature is read. -/
def execStackTempRead (g : Nat) (temp : Int) (s : State) : Out :=
  doCmd (decide (g < 12)) (fun d => d.stackTemp g temp) s

/-- R149: a channel is recalibrated; no access sees it. -/
def execChannelRecal (g : Nat) (ch : Nat) (s : State) : Out :=
  doCmd (decide (g < 12) && decide (ch < 16)) (fun d => d) s

/-- R150: a scrub read. -/
def execScrubRead (g : Nat) (line : Nat) (errs : Nat) (row : DramRow) (s : State) : Out :=
  doCmd (decide (g < 12) && row.wf) (fun d => d.scrubRead g line errs row) s

/-- R151: a soft repair begins. -/
def execSoftRepair (g : Nat) (row : DramRow) (s : State) : Out :=
  doCmd (decide (g < 12) && row.wf) (fun d => d.repairStart g row false) s

/-- R152: a hard repair begins. -/
def execHardRepair (g : Nat) (row : DramRow) (s : State) : Out :=
  doCmd (decide (g < 12) && row.wf) (fun d => d.repairStart g row true) s

/-- R152: a repair ends. -/
def execHbmRepairComplete (g : Nat) (failed : Bool) (s : State) : Out :=
  doCmd (decide (g < 12)) (fun d => d.repairDone g failed) s

end Sys2Proof.Machine
end

