-- ==== Sys2Proof/Machine/Sfu.lean ====
section
/-! DEFINITION. The special functions (R40, R121). The spec states the results of special inputs and, for
every other input, only an error bound. An ordinary result is therefore free within the bound: the opaque
candidate of Config when it lies within the bound of R121, else the nearest value of a fixed-point
evaluation. The bound is widened by less than 2^−60 of itself, so no result the spec allows is shut out. -/

namespace Sys2Proof.Machine

/-- The six special functions, in the order of OP 0x35 (R87). -/
inductive SfuOp where
  | exp2 | log2 | rcp | rsq | tanh | sig
deriving DecidableEq, Repr

def SfuOp.num : SfuOp → Nat
  | .exp2 => 0 | .log2 => 1 | .rcp => 2 | .rsq => 3 | .tanh => 4 | .sig => 5

/-- Fraction bits of the fixed-point evaluation. -/
def fxP : Nat := 128
/-- log2(e) in fixed point. -/
def fxLog2e : Nat := 490923683258796565746369346286093237521

/-- m × 2^e in fixed point, towards zero. -/
def toFx (m : Nat) (e : Int) : Nat :=
  if e + (fxP : Nat) ≥ 0 then m <<< (e + (fxP : Nat)).toNat else m >>> (-(e + (fxP : Nat))).toNat

/-- 2^f for a fraction f in [0, 1), in fixed point: one factor 2^(2^−i) for each of the first 90 bits. -/
def fxExp2Frac (f : Nat) : Nat :=
  ((List.range 90).foldl (fun (st : Nat × Nat) i =>
    let root := Nat.sqrt (st.1 <<< fxP)
    (root, if f.testBit (fxP - 1 - i) then (st.2 * root) >>> fxP else st.2)) (2 <<< fxP, 1 <<< fxP)).2

/-- 2^x for fixed-point x: magnitude m and exponent e, 2^x ≈ m × 2^e. -/
def fxExp2 (x : Int) : Nat × Int :=
  (fxExp2Frac (x % (2 ^ fxP : Nat)).toNat, x / (2 ^ fxP : Nat) - (fxP : Nat))

/-- log2 of m × 2^e (m > 0), in fixed point. -/
def fxLog2 (m : Nat) (e : Int) : Int :=
  let n := bitLen m
  let y0 := (m <<< fxP) >>> (n - 1)
  let r := (List.range 100).foldl (fun (st : Nat × Nat) i =>
    let y := (st.1 * st.1) >>> fxP
    if y ≥ 2 <<< fxP then (y >>> 1, st.2 + 2 ^ (fxP - 1 - i)) else (y, st.2)) (y0, 0)
  (e + (n : Nat) - 1) * (2 ^ fxP : Nat) + (r.2 : Nat)

/-- e^x for fixed-point x, as m × 2^e. -/
def fxExp (x : Int) : Nat × Int := fxExp2 (x * (fxLog2e : Nat) / (2 ^ fxP : Nat))

/-- 1 / (1 + e^−x) in fixed point, for |x| below 100. -/
def fxSig (x : Int) : Nat :=
  let t := fxExp (-x)
  let d := (1 <<< fxP) + toFx t.1 t.2
  (1 <<< (2 * fxP)) / d

/-- Whether two rationals a, b in fixed point differ by at most `tol`. -/
def fxNear (a b : Int) (tol : Nat) : Bool := decide ((a - b).natAbs ≤ tol)

/-- A finite FP32 datum in fixed point with 2^-160 resolution, exact for every FP32 value. -/
def f32Fx (s : Bool) (m : Nat) (e : Int) : Int :=
  let v : Int := (m <<< (e + 160).toNat : Nat)
  if s then -v else v

/-- Exponent of the last place of the FP32 binade that holds m × 2^e. -/
def f32Ulp (m : Nat) (e : Int) : Int :=
  let q := e + (bitLen m : Nat) - 24
  if q < -149 then -149 else q

/-- Within `k` ulp of the value m × 2^e (m from a fixed-point evaluation), the ulp taken in the larger binade
of the two, and widened by 2^−60 of the value. -/
def withinUlp (k : Nat) (cand : FVal) (s : Bool) (m : Nat) (e : Int) : Bool :=
  match cand with
  | .fin cs cm ce =>
    let u := max (f32Ulp m e) (f32Ulp cm ce)
    let g := min e ce
    let a := onGrid cs cm ce (min g u)
    let b := onGrid s m e (min g u)
    decide ((a - b).natAbs ≤ (k <<< (u - min g u).toNat) + (m <<< (e - min g u).toNat) >>> 60)
  | .inf cs => cs == s && decide (e + (bitLen m : Nat) ≥ 128)
  | .nan _ => false

/-- Within 2^−22 absolutely of a fixed-point value. -/
def withinAbs (cand : FVal) (v : Int) : Bool :=
  match cand with
  | .fin s m e =>
    let c : Int := if s then -(toFx m e : Int) else (toFx m e : Int)
    fxNear c v (2 ^ (fxP - 22) + 2 ^ (fxP - 60))
  | _ => false

/-- A fixed-point value rounded to FP32. -/
def fxToF32 (v : Int) : Nat := (f32.round .rne (decide (v < 0)) v.natAbs (-(fxP : Nat))).1

/-- An ordinary result: the candidate when the bound admits it, else the evaluated value. -/
def sfuPick (op : SfuOp) (x : BitVec 32) (ok : FVal → Bool) (dflt : Nat) : BitVec 32 :=
  let c := Config.sfuResult op.num x
  if ok (f32.unpack c.toNat) then c else BitVec.ofNat 32 dflt

/-- Bits of a fixed-point input clipped to ±2^10, far beyond where every bounded function is settled. -/
def clipFx (s : Bool) (m : Nat) (e : Int) : Int :=
  let v := if e + (bitLen m : Nat) > 10 then 1 <<< (fxP + 10) else toFx m e
  if s then -(v : Int) else (v : Int)

/-- R121: the result of a special function and the flags it sets. -/
def sfuEval (op : SfuOp) (x : BitVec 32) : BitVec 32 × FFlags :=
  let fl := Config.sfuFlags op.num x &&& fNX ||| (Config.sfuFlags op.num x &&& fUF)
  let nan : BitVec 32 := 0x7FC00000
  match op, f32.unpack x.toNat with
  | _, .nan sig => (nan, if sig then fINV else 0)
  | .exp2, .inf s => if s then (0, 0) else (0x7F800000, fOF)
  | .exp2, .fin s m e =>
    if !s && decide (e + (bitLen m : Nat) > 7) then (0x7F800000, fOF)
    else
      let r := fxExp2 (clipFx s m e)
      (sfuPick op x (fun c => withinUlp 2 c false r.1 r.2) (f32.round .rne false r.1 r.2).1, fl)
  | .log2, .inf s => if s then (nan, fINV) else (0x7F800000, 0)
  | .log2, .fin s m e =>
    if m = 0 then (0xFF800000, fDZ)
    else if s then (nan, fINV)
    else
      let v := fxLog2 m e
      let near := decide (e + (bitLen m : Nat) = 0) || decide (e + (bitLen m : Nat) = 1)
      let ok (c : FVal) : Bool :=
        if near then withinAbs c v else withinUlp 2 c (decide (v < 0)) v.natAbs (-(fxP : Nat))
      (sfuPick op x ok (fxToF32 v), fl)
  | .rcp, .inf s => (if s then 0x80000000 else 0, 0)
  | .rcp, .fin s m e =>
    if m = 0 then (if s then 0xFF800000 else 0x7F800000, fDZ)
    else
      let d := f32.div .rne (.fin false 1 0) (.fin s m e)
      let q := (1 <<< (fxP + bitLen m)) / m
      (sfuPick op x (fun c => withinUlp 1 c s q (-e - (fxP + bitLen m : Nat))) d.1, fl ||| (d.2 &&& fOF))
  | .rsq, .inf s => if s then (nan, fINV) else (0, 0)
  | .rsq, .fin s m e =>
    if m = 0 then (if s then 0xFF800000 else 0x7F800000, fDZ)
    else if s then (nan, fINV)
    else
      let odd := decide (e % 2 ≠ 0)
      let n := if odd then 2 * m else m
      let g := if odd then e - 1 else e
      let q := Nat.sqrt ((1 <<< (2 * fxP + 64)) / n)
      let r := -(fxP + 32 : Nat) - g / 2
      (sfuPick op x (fun c => withinUlp 1 c false q r) (f32.round .rne false q r true).1, fl)
  | .tanh, .inf s => (if s then 0xBF800000 else 0x3F800000, 0)
  | .tanh, .fin s m e =>
    let v : Int := 2 * (fxSig (2 * clipFx s m e) : Int) - (1 <<< fxP : Nat)
    (sfuPick op x (fun c => withinAbs c v) (fxToF32 v), fl)
  | .sig, .inf s => (if s then 0 else 0x3F800000, 0)
  | .sig, .fin s m e =>
    let v : Int := (fxSig (clipFx s m e) : Int)
    (sfuPick op x (fun c => withinAbs c v) (fxToF32 v), fl)

end Sys2Proof.Machine
end

