-- ==== Sys2Proof/Machine/NearMemMath.lean ====
section
/-! DEFINITION. The arithmetic of the near-memory unit (R157, R162 to R166, R171 to R173). Memory is read
through the argument `rd`: virtual address and byte count to a little-endian number; the engine checks
translation, placement and poison before it calls these. -/

namespace Sys2Proof.Machine

/-- Field [hi:lo] of word w of a 64-byte command or a structure of 32-bit words (R10). -/
def cmdField (c : List (BitVec 32)) (w hi lo : Nat) : Nat := bitsOf ((c.getD w 0).toNat) hi lo
/-- The 64-bit field of words w and w + 1 (R10). -/
def cmdQuad (c : List (BitVec 32)) (w : Nat) : Nat := (c.getD w 0).toNat + (c.getD (w + 1) 0).toNat * 2 ^ 32

/-- Element k of a packed row-major row at address a (R58): FP6 four to 3 bytes, 4-bit formats two to a
byte. -/
def packedElem (rd : Nat → Nat → Nat) (code a k : Nat) : Nat :=
  let w := match code with | 2 => 6 | 3 => 6 | 4 => 4 | 6 => 4 | 7 => 16 | 8 => 16 | _ => 8
  let bit := k * w
  bitsOf (rd (a + bit / 8) ((bit % 8 + w + 7) / 8)) (bit % 8 + w - 1) (bit % 8)

/-- Bits an element takes in row-major layout (R58). -/
def packedBits (code : Nat) : Nat :=
  match code with | 2 => 6 | 3 => 6 | 4 => 4 | 6 => 4 | 7 => 16 | 8 => 16 | _ => 8

/-- The fields of NEARMEM_GEMV (R162). -/
structure Gemv where
  nmv : Nat
  pair : Nat
  smode : Nat
  target : Nat
  sat : Bool
  rtz : Bool
  cont : Bool
  b : Nat
  anchorField : Int
  wbase : Nat
  wsbase : Nat
  xbase : Nat
  xsbase : Nat
  obase : Nat
  nt : Nat
  kt : Nat
  dscale : BitVec 32
deriving DecidableEq, Repr

def gemvOf (c : List (BitVec 32)) : Gemv :=
  { nmv := cmdField c 2 27 24, pair := cmdField c 2 23 16, smode := cmdField c 2 15 14,
    target := cmdField c 2 13 10, sat := (c.getD 2 0).getLsbD 9, rtz := (c.getD 2 0).getLsbD 8,
    cont := (c.getD 2 0).getLsbD 7, b := cmdField c 2 3 0 + 1, anchorField := toSigned 10 (cmdField c 3 31 22),
    wbase := cmdQuad c 4, wsbase := cmdQuad c 6, xbase := cmdQuad c 8, xsbase := cmdQuad c 10,
    obase := cmdQuad c 12, nt := cmdField c 14 31 16, kt := cmdField c 14 15 0, dscale := c.getD 15 0 }

def Gemv.cls (g : Gemv) : Nat := classOf (g.pair % 16)
def Gemv.k (g : Gemv) : Nat := 128 * g.kt
def Gemv.n (g : Gemv) : Nat := 128 * g.nt
def Gemv.anchor (g : Gemv) : Int := passAnchor g.pair g.smode g.anchorField
/-- Elements of one scale block; with NONE the K-slice of R42 (R64). -/
def Gemv.block (g : Gemv) : Nat := match g.smode with | 0 => (if g.cls = 1 then 256 else 128) | 1 => 32 | _ => 16
def Gemv.outBytes (g : Gemv) : Nat := drainBytes g.target false
/-- Vector bytes and vector scale bytes (R163). -/
def Gemv.residentBytes (g : Gemv) : Nat :=
  g.b * (g.k * packedBits (g.pair / 16) / 8) + (if g.smode = 0 then 0 else g.b * (g.k / g.block))
def Gemv.scaleTile (g : Gemv) : Nat := if g.smode = 1 then 512 else 1024

/-- R162: bases whose misalignment completes the command with PROTECTION. -/
def gemvMisaligned (c : List (BitVec 32)) : Bool :=
  let g := gemvOf c
  decide (g.wbase % 1024 ≠ 0) || (decide (g.smode ≠ 0) && decide (g.wsbase % 512 ≠ 0))

/-- R163: address of weight tile (kt, s). -/
def Gemv.tileAddr (g : Gemv) (s kt : Nat) : Nat := g.wbase + (s * g.kt + kt) * tileBytes g.cls
def Gemv.scaleTileAddr (g : Gemv) (s kt : Nat) : Nat := g.wsbase + (s * g.kt + kt) * g.scaleTile
/-- R163: address of output (v, n). -/
def Gemv.outAddr (g : Gemv) (v n : Nat) : Nat := g.obase + (v * g.n + n) * g.outBytes

/-- Accumulator of column col of strip s and vector v, from its starting value through every block of K
(R157, R164). -/
def gemvAcc (rd : Nat → Nat → Nat) (g : Gemv) (s col v : Nat) : AccV :=
  let fresh : AccV := { info := {}, val := 0 }
  let start :=
    if g.cont then accStart false false g.pair g.smode g.anchor (recLoad false (rd (g.outAddr v (128 * s + col)) 16))
    else accStart true false g.pair g.smode g.anchor fresh
  let x := g.pair / 16
  let w := g.pair % 16
  let bl := g.block
  let rowBytes := g.k * packedBits x / 8
  (List.range ((g.k + bl - 1) / bl)).foldl (fun a blk =>
    let ps := (List.range (min bl (g.k - blk * bl))).map (fun i =>
      let k := blk * bl + i
      mulElem (decodeElem x (packedElem rd x (g.xbase + v * rowBytes) k))
        (decodeElem w (tileElem rd g.cls (g.tileAddr s (k / 128)) (k % 128) col)))
    let k0 := blk * bl
    let sx := if g.smode = 0 then 0 else rd (g.xsbase + v * (g.k / bl) + blk) 1
    let sw := if g.smode = 0 then 0 else rd (g.scaleTileAddr s (k0 / 128) + k0 % 128 / bl * 128 + col) 1
    accBlock false (lsbOf x) (lsbOf w) (decodeScale g.smode sx) (decodeScale g.smode sw)
      (BlockSum.add {} ps) a.info.anchor a) start

/-- R176: what a strip that met poison writes: canonical NaN, or a RAW record with the NaN tag, whose sum
`x` the rule leaves open (notes/assumptions/119.md). -/
def gemvPoisonOut (g : Gemv) (x : Nat) : Nat :=
  match drainFmt g.target with
  | some f => f.nan.getD 0
  | none => recBits { info := { anchor := g.anchor, pair := g.pair, smode := g.smode, tag := .nan, loss := x.testBit 96 }, val := x % 2 ^ 96 }

/-! ### NEARMEM_ATTEND (R167 to R173) -/

structure Attend where
  nmv : Nat
  qcode : Nat
  kcode : Nat
  smode : Nat
  target : Nat
  sat : Bool
  rtz : Bool
  lse : Bool
  dcode : Nat
  g : Nat
  anchorS : Int
  anchorV : Int
  plbase : Nat
  qbase : Nat
  obase : Nat
  lbase : Nat
  len : Nat
  tstart : Nat
  dscale : BitVec 32
deriving DecidableEq, Repr

def attendOf (c : List (BitVec 32)) : Attend :=
  { nmv := cmdField c 2 27 24, qcode := cmdField c 2 23 20, kcode := cmdField c 2 19 16, smode := cmdField c 2 15 14,
    target := cmdField c 2 13 10, sat := (c.getD 2 0).getLsbD 9, rtz := (c.getD 2 0).getLsbD 8,
    lse := (c.getD 2 0).getLsbD 7, dcode := cmdField c 2 6 5, g := cmdField c 2 3 0 + 1,
    anchorS := toSigned 10 (cmdField c 3 31 22), anchorV := toSigned 10 (cmdField c 3 21 12),
    plbase := cmdQuad c 4, qbase := cmdQuad c 6, obase := cmdQuad c 8, lbase := cmdQuad c 10,
    len := cmdField c 12 23 0, tstart := cmdField c 13 23 0, dscale := c.getD 14 0 }

def Attend.d (a : Attend) : Nat := 64 * 2 ^ a.dcode
def Attend.fp6 (a : Attend) : Bool := a.kcode == 2 || a.kcode == 3
/-- R167: token positions in a page. -/
def Attend.tokens (a : Attend) : Nat :=
  if a.fp6 then (match a.dcode with | 0 => 1280 | 1 => 640 | _ => 320)
  else (match a.dcode with | 0 => 1024 | 1 => 512 | _ => 256)
def Attend.block (a : Attend) : Nat := if a.smode = 1 then 32 else 16
def Attend.outBytes (a : Attend) : Nat := drainBytes a.target false

/-- Page-list entry that covers a token position, as its four addresses (R169). -/
def Attend.entryAddr (a : Attend) (i : Nat) : Nat := a.plbase + 32 * i
/-- R170: the page-list entries read: ⌊TSTART / T⌋ to ⌈L / T⌉ − 1. -/
def Attend.entries (a : Attend) : List Nat :=
  let lo := a.tstart / a.tokens
  let hi := (a.len + a.tokens - 1) / a.tokens
  (List.range (hi - lo)).map (lo + ·)

/-- Value of code element k of token t at a page (R167). -/
def Attend.pageElem (rd : Nat → Nat → Nat) (a : Attend) (page t k : Nat) : Nat :=
  packedElem rd a.kcode page (t * a.d + k)
/-- Scale byte of block b of token t (R168). -/
def Attend.pageScale (rd : Nat → Nat → Nat) (a : Attend) (base t b : Nat) : Nat :=
  rd (base + t * (a.d / a.block) + b) 1

def fAdd (x y : Nat) : Nat := (f32.add .rne (f32.unpack x) (f32.unpack y)).1
def fSub (x y : Nat) : Nat := (f32.sub .rne (f32.unpack x) (f32.unpack y)).1
def fMul (x y : Nat) : Nat := (f32.mul .rne (f32.unpack x) (f32.unpack y)).1
def fFma (x y z : Nat) : Nat := (f32.fma .rne (f32.unpack x) (f32.unpack y) (f32.unpack z)).1
def fMax (x y : Nat) : Nat := (f32.maxOp x y).1
def fAMax (x y : Nat) : Nat := (f32.amaxOp x y).1
def sfu32 (op : SfuOp) (x : Nat) : Nat := (sfuEval op (BitVec.ofNat 32 x)).1.toNat
def fNegInf : Nat := 0xFF800000

/-- A drain to FP32 of an accumulator, rounded once (R69). -/
def drainF32 (a : AccV) (dscale : BitVec 32) : Drained := drainAcc nFP32 false false a dscale

/-- The score accumulator of query i and token t: the exact dot product over d (R172). -/
def attendScore (rd : Nat → Nat → Nat) (a : Attend) (i kpage kscale t : Nat) : AccV :=
  let anchor := passAnchor (a.qcode * 16 + a.kcode) a.smode a.anchorS
  let bl := a.block
  (List.range (a.d / bl)).foldl (fun acc b =>
    let ps := (List.range bl).map (fun j =>
      let k := b * bl + j
      mulElem (decodeElem a.qcode (rd (a.qbase + i * a.d + k) 1)) (decodeElem a.kcode (a.pageElem rd kpage t k)))
    let sq := rd (a.qbase + a.g * a.d + i * (a.d / bl) + b) 1
    accBlock false (lsbOf a.qcode) (lsbOf a.kcode) (decodeScale a.smode sq)
      (decodeScale a.smode (a.pageScale rd kscale t b)) (BlockSum.add {} ps) anchor acc)
    { info := { anchor := anchor, pair := a.qcode * 16 + a.kcode, smode := a.smode }, val := 0 }

/-- R172: one block of 32 probabilities quantised to E4M3 with an MX32 scale: scale byte and codes. -/
def quantP (p : List Nat) : Nat × List Nat :=
  let am := p.foldl fAMax 0
  if (f32.flt am 0x35800000).1 then (127, p.map (fun _ => 0))
  else
    let sc := (qscaleMx 0 (BitVec.ofNat 32 am)).toNat
    let inv := (qinv false (BitVec.ofNat 32 sc)).1.toNat
    (sc, p.map (fun x => (nE4M3.narrow true (f32.unpack (fMul x inv))).1))

/-- Add one product of a probability and a value element, each with its own scale, to the value accumulator
(R172). -/
def attendValStep (a : Attend) (acc : AccV) (ps pe vs ve : Nat) : AccV :=
  let pr := mulElem (decodeElem 0 pe) (decodeElem a.kcode ve)
  match decodeScale 1 ps, decodeScale a.smode vs with
  | .pow e, .pow f => accBlock false (-9) (lsbOf a.kcode) (.pow e) (.pow f) { s := pr.1, tag := pr.2 } acc.info.anchor acc
  | .pow e, .int z => accBlock false (-9) (lsbOf a.kcode - 9) (.pow e) (.pow 0)
      { s := pr.1 * (z : Nat), tag := pr.2 } acc.info.anchor acc
  | _, _ => { acc with info := { acc.info with tag := .nan } }

/-- The running softmax state of one query: m, ℓ and o (R172), and the flag bits of its products. -/
structure SoftState where
  m : Nat := 0xFF800000
  l : Nat := 0
  o : List Nat
  flags : Nat := 0
deriving DecidableEq, Repr

def accFlagBits (x : AccV) (d : Drained) : Nat :=
  (if x.info.tag == .nan || d.nan then 8 else 0) ||| (if x.info.tag == .pinf || x.info.tag == .ninf then 4 else 0) |||
  (if x.info.loss then 2 else 0) ||| (if d.dovf then 1 else 0)

/-- R172: one block of 64 positions for query i. `pos` is the block's first position; `ks`, `vs` its page and
scale addresses; `t0` its first token in the page. -/
def attendBlock (rd : Nat → Nat → Nat) (a : Attend) (i pos t0 kpage kscale vpage vscale : Nat) (st : SoftState) :
    SoftState :=
  let masked (j : Nat) : Bool := decide (pos + j < a.tstart) || decide (pos + j ≥ a.len)
  let sc := (List.range 64).map (fun j =>
    if masked j then (fNegInf, 0)
    else let x := attendScore rd a i kpage kscale (t0 + j)
         let d := drainF32 x a.dscale
         (d.bits, accFlagBits x d))
  let f1 := sc.foldl (fun x y => x ||| y.2) st.flags
  let mb := (sc.map (·.1)).foldl fMax fNegInf
  let mn := fMax st.m mb
  if mn = fNegInf then { st with flags := f1 }
  else
    let alpha := sfu32 .exp2 (fSub st.m mn)
    let p := sc.map (fun s => sfu32 .exp2 (fSub s.1 mn))
    let q0 := quantP (p.take 32)
    let q1 := quantP (p.drop 32)
    let pe (j : Nat) : Nat × Nat := if j < 32 then (q0.1, q0.2.getD j 0) else (q1.1, q1.2.getD (j - 32) 0)
    let init : AccV := { info := { anchor := a.anchorV, smode := a.smode }, val := 0 }
    let one : BitVec 32 := 0x3F800000
    let cs := (List.range a.d).map (fun k =>
      let x := (List.range 64).foldl (fun acc j =>
        if masked j then acc
        else attendValStep a acc (pe j).1 (pe j).2 (a.pageScale rd vscale (t0 + j) (k / a.block))
          (a.pageElem rd vpage (t0 + j) k)) init
      let d := drainF32 x one
      (d.bits, accFlagBits x d))
    let cl :=
      let blk (q : Nat × List Nat) (acc : AccV) : AccV :=
        accBlock false (-9) 0 (decodeScale 1 q.1) (.pow 0)
          (BlockSum.add {} (q.2.map (fun e => mulElem (decodeElem 0 e) (.int 1)))) acc.info.anchor acc
      let x := blk q1 (blk q0 init)
      drainF32 x one
    { m := mn
      l := fFma st.l alpha cl.bits
      o := (List.range a.d).map (fun k => fFma (st.o.getD k 0) alpha (cs.getD k (0, 0)).1)
      flags := cs.foldl (fun x y => x ||| y.2) f1 }

/-- All blocks of query i in ascending order; `page` gives the four addresses of a page-list entry. -/
def attendQuery (rd : Nat → Nat → Nat) (a : Attend) (page : Nat → Nat × Nat × Nat × Nat) (i : Nat) : SoftState :=
  let first := a.tstart / 64
  let last := (a.len + 63) / 64
  (List.range (last - first)).foldl (fun st n =>
    let pos := (first + n) * 64
    let e := page (pos / a.tokens)
    attendBlock rd a i pos (pos % a.tokens) e.1 e.2.1 e.2.2.1 e.2.2.2 st) { o := List.replicate a.d 0 }

/-- R172: output k of a query, and whether it is a NaN or overflowed. -/
def attendOut (a : Attend) (st : SoftState) (k : Nat) : Drained :=
  if st.m = fNegInf then { bits := 0 }
  else
    let y := fMul (st.o.getD k 0) (sfu32 .rcp st.l)
    match drainFmt a.target with
    | none => { bits := 0 }
    | some f => match f32.unpack y with
      | .nan _ => drainConvert f a.rtz a.sat .nan 0 0 0x3F800000
      | .inf s => drainConvert f a.rtz a.sat (Tag.ofInf s) 0 0 0x3F800000
      | .fin s m e => drainConvert f a.rtz a.sat .none (if s then -(m : Int) else (m : Int)) e 0x3F800000

/-- R172: L = m + log2 ℓ; −Inf for a wholly masked query. -/
def attendLse (st : SoftState) : Nat :=
  if st.m = fNegInf then fNegInf else fAdd st.m (sfu32 .log2 st.l)

end Sys2Proof.Machine
end

