-- ==== Sys2Proof/Machine/NearMem.lean ====
section
/-! DEFINITION. NEARMEM commands, one safe point at each invocation (R157 to R177): GEMV strip by strip, ATTEND page by
page. -/

namespace Sys2Proof.Machine

open Sys2Proof

/-! ## Engines' runs -/

/-- A run ends with a status on an instance. -/
def Dev.failAt (d : Dev) (r inst : Nat) (s : Status) (info : Nat := 0) : Dev :=
  (d.setRun r (fun v => if v.began then v else { v with inst := inst, start := d.time, began := true })).failRun r s info

/-- An engine's access of a run ended: a fault holds it, a refusal ends the run. -/
def Dev.runEnd (d : Dev) (r : Nat) (w : Who) (a : Acs) : Dev := d.acsEnd w a (fun d s => d.failRun r s)

/-- A run of the class on this instance. -/
def Dev.instBusy (d : Dev) (cls inst : Nat) : Bool := d.cp.runs.any (fun e => e.2.cls == cls && e.2.began && !e.2.done && e.2.inst == inst)

/-- The accesses of a write that would be held or would wait, checked before any byte is written. -/
def Dev.writeReady (d : Dev) (w : Who) (va n : Nat) : Acs × Dev :=
  (cut 128 va n).foldl (fun a p =>
    match a with
    | (.ok, d) =>
      match d.resolve w p.1 .write with
      | (.ok, h, _, d) => (match d.verdict h w.ctx true with | .wait => (.wait, d) | _ => (.ok, d))
      | (.fail _, _, _, d) => (.ok, d)
      | (e, _, _, d) => (e, d)
    | r => r) (.ok, d)

/-- Write a list of ranges in order. -/
def Dev.writeAll (d : Dev) (w : Who) (l : List (Nat × List Byte)) : Acs × Dev :=
  l.foldl (fun a e => match a with | (.ok, d) => d.writeV w e.1 e.2 | r => r) (.ok, d)

/-- Make sure that every range can be written without a wait, then write them. -/
def Dev.writeOutputs (d : Dev) (w : Who) (l : List (Nat × List Byte)) : Acs × Dev :=
  match l.foldl (fun (a : Acs × Dev) e => match a with | (.ok, d) => d.writeReady w e.1 e.2.length | r => r) (.ok, d) with
  | (.ok, d) => d.writeAll w l
  | r => r

/-! ## The stream (R158 to R161) -/

/-- A run's accesses through its NMV's translation cache. -/
def Dev.whoNmv (d : Dev) (r g : Nat) : Who := { d.whoRun r with tlb := 8 + g, cls := 1, inst := g }

/-- What a look at stream pages ends in. -/
inductive StreamEnd where
  | ok (pages : List (Nat × Nat)) (bad : Bool)
  | access (a : Acs)
deriving DecidableEq, Repr

/-- R158: the physical address of a virtual page of 64 KiB for the stream of Glume g: its stack-direct slot. -/
def Dev.streamPage (d : Dev) (w : Who) (g va : Nat) : (Acs × Nat) × Dev :=
  match d.translate w.tlb w.ctx va .read with
  | (.ok e level, d) =>
    let pa := pteFrame e + va / 65536 * 65536 % (if level = 2 then 2 ^ 29 else 65536)
    if e.testBit 6 || decide (pa < 0x10000000000 + g * 2 ^ 36) || decide (0x10000000000 + g * 2 ^ 36 + 0xC00000000 ≤ pa) then ((.fail .placement, 0), d)
    else ((.ok, pa), d)
  | (.fault c l, d) => ((.fault c l va .read, 0), d)
  | (.status s, d) => ((.fail s, 0), d)
  | (.wait, d) => ((.wait, 0), d)

/-- R158, R161: check the pieces of stream ranges, page by page: placement, granules, poison. -/
def Dev.streamCheck (d : Dev) (w : Who) (g : Nat) (ps : List (Nat × Nat)) (pages : List (Nat × Nat)) (bad : Bool) : StreamEnd × Dev :=
  match ps with
  | [] => (.ok pages bad, d)
  | (va, n) :: rest =>
    match d.streamPage w g va with
    | ((.ok, pa), d) =>
      let at_ := fun v => d.home (pa + v % 65536)
      match ((cut 128 va n).map (fun p => d.verdict (at_ p.1) w.ctx false)).find? (· != .pass) with
      | some (.refuse s) => (.access (.fail s), d)
      | some .wait => (.access .wait, d)
      | _ =>
        let b := (cut 128 va n).any (fun p => d.badHome (at_ p.1) p.2)
        ((cut 128 va n).foldl (fun d p => d.poisonRead .engine (at_ p.1) p.2) d).streamCheck w g rest ((va / 65536, pa) :: pages) (bad || b)
    | ((a, _), d) => (.access a, d)

/-- Check stream ranges. -/
def Dev.stream (d : Dev) (w : Who) (g : Nat) (rs : List (Nat × Nat)) : StreamEnd × Dev :=
  d.streamCheck w g (rs.flatMap (fun r => cut 65536 r.1 r.2)) [] false

/-- R159: a byte as DRAM holds it: a line modified in a cache reads in its DRAM state. -/
def Dev.dramByte (d : Dev) (a : Nat) : Byte :=
  match d.ms.stale.find (a / 128) with
  | some v => (v >>> (8 * (a % 128))).setWidth 8
  | none => d.ms.mem.read a

/-- A stream byte at a virtual address of checked pages. -/
def Dev.streamByte (d : Dev) (pages : List (Nat × Nat)) (va : Nat) : Byte :=
  match pages.find? (fun p => p.1 == va / 65536) with
  | some p => (match d.home (p.2 + va % 65536) with | .hbm a => d.dramByte a | _ => 0)
  | none => 0

/-- Where staged data and CONT records stand for the arithmetic: above every virtual address. -/
def stageBase : Nat := 2 ^ 57

/-- The bytes the NMV computes on: staged ones at `stageBase` and up, else the stream. -/
def Dev.nmvRead (d : Dev) (pages : List (Nat × Nat)) (stage : List Byte) (va n : Nat) : Nat :=
  ofLe ((List.range n).map (fun i => if stageBase ≤ va + i then stage.getD (va + i - stageBase) 0 else d.streamByte pages (va + i)))

/-! ## Common course -/

/-- R175, R154: what turns a command away that reaches its NMV: EN, the interleave set. -/
def Dev.nmvGate (d : Dev) (g : Nat) : Chk :=
  if !d.bit (rGlmNmvctl g) 31 then some (.busy, 0)
  else if !d.setOnline (g / 3) then some (.memOffline, 0) else none

/-- R157: commands of one NMV run one at a time, in the order of their dispatch. -/
def Dev.nmvTurn (d : Dev) (r g : Nat) : Bool :=
  !d.instBusy 1 g && !d.cp.runs.any (fun e => decide (e.1 < r) && e.2.cls == 1 && !e.2.began && e.2.cmd.f 2 27 24 == g)

/-- A NEARMEM command as one invocation sees it: checks when it is reached, a free NMV, then its next step. -/
def Dev.nearmem (d : Dev) (r op : Nat) (bad : Cmd → Chk) (step : Dev → Run → Nat → Dev) : Dev :=
  match d.run? r with
  | none => d
  | some v =>
    let g := v.cmd.f 2 27 24
    if v.cmd.op != op || v.done || d.faultHeld (.cmd r) then d
    else if !v.began then
      match firstBad [bad v.cmd, d.nmvGate g] with
      | some (s, i) => d.failAt r (if 11 < g then 0 else g) s i
      | none => if d.nmvTurn r g then (d.beginRun r g).setGlume g (fun x => { x with stage := [] }) else d
    else if !d.setOnline (g / 3) then d.failRun r .memOffline
    else if d.atSafePoint r v then d
    else step d v g

/-- A step of the run is done. -/
def Dev.nextStep (d : Dev) (r : Nat) : Dev := d.setRun r (fun v => { v with step := v.step + 1 })

/-- R77, GLM_NMVFLAG: sticky flags. -/
def Dev.nmvFlag (d : Dev) (g v : Nat) : Dev := d.setReg (rGlmNmvflag g) (d.reg (rGlmNmvflag g) ||| v)

/-- GLM_NMVBEATS: the beats of 2,048 bytes consumed when a command's stream has gone from `a` to `b` bytes. -/
def Dev.nmvBeats (d : Dev) (g a b : Nat) : Dev := d.addWrap (rGlmNmvbeats g) 63 0 (b / 2048 - a / 2048)

/-! ## NEARMEM_GEMV (R162 to R166) -/

/-- R162, R166, R175: the checks of NEARMEM_GEMV. -/
def gemvBad (c : Cmd) : Chk :=
  let g := gemvOf c.words
  let x := g.pair / 16
  let w := g.pair % 16
  firstBad [badIf (c.f 2 31 28 != 0 || c.f 2 6 4 != 0 || decide (11 < g.nmv) || !pairLegal x w || decide (7 ≤ x) ||
      !smodeLegal g.smode x || !smodeLegal g.smode w || !(decide (g.target ≤ 4) || g.target == 15) || (g.cont && g.target != 15)) 2,
    badIf (c.f 3 21 0 != 0) 3, badIf (g.nt == 0 || g.kt == 0) 14, badIf (decide (4 * 2 ^ 20 < g.residentBytes)) 2,
    protIf (gemvMisaligned c.words)]

/-- The vector bytes of all B vectors. -/
def Gemv.vecBytes (g : Gemv) : Nat := g.b * (g.k * packedBits (g.pair / 16) / 8)

/-- The vector scale bytes. -/
def Gemv.sclBytes (g : Gemv) : Nat := if g.smode = 0 then 0 else g.b * (g.k / g.block)

/-- The stream bytes of one strip. -/
def Gemv.stripBytes (g : Gemv) : Nat := g.kt * (tileBytes g.cls + if g.smode = 0 then 0 else g.scaleTile)

/-- The outputs of strip s, one row of 128 for each vector. -/
def gemvRows (g : Gemv) (s : Nat) (f : Nat → Nat → Nat) : List (Nat × List Byte) :=
  (List.range g.b).map (fun v => (g.outAddr v (128 * s), (List.range 128).flatMap (fun col => leBytes g.outBytes (f v col))))

/-- R166: the RAW records of a strip: 128 of each vector. -/
def Dev.contRecords (d : Dev) (w : Who) (g : Gemv) (s : Nat) : Acs × List Byte × Bool × Dev :=
  d.readPieces w ((List.range g.b).flatMap (fun v => cut 128 (g.outAddr v (128 * s)) 2048))

/-- The command with its resident data at `stageBase`: vectors, their scales, and CONT records behind them so that
element (v, n) of strip s stands at place v × 128 + (n − 128 s). -/
def Gemv.staged (g : Gemv) : Gemv := { g with xbase := stageBase, xsbase := stageBase + g.vecBytes }

/-- R164, R166: the accumulator of column col and vector v of strip s. -/
def stripAcc (rd : Nat → Nat → Nat) (g : Gemv) (s col v : Nat) : AccV :=
  let o := stageBase + g.vecBytes + g.sclBytes + (v * 128 + col) * 16
  gemvAcc rd { g.staged with obase := o - (v * g.n + 128 * s + col) * g.outBytes } s col v

/-- R69, R70, R164: the drained output of an accumulator. -/
def stripOut (g : Gemv) (a : AccV) : Drained :=
  match drainFmt g.target with
  | some f => drainAcc f g.rtz g.sat a g.dscale
  | none => { bits := recBits a }

/-- GLM_NMVFLAG: the flags an accumulator and its output set. -/
def stripFlag (a : AccV) (o : Drained) : Nat := (if a.info.mismatch then 16 else 0) ||| accFlagBits a o

/-- A strip's outputs are written, and the command goes on or ends. -/
def Dev.gemvWrite (d : Dev) (r : Nat) (w : Who) (g : Gemv) (s flags : Nat) (poison : Bool) (rows : List (Nat × List Byte)) : Dev :=
  match d.writeOutputs w rows with
  | (.ok, d) =>
    let d := rows.foldl (fun d e => d.notePorts r e.1 e.2.length) ((d.fabDone w.waiter).nmvFlag g.nmv flags)
    let d := d.nmvBeats g.nmv (s * g.stripBytes) ((s + 1) * g.stripBytes)
    if poison then d.failRun r .poison
    else if s + 1 = g.nt then d.endRun r else d.nextStep r
  | (a, d) => d.runEnd r w a

/-- R176: a strip that met poison. -/
def Dev.gemvPoison (d : Dev) (r : Nat) (w : Who) (g : Gemv) (s : Nat) : Dev :=
  { d with free := d.free + 1 }.gemvWrite r w g s 8 true
    (gemvRows g s (fun vec col => gemvPoisonOut g (Config.poisonSum d.free (128 * vec + col)).toNat))

/-- R164, R166: one strip. -/
def Dev.gemvStep (d : Dev) (v : Run) (r nmv : Nat) : Dev :=
  let g := gemvOf v.cmd.words
  let w := d.whoNmv r nmv
  if v.step = 0 then
    match d.readPieces w (cut 128 g.xbase g.vecBytes ++ cut 128 g.xsbase g.sclBytes) with
    | (.ok, l, bad, d) =>
      let d := d.fabDone w.waiter
      if bad then d.gemvPoison r w g 0 else (d.setGlume nmv (fun x => { x with stage := l })).nextStep r
    | (a, _, _, d) => d.runEnd r w a
  else
    let s := v.step - 1
    match (if g.cont then d.contRecords w g s else (.ok, [], false, d)) with
    | (.ok, recs, badC, d) =>
      let tiles := (g.tileAddr s 0, g.kt * tileBytes g.cls)
      match d.stream w nmv (if g.smode = 0 then [tiles] else [tiles, (g.scaleTileAddr s 0, g.kt * g.scaleTile)]) with
      | (.ok pages bad, d) =>
        let d := d.fabDone w.waiter
        if bad || badC then d.gemvPoison r w g s
        else
          let rd := d.nmvRead pages ((d.glume nmv).stage ++ recs)
          let acc := fun vec col => stripAcc rd g s col vec
          let flags := ((List.range g.b).flatMap (fun vec => (List.range 128).map (fun col =>
            stripFlag (acc vec col) (stripOut g (acc vec col))))).foldl (· ||| ·) 0
          d.gemvWrite r w g s flags false (gemvRows g s (fun vec col => (stripOut g (acc vec col)).bits))
      | (.access a, d) => d.runEnd r w a
    | (a, _, _, d) => d.runEnd r w a

/-- R162 to R166: NEARMEM_GEMV. -/
def Dev.gemv (d : Dev) (r : Nat) : Dev := d.nearmem r 0x40 gemvBad (fun d v g => d.gemvStep v r g)

/-! ## NEARMEM_ATTEND (R167 to R173) -/

/-- R167, R171, R175: the checks of NEARMEM_ATTEND. -/
def attendBad (c : Cmd) : Chk :=
  let a := attendOf c.words
  firstBad [badIf (c.f 2 31 28 != 0 || c.f 2 4 4 != 0 || decide (11 < a.nmv) || decide (1 < a.qcode) || decide (3 < a.kcode) ||
      !(a.smode == 1 || a.smode == 2) || !smodeLegal a.smode a.qcode || !smodeLegal a.smode a.kcode || decide (4 < a.target) ||
      decide (2 < a.dcode)) 2,
    badIf (c.f 3 11 0 != 0) 3, badIf (c.f 12 31 24 != 0) 12, badIf (c.f 13 31 24 != 0 || decide (a.len < a.tstart)) 13, badIf (c.w 15 != 0) 15,
    protIf (a.plbase % 32 != 0)]

/-- Query bytes and their scales. -/
def Attend.queryBytes (a : Attend) : Nat := a.g * a.d + a.g * (a.d / a.block)

/-- Bytes of one token's elements. -/
def Attend.tokenBytes (a : Attend) : Nat := a.d * packedBits a.kcode / 8

/-- The four addresses of the page-list entry at place i of those staged behind the queries. -/
def attendPage (a : Attend) (stage : List Byte) (i : Nat) : Nat × Nat × Nat × Nat :=
  let q := fun k => ofLe ((stage.drop (a.queryBytes + 32 * i + 8 * k)).take 8)
  (q 0, q 1, q 2, q 3)

/-- R170: the stream ranges of page i: the positions that are read, of keys, values and their scales. -/
def attendRanges (a : Attend) (i : Nat) (p : Nat × Nat × Nat × Nat) : List (Nat × Nat) :=
  let lo := max a.tstart (i * a.tokens) - i * a.tokens
  let hi := min a.len ((i + 1) * a.tokens) - i * a.tokens
  let s := a.d / a.block
  [(p.1 + lo * a.tokenBytes, (hi - lo) * a.tokenBytes), (p.2.1 + lo * s, (hi - lo) * s),
   (p.2.2.1 + lo * a.tokenBytes, (hi - lo) * a.tokenBytes), (p.2.2.2 + lo * s, (hi - lo) * s)]

/-- R167, R168: a page-list entry is misaligned, or its scale block crosses a boundary. -/
def attendCrooked (a : Attend) (p : Nat × Nat × Nat × Nat) : Bool :=
  let n := a.tokens * (a.d / a.block)
  let cross := fun (b : Nat) => b % 64 != 0 || decide (65536 < b % 65536 + n)
  p.1 % 65536 != 0 || p.2.2.1 % 65536 != 0 || cross p.2.1 || cross p.2.2.2

/-- The outputs of an ATTEND: one row for each query, then L where LSE is 1. -/
def attendRows (a : Attend) (f : Nat → Nat → Nat) (l : Nat → Nat) : List (Nat × List Byte) :=
  (List.range a.g).map (fun i => (a.obase + i * a.d * a.outBytes, (List.range a.d).flatMap (fun k => leBytes a.outBytes (f i k)))) ++
  (if a.lse then [(a.lbase, (List.range a.g).flatMap (fun i => leBytes 4 (l i)))] else [])

/-- The outputs of an ATTEND are written and the command ends. -/
def Dev.attendWrite (d : Dev) (r : Nat) (w : Who) (a : Attend) (flags : Nat) (poison : Bool) (rows : List (Nat × List Byte)) : Dev :=
  match d.writeOutputs w rows with
  | (.ok, d) =>
    let d := rows.foldl (fun d e => d.notePorts r e.1 e.2.length) ((d.fabDone w.waiter).nmvFlag a.nmv flags)
    if poison then d.failRun r .poison else d.endRun r
  | (e, d) => d.runEnd r w e

/-- R176: an ATTEND that met poison. -/
def Dev.attendPoison (d : Dev) (r : Nat) (w : Who) (a : Attend) : Dev :=
  let nan := match drainFmt a.target with | some f => f.nan.getD 0 | none => 0
  d.attendWrite r w a 8 true (attendRows a (fun _ _ => nan) (fun _ => nFP32.nan.getD 0))

/-- R172: every page has been met: the outputs. -/
def Dev.attendFinish (d : Dev) (r : Nat) (w : Who) (a : Attend) (pages : List (Nat × Nat)) : Dev :=
  let stage := (d.glume a.nmv).stage
  let rd := d.nmvRead pages stage
  let a' := { a with qbase := stageBase }
  let lo := a.tstart / a.tokens
  let st := fun i => if a.tstart = a.len then ({ o := List.replicate a.d 0 } : SoftState)
    else attendQuery rd a' (fun p => attendPage a stage (p - lo)) i
  let flags := ((List.range a.g).flatMap (fun i => (st i).flags :: (List.range a.d).map (fun k =>
    let o := attendOut a (st i) k
    (if o.nan then 8 else 0) ||| (if o.dovf then 1 else 0)))).foldl (· ||| ·) 0
  d.attendWrite r w a flags false (attendRows a (fun i k => (attendOut a (st i) k).bits) (fun i => attendLse (st i)))

/-- R169 to R172: one page, or after the last one the outputs. -/
def Dev.attendStep (d : Dev) (v : Run) (r nmv : Nat) : Dev :=
  let a := attendOf v.cmd.words
  let w := d.whoNmv r nmv
  let es := a.entries
  if v.step = 0 then
    match d.readPieces w (cut 128 a.qbase a.queryBytes ++ es.flatMap (fun i => cut 128 (a.entryAddr i) 32)) with
    | (.ok, l, bad, d) =>
      let d := d.fabDone w.waiter
      if bad then d.attendPoison r w a else (d.setGlume nmv (fun x => { x with stage := l })).nextStep r
    | (e, _, _, d) => d.runEnd r w e
  else
    let stage := (d.glume nmv).stage
    let ranges := fun (k : Nat) => attendRanges a (es.getD k 0) (attendPage a stage k)
    let k := v.step - 1
    if k < es.length then
      if attendCrooked a (attendPage a stage k) then d.failRun r .protection
      else match d.stream w nmv (ranges k) with
        | (.ok _ bad, d) =>
          let bytes := fun n => ((List.range n).map (fun k => ((ranges k).map (·.2)).sum)).sum
          if bad then d.attendPoison r w a else (d.nmvBeats nmv (bytes k) (bytes (k + 1))).nextStep r
        | (.access e, d) => d.runEnd r w e
    else match d.stream w nmv ((List.range es.length).flatMap ranges) with
      | (.ok pages bad, d) => if bad then d.attendPoison r w a else d.attendFinish r w a pages
      | (.access e, d) => d.runEnd r w e

/-- R167 to R173: NEARMEM_ATTEND. -/
def Dev.attend (d : Dev) (r : Nat) : Dev := d.nearmem r 0x41 attendBad (fun d v g => d.attendStep v r g)

/-! ## Their commands -/

/-- R164, R162 to R166: NEARMEM_GEMV. -/
def execNearmemGemv (run : Nat) (s : State) : Out := doCmd true (fun d => d.gemv run) s

/-- R172, R167 to R173: NEARMEM_ATTEND. -/
def execNearmemAttend (run : Nat) (s : State) : Out := doCmd true (fun d => d.attend run) s

end Sys2Proof.Machine
end

