-- ==== Sys2Proof/Machine/CopyEng.lean ====
section
/-! DEFINITION. Copy engines and tier movers (R408 to R412), range write-back (R413), multicast loads (R19 to R23, R56,
R415). -/

namespace Sys2Proof.Machine

open Sys2Proof

/-! ## COPY (R409) -/

/-- The tier of a home (R178): 0, 2, 3, 4, 5. -/
def Home.tier : Home → Option Nat
  | .sram _ _ _ => some 0
  | .hbm _ => some 2
  | .core _ _ => some 3
  | .fabric _ _ => some 4
  | .host _ _ => some 5
  | _ => none

/-- R408: the instances a COPY's ENGINE allows, lowest first. -/
def copyInsts (e : Nat) : List Nat :=
  if e < 40 then [e]
  else if e = 0xF0 then List.range 16
  else if e = 0xF1 then (List.range 16).map (· + 16)
  else if e = 0xF2 then (List.range 8).map (· + 32)
  else []

/-- R408: whether an engine reads (`src`) or writes a tier. -/
def engineTier (inst : Nat) (src : Bool) : Option Nat → Bool
  | some t =>
    if inst < 16 then (if src then t == 5 else t == 0 || t == 2 || t == 3)
    else if inst < 32 then (if src then t == 0 || t == 2 || t == 3 else t == 5)
    else t == 0 || t == 2 || t == 3 || t == 4
  | none => false

/-- R409: the checks of COPY. -/
def copyBad (c : Cmd) : Chk :=
  firstBad [badIf ((copyInsts (c.f 2 31 24)).isEmpty || c.f 2 23 16 != 0 || c.f 2 15 0 == 0) 2, c.zeros 3 4,
    protIf (c.dw 4 % 64 != 0), c.zeros 6 16]

/-- A COPY-class command as one invocation sees it: checks when it is reached, a free instance, then its next step. -/
def Dev.copyClass (d : Dev) (r op : Nat) (bad : Cmd → Chk) (insts : Cmd → List Nat) (start : Dev → Run → Nat → Dev) (step : Dev → Run → Dev) : Dev :=
  match d.run? r with
  | none => d
  | some v =>
    if v.cmd.op != op || v.done || d.faultHeld (.cmd r) then d
    else if !v.began then
      match bad v.cmd with
      | some (s, i) => d.failAt r ((insts v.cmd).headD 0) s i
      | none =>
        match (insts v.cmd).find? (fun i => !d.instBusy 2 i) with
        | some i => start d v i
        | none => d
    else step d v

/-- R409: COPY takes an engine. -/
def Dev.copy (d : Dev) (r : Nat) : Dev :=
  d.copyClass r 0x50 copyBad (fun c => copyInsts (c.f 2 31 24)) (fun d _ i => d.beginRun r i) (fun d _ => d)

/-! ## Descriptors (R410, R411) -/

/-- A descriptor. -/
structure Desc where
  slay : Nat
  dlay : Nat
  fmt : Nat
  tr : Bool
  src : Nat
  dst : Nat
  rows : Nat
  cols : Nat
  spitch : Nat
  dpitch : Nat
deriving DecidableEq, Repr

/-- A descriptor from its words. -/
def descOf (w : List Nat) : Desc :=
  ⟨bitsOf (word w 0) 31 28, bitsOf (word w 0) 27 24, bitsOf (word w 0) 23 20, (word w 0).testBit 19, dword w 2, dword w 4, word w 6, word w 7,
   word w 8, word w 9⟩

/-- Bytes that n packed elements take. -/
def packedLen (fmt n : Nat) : Nat := (n * packedBits fmt + 7) / 8

/-- The bytes of a matrix of r × c elements in a layout, as ranges from its base. -/
def layRanges (lay fmt pitch r c : Nat) : List (Nat × Nat) :=
  match lay with
  | 1 => (List.range r).map (fun i => (i * pitch, packedLen fmt c))
  | 2 => (List.range c).map (fun i => (i * pitch, packedLen fmt r))
  | _ => [(0, (r + 127) / 128 * ((c + 127) / 128) * tileBytes (classOf fmt))]

/-- The rows and columns of the destination. -/
def Desc.dims (x : Desc) : Nat × Nat := if x.tr then (x.cols, x.rows) else (x.rows, x.cols)

/-- LINEAR: the bytes to copy. -/
def Desc.bytes (x : Desc) : Nat := x.rows + 2 ^ 32 * x.cols

/-- The bytes a descriptor writes. -/
def Desc.written (x : Desc) : Nat :=
  if x.dlay = 0 then x.bytes
  else match x.dlay with
    | 1 => x.dims.1 * packedLen x.fmt x.dims.2
    | 2 => x.dims.2 * packedLen x.fmt x.dims.1
    | _ => (x.dims.1 + 127) / 128 * ((x.dims.2 + 127) / 128) * tileBytes (classOf x.fmt)

/-- R410, R411: a pitch that its layout does not allow. -/
def pitchBad (lay fmt pitch r c : Nat) : Bool :=
  match lay with
  | 1 => pitch % 8 != 0 || decide (pitch < packedLen fmt c)
  | 2 => pitch % 8 != 0 || decide (pitch < packedLen fmt r)
  | _ => pitch != 0

/-- R410, R411: the checks of a descriptor. -/
def descBad (w : List Nat) : Chk :=
  let x := descOf w
  let lin := x.slay == 0
  let dim := fun n => !lin && decide (n = 0 ∨ 1048576 < n)
  firstBad [badIf (decide (3 < x.slay) || decide (3 < x.dlay) || decide (9 < x.fmt) || ((x.slay == 0) != (x.dlay == 0)) ||
      (lin && (x.fmt != 9 || x.tr)) || bitsOf (word w 0) 17 0 != 0) 0,
    badIf (word w 1 != 0) 1, badIf (dim x.rows) 6, badIf (dim x.cols) 7,
    badIf (pitchBad x.slay x.fmt x.spitch x.rows x.cols) 8, badIf (pitchBad x.dlay x.fmt x.dpitch x.dims.1 x.dims.2) 9,
    ((List.range 16).find? (fun k => decide (10 ≤ k) && word w k != 0)).map (fun k => (.invalidField, k)),
    badIf (decide (2 ^ 30 < x.written)) 6]

/-- The ranges a descriptor reads, at virtual addresses. -/
def Desc.srcRanges (x : Desc) : List (Nat × Nat) :=
  if x.slay = 0 then [(x.src, x.bytes)]
  else (layRanges x.slay x.fmt x.spitch x.rows x.cols).map (fun p => (x.src + p.1, p.2))

/-- The ranges it writes, from its destination's base. -/
def Desc.dstRanges (x : Desc) : List (Nat × Nat) :=
  if x.dlay = 0 then [(0, x.bytes)] else layRanges x.dlay x.fmt x.dpitch x.dims.1 x.dims.2

/-- R54, R58, R411: the place of element (r, c) in a layout, in bits from its base. -/
def layBit (lay fmt pitch rows r c : Nat) : Nat :=
  match lay with
  | 1 => r * pitch * 8 + c * packedBits fmt
  | 2 => c * pitch * 8 + r * packedBits fmt
  | _ =>
    let cls := classOf fmt
    (c / 128 * ((rows + 127) / 128) + r / 128) * tileBytes cls * 8 +
    (if cls = 1 then ((r % 128 / 16 * 128 + c % 128) * 8 + r % 16 / 2) * 8 + 4 * (r % 2) else tileOff cls (r % 128) (c % 128) * 8)

/-- What bit `b` of the destination holds, from its base: bit i of element (r, c), or padding: zero in a tile, none where a
packed row ends within a byte. -/
def Desc.dstBit (x : Desc) (b : Nat) : Option (Nat × Nat × Nat) :=
  let (rows, cols) := x.dims
  let w := packedBits x.fmt
  let packed := fun (n : Nat) => (b % (x.dpitch * 8) / w, b % (x.dpitch * 8) % w, n)
  match x.dlay with
  | 1 => let (c, i, _) := packed 0; let r := b / (x.dpitch * 8)
         if r < rows ∧ c < cols then some (r, c, i) else none
  | 2 => let (r, i, _) := packed 0; let c := b / (x.dpitch * 8)
         if r < rows ∧ c < cols then some (r, c, i) else none
  | _ =>
    let cls := classOf x.fmt
    let t := b / (tileBytes cls * 8)
    let off := b / 8 % tileBytes cls
    let kt := (rows + 127) / 128
    let n := off / 8 % 128
    let (k, i) := match cls with
      | 1 => (off / 1024 * 16 + off % 8 * 2 + b % 8 / 4, b % 4)
      | 2 => (off / 1024 * 4 + off % 8 / 2, off % 2 * 8 + b % 8)
      | _ => (off / 1024 * 8 + off % 8, b % 8)
    let r := t % kt * 128 + k
    let c := t / kt * 128 + n
    if r < rows ∧ c < cols ∧ i < w then some (r, c, i) else none

/-! ## Moving data (R408, R412) -/

/-- A piece of source data: virtual address, bytes, poison, where it lies. -/
structure Piece where
  va : Nat
  bytes : List Byte
  bad : Bool
  mark : Nat
deriving DecidableEq, Repr

/-- Read the pieces of a descriptor's source; a page of another tier ends it with PROTECTION. -/
def Dev.gather (d : Dev) (w : Who) (inst : Nat) (ps : List (Nat × Nat)) (acc : List Piece) : Acs × List Piece × Dev :=
  match ps with
  | [] => (.ok, acc, d)
  | (va, n) :: rest =>
    match d.resolve w va .read with
    | (.ok, h, na, d) =>
      if !engineTier inst true h.tier then (.fail .protection, acc, d)
      else match d.readPiece w h n na with
        | (.ok, l, bad, d) => d.gather w inst rest (⟨va, l, bad, h.mark⟩ :: acc)
        | (a, _, _, d) => (a, acc, d)
    | (a, _, _, d) => (a, acc, d)

/-- A byte of gathered data, and whether its line was poisoned. -/
def pieceByte (ps : List Piece) (va : Nat) : Byte × Bool :=
  match ps.find? (fun p => decide (p.va ≤ va ∧ va < p.va + p.bytes.length)) with
  | some p => (p.bytes.getD (va - p.va) 0, p.bad)
  | none => (0, false)

/-- R412: the destination, as far as its pages translate, shares bytes with the source. -/
def Dev.overlaps (d : Dev) (w : Who) (ps : List Piece) (ds : List (Nat × Nat)) : Bool :=
  ds.any (fun p =>
    match d.resolve w p.1 .write with
    | (.ok, h, _, _) => h.tier.isSome && h.tier != some 4 && ps.any (fun q => decide (q.mark < h.mark + p.2 ∧ h.mark < q.mark + q.bytes.length))
    | _ => false)

/-- A byte of the destination at an offset from its base, and whether poison went into it. `pad` fills the bits of a packed
row's last byte that hold no element. -/
def Desc.dstByte (x : Desc) (ps : List Piece) (pad o : Nat) : Byte × Bool :=
  if x.dlay = 0 then pieceByte ps (x.src + o)
  else
    let bit := fun (i : Nat) =>
      match x.dstBit (8 * o + i) with
      | some (r, c, j) =>
        let (r, c) := if x.tr then (c, r) else (r, c)
        let b := layBit x.slay x.fmt x.spitch x.rows r c + j
        let (v, bad) := pieceByte ps (x.src + b / 8)
        (v.getLsbD (b % 8), bad)
      | none => (x.dlay != 3 && pad.testBit i, false)
    (BitVec.ofNat 8 (((List.range 8).map (fun i => if (bit i).1 then 2 ^ i else 0)).sum), (List.range 8).any (fun i => (bit i).2))

/-- R147: a written line built from poison is marked. -/
def Dev.markLine (d : Dev) (h : Home) (bad : Bool) : Dev :=
  match h.line with
  | some l => if bad then d.poisonLine l else d
  | none => d

/-- Write the pieces of a destination from the one after those already written; bytes already written stay. -/
def Dev.scatter (d : Dev) (r : Nat) (w : Who) (inst : Nat) (ps : List (Nat × List (Byte × Bool))) : Acs × Dev :=
  match ps with
  | [] => (.ok, d)
  | (va, l) :: rest =>
    match d.resolve w va .write with
    | (.ok, h, na, d) =>
      if !engineTier inst false h.tier then (.fail .protection, d)
      else match d.writePiece w h (l.map (·.1)) false na with
        | (.ok, d) =>
          let d := ((d.markLine h (l.any (·.2))).runPort r h).setRun r (fun v => { v with pos := v.pos + 1 })
          d.scatter r w inst rest
        | (a, d) => (a, d)
    | (a, _, _, d) => (a, d)

/-- R410 to R412: the descriptor in progress of a COPY. -/
def Dev.copyDescriptor (d : Dev) (r : Nat) : Dev :=
  match d.run? r with
  | none => d
  | some v =>
    if v.cmd.op != 0x50 || !v.began || v.done || d.faultHeld (.cmd r) || d.atSafePoint r v then d else
    let w := d.whoRun r
    match d.readV w (v.cmd.dw 4 + 64 * v.step) 64 with
    | (.ok, l, bad, d) =>
      let ws := bytesWords l
      if bad then d.failRun r .poison else
      match descBad ws with
      | some (s, i) => d.failRun r s i
      | none =>
        let x := descOf ws
        let ds := x.dstRanges.flatMap (fun p => cut 128 (x.dst + p.1) p.2)
        match d.gather w v.inst (x.srcRanges.flatMap (fun p => cut 128 p.1 p.2)) [] with
        | (.ok, ps, d) =>
          let mix := d.overlaps w ps ds
          let draw := d.free
          let (pad, d) := d.fresh
          let byte := fun o => if mix then (Config.mixByte draw o, ps.any (·.bad)) else x.dstByte ps pad.toNat o
          let out := (ds.drop v.pos).map (fun p => (p.1, (List.range p.2).map (fun i => byte (p.1 + i - x.dst))))
          match d.scatter r w v.inst out with
          | (.ok, d) =>
            let d := (d.fabDone w.waiter).setRun r (fun v => { v with pos := 0 })
            if ps.any (·.bad) then d.failRun r .poison
            else if v.step + 1 = v.cmd.f 2 15 0 then d.endRun r else d.nextStep r
          | (a, d) => d.runEnd r w a
        | (a, _, d) => d.runEnd r w a
    | (a, _, _, d) => d.runEnd r w a

/-! ## RANGE_WB (R413) -/

/-- R413: the checks of RANGE_WB. -/
def rangeWbBad (c : Cmd) : Chk :=
  firstBad [badIf (!(c.f 2 31 30 == 1 || c.f 2 31 30 == 2) || c.f 2 29 0 != 0) 2, c.zeros 3 4, protIf (c.dw 4 % 128 != 0),
    badIf (c.dw 6 % 128 != 0 || decide (2 ^ 40 < c.dw 6)) 6, c.zeros 8 16]

/-- R101, R413: one line is written back, and invalidated with FLUSH; a line of T5 goes out through its port. -/
def Dev.wbLine (d : Dev) (r : Nat) (h : Home) (drop : Bool) : Dev :=
  match h.line with
  | none => d
  | some l => (if d.modified l then d.runPort r h else d).recall l drop

/-- R413: one page of the range. -/
def Dev.rangeWbStep (d : Dev) (v : Run) (r : Nat) : Dev :=
  let ps := cut 65536 (v.cmd.dw 4) (v.cmd.dw 6)
  let w := d.whoRun r
  match ps[v.step]? with
  | none => d.endRun r
  | some (va, n) =>
    match d.resolve w va .read with
    | (.ok, h, _, d) =>
      let lines := (cut 128 va n).map (fun p => p.1 - va)
      let at_ := fun o => match h with | .hbm a => Home.hbm a | .core a p => .core (a + o) p | .host a p => .host (a + o) p | x => x
      let home := fun o => match h with
        | .hbm _ => (match d.resolve w (va + o) .read with | (.ok, x, _, _) => x | _ => h)
        | _ => at_ o
      let go := fun (d : Dev) => if v.step + 1 = ps.length then d.endRun r else d.nextStep r
      match h.tier with
      | some 0 => go d
      | some 4 => go d
      | _ =>
        match (lines.map (fun o => d.verdict (home o) w.ctx false)).find? (· != .pass) with
        | some (.refuse s) => d.failRun r s
        | some .wait => d
        | _ => go (lines.foldl (fun d o => d.wbLine r (home o) (v.cmd.f 2 31 30 == 2)) d)
    | (a, _, _, d) => d.runEnd r w a

/-- R413: RANGE_WB, on a tier mover. -/
def Dev.rangeWb (d : Dev) (r : Nat) : Dev :=
  d.copyClass r 0x51 rangeWbBad (fun _ => copyInsts 0xF2)
    (fun d v i => if v.cmd.dw 6 = 0 then (d.beginRun r i).endRun r else d.beginRun r i) (fun d v => d.rangeWbStep v r)

/-! ## MCAST_LOAD (R19 to R23, R415) -/

/-- The Tillers a MCAST_LOAD names. -/
def mcastTils (c : Cmd) : List Nat := (List.range 8).filter (fun t => (c.w 2).testBit (24 + t))

/-- R415: the checks of the fields. -/
def mcastBad (c : Cmd) : Chk :=
  firstBad [badIf (c.f 2 31 24 == 0 || c.f 2 23 0 != 0) 2, badIf (c.f 3 31 21 != 0 || c.f 3 20 0 % 128 != 0) 3, protIf (c.dw 4 % 128 != 0),
    badIf (c.dw 6 % 128 != 0 || decide (c.dw 6 < 128 ∨ 2097152 < c.dw 6 ∨ 0x200000 < c.f 3 20 0 + c.dw 6)) 6, protIf (c.dw 8 % 64 != 0), c.zeros 10 16]

/-- The running MCAST_LOADs. -/
def Dev.mcast (d : Dev) (r : Nat) : Mcast := d.mcasts.get {} r

/-- Change one. -/
def Dev.setMcast (d : Dev) (r : Nat) (f : Mcast → Mcast) : Dev := { d with mcasts := d.mcasts.upd {} r f }

/-- R19: the group of a command with more than one destination Tiller: one that holds its context and mask, a free one,
one whose context runs no MCAST_LOAD. -/
def Dev.mcastGroup (d : Dev) (ctx mask : Nat) : Option Nat :=
  let live := fun x => d.mcasts.any (fun e => d.runCtx e.1 == x)
  match lowest 256 (fun n => d.bit (rCrownMcgrp n) 31 && d.fld (rCrownMcgrp n) 19 8 == ctx && d.fld (rCrownMcgrp n) 7 0 == mask) with
  | some n => some n
  | none => match lowest 256 (fun n => !d.bit (rCrownMcgrp n) 31) with
    | some n => some n
    | none => lowest 256 (fun n => !live (d.fld (rCrownMcgrp n) 19 8))

/-- R415 step 1: the checks of the masks: INVALID_FIELD, DIE_LOST, PROTECTION. -/
def Dev.mcastMaskBad (d : Dev) (ctx : Nat) (tils : List Nat) (ws : List Nat) : Chk :=
  let mask := fun t => word ws (4 * t) + 2 ^ 32 * word ws (4 * t + 1) + 2 ^ 64 * (word ws (4 * t + 2) % 2 ^ 20)
  firstBad [badIf (tils.any (fun t => word ws (4 * t + 2) / 2 ^ 20 != 0 || word ws (4 * t + 3) != 0 || mask t == 0)) 8,
    if tils.any (fun t => !d.dieActive (slotTil t)) then some (.dieLost, 0) else none,
    protIf (tils.any (fun t => (List.range 84).any (fun k => (mask t).testBit k && !d.sramPass t k ctx)))]

/-- R415: MCAST_LOAD: checks, a group, the masks. -/
def Dev.mcastLoad (d : Dev) (r : Nat) : Dev :=
  d.copyClass r 0x52 mcastBad (fun _ => (List.range 16).map (· + 40)) (fun d v i =>
    let c := v.cmd
    let x := v.qid / 256
    let w := { d.whoRun r with inst := i }
    let tils := mcastTils c
    match d.readPieces w (tils.flatMap (fun t => cut 128 (c.dw 8 + 16 * t) 16)) with
    | (.ok, l, bad, d) =>
      let d := d.fabDone w.waiter
      let ws := (List.range 32).map (fun k => match tils.idxOf? (k / 4) with | some j => word (bytesWords l) (4 * j + k % 4) | none => 0)
      if bad then d.failAt r i .poison else
      match d.mcastMaskBad x tils ws with
      | some (s, n) => d.failAt r i s n
      | none =>
        let g := if tils.length < 2 then none else d.mcastGroup x (c.f 2 31 24)
        let d := match g with | some n => d.setReg (rCrownMcgrp n) (2 ^ 31 + x * 256 + c.f 2 31 24) | none => d
        let masks := tils.foldl (fun (m : SMap Nat) t =>
          m.set t (word ws (4 * t) + 2 ^ 32 * word ws (4 * t + 1) + 2 ^ 64 * (word ws (4 * t + 2) % 2 ^ 20))) []
        (d.setMcast r (fun _ => { masks := masks, group := g })).beginRun r i
    | (a, _, _, d) => d.runEnd r w a) (fun d _ => d)

/-- R23: the named Tillers that are still delivered to. -/
def Dev.mcastLive (d : Dev) (r : Nat) : List Nat :=
  (mcastTils (d.runCmd r)).filter (fun t => d.dieActive (slotTil t) && ((d.mcast r).masks.find t).isSome)

/-- R415: a MCAST_LOAD is over once nothing is left to deliver: every line has been read, or it was aborted, or no Tiller is
left. -/
def Dev.mcastSettle (d : Dev) (r : Nat) : Dev :=
  match d.run? r with
  | none => d
  | some v =>
    let live := d.mcastLive r
    let left := live.any (fun t => !((d.mcast r).buf.get [] t).isEmpty)
    let stop := v.aborting && v.step * 128 % 4096 == 0
    if v.done || left || !(live.isEmpty || stop || decide (v.step * 128 = v.cmd.dw 6) || v.pos == 1) then d
    else
      let d := if live.isEmpty then d.runStatus r .dieLost else if stop && v.step * 128 != v.cmd.dw 6 then d.runStatus r .aborted else d
      { (d.endRun r) with mcasts := d.mcasts.del r }

/-- R21, R22, R415: the next line is read once, when every destination's buffer of 64 lines has room. `pos` 1 marks a
command whose reading has ended in an error. -/
def Dev.mcastRead (d : Dev) (r : Nat) : Dev :=
  match d.run? r with
  | none => d
  | some v =>
    let live := d.mcastLive r
    if v.cmd.op != 0x52 || !v.began || v.done || d.faultHeld (.cmd r) || live.any (fun t => decide (64 ≤ ((d.mcast r).buf.get [] t).length)) then d
    else if live.isEmpty || (v.aborting && v.step * 128 % 4096 == 0) || v.step * 128 == v.cmd.dw 6 || v.pos == 1 then d.mcastSettle r
    else
      let w := d.whoRun r
      let fail := fun (d : Dev) (s : Status) => ((d.runStatus r s).setRun r (fun v => { v with pos := 1 })).mcastSettle r
      match d.resolve w (v.cmd.dw 4 + 128 * v.step) .read with
      | (.ok, .hbm a, _, d) =>
        (match d.readPiece w (.hbm a) 128 with
        | (.ok, l, bad, d) =>
          let d := if bad then d.runStatus r .poison else d
          (d.setMcast r (fun m => { m with buf := live.foldl (fun b t => b.upd [] t (· ++ [(128 * v.step, BitVec.ofNat 1024 (ofLe l), bad)])) m.buf })).nextStep r
        | (a, _, _, d) => d.acsEnd w a fail)
      | (.ok, _, _, d) => fail d .protection
      | (a, _, _, d) => d.acsEnd w a fail

/-- R56, R415: the oldest line for Tiller t is written into every named cluster. -/
def Dev.mcastDeliver (d : Dev) (r t : Nat) : Dev :=
  match d.run? r with
  | none => d
  | some v =>
    match (d.mcast r).buf.get [] t with
    | [] => d.mcastSettle r
    | (o, data, bad) :: rest =>
      if v.cmd.op != 0x52 || v.done || !d.dieActive (slotTil t) then d else
      let mask := (d.mcast r).masks.get 0 t
      let d := ((List.range 84).filter (fun k => mask.testBit k && d.clsEnabled t k)).foldl (fun d k =>
        let h := Home.sram t k (v.cmd.f 3 20 0 + o)
        (d.storeLine .engine h (leBytes 128 data.toNat)).markLine h bad) d
      (d.setMcast r (fun m => { m with buf := m.buf.set t rest })).mcastSettle r

/-! ## Their commands -/

/-- R409: COPY. -/
def execCopy (run : Nat) (s : State) : Out := doCmd true (fun d => d.copy run) s

/-- R412: a descriptor. -/
def execCopyDescriptor (run : Nat) (s : State) : Out := doCmd true (fun d => d.copyDescriptor run) s

/-- R413: RANGE_WB. -/
def execRangeWb (run : Nat) (s : State) : Out := doCmd true (fun d => d.rangeWb run) s

/-- R415: MCAST_LOAD. -/
def execMcastLoad (run : Nat) (s : State) : Out := doCmd true (fun d => d.mcastLoad run) s

/-- R21: a multicast line is read. -/
def execMcastLineRead (run : Nat) (s : State) : Out := doCmd true (fun d => d.mcastRead run) s

/-- R56: a multicast line is delivered. -/
def execMcastLineDeliver (run : Nat) (t : Nat) (s : State) : Out :=
  doCmd (decide (t < 8)) (fun d => d.mcastDeliver run t) s

end Sys2Proof.Machine
end

