-- ==== Sys2Proof/Machine/LaneCtl.lean ====
section
/-! DEFINITION. Lane control (R84, R87, R104), the special functions (R121) and the lane generator (R122, R373 to R375).
All are Ghety-L only. -/

namespace Sys2Proof.Machine

open Sys2Proof

/-- An instruction that only changes its sheaf. -/
def Dev.laneOp (d : Dev) (i : Instr) (a : Agent) (bad : Option Nat) (f : Sheaf → Sheaf) : Dev :=
  d.onlyL i a bad (fun k d => (.next, d.setSheaf k f))

/-- R87: a predicate field above 7. -/
def pBad (r : BitVec 5) : Bool := decide (7 < r.toNat)

/-- R87: a predicate from two predicates. -/
def Dev.predOp (d : Dev) (i : Instr) (a : Agent) (f : RF) (op : Bool → Bool → Bool) : Dev :=
  d.laneOp i a (cause1 (f.fn2 != 0 || pBad f.rd || pBad f.ra || pBad f.rb)) (fun s =>
    s.putP f.rd.toNat (fun l => op (s.getP f.ra.toNat l) (s.getP f.rb.toNat l)))

/-- R87: a predicate from two registers, with the flags a floating-point compare sets. -/
def Dev.pcmp (d : Dev) (i : Instr) (a : Agent) (f : RF) (op : BitVec 32 → BitVec 32 → Bool × FFlags) : Dev :=
  d.laneOp i a (cause1 (f.fn2 != 0 || pBad f.rd)) (fun s =>
    let r := fun l => op (s.getV f.ra.toNat l) (s.getV f.rb.toNat l)
    (s.putP f.rd.toNat (fun l => (r l).1)).addFlags (fun l => (r l).2))

/-- R87: PFCMP.UN: an operand is NaN. -/
def fcmpUn (x y : BitVec 32) : Bool × FFlags :=
  let a := f32.unpack x.toNat
  let b := f32.unpack y.toNat
  (a.isNaN || b.isNaN, sNaNFlag a ||| sNaNFlag b)

/-- R84: a mask instruction: `bad` says that it over- or underflows the stack, an illegal instruction; with an empty
mask no lane takes the exception and it has no effect. -/
def Dev.maskOp (d : Dev) (i : Instr) (a : Agent) (bad : Bool) (overflow : Sheaf → Bool) (f : Sheaf → Sheaf) : Dev :=
  d.onlyL i a (cause1 bad) (fun k d =>
    let s := d.sheaf k
    if overflow s then
      match s.first with
      | some l => (.exc 3 .illegalInstruction l, d)
      | none => (.next, d)
    else (.next, d.setSheaf k f))

/-- R104: SBAR: the sheaf waits at its barrier. -/
def Dev.sbar (d : Dev) (i : Instr) (a : Agent) (f : RF) : Dev :=
  d.onlyL i a (cause1 (f.fn2 != 0 || f.rb != 0 || f.ra != 0 || f.rd != 0)) (fun k d =>
    (.wait, d.setSheaf k (fun s => { s with bar := true })))

/-- The sheaves of a row that run. -/
def Dev.rowSheaves (d : Dev) (row : Nat) : List Nat :=
  ((List.range 8).map (fun s => 8 * row + s)).filter (fun k => (d.sheaf k).st == .running)

/-- R104: every sheaf of the row that has not halted has reached an SBAR: all of them go on. -/
def Dev.sbarComplete (d : Dev) (row : Nat) : Dev :=
  let ks := d.rowSheaves row
  if !ks.isEmpty && ks.all (fun k => (d.sheaf k).bar) then
    ks.foldl (fun d k => d.setSheaf k (fun s => { s with bar := false, pc := s.pc + 4 })) d
  else d

/-- R104: LSHFL: va of lane (L and not 15) or (vb and 15). -/
def Dev.lshfl (d : Dev) (i : Instr) (a : Agent) (f : RF) : Dev :=
  d.laneOp i a (cause1 (f.fn2 != 0)) (fun s =>
    s.putV f.rd.toNat (fun l => s.getV f.ra.toNat (l / 16 * 16 + (s.getV f.rb.toNat l).toNat % 16)))

/-- R121: a special function. -/
def Dev.sfu (d : Dev) (i : Instr) (a : Agent) (f : RF) (op : SfuOp) : Dev :=
  d.laneOp i a (cause1 (f.fn2 != 0 || f.rb != 0)) (fun s =>
    let r := fun l => sfuEval op (s.getV f.ra.toNat l)
    (s.putV f.rd.toNat (fun l => (r l).1)).addFlags (fun l => (r l).2))

/-! ## The generator (R373 to R375) -/

/-- R373: the multiplier. -/
def lcgA : BitVec 128 := 0x9E6C63D0676A9A99D1B7C5E34F0A2B65
/-- R373: the increment. -/
def lcgC : BitVec 128 := 0x1B03738712FAD5C9A3E40F8D6B217C4F

/-- R373: one step. -/
def lcgStep (s : BitVec 128) : BitVec 128 := lcgA * s + lcgC

/-- R374: the output of a state. -/
def lcgOut (s : BitVec 128) : BitVec 64 :=
  let h : BitVec 64 := (s >>> (64 : Nat)).setWidth 64
  (h ^^^ (h >>> (23 : Nat))).rotateRight (h >>> (58 : Nat)).toNat

/-- R375, R122: n steps by jump-ahead: the affine map of 2^i steps, squared once for each bit of n. -/
def lcgSkip (n s : BitVec 128) : BitVec 128 :=
  ((List.range 128).foldl (fun (st : BitVec 128 × BitVec 128 × BitVec 128) i =>
    (st.1 * st.1, st.1 * st.2.1 + st.2.1, if n.getLsbD i then st.1 * st.2.2 + st.2.1 else st.2.2)) (lcgA, lcgC, s)).2.2

/-- R375: the mixing function. -/
def mix64 (s : BitVec 64) : BitVec 64 :=
  let z := s ^^^ (s >>> (31 : Nat))
  let z := z * 0xA3B195E42C6D0F57
  let z := z ^^^ (z >>> (27 : Nat))
  let z := z * 0xE2D16B9A3F07C84D
  z ^^^ (z >>> (33 : Nat))

/-- R375: the state at which stream `j` of a seed starts. -/
def lcgKey (seed : BitVec 64) (j : Nat) : BitVec 128 :=
  lcgSkip (((mix64 seed).setWidth 128 <<< (16 : Nat)) + (BitVec.ofNat 128 (j % 2 ^ 48) <<< (80 : Nat))) 0

/-- R122: the FP32 value of output bits [63:40] times 2^-24. -/
def lcgUniform (out : BitVec 64) : BitVec 32 := BitVec.ofNat 32 (f32.round .rne false (out.toNat / 2 ^ 40) (-24)).1

/-- A lane's generator state. -/
def Sheaf.rngOf (s : Sheaf) (l : Nat) : BitVec 128 := lane 0 s.rng l

/-- Give the active lanes generator states. -/
def Sheaf.putRng (s : Sheaf) (f : Nat → BitVec 128) : Sheaf :=
  { s with rng := (List.range 256).map (fun l => if s.on l then f l else s.rngOf l) }

/-- R122: one step of each active lane, with results drawn from the new output. -/
def Sheaf.rngDraw (s : Sheaf) (put : (Nat → BitVec 64) → Sheaf → Sheaf) : Sheaf :=
  let st := fun l => lcgStep (s.rngOf l)
  (put (fun l => lcgOut (st l)) s).putRng st

/-- R122: word i of the state. -/
def rngWord (s : BitVec 128) (i : Nat) : BitVec 32 := (s >>> (32 * i)).setWidth 32

/-- The illegal forms of a generator instruction: unused fields, then its register runs. -/
def rngBad (unused : Bool) (runs : List (BitVec 5 × Nat)) : Option Nat :=
  orCause (cause1 unused) (if runs.any (fun r => runBad r.1.toNat r.2) then some 2 else none)

/-- R87: PSETNZ. -/
def execPsetnz (a : Agent) (f : RF) (s : State) : Out :=
  doCmd a.wf (fun d => d.laneOp (.psetnz a f) a (cause1 (f.fn2 != 0 || f.rb != 0 || pBad f.rd)) (fun s => s.putP f.rd.toNat (fun l => s.getV f.ra.toNat l != 0))) s

/-- R87: PAND. -/
def execPand (a : Agent) (f : RF) (s : State) : Out :=
  doCmd a.wf (fun d => d.predOp (.pand a f) a f (fun x y => x && y)) s

/-- R87: POR. -/
def execPor (a : Agent) (f : RF) (s : State) : Out :=
  doCmd a.wf (fun d => d.predOp (.por a f) a f (fun x y => x || y)) s

/-- R87: PXOR. -/
def execPxor (a : Agent) (f : RF) (s : State) : Out :=
  doCmd a.wf (fun d => d.predOp (.pxor a f) a f (fun x y => x != y)) s

/-- R87: PNOT. -/
def execPnot (a : Agent) (f : RF) (s : State) : Out :=
  doCmd a.wf (fun d => d.laneOp (.pnot a f) a (cause1 (f.fn2 != 0 || f.rb != 0 || pBad f.rd || pBad f.ra)) (fun s => s.putP f.rd.toNat (fun l => !s.getP f.ra.toNat l))) s

/-- R87: PMOV: bit i takes predicate i. -/
def execPmov (a : Agent) (f : RF) (s : State) : Out :=
  doCmd a.wf (fun d => d.laneOp (.pmov a f) a (cause1 (f.fn2 != 0 || f.rb != 0 || f.ra != 0)) (fun s => s.putV f.rd.toNat (fun l => BitVec.ofNat 32 ((List.range 8).map (fun i => if s.getP i l then 2 ^ i else 0)).sum))) s

/-- R87: PLOAD: predicate i takes bit i. -/
def execPload (a : Agent) (f : RF) (s : State) : Out :=
  doCmd a.wf (fun d => d.laneOp (.pload a f) a (cause1 (f.fn2 != 0 || f.rb != 0 || f.rd != 0)) (fun s => (List.range 8).foldl (fun t i => t.putP i (fun l => (s.getV f.ra.toNat l).getLsbD i)) s)) s

/-- R84: MPUSH. -/
def execMpush (a : Agent) (f : RF) (s : State) : Out :=
  doCmd a.wf (fun d => d.maskOp (.mpush a f) a (f.fn2 != 0 || f.rb != 0 || f.rd != 0 || pBad f.ra) (fun s => decide (16 ≤ s.stack.length)) (fun s => { s with stack := s.mask :: s.stack, mask := s.mask &&& s.p.get 0 f.ra.toNat })) s

/-- R84: MELSE. -/
def execMelse (a : Agent) (f : RF) (s : State) : Out :=
  doCmd a.wf (fun d => d.maskOp (.melse a f) a (f.fn2 != 0 || f.rb != 0 || f.rd != 0 || pBad f.ra) (fun s => s.stack.isEmpty) (fun s => { s with mask := s.stack.headD 0 &&& ~~~(s.p.get 0 f.ra.toNat) })) s

/-- R84: MPOP. -/
def execMpop (a : Agent) (f : RF) (s : State) : Out :=
  doCmd a.wf (fun d => d.maskOp (.mpop a f) a (f.fn2 != 0 || f.rb != 0 || f.rd != 0 || f.ra != 0) (fun s => s.stack.isEmpty) (fun s => { s with mask := s.stack.headD 0, stack := s.stack.tail })) s

/-- R104: SBAR. -/
def execSbar (a : Agent) (f : RF) (s : State) : Out := doCmd a.wf (fun d => d.sbar (.sbar a f) a f) s

/-- R104: SBAR completes in every sheaf of a row. -/
def execSbarComplete (r : RowId) (s : State) : Out :=
  doCmd r.wf (fun d => if d.dieActive (slotTil r.t) then d.sbarComplete (rowIdKey r) else d) s

/-- R104: LSHFL. -/
def execLshfl (a : Agent) (f : RF) (s : State) : Out := doCmd a.wf (fun d => d.lshfl (.lshfl a f) a f) s

/-- R87: PCMP. -/
def execPcmpEq (a : Agent) (f : RF) (s : State) : Out :=
  doCmd a.wf (fun d => d.pcmp (.pcmpEq a f) a f (fun x y => (x == y, 0))) s

/-- R87: PCMP. -/
def execPcmpNe (a : Agent) (f : RF) (s : State) : Out :=
  doCmd a.wf (fun d => d.pcmp (.pcmpNe a f) a f (fun x y => (x != y, 0))) s

/-- R87: PCMP. -/
def execPcmpLt (a : Agent) (f : RF) (s : State) : Out :=
  doCmd a.wf (fun d => d.pcmp (.pcmpLt a f) a f (fun x y => (x.slt y, 0))) s

/-- R87: PCMP. -/
def execPcmpGe (a : Agent) (f : RF) (s : State) : Out :=
  doCmd a.wf (fun d => d.pcmp (.pcmpGe a f) a f (fun x y => (!x.slt y, 0))) s

/-- R87: PCMP. -/
def execPcmpLtu (a : Agent) (f : RF) (s : State) : Out :=
  doCmd a.wf (fun d => d.pcmp (.pcmpLtu a f) a f (fun x y => (x.ult y, 0))) s

/-- R87: PCMP. -/
def execPcmpGeu (a : Agent) (f : RF) (s : State) : Out :=
  doCmd a.wf (fun d => d.pcmp (.pcmpGeu a f) a f (fun x y => (!x.ult y, 0))) s

/-- R87, R90: PFCMP. -/
def execPfcmpEq (a : Agent) (f : RF) (s : State) : Out :=
  doCmd a.wf (fun d => d.pcmp (.pfcmpEq a f) a f (fun x y => f32.feq x.toNat y.toNat)) s

/-- R87, R90: PFCMP. -/
def execPfcmpLt (a : Agent) (f : RF) (s : State) : Out :=
  doCmd a.wf (fun d => d.pcmp (.pfcmpLt a f) a f (fun x y => f32.flt x.toNat y.toNat)) s

/-- R87, R90: PFCMP. -/
def execPfcmpLe (a : Agent) (f : RF) (s : State) : Out :=
  doCmd a.wf (fun d => d.pcmp (.pfcmpLe a f) a f (fun x y => f32.fle x.toNat y.toNat)) s

/-- R87, R90: PFCMP.UN. -/
def execPfcmpUn (a : Agent) (f : RF) (s : State) : Out := doCmd a.wf (fun d => d.pcmp (.pfcmpUn a f) a f fcmpUn) s

/-- R121: sfuExp2. -/
def execSfuExp2 (a : Agent) (f : RF) (s : State) : Out := doCmd a.wf (fun d => d.sfu (.sfuExp2 a f) a f .exp2) s

/-- R121: sfuLog2. -/
def execSfuLog2 (a : Agent) (f : RF) (s : State) : Out := doCmd a.wf (fun d => d.sfu (.sfuLog2 a f) a f .log2) s

/-- R121: sfuRcp. -/
def execSfuRcp (a : Agent) (f : RF) (s : State) : Out := doCmd a.wf (fun d => d.sfu (.sfuRcp a f) a f .rcp) s

/-- R121: sfuRsq. -/
def execSfuRsq (a : Agent) (f : RF) (s : State) : Out := doCmd a.wf (fun d => d.sfu (.sfuRsq a f) a f .rsq) s

/-- R121: sfuTanh. -/
def execSfuTanh (a : Agent) (f : RF) (s : State) : Out := doCmd a.wf (fun d => d.sfu (.sfuTanh a f) a f .tanh) s

/-- R121: sfuSig. -/
def execSfuSig (a : Agent) (f : RF) (s : State) : Out := doCmd a.wf (fun d => d.sfu (.sfuSig a f) a f .sig) s

/-- R122, R375: RNG.KEY. -/
def execRngKey (a : Agent) (f : RF) (s : State) : Out :=
  doCmd a.wf (fun d => d.laneOp (.rngKey a f) a (rngBad (f.fn2 != 0 || f.rd != 0) [(f.ra, 2), (f.rb, 2)]) (fun s => s.putRng (fun l => lcgKey (BitVec.ofNat 64 (s.getPair f.ra.toNat l)) (s.getPair f.rb.toNat l)))) s

/-- R122, R374: RNG.NEXT. -/
def execRngNext (a : Agent) (f : RF) (s : State) : Out :=
  doCmd a.wf (fun d => d.laneOp (.rngNext a f) a (rngBad (f.fn2 != 0 || f.ra != 0 || f.rb != 0) [(f.rd, 2)]) (fun s => s.rngDraw (fun o s => (s.putV f.rd.toNat (fun l => (o l).setWidth 32)).putV (f.rd.toNat + 1) (fun l => ((o l) >>> (32 : Nat)).setWidth 32)))) s

/-- R122: RNG.U32. -/
def execRngU32 (a : Agent) (f : RF) (s : State) : Out :=
  doCmd a.wf (fun d => d.laneOp (.rngU32 a f) a (rngBad (f.fn2 != 0 || f.ra != 0 || f.rb != 0) []) (fun s => s.rngDraw (fun o s => s.putV f.rd.toNat (fun l => ((o l) >>> (32 : Nat)).setWidth 32)))) s

/-- R122: RNG.UF. -/
def execRngUf (a : Agent) (f : RF) (s : State) : Out :=
  doCmd a.wf (fun d => d.laneOp (.rngUf a f) a (rngBad (f.fn2 != 0 || f.ra != 0 || f.rb != 0) []) (fun s => s.rngDraw (fun o s => s.putV f.rd.toNat (fun l => lcgUniform (o l))))) s

/-- R122: RNG.SKIP. -/
def execRngSkip (a : Agent) (f : RF) (s : State) : Out :=
  doCmd a.wf (fun d => d.laneOp (.rngSkip a f) a (rngBad (f.fn2 != 0 || f.rd != 0 || f.rb != 0) []) (fun s => s.putRng (fun l => lcgSkip ((s.getV f.ra.toNat l).setWidth 128) (s.rngOf l)))) s

/-- R122: RNG.SAVE. -/
def execRngSave (a : Agent) (f : RF) (s : State) : Out :=
  doCmd a.wf (fun d => d.laneOp (.rngSave a f) a (rngBad (f.fn2 != 0 || f.ra != 0 || f.rb != 0) [(f.rd, 4)]) (fun s => (List.range 4).foldl (fun t i => t.putV (f.rd.toNat + i) (fun l => rngWord (s.rngOf l) i)) s)) s

/-- R122: RNG.LOAD. -/
def execRngLoad (a : Agent) (f : RF) (s : State) : Out :=
  doCmd a.wf (fun d => d.laneOp (.rngLoad a f) a (rngBad (f.fn2 != 0 || f.rd != 0 || f.rb != 0) [(f.ra, 4)]) (fun s => s.putRng (fun l => BitVec.ofNat 128 (s.getPair f.ra.toNat l + 2 ^ 64 * s.getPair (f.ra.toNat + 2) l)))) s

end Sys2Proof.Machine
end

