-- ==== Sys2Proof/Machine/Sample.lean ====
section
/-! DEFINITION. The sampler units (R381 to R387). -/

namespace Sys2Proof.Machine

open Sys2Proof

/-! ## The command -/

/-- TIL. -/
def Cmd.smpTil (c : Cmd) : Nat := c.f 2 31 28
/-- Number of vectors. -/
def Cmd.smpVecs (c : Cmd) : Nat := c.f 2 9 0 + 1
/-- Vocabulary size. -/
def Cmd.smpV (c : Cmd) : Nat := c.f 3 31 14 + 1
/-- Bytes of a logit. -/
def Cmd.smpElem (c : Cmd) : Nat := if c.f 2 27 26 = 0 then 4 else 2

/-- R381: INVT must be finite and not negative, TOPP not NaN and not negative: the sign of a zero counts for nothing. -/
def negOrNan (x : Nat) (infBad : Bool) : Bool :=
  match f32.unpack x with
  | .nan _ => true
  | .inf s => s || infBad
  | .fin s m _ => s && m != 0

/-- R381, R385: the checks of SAMPLE. -/
def sampleBad (c : Cmd) : Chk :=
  firstBad [badIf ((decide (8 ≤ c.smpTil) && c.smpTil != 15) || c.f 2 27 26 == 3 || c.f 2 23 10 != 0) 2,
    badIf (c.f 3 13 11 != 0 || decide (1024 < c.f 3 10 0)) 3, badIf (decide (c.w 6 < c.smpV * c.smpElem)) 6,
    badIf (negOrNan (c.w 7) true) 7, badIf (negOrNan (c.w 8) false) 8, badIf (c.w 15 != 0) 15,
    protIf (c.dw 4 % 64 != 0 || c.w 6 % 64 != 0 || c.dw 11 % 32 != 0 || c.dw 13 % 64 != 0)]

/-! ## One vector (R382, R383) -/

/-- A vector's values: y of each live token with its index, whether a logit was +Inf, whether a NaN was met. -/
structure SmpIn where
  live : List (Nat × FVal)
  inf : Bool
  nan : Bool
deriving DecidableEq, Repr

/-- R383 stage 1: bias, mask and scale, with `q` none for a greedy command. -/
def smpStage1 (v : Nat) (logit : Nat → FVal) (bias : Option (Nat → FVal)) (mask : Nat → Bool) (q : Option FVal) : SmpIn :=
  let xs := (List.range v).map (fun i =>
    let x := match bias with | some b => f32.unpack (f32.add .rne (logit i) (b i)).1 | none => logit i
    let y := match q with | some k => f32.unpack (f32.mul .rne x k).1 | none => x
    (i, y))
  { live := xs.filter (fun e => !e.2.isNaN && !mask e.1), inf := (List.range v).any (fun i => logit i == .inf false),
    nan := xs.any (fun e => e.2.isNaN) }

/-- R383: the live tokens by y descending, ties to the lowest index. -/
def smpRank (l : List (Nat × FVal)) : List (Nat × FVal) := l.mergeSort (fun a b => !a.2.lt b.2)

/-- R383: E of one value, an exact integer in units of 2^-149. -/
def smpE (m y : FVal) : Nat :=
  match m with
  | .inf false => if y == .inf false then 2 ^ 149 else 0
  | _ =>
    match f32.unpack (sfuEval .exp2 (BitVec.ofNat 32 (f32.sub .rne y m).1)).1.toNat with
    | .fin false k e => min (k <<< (e + 149).toNat) (2 ^ 149)
    | .inf false => 2 ^ 149
    | _ => 0

/-- The running sums of a list. -/
def runSums (acc : Nat) : List Nat → List Nat
  | [] => []
  | x :: r => (acc + x) :: runSums (acc + x) r

/-- R383 stage 4: a sum reaches TOPP × Z. -/
def toppMet (topp : FVal) (z sum : Nat) : Bool :=
  match topp with
  | .fin _ m e => decide (m * z ≤ sum <<< (-e).toNat)
  | _ => true

/-- R381: TOPP cuts: neither 0 nor 1.0 and above. -/
def toppOn (topp : FVal) : Bool := !topp.isZero && topp.lt (.fin false 1 0)

/-- Words 2 to 7 of a record (R382). -/
def smpWords (token : Nat) (novalid inf nan greedy : Bool) (kept prob draw : Nat) : List Nat :=
  let b := fun (x : Bool) i => if x then 2 ^ i else 0
  [token, b novalid 31 + b inf 30 + b nan 29 + b greedy 28 + kept, prob, 0, draw % 2 ^ 32, draw / 2 ^ 32]

/-- R383: the record of a vector that drew: top-k, top-p, draw. -/
def smpDraw (c : Cmd) (s : SmpIn) (rank : List (Nat × FVal)) (seq step : Nat) : List Nat :=
  let m := match rank with | e :: _ => e.2 | [] => .inf true
  let es := rank.map (fun e => smpE m e.2)
  let z := es.sum
  let k := min (if c.f 3 10 0 = 0 then 1024 else c.f 3 10 0) rank.length
  let topp := f32.unpack (c.w 8)
  let n := if toppOn topp then
      match (runSums 0 (es.take k)).findIdx? (toppMet topp z) with | some i => i + 1 | none => k
    else k
  let sums := runSums 0 (es.take n)
  let total := sums.getLastD 0
  let draw := (lcgOut (lcgStep (lcgKey (BitVec.ofNat 64 (c.dw 9)) (2 ^ 47 + seq * 2 ^ 24 + step)))).toNat
  let u := draw / 2 ^ 11
  let j := (sums.findIdx? (fun x => decide (u * total < x <<< 53))).getD 0
  let prob := (f32.div .rne (.fin false (es.getD j 0) 0) (.fin false z 0)).1
  smpWords (rank.getD j (0, m)).1 false s.inf s.nan false n prob draw

/-- R383: words 2 to 7 of a vector's record. -/
def smpRecord (c : Cmd) (logit : Nat → FVal) (bias : Option (Nat → FVal)) (mask : Nat → Bool) (seq step : Nat) : List Nat :=
  let invt := f32.unpack (c.w 7)
  let greedy := invt.isZero
  let q := f32.unpack (f32.mul .rne invt (f32.unpack 0x3FB8AA3B)).1
  let s := smpStage1 c.smpV logit bias mask (if greedy then none else some q)
  let rank := smpRank s.live
  match rank with
  | [] => smpWords 0xFFFFFFFF true s.inf s.nan greedy 0 0 0
  | (i, m) :: _ =>
    if greedy then smpWords i false s.inf s.nan true 1 0x3F800000 0
    else if m = .inf true then smpWords 0xFFFFFFFF true s.inf s.nan false 0 0 0
    else smpDraw c s rank seq step

/-! ## Its course -/

/-- R192, R381: a run's accesses through its Tiller's translation cache and shared cache. -/
def Dev.whoTil (d : Dev) (r t : Nat) : Who := { d.whoRun r with tlb := t, via := .til t 84, cls := 5, inst := t }

/-- R381, R385: a Tiller whose sampler takes the command: the named one, or an ACTIVE one the CP chooses, the lowest that
is free; none when there is none to wait for. -/
def Dev.smpTiller (d : Dev) (c : Cmd) : Option (Option Nat) :=
  let live := (List.range 8).filter (fun t => d.dieActive (slotTil t) && (c.smpTil == 15 || c.smpTil == t))
  if live.isEmpty then none else some (live.find? (fun t => !d.instBusy 5 t))

/-- The elements of a vector, from its bytes. -/
def smpLogit (fmt : Nat) (l : List Byte) (i : Nat) : FVal :=
  match fmt with
  | 0 => f32.unpack (ofLe ((l.drop (4 * i)).take 4))
  | 1 => bf16.unpack (ofLe ((l.drop (2 * i)).take 2))
  | _ => f16.unpack (ofLe ((l.drop (2 * i)).take 2))

/-- R385: words 2 to 7 after poison; whether a +Inf or a NaN was met is not stated: free. -/
def Dev.smpPoison (d : Dev) (c : Cmd) : List Nat × Dev :=
  let (x, d) := d.fresh
  (smpWords 0xFFFFFFFF true (x.getLsbD 0) (x.getLsbD 1) (f32.unpack (c.w 7)).isZero 0 0 0, d)

/-- R383, R385: one vector on Tiller t. -/
def Dev.sampleVector1 (d : Dev) (v : Run) (r t : Nat) : Dev :=
  let c := v.cmd
  let w := d.whoTil r t
  let n := c.smpV
  let rec_ := c.dw 11 + 32 * v.step
  let bias := (c.w 2).testBit 25
  let mask := (c.w 2).testBit 24
  let bBytes := if bias then 4 * n else 0
  let mBase := c.dw 13 + if bias then 64 * ((4 * n + 63) / 64) else 0
  match d.readPieces w (cut 128 rec_ 8 ++ cut 128 (c.dw 4 + v.step * c.w 6) (n * c.smpElem) ++ cut 128 (c.dw 13) bBytes ++
      cut 128 mBase (if mask then (n + 7) / 8 else 0)) with
  | (.ok, l, bad, d) =>
    let ls := l.drop 8
    let bs := ls.drop (n * c.smpElem)
    let ms := bs.drop bBytes
    let (words, d) := if bad then d.smpPoison c else
      (smpRecord c (smpLogit (c.f 2 27 26) ls) (if bias then some (smpLogit 0 bs) else none)
        (fun i => mask && (ms.getD (i / 8) 0).getLsbD (i % 8)) (ofLe (l.take 4) % 2 ^ 23) (ofLe ((l.drop 4).take 4) % 2 ^ 24), d)
    match d.writeV w (rec_ + 8) (wordBytes words) with
    | (.ok, d) =>
      let d := (((d.fabDone w.waiter).notePorts r (rec_ + 8) 24).addWrap (rTilSmpvec t) 63 0 1).nextStep r
      if bad then d.failRun r .poison else if v.step + 1 = c.smpVecs then d.endRun r else d
    | (a, d) => d.runEnd r w a
  | (a, _, _, d) => d.runEnd r w a

/-- R385: the Tiller of a running command has been lost: another runs it from its first vector without a record, or it
ends. -/
def Dev.smpLost (d : Dev) (v : Run) (r : Nat) : Dev :=
  match v.cmd.smpTil, d.smpTiller v.cmd with
  | 15, some (some t) => d.setRun r (fun v => { v with inst := t })
  | 15, some none => d
  | _, _ => d.failRun r .dieLost

/-- R381: SAMPLE: checks when it is reached, then a free sampler. -/
def Dev.sample (d : Dev) (r : Nat) : Dev :=
  match d.run? r with
  | none => d
  | some v =>
    if v.cmd.op != 0x80 || v.began then d else
    match sampleBad v.cmd with
    | some (s, i) => d.failAt r (if v.cmd.smpTil < 8 then v.cmd.smpTil else 0) s i
    | none =>
      match d.smpTiller v.cmd with
      | none => d.failAt r (if v.cmd.smpTil < 8 then v.cmd.smpTil else 0) .dieLost
      | some none => d
      | some (some t) => d.beginRun r t

/-- R383, R385: a running SAMPLE does its next vector. -/
def Dev.sampleVector (d : Dev) (r : Nat) : Dev :=
  match d.run? r with
  | none => d
  | some v =>
    if v.cmd.op != 0x80 || !v.began || v.done || d.faultHeld (.cmd r) || d.atSafePoint r v then d
    else if d.dieActive (slotTil v.inst) then d.sampleVector1 v r v.inst else d.smpLost v r

/-! ## Its commands -/

/-- R381: SAMPLE. -/
def execSample (run : Nat) (s : State) : Out := doCmd true (fun d => d.sample run) s

/-- R383: a vector is sampled. -/
def execSampleVector (run : Nat) (s : State) : Out := doCmd true (fun d => d.sampleVector run) s

end Sys2Proof.Machine
end

