-- ==== Sys2Proof/Machine/Sessions.lean ====
section
/-! DEFINITION. The stream engine's sessions and commands (R344 to R349, R354, R355, R359 to R367, R369 to R371). -/

namespace Sys2Proof.Machine

open Sys2Proof

/-! ## Descriptors (R350) -/

/-- Word i of a descriptor. -/
def sw (l : List (BitVec 32)) (i : Nat) : Nat := (l.getD i 0).toNat
/-- The address at words i and i + 1. -/
def sdw (l : List (BitVec 32)) (i : Nat) : Nat := sw l i + 2 ^ 32 * sw l (i + 1)
/-- Bits [hi:lo] of word i. -/
def sf (l : List (BitVec 32)) (i hi lo : Nat) : Nat := bitsOf (sw l i) hi lo
/-- Bit b of word i. -/
def sb (l : List (BitVec 32)) (i b : Nat) : Bool := (sw l i).testBit b

/-- PORT. -/
def sesPort (l : List (BitVec 32)) : Nat := sf l 0 30 30
/-- CODEC. -/
def sesCodec (l : List (BitVec 32)) : Nat := sf l 12 31 29
/-- The RTP clock in Hz: RFC 3551, RFC 7587, RFC 4867. -/
def sesClock (l : List (BitVec 32)) : Nat := match sesCodec l with | 3 => 48000 | 4 => 16000 | _ => 8000
/-- Units of the RTP clock in 20 ms. -/
def sesTicks (l : List (BitVec 32)) : Nat := sesClock l / 50

/-- The bytes of words lo to hi. -/
def sesBytes (l : List (BitVec 32)) (lo hi : Nat) : List Byte := wordBytes ((List.range (hi + 1 - lo)).map (fun i => sw l (lo + i)))

/-- CNAME holds 1 to 32 bytes, padded with zeros. -/
def cnameBad (l : List (BitVec 32)) : Bool :=
  let b := sesBytes l 48 55
  b.headD 0 == 0 || (b.dropWhile (· != 0)).any (· != 0)

/-- R347, R350: a field out of range or a reserved field that is not 0. -/
def sesFieldBad (l : List (BitVec 32)) : Chk :=
  let zero := fun (i hi lo : Nat) => badIf (sf l i hi lo != 0) i
  let zeros := fun (ks : List Nat) => (ks.find? (fun i => sw l i != 0)).map (fun i => (Status.invalidField, i))
  let v4 := !sb l 0 31
  firstBad [zero 0 7 0, badIf (sb l 1 16 && !sb l 13 24) 1, if v4 then zeros [3, 4, 5, 7, 8, 9] else none, zero 11 31 16,
    badIf (decide (5 ≤ sesCodec l) || sf l 12 7 0 != 0) 12,
    badIf (sf l 13 22 21 == 3 || decide (8 < sf l 13 19 16) || decide (sf l 13 15 8 < 6 ∨ 128 < sf l 13 15 8) || sf l 13 7 0 != 0) 13,
    badIf (decide (sf l 16 31 23 < 40 ∨ 500 < sf l 16 31 23) || decide (sf l 16 22 14 < 20 ∨ sf l 16 31 23 < sf l 16 22 14) ||
      sf l 16 13 12 == 3 || sf l 16 11 0 != 0) 16,
    zero 17 15 0, zeros [19],
    match sf l 16 13 12 with
    | 0 => zeros ((List.range 16).map (· + 20))
    | 1 => firstBad [zero 27 31 16, zero 35 31 16]
    | _ => zeros [27, 35],
    if sb l 13 26 then none else zeros [40, 41],
    badIf (let n := fun hi => sf l 46 hi (hi - 3)
      decide (n 31 < 1 ∨ 12 < n 31) || decide (n 27 < 1 ∨ 12 < n 27) || decide (n 23 < 1 ∨ 12 < n 23) || decide (10 < n 19) ||
      sf l 46 14 0 != 0) 46,
    zeros [47], badIf (cnameBad l) 48, zeros ((List.range 8).map (· + 56)),
    protIf (sdw l 36 % 32768 != 0 || sdw l 38 % 32768 != 0 || sdw l 40 % 32768 != 0 || sdw l 42 % 4096 != 0 || sdw l 44 % 128 != 0)]

/-- R347: sessions that hold the same port, IP version, local address and local port. -/
def sesSame (a b : List (BitVec 32)) : Bool :=
  sesPort a == sesPort b && sb a 0 31 == sb b 0 31 && [2, 3, 4, 5].all (fun i => sw a i == sw b i) && sf a 1 31 16 == sf b 1 31 16

/-- R348: the first word in which a new descriptor changes what must stay. -/
def modifyBad (a b : List (BitVec 32)) : Chk :=
  firstBad [badIf (sesPort a != sesPort b || sb a 0 31 != sb b 0 31) 0, badIf (sf a 1 31 16 != sf b 1 31 16) 1,
    ([2, 3, 4, 5].find? (fun i => sw a i != sw b i)).map (fun i => (.invalidField, i)), badIf (sb a 13 26 != sb b 13 26) 13,
    ((List.range 10).find? (fun i => sw a (36 + i) != sw b (36 + i))).map (fun i => (.invalidField, 36 + i)),
    badIf (sf a 46 31 15 != sf b 46 31 15) 46]

/-! ## Accesses (R369) -/

/-- A session. -/
def Dev.session? (d : Dev) (sid : Nat) : Option Session := d.se.sessions.find sid

/-- Change an open session. -/
def Dev.setSession (d : Dev) (sid : Nat) (f : Session → Session) : Dev :=
  { d with se := { d.se with sessions := d.se.sessions.adj sid f } }

/-- The status an access ends a command with. -/
def Acs.reed : Acs → Status
  | .fail s => s
  | _ => .faultUnserviced

/-- R193, R369: a translation fault of Reed writes a record with FAULTID 0 and holds nothing. -/
def Dev.reedNote (d : Dev) (w : Who) (a : Acs) : Dev :=
  match a with
  | .fault c l va k => d.looseRecord (d.fld (rCrownCtxxlt w.ctx) 63 60) (faultWords 0 c l k.code 3 0 w.qid w.ctx w.tag va d.time)
  | _ => d

/-- SE_STAT.OPEN. -/
def Dev.sesCount (d : Dev) : Dev := d.setFld rSeStat 17 0 d.se.sessions.length

/-- R345: the time of boundary k. -/
def Session.tk (s : Session) (k : Nat) : Nat := s.t0 + 20000000 * k

/-- R345: the first boundary of SID s at least 2 ms after a time. -/
def firstBoundary (sid t : Nat) : Nat :=
  let phase := 20000 * (sid % 1000)
  let u := t + 2000000
  u + (phase + 20000000 - u % 20000000) % 20000000

/-- R363: the words of the progress block but OUTPROD, which Reed does not write: words 0 to 7, then 10 to 31. -/
def Session.progress (s : Session) (state : Nat) : List Nat × List Nat :=
  let featfr := if sb s.desc 13 26 then 2 * s.frames - 2 else 0
  let w64 := fun v => [v % 2 ^ 32, v / 2 ^ 32 % 2 ^ 32]
  let lost := match s.window.getLast? with | some e => ofSigned 32 e.2 | none => 0
  ([state * 2 ^ 28, 0] ++ w64 s.frames ++ w64 featfr ++ w64 s.outcons,
   [s.rxpkts % 2 ^ 32, lost, s.late % 2 ^ 32, s.authfail % 2 ^ 32, s.txpkts % 2 ^ 32, s.underrun % 2 ^ 32, s.wrdrop % 2 ^ 32,
    s.erle % 2 ^ 16 * 2 ^ 16 + min 65535 s.rtt] ++ List.replicate 14 0)

/-- R363, R369: write a session's progress block; one that memory does not take is dropped. -/
def Dev.progressWrite (d : Dev) (sid state : Nat) : Dev :=
  match d.session? sid with
  | none => d
  | some s =>
    let w := d.whoRun s.run
    let p := sdw s.desc 44
    let (a, b) := s.progress state
    let (e, d) := d.writeAll w [(p, wordBytes a), (p + 40, wordBytes b)]
    (d.fabDone w.waiter).reedNote w e

/-! ## Commands -/

/-- SID. -/
def Cmd.sid (c : Cmd) : Nat := c.f 2 31 15

/-- R346: reserved words of a command from word i on. -/
def streamZeros (c : Cmd) (l : List Nat) : Chk := (l.find? (fun i => c.w i != 0)).map (fun i => (.invalidField, i))

/-- A stream command that is reached: its checks, then what it does. -/
def Dev.streamCmd (d : Dev) (r op : Nat) (bad : Cmd → Chk) (f : Dev → Run → Dev) : Dev :=
  match d.run? r with
  | none => d
  | some v =>
    if v.cmd.op != op || v.began then d else
    match bad v.cmd with
    | some (s, i) => d.failAt r 0 s i
    | none => f d v

/-- R346: the fields of OPEN and MODIFY. -/
def openBad (c : Cmd) : Chk :=
  firstBad [badIf (c.f 2 14 0 != 0) 2, streamZeros c ([3] ++ (List.range 10).map (· + 6)), protIf (c.dw 4 % 256 != 0)]

/-- R280, R347: read a descriptor once; a fault ends the command. -/
def Dev.readDescriptor (d : Dev) (v : Run) (r : Nat) (f : Dev → List (BitVec 32) → Dev) : Dev :=
  let w := d.whoRun r
  match d.readV w (v.cmd.dw 4) 256 with
  | (.ok, l, bad, d) =>
    let d := d.fabDone w.waiter
    if bad then d.failAt r 0 .poison else f d ((bytesWords l).map (BitVec.ofNat 32))
  | (.wait, _, _, d) => d
  | (a, _, _, d) => (d.reedNote w a).failAt r 0 a.reed

/-- R347: what turns an OPEN away once its descriptor is right. -/
def Dev.openTurned (d : Dev) (c : Cmd) (x : Nat) (l : List (BitVec 32)) : Chk :=
  let blk := rSeSidblk (c.sid / 1024)
  if (d.session? c.sid).isSome || d.se.sessions.any (fun e => sesSame e.2.desc l) then some (.busy, 0)
  else if !d.bit rSeStatebase 0 then some (.busy, 0)
  else if !(d.bit blk 31 && d.fld blk 11 0 == x) then some (.protection, 0)
  else none

/-- R347: SESSION_OPEN. -/
def Dev.sessionOpen (d : Dev) (r : Nat) : Dev :=
  d.streamCmd r 0x60 openBad (fun d v =>
    if !d.bit rSeStat 31 then d.failAt r 0 .busy else
    d.readDescriptor v r (fun d l =>
      match firstBad [sesFieldBad l, d.openTurned v.cmd (v.qid / 256) l] with
      | some (s, i) => d.failAt r 0 s i
      | none =>
        let d := d.beginRun r 0
        let s : Session := { run := r, ctx := v.qid / 256, desc := l, t0 := firstBoundary v.cmd.sid d.time,
                             target := sf l 16 22 14 * 1000000 }
        let d := { d with se := { d.se with sessions := d.se.sessions.set v.cmd.sid s } }
        d.sesCount.progressWrite v.cmd.sid 1))

/-- R348: what turns away a command that names a session. -/
def Dev.sesTurned (d : Dev) (v : Run) : Chk :=
  match d.session? v.cmd.sid with
  | none => some (.invalidField, 2)
  | some s => if s.ctx = v.qid / 256 then none else some (.protection, 0)

/-- R348: a change waits for the first boundary at least 1 ms later. -/
def Dev.sesChange (d : Dev) (v : Run) (r : Nat) (close : Bool) (l : List (BitVec 32)) : Dev :=
  let d := d.beginRun r 0
  d.setSession v.cmd.sid (fun s => { s with changes := s.changes ++ [⟨r, close, d.time + 1000000, l⟩] })

/-- R348: SESSION_MODIFY. -/
def Dev.sessionModify (d : Dev) (r : Nat) : Dev :=
  d.streamCmd r 0x61 openBad (fun d v =>
    match d.sesTurned v, d.session? v.cmd.sid with
    | some (s, i), _ => d.failAt r 0 s i
    | none, none => d
    | none, some s =>
      d.readDescriptor v r (fun d l =>
        match firstBad [sesFieldBad l, modifyBad s.desc l] with
        | some (s, i) => d.failAt r 0 s i
        | none => d.sesChange v r false l))

/-- R346: the fields of CLOSE. -/
def closeBad (c : Cmd) : Chk := firstBad [badIf (c.f 2 14 0 != 0) 2, streamZeros c ((List.range 13).map (· + 3))]

/-- R348: SESSION_CLOSE. -/
def Dev.sessionClose (d : Dev) (r : Nat) : Dev :=
  d.streamCmd r 0x62 closeBad (fun d v =>
    match d.sesTurned v with
    | some (s, i) => d.failAt r 0 s i
    | none => d.sesChange v r true [])

/-- MAXFRAME of a port. -/
def Dev.maxFrame (d : Dev) (p : Nat) : Nat := nearest 64 9216 (d.fld (rSePortcfg p) 13 0)

/-- R367: the fields of PKT_SEND. -/
def pktBad (d : Dev) (c : Cmd) : Chk :=
  let n := c.f 2 13 0
  firstBad [badIf (c.f 2 30 14 != 0 || decide (n < 60 ∨ 9212 < n) || decide (d.maxFrame (c.f 2 31 31) < n + 4)) 2,
    streamZeros c ([3] ++ (List.range 10).map (· + 6)), protIf (c.dw 4 % 64 != 0)]

/-- A port's transmit queue takes a frame. -/
def Dev.transmit (d : Dev) (p : Nat) (f : TxFrame) : Dev :=
  { d with se := { d.se with txq := d.se.txq.upd [] p (· ++ [f]) } }

/-- R367: PKT_SEND. -/
def Dev.pktSend (d : Dev) (r : Nat) : Dev :=
  d.streamCmd r 0x63 (pktBad d) (fun d v =>
    let w := d.whoRun r
    match d.readV w (v.cmd.dw 4) (v.cmd.f 2 13 0) with
    | (.ok, l, bad, d) =>
      let d := d.fabDone w.waiter
      if bad then d.failAt r 0 .poison else (d.beginRun r 0).transmit (v.cmd.f 2 31 31) (.raw r l)
    | (.wait, _, _, d) => d
    | (a, _, _, d) => (d.reedNote w a).failAt r 0 a.reed)

/-- R349: the fields of DTMF_SEND. -/
def dtmfBad (c : Cmd) : Chk :=
  firstBad [badIf (c.f 2 14 8 != 0 || c.f 2 3 0 != 0) 2,
    badIf (c.f 3 31 16 != 0 || decide (c.f 3 15 0 < 40 ∨ 5000 < c.f 3 15 0)) 3, streamZeros c ((List.range 12).map (· + 4))]

/-- R349: DTMF_SEND. -/
def Dev.dtmfSend (d : Dev) (r : Nat) : Dev :=
  d.streamCmd r 0x64 dtmfBad (fun d v =>
    match d.sesTurned v, d.session? v.cmd.sid with
    | some (s, i), _ => d.failAt r 0 s i
    | none, none => d
    | none, some s =>
      if s.event.isSome || !sb s.desc 13 30 then d.failAt r 0 .busy
      else (d.beginRun r 0).setSession v.cmd.sid (fun s =>
        { s with event := some ⟨r, v.cmd.f 2 7 4, none, 0, (v.cmd.f 3 15 0 + 19) / 20, 3⟩ }))

/-! ## The rings (R360 to R362) -/

/-- The pieces of column `n`, elements k to k + len − 1, of tile i of a ring: 8 bytes for each four elements. -/
def ringPieces (base log2 i n k : Nat) (vals : List (BitVec 16)) : List (Nat × List Byte) :=
  let t := base + i % 2 ^ log2 * 32768
  (List.range ((vals.length + 3) / 4)).map (fun j =>
    (t + tileOff 2 (k + 4 * j) n, ((vals.drop (4 * j)).take 4).flatMap (fun v => leBytes 2 v.toNat)))

/-- R360: the pieces of 320 samples from sample `a` of an audio ring: each run of samples within one column. -/
def audioPieces (base log2 a : Nat) (vals : List (BitVec 16)) : List (Nat × List Byte) :=
  (cut 128 a vals.length).flatMap (fun p => ringPieces base log2 (p.1 / 16384) (p.1 / 128 % 128) (p.1 % 128) ((vals.drop (p.1 - a)).take p.2))

/-- R361, R362: what memory is to take of an inbound frame, in order: audio, features, record. -/
def FrameWrites.pieces (f : FrameWrites) (l : List (BitVec 32)) : List (Nat × List Byte) :=
  audioPieces (sdw l 36) (sf l 46 31 28) (320 * f.k) f.samples ++
  f.feat.flatMap (fun e => ringPieces (sdw l 40) (sf l 46 23 20) (e.1 / 128) (e.1 % 128) 0 e.2) ++
  [(sdw l 42 + 32 * (f.k % 2 ^ (sf l 46 19 16 + 7)), wordBytes (f.record.map BitVec.toNat))]

/-- R364, R369: the writes of the oldest held frame; dropped on a fault or a refusal. -/
def Dev.frameWrite (d : Dev) (sid : Nat) : Dev :=
  match d.session? sid with
  | none => d
  | some s =>
    match s.held with
    | [] => d
    | f :: rest =>
      let w := d.whoRun s.run
      match d.writeAll w (f.pieces s.desc) with
      | (.ok, d) => (d.fabDone w.waiter).setSession sid (fun s => { s with held := rest, frames := f.k + 1, failRow := 0 })
      | (.wait, d) => d
      | (a, d) => ((d.fabDone w.waiter).reedNote w a).setSession sid (fun s =>
          { s with held := rest, frames := f.k + 1, wrdrop := s.wrdrop + 1, failRow := s.failRow + 1, failStatus := a.reed.code })

/-- R370: a fifth held frame drops the oldest one's remaining writes; no status is stated for such a drop: free. -/
def Dev.frameHold (d : Dev) (sid : Nat) (f : FrameWrites) : Dev :=
  let (x, d) := d.fresh
  d.setSession sid (fun s =>
    match s.held with
    | h :: rest =>
      if 4 ≤ s.held.length then
        { s with held := rest ++ [f], frames := h.k + 1, wrdrop := s.wrdrop + 1, failRow := s.failRow + 1,
                 failStatus := (x.setWidth 16).toNat }
      else { s with held := s.held ++ [f] }
    | [] => { s with held := [f] })

/-- R364: PROGRESS_BLOCK_WRITE: the oldest frame's writes are performed, then the progress block is written. -/
def Dev.progressBlock (d : Dev) (sid : Nat) : Dev :=
  match d.session? sid with
  | none => d
  | some s =>
    if s.held.isEmpty then d else
    let d' := d.frameWrite sid
    match d'.session? sid with
    | some s' => if s'.held.length < s.held.length then d'.progressWrite sid 1 else d'
    | none => d'

/-! ## OUTPROD (R365) -/

/-- R365: OUTPROD is read once for the next boundary; samples are read, or the frame is an underrun. -/
def Dev.outprodRead (d : Dev) (sid : Nat) : Dev :=
  match d.session? sid with
  | none => d
  | some s =>
    if s.out.isSome || !d.bit rSeStat 31 then d else
    let w := d.whoRun s.run
    let under := fun (d : Dev) => d.setSession sid (fun s => { s with out := some false, underrun := s.underrun + 1 })
    match d.readV w (sdw s.desc 44 + 32) 8 with
    | (.ok, l, bad, d) =>
      if bad || decide (ofLe l < s.outcons + 320) then under (d.fabDone w.waiter) else
      match d.readPieces w ((audioPieces (sdw s.desc 38) (sf s.desc 46 27 24) s.outcons (List.replicate 320 0)).map (fun p => (p.1, p.2.length))) with
      | (.ok, _, bad, d) =>
        let d := d.fabDone w.waiter
        if bad then under d else d.setSession sid (fun s => { s with out := some true, outcons := s.outcons + 320 })
      | (.wait, _, _, d) => d
      | (a, _, _, d) => under ((d.fabDone w.waiter).reedNote w a)
    | (.wait, _, _, d) => d
    | (a, _, _, d) => under ((d.fabDone w.waiter).reedNote w a)

/-! ## Inbound frames (R352 to R359) -/

/-- Numbers of 32 bits: how far `a` lies ahead of `b`. -/
def ahead32 (a b : Nat) : Int := toSigned 32 ((a + 2 ^ 32 - b % 2 ^ 32) % 2 ^ 32)

/-- R355: what an inbound frame is. -/
inductive FrameKind where
  | none
  | media
  | noise
  | conceal
  | quiet
deriving DecidableEq, Repr

/-- R354: the timestamp that boundary k plays. -/
def Session.playTs (s : Session) (k : Nat) : Option Nat :=
  match s.play with
  | some (k0, ts) => if k0 ≤ k then some ((ts + (k - k0) * sesTicks s.desc) % 2 ^ 32) else none
  | none => none

/-- R354: packets of which a part plays in the 20 ms from a timestamp. -/
def Session.playing (s : Session) (ts : Nat) : List JbPkt :=
  s.jb.filter (fun p => decide (ahead32 p.ts ts < sesTicks s.desc ∧ 0 < ahead32 p.ts ts + p.dur))

/-- R355: the kind of the next inbound frame, and the session with its gap counted and its packets played. -/
def Session.playFrame (s : Session) : FrameKind × Session :=
  let gapped := fun (s : Session) =>
    let s := { s with gap := s.gap + 1 }
    (if s.gap ≤ 6 then FrameKind.conceal else if s.cnSeen then .noise else .quiet, s)
  match s.playTs s.k with
  | none => if s.media then gapped s else (.none, s)
  | some ts =>
    let now := s.playing ts
    let s := { s with media := true, jb := s.jb.filter (fun p => decide (sesTicks s.desc < ahead32 p.ts ts + p.dur)) }
    if now.isEmpty then gapped s
    else (if now.all (·.noise) then .noise else .media, { s with gap := 0 })

/-- R360: a sample as the ring holds it: FP16 in [−1, 1). -/
def fitSample (x : BitVec 16) : BitVec 16 := if x = 0xBC00 ∨ bitsOf x.toNat 14 10 < 15 then x else 0

/-- R352, R355, R356: the samples of a frame: zeros before the first packet, and in silence that no echo canceller
fills; else what the codec and the canceller make: free. -/
def Dev.frameSamples (d : Dev) (k : FrameKind) (ec : Bool) : List (BitVec 16) × Dev :=
  if k = .none ∨ (k = .quiet ∧ !ec) then (List.replicate 320 0, d)
  else ((List.range 320).map (fun i => fitSample (Config.audioSample d.free i)), { d with free := d.free + 1 })

/-- R361: one feature: silence gives the rounded logarithm of 10^-10; else a function of the 400 samples. -/
def featureOf (bf : Bool) (l : List (BitVec 16)) (bin : Nat) : BitVec 16 :=
  if l.all (fun x => x == 0 || x == 0x8000) then (if bf then 0xC1B8 else 0xCDC2) else Config.feature bf l bin

/-- R361: the feature frames that inbound frame k completes, from the 640 samples of frames k − 1 and k. -/
def featureFrames (bf : Bool) (k : Nat) (l : List (BitVec 16)) : List (Nat × List (BitVec 16)) :=
  if k = 0 then [] else
  [(2 * k - 2, 0), (2 * k - 1, 160)].map (fun e => (e.1, (List.range 128).map (fun b => if b < 80 then featureOf bf ((l.drop e.2).take 400) b else 0)))

/-- log10(2) in fixed point. -/
def fxLog10of2 : Nat := 102435199438739363750012109250103232700

/-- A rational as an integer, where the rounding is not stated: down, or up when `up`. -/
def roundFree (q : Rat) (up : Bool) : Int := if up then q.ceil else q.floor

/-- R359: the level of 320 samples in 0.1 dBov, the last place free. -/
def levelOf (l : List (BitVec 16)) (up : Bool) : Int :=
  let sq := (l.map (fun x => match f16.unpack x.toNat with | .fin _ m e => (m <<< (e + 24).toNat) ^ 2 | _ => 0)).sum
  if sq = 0 then -1270 else
  let v := (fxLog2 sq (-48) - fxLog2 320 0) * (fxLog10of2 : Int) * 100
  max (-1270) (v / ((2 ^ (2 * fxP) : Nat) : Int) + if up then 1 else 0)

/-- R359: packets expected since open. -/
def Session.expected (s : Session) : Nat := match s.baseSeq with | some b => s.maxSeq + 1 - b | none => 0

/-- R359: cumulative loss. -/
def Session.lost (s : Session) : Int := (s.expected : Int) - s.received + s.late

/-- R359: Ie and Bpl of a codec. -/
def codecImpair (c : Nat) : Rat × Rat :=
  match c with | 2 => (0, 20) | 3 => (6, 22) | 4 => (4, 18) | _ => (0, 251 / 10)

/-- R359: the R-factor over the window. -/
def Session.rfactor (s : Session) : Rat :=
  let first : Int × Int := if 250 < s.window.length then s.window.headD (0, 0) else (0, 0)
  let last : Int × Int := s.window.getLastD (0, 0)
  let e := last.1 - first.1
  let ppl : Rat := if e ≤ 0 then 0 else max 0 (((last.2 - first.2 : Int) : Rat) * 100 / (e : Rat))
  let ta : Rat := (s.rtt : Rat) / 2 + (s.delay : Rat) / 1000000 + 20
  let lim : Rat := 1773 / 10
  let idd : Rat := 24 / 1000 * ta + if lim < ta then 11 / 100 * (ta - lim) else 0
  let (ie, bpl) := codecImpair (sesCodec s.desc)
  max 0 (min 100 (932 / 10 - idd - (ie + (95 - ie) * ppl / (ppl + bpl))))

/-- R354: after a frame: the target; in a silent frame, at most once every 200 ms, the playout point moves by a frame
towards it. -/
def Session.retarget (s : Session) (voice : Bool) : Session :=
  let want := (2 * s.jitter * 1000000000 / (sesClock s.desc : Rat)).floor.toNat + 20000000
  let t := nearest (sf s.desc 16 22 14 * 1000000) (sf s.desc 16 31 23 * 1000000) want
  let s := { s with target := t }
  let now := s.tk s.k
  let may := !voice && match s.lastShift with | some u => decide (u + 200000000 ≤ now) | none => true
  match s.play with
  | some (k0, ts) =>
    if k0 ≤ s.k ∧ may ∧ s.delay + 20000000 ≤ t then { s with play := some (k0 + 1, ts), delay := s.delay + 20000000, lastShift := some now }
    else if k0 ≤ s.k ∧ may ∧ t + 20000000 ≤ s.delay then
      { s with play := some (k0, (ts + sesTicks s.desc) % 2 ^ 32), delay := s.delay - 20000000, lastShift := some now }
    else s
  | none => s

/-- R358: the digit of a frame: one of RFC 4733, else one detected in band; both paths within 40 ms report it once. -/
def Session.frameDigit (s : Session) (k : FrameKind) (x : BitVec 64) : Option (Nat × Bool) × Session :=
  let t := s.tk s.k
  let twice := fun dg => match s.lastDigit with | some (e, u) => e == dg && decide (t ≤ u + 40000000) | none => false
  match s.digit with
  | some dg =>
    let fresh := s.digitNew && !twice dg
    (some (dg, fresh), { s with digitNew := false, digit := if s.digitOver then none else s.digit, digitOver := false, inband := none,
                                lastDigit := some (dg, t) })
  | none =>
    if sb s.desc 13 29 && k == .media && x.getLsbD 8 then
      let go := x.getLsbD 9
      let dg := match s.inband, go with | some e, true => e | _, _ => (x.extractLsb' 12 4).toNat
      let fresh := !(s.inband == some dg && go) && !twice dg
      (some (dg, fresh), { s with inband := some dg, lastDigit := some (dg, t) })
    else (none, { s with inband := none })

/-- R362: the record of an inbound frame. -/
def Session.record (s : Session) (k : FrameKind) (voice : Bool) (dg : Option (Nat × Bool)) (level : Int) (x : BitVec 64) : List Nat :=
  let b := fun (x : Bool) i => if x then 2 ^ i else 0
  let code := match dg with | some (e, _) => e | none => 0
  let us := roundFree (s.jitter * 1000000 / (sesClock s.desc : Rat)) (x.getLsbD 2)
  let t := s.tk s.k % 2 ^ 64
  [s.k % 2 ^ 32,
   b voice 31 + b (k == .conceal) 30 + b (k == .noise) 29 + b (k == .none) 28 + b s.newBye 27 + b s.newSsrc 26 + b dg.isSome 25 +
     b (match dg with | some (_, n) => n | none => false) 24 + code * 2 ^ 20,
   ofSigned 16 level * 2 ^ 16 + (roundFree (s.rfactor * 100) (x.getLsbD 1)).toNat,
   us.toNat % 2 ^ 32, ofSigned 32 s.lost, s.delay / 1000 % 2 ^ 32, t % 2 ^ 32, t / 2 ^ 32]

/-- R354 to R362: inbound frame k. -/
def Dev.inboundFrame (d : Dev) (sid : Nat) : Dev :=
  match d.session? sid with
  | none => d
  | some s =>
    let (kind, s) := s.playFrame
    let (samples, d) := d.frameSamples kind (sb s.desc 13 27)
    let (x, d) := d.fresh
    let voice := kind != .none && x.getLsbD 0
    let (dg, s) := s.frameDigit kind x
    let s := { s with window := (s.window ++ [((s.expected : Int), s.lost)]).drop (s.window.length - 250), erle := (x.extractLsb' 16 16).toNat }
    let rec_ := s.record kind voice dg (levelOf samples (x.getLsbD 3)) x
    let feat := if sb s.desc 13 26 then featureFrames (sb s.desc 46 15) s.k (s.prev ++ samples) else []
    let f : FrameWrites := ⟨s.k, samples, feat, rec_.map (BitVec.ofNat 32)⟩
    let s := { s.retarget voice with prev := samples, newBye := false, newSsrc := false }
    (d.setSession sid (fun _ => s)).frameHold sid f

/-! ## Outbound packets (R349, R365, R366) -/

/-- A session's packet goes to its port; a port that is off or has no link sends nothing. -/
def Dev.sesSend (d : Dev) (sid : Nat) (rtp : Bool) (f : Session → TxFrame) : Dev :=
  match d.session? sid with
  | none => d
  | some s =>
    let p := sesPort s.desc
    if d.bit (rSePortcfg p) 31 && d.bit (rSePortcfg p) 30 then
      let d := d.transmit p (f s)
      if rtp then d.setSession sid (fun s => { s with txpkts := s.txpkts + 1, lastRtp := some (s.tk s.k) }) else d
    else d

/-- Timestamp of packet k. -/
def Session.txTs (s : Session) : Nat := (sw s.desc 18 + s.k * sesTicks s.desc) % 2 ^ 32

/-- R365: packet k: audio, silence or comfort noise. -/
def Dev.outboundPacket (d : Dev) (sid : Nat) : Dev :=
  match d.session? sid with
  | none => d
  | some s =>
    let seq := (sf s.desc 17 31 16 + s.k) % 2 ^ 16
    let audio := fun (d : Dev) (m : Bool) => d.sesSend sid true (fun s => .audio sid seq s.txTs (sf s.desc 12 28 22) m)
    if s.out = some true then (audio d (decide (0 < s.silence))).setSession sid (fun s => { s with silence := 0 })
    else
      let d := if !sb s.desc 13 28 then audio d false
        else if s.silence % 8 = 0 then
          d.sesSend sid true (fun s => .noise sid seq s.txTs (if sesCodec s.desc < 3 then sf s.desc 12 14 8 else sf s.desc 12 28 22))
        else d
      d.setSession sid (fun s => { s with silence := s.silence + 1 })

/-- R349: the event packet of a boundary. Its sequence number is not stated: free. -/
def Dev.eventPacket (d : Dev) (sid : Nat) : Dev :=
  match d.session? sid with
  | none => d
  | some s =>
    match s.event with
    | none => d
    | some e =>
      let (x, d) := d.fresh
      let ts := e.ts.getD s.txTs
      let last := decide (e.total ≤ e.sent)
      let dur := match d.run? e.run with | some v => v.cmd.f 3 15 0 | none => 0
      let el := min (dur * sesClock s.desc / 1000) ((e.sent + 1) * sesTicks s.desc)
      let d := d.sesSend sid true (fun s => .event sid (x.setWidth 16).toNat ts (sf s.desc 12 21 15) e.digit el last)
      if last ∧ e.finals ≤ 1 then (d.setSession sid (fun s => { s with event := none })).endRun e.run
      else d.setSession sid (fun s => { s with event := some { e with ts := some ts, sent := if last then e.sent else e.sent + 1,
                                                                       finals := if last then e.finals - 1 else e.finals } })

/-- R366: a compound RTCP packet: an SR when RTP was sent in the last 5 s, else an RR. -/
def Dev.rtcpPacket (d : Dev) (sid : Nat) (bye : Bool) : Dev :=
  d.sesSend sid false (fun s => .rtcp sid (match s.lastRtp with | some t => decide (s.tk s.k ≤ t + 5000000000) | none => false) bye)

/-! ## The boundary (R345, R348, R370, R371) -/

/-- A run has been told to abort. -/
def Dev.runAborting (d : Dev) (r : Nat) : Bool := match d.run? r with | some v => v.aborting | none => false

/-- R348: a new descriptor takes effect; a change of CODEC or PT resets the decoder and the jitter buffer. -/
def Session.modify (s : Session) (l : List (BitVec 32)) : Session :=
  let s' := { s with desc := l }
  if sf s.desc 12 31 22 = sf l 12 31 22 then s'
  else { s' with jb := [], play := none, gap := 0, cnSeen := false, target := sf l 16 22 14 * 1000000 }

/-- R348: the changes due at this boundary, in order of dispatch; answers the CLOSE that ends the session. -/
def Dev.sesChanges (d : Dev) (sid t : Nat) (l : List SesChange) (close : Option Nat) : Option Nat × Dev :=
  match l with
  | [] => (close, d)
  | c :: rest =>
    if d.runAborting c.run then (d.failRun c.run .aborted).sesChanges sid t rest close
    else if t < c.due then
      (d.setSession sid (fun s => { s with changes := s.changes ++ [c] })).sesChanges sid t rest close
    else if close.isSome then (d.failRun c.run .invalidField 2).sesChanges sid t rest close
    else if c.close then d.sesChanges sid t rest (some c.run)
    else ((d.setSession sid (fun s => s.modify c.desc)).endRun c.run).sesChanges sid t rest close

/-- R348, R370, R371: a session ends: its last writes, STATE = CLOSED, its commands. -/
def Dev.sesEnd (d : Dev) (sid : Nat) (close : Option Nat) (st : Option Nat) : Dev :=
  let d := (iter 4 (fun d => d.frameWrite sid) d).progressWrite sid 2
  match d.session? sid with
  | none => d
  | some s =>
    let d := { d with se := { d.se with sessions := d.se.sessions.del sid } }
    let d := d.sesCount
    let d := match st with
      | some v => (d.setRun s.run (fun x => if x.status.isNone then { x with status := some v } else x)).endRun s.run
      | none => d.endRun s.run
    let d := match close with | some c => if st.isSome then d.failRun c .invalidField 2 else d.endRun c | none => d
    let d := match s.event with | some e => d.failRun e.run .aborted | none => d
    s.changes.foldl (fun d c => if d.runAborting c.run then d.failRun c.run .aborted else d.failRun c.run .invalidField 2) d

/-- R345: boundary k of a session. -/
def Dev.frameBoundary (d : Dev) (sid : Nat) : Dev :=
  if !d.bit rSeStat 31 then d else
  let d := d.outprodRead sid
  match d.session? sid with
  | none => d
  | some s =>
    let t := s.tk s.k
    let d := { d with time := max d.time t }
    let (close, d) := (d.setSession sid (fun s => { s with
      changes := [], out := some (s.out.getD false), underrun := if s.out.isNone then s.underrun + 1 else s.underrun })).sesChanges sid t s.changes none
    let d := match s.event with
      | some e => if d.runAborting e.run then (d.failRun e.run .aborted).setSession sid (fun s => { s with event := none }) else d
      | none => d
    let st := if s.aborted then some Status.aborted.code else if close.isNone ∧ 250 ≤ s.failRow then some s.failStatus else none
    let d := ((d.inboundFrame sid).outboundPacket sid).eventPacket sid
    let bye := close.isSome && st.isNone
    let d := if bye || s.k % 250 == 0 then d.rtcpPacket sid bye else d
    if close.isSome || st.isSome then d.sesEnd sid close st
    else d.setSession sid (fun s => { s with k := s.k + 1, out := none })

/-! ## Ports -/

/-- R342: a media port's link. -/
def Dev.mediaLink (d : Dev) (p : Nat) (up : Bool) : Dev := d.setBit (rSePortcfg p) 30 up

/-- A frame of a PKT_SEND. -/
def TxFrame.isRaw : TxFrame → Bool
  | .raw _ _ => true
  | _ => false

/-- R367: the next frame leaves a port, session packets first; the PKT_SEND that queued it completes. -/
def Dev.mediaSent (d : Dev) (p : Nat) : Dev :=
  if !(d.bit rSeStat 31 && d.bit (rSePortcfg p) 31 && d.bit (rSePortcfg p) 30) then d else
  let q := d.se.txq.get [] p
  match q.findIdx? (fun f => !f.isRaw) with
  | some i => { d with se := { d.se with txq := d.se.txq.set p (q.eraseIdx i) } }
  | none =>
    match q with
    | .raw r _ :: rest =>
      let d := { d with se := { d.se with txq := d.se.txq.set p rest } }
      if d.runAborting r then d.failRun r .aborted else d.endRun r
    | _ => d

/-! ## Their commands -/

/-- R347: SESSION_OPEN. -/
def execSessionOpen (run : Nat) (s : State) : Out := doCmd true (fun d => d.sessionOpen run) s

/-- R348: SESSION_MODIFY. -/
def execSessionModify (run : Nat) (s : State) : Out := doCmd true (fun d => d.sessionModify run) s

/-- R348: SESSION_CLOSE. -/
def execSessionClose (run : Nat) (s : State) : Out := doCmd true (fun d => d.sessionClose run) s

/-- R367: PKT_SEND. -/
def execPktSend (run : Nat) (s : State) : Out := doCmd true (fun d => d.pktSend run) s

/-- R349: DTMF_SEND. -/
def execDtmfSend (run : Nat) (s : State) : Out := doCmd true (fun d => d.dtmfSend run) s

/-- R345: a frame boundary. -/
def execFrameBoundary (sid : Nat) (s : State) : Out := doCmd (decide (sid < 131072)) (fun d => d.frameBoundary sid) s

/-- R365: OUTPROD is read. -/
def execOutprodRead (sid : Nat) (s : State) : Out := doCmd (decide (sid < 131072)) (fun d => d.outprodRead sid) s

/-- R364: the progress block is written. -/
def execProgressBlockWrite (sid : Nat) (s : State) : Out :=
  doCmd (decide (sid < 131072)) (fun d => d.progressBlock sid) s

/-- R342: a media link changes. -/
def execMediaLinkChange (p : Nat) (up : Bool) (s : State) : Out := doCmd (decide (p < 2)) (fun d => d.mediaLink p up) s

/-- R367: a frame leaves a media port. -/
def execMediaFrameTransmitted (p : Nat) (s : State) : Out := doCmd (decide (p < 2)) (fun d => d.mediaSent p) s

end Sys2Proof.Machine
end

