-- ==== Sys2Proof/Machine/Media.lean ====
section
/-! DEFINITION. Frames a media port receives (R343, R351 to R354, R358, R359, R368). -/

namespace Sys2Proof.Machine

open Sys2Proof

/-! ## Bytes in network order -/

/-- A number of n bytes from place i, highest first. -/
def be (l : List Byte) (i n : Nat) : Nat := ((l.drop i).take n).foldl (fun a b => a * 256 + b.toNat) 0

/-- The sum of 16-bit words in ones' complement. -/
def onesSum (l : List Byte) : Nat :=
  let s := ((List.range ((l.length + 1) / 2)).map (fun i => be (l ++ [0]) (2 * i) 2)).sum
  let f := fun x => x % 65536 + x / 65536
  f (f (f s))

/-! ## The exception ring (R368) -/

/-- R368: a frame goes into the port's exception ring, or is counted. -/
def Dev.exception (d : Dev) (p reason sid : Nat) (frame : List Byte) : Dev :=
  let t := d.time % 2 ^ 64
  match d.ringWrite (18 + p) (wordBytes [frame.length % 2 ^ 14, reason * 2 ^ 28 + sid, t % 2 ^ 32, t / 2 ^ 32, 0, 0, 0, 0] ++ frame) with
  | (.written, d) => d
  | (_, d) => d.addSat (rSePorterr p) 31 0 1

/-! ## Headers (R342, R343) -/

/-- What a frame carries: a UDP datagram over IP (source address and port, destination address and port, where its UDP
header begins, its length), or what keeps it from being one. -/
inductive Carried where
  | bad
  | other (reason : Nat)
  | udp (v6 : Bool) (src dst : List Byte) (sport dport at_ len : Nat)
deriving DecidableEq, Repr

/-- The UDP datagram at place `u` of a frame, with its checksum over the pseudo header (RFC 768, RFC 8200). -/
def carriedUdp (f : List Byte) (v6 : Bool) (src dst : List Byte) (u room : Nat) : Carried :=
  let len := be f (u + 4) 2
  if room < 8 ∨ len < 8 ∨ room < len ∨ f.length < u + len then .bad else
  let body := (f.drop u).take len
  let pseudo := src ++ dst ++ [BitVec.ofNat 8 (len / 256), BitVec.ofNat 8 len, 0, 17]
  let ok := onesSum pseudo + onesSum body
  if (be f (u + 6) 2 != 0 || v6) && (ok % 65536 + ok / 65536) % 65535 != 0 then .bad
  else .udp v6 src dst (be f u 2) (be f (u + 2) 2) u len

/-- What an IP packet at place `o` carries, of EtherType `ty`. -/
def carriedIp (f : List Byte) (ty o : Nat) : Carried :=
  if ty = 0x0800 then
    let ihl := be f o 1 % 16 * 4
    let total := be f (o + 2) 2
    if be f o 1 / 16 ≠ 4 ∨ ihl < 20 ∨ f.length < o + ihl ∨ onesSum ((f.drop o).take ihl) ≠ 65535 then .bad
    else if 20 < ihl ∨ be f (o + 6) 2 % 16384 ≠ 0 then .other 2
    else if be f (o + 9) 1 ≠ 17 then .other 0
    else carriedUdp f false ((f.drop (o + 12)).take 4) ((f.drop (o + 16)).take 4) (o + 20) (total - 20)
  else if ty = 0x86DD then
    let nh := be f (o + 6) 1
    if f.length < o + 40 then .bad
    else if nh = 17 then carriedUdp f true ((f.drop (o + 8)).take 16) ((f.drop (o + 24)).take 16) (o + 40) (be f (o + 4) 2)
    else if [0, 43, 44, 50, 51, 60, 135, 139, 140].contains nh then .other 3
    else .other 0
  else .other 0

/-- The one 802.1Q tag of a frame, its VLAN ID. -/
def frameVid (f : List Byte) : Option Nat := if be f 12 2 = 0x8100 then some (be f 14 2 % 4096) else none

/-- The EtherType and the place behind it. -/
def frameType (f : List Byte) : Nat × Nat := if be f 12 2 = 0x8100 then (be f 16 2, 18) else (be f 12 2, 14)

/-! ## Sessions (R353) -/

/-- The bytes of an address of a descriptor, from word i. -/
def sesAddr (l : List (BitVec 32)) (i : Nat) : List Byte := (sesBytes l i (i + 3)).take (if sb l 0 31 then 16 else 4)

/-- R353: the session a datagram belongs to, and whether it is RTCP. -/
def Dev.sesMatch (d : Dev) (p : Nat) (vid : Option Nat) (v6 : Bool) (dst : List Byte) (dport pt : Nat) : Option (Nat × Bool) :=
  let here := fun (s : Session) => sesPort s.desc == p && sb s.desc 0 31 == v6 && sesAddr s.desc 2 == dst &&
    vid == (if sb s.desc 0 29 then some (sf s.desc 0 25 14) else none)
  let lport := fun (s : Session) => sf s.desc 1 31 16
  let mux := fun (s : Session) => sb s.desc 13 24
  match d.se.sessions.firstP (fun _ s => here s && ((lport s == dport) || (lport s + 1 == dport && !mux s))) with
  | none => none
  | some sid =>
    match d.session? sid with
    | none => none
    | some s => some (sid, if lport s = dport then mux s && decide (192 ≤ pt ∧ pt ≤ 223) else true)

/-- R351: a replay window: the highest index and the bits of the 128 at and below it. -/
def replayed (top : Option Nat) (bits : BitVec 128) (i : Nat) : Bool :=
  match top with
  | none => false
  | some t => decide (i ≤ t) && (decide (t - i ≥ 128) || bits.getLsbD (t - i))

/-- An index enters the window. -/
def replayNote (top : Option Nat) (bits : BitVec 128) (i : Nat) : Option Nat × BitVec 128 :=
  match top with
  | none => (some i, 1)
  | some t => if t < i then (some i, (bits <<< (i - t)) ||| 1) else (some t, bits ||| (1 <<< (t - i)))

/-- R351: the SRTP index of a sequence number, by the estimate of RFC 3711 section 3.3.1. -/
def srtpIndex (top : Option Nat) (seq : Nat) : Nat :=
  match top with
  | none => seq
  | some t =>
    let roc := t / 65536
    let l := t % 65536
    let v := if l < 32768 then (if decide (l + 32768 < seq) && decide (0 < roc) then roc - 1 else roc)
      else if seq + 32768 < l then roc + 1 else roc
    v * 65536 + seq

/-- R351: the SRTCP index of a packet: before the tag of suite 1, last in suite 2. -/
def srtcpIndex (suite : Nat) (l : List Byte) : Nat := be l (l.length - (if suite = 1 then 14 else 4)) 4 % 2 ^ 31

/-! ## RTP (R351, R352, R354, R358, R359) -/

/-- The payload of an RTP packet, past CSRC list and header extension, without padding; none when it is malformed. -/
def rtpPayload (l : List Byte) : Option (List Byte) :=
  let b0 := be l 0 1
  let o := 12 + 4 * (b0 % 16)
  let o := if b0.testBit 4 then o + 4 + 4 * be l (o + 2) 2 else o
  let pad := if b0.testBit 5 then be l (l.length - 1) 1 else 0
  if l.length < o + pad ∨ (b0.testBit 5 ∧ pad = 0) then none else some ((l.take (l.length - pad)).drop o)

/-- RFC 6716: units of 48 kHz in an Opus packet. -/
def opusDur (l : List Byte) : Nat :=
  let toc := be l 0 1
  let cfg := toc / 8
  let one := if cfg < 12 then [480, 960, 1920, 2880].getD (cfg % 4) 0 else if cfg < 16 then [480, 960].getD (cfg % 2) 0
    else [120, 240, 480, 960].getD (cfg % 4) 0
  one * (match toc % 4 with | 0 => 1 | 3 => be l 1 1 % 64 | _ => 2)

/-- The bits of a list of bytes, highest first, from bit i. -/
def bitAt (l : List Byte) (i : Nat) : Bool := (l.getD (i / 8) 0).getLsbD (7 - i % 8)

/-- RFC 4867: the frame types of a packet's table of contents, from bit i, `w` bits an entry. -/
def amrTypes (l : List Byte) (fuel i w : Nat) : List Nat :=
  match fuel with
  | 0 => []
  | f + 1 =>
    let ft := ((List.range 4).map (fun k => if bitAt l (i + 1 + k) then 2 ^ (3 - k) else 0)).sum
    if bitAt l i then ft :: amrTypes l f (i + w) w else [ft]

/-- R352: units of the RTP clock in an audio payload, and whether it is comfort noise (an AMR-WB SID). -/
def audioDur (d : List (BitVec 32)) (l : List Byte) : Nat × Bool :=
  match sesCodec d with
  | 3 => (opusDur l, false)
  | 4 => let ts := if sb d 13 20 then amrTypes l 4 8 8 else amrTypes l 4 4 6
         (320 * ts.length, ts.headD 0 == 9)
  | _ => (l.length, false)

/-- R352: the codec's packets that are received: 10 to 60 ms in whole frames. -/
def durOk (d : List (BitVec 32)) (n : Nat) : Bool :=
  let ms := n * 1000 / sesClock d
  n * 1000 % sesClock d == 0 &&
  (match sesCodec d with
    | 3 => [10, 20, 40, 60].contains ms
    | 4 => [20, 40, 60].contains ms
    | _ => ms % 10 == 0 && decide (10 ≤ ms ∧ ms ≤ 60))

/-- R359: statistics of an accepted RTP packet: jitter, sequence numbers. -/
def Session.count (s : Session) (now seq ts : Nat) : Session :=
  let j := match s.transit with
    | none => s.jitter
    | some (a, u) =>
      let dd : Rat := ((now - a : Nat) : Rat) * (sesClock s.desc : Rat) / 1000000000 - (ahead32 ts u : Rat)
      s.jitter + ((if dd < 0 then -dd else dd) - s.jitter) / 16
  let (base, top) := match s.baseSeq with
    | none => (seq, seq)
    | some b => (b, let up := (seq + 65536 - s.maxSeq % 65536) % 65536; if up < 32768 then s.maxSeq + up else s.maxSeq)
  { s with jitter := j, transit := some (now, ts), baseSeq := some base, maxSeq := top, received := s.received + 1, rxpkts := s.rxpkts + 1 }

/-- R354: place a packet of audio or comfort noise. -/
def Session.place (s : Session) (now : Nat) (p : JbPkt) : Session :=
  let s := if p.noise then { s with cnSeen := true } else s
  match s.play with
  | none =>
    let due := now + s.target
    let k0 := max s.k ((due - s.t0 + 19999999) / 20000000)
    { s with play := some (k0, p.ts), delay := s.tk k0 - now, jb := [p] }
  | some (k0, ts) =>
    if (k0 : Int) + (ahead32 p.ts ts).fdiv (sesTicks s.desc) < s.k then { s with late := s.late + 1 }
    else if s.jb.any (fun q => q.ts == p.ts && q.noise == p.noise) then s
    else { s with jb := s.jb ++ [p] }

/-- R358: an RFC 4733 event packet. -/
def Session.hear (s : Session) (ts : Nat) (l : List Byte) : Session :=
  let ev := be l 0 1
  if 15 < ev ∨ l.length < 4 then s else
  let s := if s.digitTs = some ts then s else { s with digit := some ev, digitNew := true, digitOver := false, digitTs := some ts }
  if bitAt l 8 then { s with digitOver := true } else s

/-- R351 to R354: an accepted RTP packet. -/
def Session.rtp (s : Session) (now : Nat) (l : List Byte) : Session :=
  match rtpPayload l with
  | none => s
  | some b =>
    let pt := be l 1 1 % 128
    let ts := be l 4 4
    let s := s.count now (be l 2 2) ts
    let cn := sesCodec s.desc < 3 ∧ pt = sf s.desc 12 14 8
    if pt = sf s.desc 12 28 22 then
      let (n, sid) := audioDur s.desc b
      if durOk s.desc n then s.place now ⟨ts, n, now, sid⟩ else s
    else if cn then s.place now ⟨ts, sesTicks s.desc, now, true⟩
    else if pt = sf s.desc 12 21 15 ∧ sb s.desc 13 31 then s.hear ts b
    else s

/-! ## RTCP (R351, R353, R359) -/

/-- The packets of a compound RTCP packet: place and type. -/
def rtcpParts (l : List Byte) (fuel o : Nat) : List (Nat × Nat) :=
  match fuel with
  | 0 => []
  | f + 1 => if l.length < o + 4 then [] else (o, be l (o + 1) 1) :: rtcpParts l f (o + 4 * (be l (o + 2) 2 + 1))

/-- R359: the round trip of the report about this session in an SR or RR at place o: from LSR and DLSR, in ms. -/
def Session.roundTrip (s : Session) (now : Nat) (l : List Byte) (o ty : Nat) : Option Nat :=
  let first := o + if ty = 200 then 28 else 8
  match (List.range (be l o 1 % 32)).find? (fun i => be l (first + 24 * i) 4 == sw s.desc 14) with
  | some i =>
    let lsr := be l (first + 24 * i + 16) 4
    if lsr = 0 then none else
    let a := now * 65536 / 1000000000 + Config.ntpOffset
    some ((a + 2 * 2 ^ 32 - lsr - be l (first + 24 * i + 20) 4) % 2 ^ 32 * 1000 / 65536)
  | none => none

/-- R353 step 4: an accepted RTCP packet. -/
def Session.rtcp (s : Session) (now : Nat) (l : List Byte) : Session :=
  (rtcpParts l 64 0).foldl (fun s e =>
    if e.2 = 203 then { s with newBye := true }
    else if e.2 = 200 ∨ e.2 = 201 then (match s.roundTrip now l e.1 e.2 with | some v => { s with rtt := v } | none => s)
    else s) s

/-- R353 step 4: it holds a packet that Reed does not handle. -/
def rtcpOther (l : List Byte) : Bool := (rtcpParts l 64 0).any (fun e => !(decide (200 ≤ e.2 ∧ e.2 ≤ 203)))

/-! ## A matched packet (R353) -/

/-- R353 step 3: whether an SSRC is the session's, and the session that has adopted it. -/
def Session.takeSsrc (s : Session) (now ssrc : Nat) : Option Session :=
  if !sb s.desc 13 23 then (if ssrc = sw s.desc 15 then some s else none)
  else if s.ssrc = some ssrc then some { s with ssrcAt := now }
  else if s.ssrc.isNone || decide (s.ssrcAt + 1000000000 ≤ now) then
    some { s with ssrc := some ssrc, ssrcAt := now, newSsrc := true, play := none, jb := [], baseSeq := none, received := s.received - s.expected,
                  transit := none }
  else none

/-- R353: a packet that belongs to a session: source, authentication and replay, SSRC, then what it holds. -/
def Dev.sesPacket (d : Dev) (p sid : Nat) (rtcp authOk : Bool) (frame : List Byte) (src : List Byte) (sport at_ : Nat)
    (raw plain : List Byte) : Dev :=
  match d.session? sid with
  | none => d
  | some s =>
    let known := s.source.getD (sesAddr s.desc 6, sf s.desc 1 15 0)
    if known ≠ (src, sport) ∧ !sb s.desc 13 25 then d.exception p 4 sid frame else
    let suite := sf s.desc 16 13 12
    let l := if suite = 0 then raw else plain
    let idx := if rtcp then srtcpIndex suite raw else srtpIndex s.rtpTop (be raw 2 2)
    if suite ≠ 0 ∧ (!authOk ∨ (if rtcp then replayed s.rtcpTop s.rtcpBits idx else replayed s.rtpTop s.rtpBits idx)) then
      d.setSession sid (fun s => { s with authfail := s.authfail + 1 })
    else
      let s := if suite = 0 then s
        else if rtcp then { s with rtcpTop := (replayNote s.rtcpTop s.rtcpBits idx).1, rtcpBits := (replayNote s.rtcpTop s.rtcpBits idx).2 }
        else { s with rtpTop := (replayNote s.rtpTop s.rtpBits idx).1, rtpBits := (replayNote s.rtpTop s.rtpBits idx).2 }
      let s := if known ≠ (src, sport) then { s with source := some (src, sport) } else s
      let d := d.setSession sid (fun _ => s)
      if be l 0 1 / 64 ≠ 2 then d else
      match s.takeSsrc d.time (if rtcp then be l 4 4 else be l 8 4) with
      | none => d
      | some s =>
        if rtcp then
          let d := d.setSession sid (fun _ => s.rtcp d.time l)
          if rtcpOther l then d.exception p 5 sid (frame.take (at_ + 8) ++ l) else d
        else d.setSession sid (fun _ => s.rtp d.time l)

/-! ## A received frame (R343) -/

/-- R343: a frame is dropped and counted. -/
def Dev.badFrame (d : Dev) (p : Nat) : Dev := d.addSat (rSePorterr p) 63 32 1

/-- R342, R343, R353: a frame without its FCS, as a port receives it; `plain` is its datagram's payload decrypted. -/
def Dev.mediaFrame (d : Dev) (p : Nat) (fcsOk authOk : Bool) (f plain : List Byte) : Dev :=
  if !(d.bit rSeStat 31 && d.bit (rSePortcfg p) 31 && d.bit (rSePortcfg p) 30) then d else
  let (ty, o) := frameType f
  if !fcsOk ∨ f.length < 60 ∨ d.maxFrame p < f.length + 4 then d.badFrame p
  else if ty = 0x8808 ∧ (be f o 2 = 0x0001 ∨ be f o 2 = 0x0101) then d.badFrame p
  else match carriedIp f ty o with
    | .bad => d.badFrame p
    | c =>
      if (f.headD 0).getLsbD 0 then d.exception p 1 0 f
      else if be f 0 6 ≠ d.fld (rSePortmac p) 47 0 then d
      else match c with
        | .udp v6 src dst sport dport u len =>
          let raw := (f.drop (u + 8)).take (len - 8)
          match d.sesMatch p (frameVid f) v6 dst dport (be raw 1 1) with
          | some (sid, rtcp) => d.sesPacket p sid rtcp authOk f src sport u raw plain
          | none => d.exception p 0 0 f
        | .other reason => d.exception p reason 0 f
        | .bad => d

/-! ## Its command -/

/-- R353: a frame is received. -/
def execMediaFrameReceive (p : Nat) (fcsOk : Bool) (authOk : Bool) (frame : List (BitVec 8)) (plain : List (BitVec 8)) (s : State) : Out :=
  doCmd (decide (p < 2)) (fun d => d.mediaFrame p fcsOk authOk frame plain) s

end Sys2Proof.Machine
end

