-- ==== Sys2Proof/Machine/HostPorts.lean ====
section
/-! DEFINITION. Host ports: windows, root ports, link loss (R389 to R407, R467). -/

namespace Sys2Proof.Machine

open Sys2Proof

/-! ## Ownership (R393) -/

/-- R393: bit x of HP_OWNMAP[p]. -/
def Dev.owned (d : Dev) (p x : Nat) : Bool := d.bit (rHpOwnmap p (x / 32)) (x % 32)

/-- R467, R468: the functions answer: boot has reached step 7, or has stopped. -/
def Dev.hostReady (d : Dev) : Bool := decide (7 ≤ d.sup.bootStep) || d.sup.stopped

/-- A host reaches an endpoint port: its link is up and no function level reset is going on. -/
def Dev.hostHears (d : Dev) (p : Nat) : Bool := !d.isRoot p && d.linkUp p && !(d.port p).flr

/-- A host reaches an endpoint's memory: it hears, the functions are ready, and Memory Space Enable is 1. -/
def Dev.hostReaches (d : Dev) (p : Nat) : Bool := d.hostHears p && d.hostReady && (d.port p).fn.mse

/-! ## HW-B (R393, R399) -/

/-- R393: a write through HW-B. -/
def Dev.hwb (d : Dev) (p off size v : Nat) : Dev :=
  if !d.hostReaches p then d
  else if d.sup.stopped || !d.owned p (off / 4096) then d.addSat (rHpPortcnt p) 31 16 1
  else (d.doorbellWrite (off / 4096) off size v).2

/-! ## HW-C (R394) -/

/-- R394: the context and virtual address that an offset of HW-C reaches. -/
def Dev.aperture (d : Dev) (p off : Nat) : Option (Nat × Nat) :=
  let r := rHpAper p (off / 2 ^ 30)
  if d.bit r 63 && d.owned p (d.fld r 11 0) then some (d.fld r 11 0, d.fld r 55 30 * 2 ^ 30 + off % 2 ^ 30) else none

/-- An aperture access as the checks see it. -/
def whoHost (p x : Nat) : Who := { tlb := 20, via := .engine, ctx := x, waiter := .cmd 0, inst := p }

/-- R394: what the pieces of an access reach: T2 and T3 only; a piece that must wait makes it wait, any other end refuses
it. -/
def Dev.aperturePieces (d : Dev) (w : Who) (write : Bool) (ps : List (Nat × Nat)) (acc : List (Home × Nat)) : Option (List (Home × Nat)) × Bool × Dev :=
  match ps with
  | [] => (some acc.reverse, false, d)
  | (va, n) :: rest =>
    match d.resolve w va (if write then .write else .read) with
    | (.ok, h, _, d) =>
      let ok := match h with | .hbm _ => true | .core _ _ => true | _ => false
      match ok, d.verdict h w.ctx write with
      | true, .pass => d.aperturePieces w write rest ((h, n) :: acc)
      | true, .wait => (none, true, d)
      | _, _ => (none, false, d)
    | (.wait, _, _, d) => (none, true, d)
    | (_, _, _, d) => (none, false, d)

/-- R394: a refused access: reads return all ones. -/
def Dev.apertureRefused (d : Dev) (p : Nat) (write : Bool) (len : Nat) : Dev :=
  { (d.addSat (rHpPortcnt p) 63 48 1) with out := if write then d.out else List.replicate len 0xFF }

/-- Read the homes of an access whose checks have passed: the bytes, and whether a line was poisoned. -/
def Dev.readHomes (d : Dev) (l : List (Home × Nat)) : List Byte × Bool :=
  (l.flatMap (fun e => d.readHome e.1 e.2), l.any (fun e => d.badHome e.1 e.2))

/-- Write the homes of an access whose checks have passed. -/
def Dev.writeHomes (d : Dev) (l : List (Home × Nat)) (bytes : List Byte) : Dev :=
  (l.foldl (fun (a : Dev × List Byte) e => (a.1.storeLine .engine e.1 (a.2.take e.2), a.2.drop e.2)) (d, bytes)).1

/-- R394, R395: an access through HW-C. A read that meets poison answers with a poisoned completion (R390). -/
def Dev.apertureAccess (d : Dev) (p : Nat) (write : Bool) (off len : Nat) (data : List Byte) : Dev :=
  if !d.hostReaches p then d else
  match (if d.sup.stopped then none else d.aperture p off) with
  | none => d.apertureRefused p write len
  | some (x, va) =>
    let w := whoHost p x
    match d.aperturePieces w write (cut 128 va (if write then data.length else len)) [] with
    | (some l, _, d) =>
      if write then d.writeHomes l data
      else
        let (b, bad) := d.readHomes l
        { (l.foldl (fun d e => d.poisonRead .engine e.1 e.2) d) with out := b, outBad := bad }
    | (none, true, d) => d
    | (none, false, d) => d.apertureRefused p write len

/-! ## Configuration requests (R390, R398, R467) -/

/-- A register of a function's configuration space: device ID 0x7200, class code 0x12_0000, the enables of the command
register; any other register as it was last written, or as the part has it. -/
def Dev.configReg (d : Dev) (p reg : Nat) : BitVec 32 :=
  let f := (d.port p).fn
  let v := match f.other.find reg with | some v => BitVec.ofNat 32 v | none => Config.configSpace p reg
  if reg = 0 then v.extractLsb' 0 16 |>.setWidth 32 |>.or 0x72000000
  else if reg = 8 then v.extractLsb' 0 8 |>.setWidth 32 |>.or 0x12000000
  else if reg = 4 then BitVec.ofNat 32 (putBits v.toNat 2 1 ((if f.mse then 1 else 0) + (if f.bme then 2 else 0)))
  else v

/-- R467: a configuration request: Request Retry Status, which carries no data, until the function is ready. -/
def Dev.configRequest (d : Dev) (p : Nat) (q : CfgReq) : Dev :=
  if !d.hostHears p then d
  else if !d.hostReady then { d with out := [] }
  else match q with
    | .read reg => { d with out := leBytes 4 (d.configReg p (reg % 4096 / 4 * 4)).toNat }
    | .memoryMaster mse bme => d.setPort p (fun h => { h with fn := { h.fn with mse := mse, bme := bme } })
    | .relaxed on => d.setPort p (fun h => { h with fn := { h.fn with relaxed := on } })
    | .msix on mask => (d.setPort p (fun h => { h with fn := { h.fn with msixOn := on, msixMask := mask } })).msixPending p
    | .other reg v => d.setPort p (fun h => { h with fn := { h.fn with other := h.fn.other.set (reg % 4096 / 4 * 4) v } })

/-! ## Root ports (R405) -/

/-- R405: a memory request of the device attached to a root port: served in T2 and T3 as its context, an event for a write
to CROWN_EVRAISE, else Unsupported Request, which returns nothing. -/
def Dev.rootInbound (d : Dev) (p : Nat) (write : Bool) (addr len : Nat) (data : List Byte) : Dev :=
  let unsupported := if write then d else { d with out := [] }
  if !d.isRoot p || !d.linkUp p then d
  else if !d.bit (rHpRpctx p) 31 then unsupported
  else if write && addr == 0xF00000000000 + rCrownEvraise then
    (if data.length = 4 ∧ ofLe data < 2048 then d.raiseEvent (ofLe data) else d)
  else
    let x := d.fld (rHpRpctx p) 11 0
    let l := (cut 128 addr (if write then data.length else len)).map (fun e => (d.home e.1, e.2))
    let fits := l.all (fun e => match e.1 with | .hbm _ => true | .core _ _ => true | _ => false)
    match (l.map (fun e => d.verdict e.1 x write)).find? (· != .pass) with
    | some .wait => d
    | some _ => unsupported
    | none =>
      if !fits then unsupported
      else if write then d.writeHomes l data
      else
        let (b, bad) := d.readHomes l
        { d with out := b, outBad := bad }

/-! ## Link loss (R406) -/

/-- R406: an address of the port's T5 range, or of a core-memory decoder that names the port. -/
def Dev.lostRange (d : Dev) (p pa : Nat) : Bool :=
  match d.home pa with
  | .host _ q => q == p
  | .core _ _ =>
    let g := (pa - 0x100000000000) / 2 ^ 30
    match lowest 8 (fun i => d.bit (rHpCxldec i) 63 && decide (d.fld (rHpCxldec i) 29 16 ≤ g ∧ g ≤ d.fld (rHpCxldec i) 29 16 + d.fld (rHpCxldec i) 13 0)) with
    | some i =>
      let r := rHpCxldec i
      let ways := match d.fld r 62 61 with | 1 => 2 | 2 => 4 | _ => 1
      (List.range ways).any (fun w => bitsOf (d.reg r) (36 + 3 * w + 2) (36 + 3 * w) == p)
    | none => false
  | _ => false

/-- R406 step 2: cached lines of the lost range are invalidated, dirty data is discarded and counted, rings in the range
are turned off. -/
def Dev.lossDiscard (d : Dev) (p : Nat) : Dev :=
  let held := (d.ms.caches.flatMap (fun e => e.2.lines.keysP (fun _ _ => true))).dedup.filter (fun l => d.lostRange p (128 * l))
  let dirty := (held.filter (fun l => d.modified l)).length
  let d := held.foldl Dev.discardLine d
  let d := if dirty = 0 then d else d.error 0x18 31 p Status.portDown.code 0 0 none dirty
  ((List.range 17) ++ [18, 19]).foldl (fun d n => if d.ringOn n && d.lostRange p (d.ringBase n) then d.setBit (ringRegs n).ctl 31 false else d) d

/-- R317, R406: the CP destroys a context of its own accord. -/
def Dev.destroyOwn (d : Dev) (x : Nat) : Dev :=
  if d.ctxState x = 1 ∨ d.ctxState x = 2 then
    let d := (d.setCtxState x 3).stopSuspend x 0
    (d.ctxQueues x).foldl (fun d q => if (d.queue q).destroying then d else d.drainQueue q) d
  else d

/-- R406 step 3: the contexts of the port's host are destroyed, context 0's queues if it owns context 0; ownership and
apertures are cleared. -/
def Dev.lossContexts (d : Dev) (p : Nat) : Dev :=
  let mine := (List.range 4096).filter (fun x => d.owned p x)
  let d := mine.foldl (fun d x =>
    if x = 0 then (d.ctxQueues 0).foldl (fun d q => if (d.queue q).destroying then d else d.drainQueue q) d else d.destroyOwn x) d
  (d.resetRegs (fun o => decide (rHpOwnmap p 0 ≤ o ∧ o < rHpOwnmap p 128) || decide (rHpAper p 0 ≤ o ∧ o < rHpAper p 64))).destroyTick

/-- R406 steps 1 to 3: link loss on a port. -/
def Dev.linkLost (d : Dev) (p : Nat) : Dev :=
  let d := (d.setBit (rHpPortstat p) 61 true).addSat (rHpPortstat p) 47 32 1
  let d := d.lossDiscard p
  if d.isRoot p then d else d.lossContexts p

/-- R406: a link goes down or enters reset; requests to the port wait. -/
def Dev.linkDown (d : Dev) (p : Nat) : Dev :=
  if (d.port p).lossAt.isSome then d else
  let d := (d.setBit (rHpPortstat p) 62 false).setFld (rHpPortstat p) 60 51 0
  d.setPort p (fun h => { h with lossAt := some d.time })

/-- R390, R406 step 5: the function returns to its reset state. -/
def Dev.functionReset (d : Dev) (p : Nat) : Dev := d.setPort p (fun h => { h with fn := {}, msix := [], pba := [], flr := false })

/-- R406: the link is up again: within 100 ms all resumes; after link loss the function is in its reset state. -/
def Dev.hostLinkUp (d : Dev) (p speed width : Nat) : Dev :=
  let d := (((d.setBit (rHpPortstat p) 62 true).setFld (rHpPortstat p) 60 56 speed).setFld (rHpPortstat p) 55 51 width).setPort p
    (fun h => { h with lossAt := none })
  if d.portLost p then d.functionReset p else d

/-- R406: the function has completed its reset. -/
def Dev.functionDone (d : Dev) (p : Nat) : Dev := if (d.port p).flr then d.functionReset p else d

/-- R406, R416: HP_PORTCTL.REARM. -/
def Dev.rearm (d : Dev) (p : Nat) : Dev := if d.linkUp p then d.setBit (rHpPortstat p) 61 false else d

/-! ## Their commands -/

/-- R393: a doorbell write of a host. -/
def execHwbDoorbellWrite (p : Nat) (off : Nat) (size : Nat) (val : Nat) (s : State) : Out :=
  doCmd (decide (p < 6) && decide (off < 2 ^ 64) && decide (size = 1 ∨ size = 2 ∨ size = 4 ∨ size = 8) && decide (val < 2 ^ 64)) (fun d => d.hwb p off size val) s

/-- R394: a host reaches memory through HW-C. -/
def execApertureAccess (p : Nat) (write : Bool) (off : Nat) (len : Nat) (data : List (BitVec 8)) (s : State) : Out :=
  doCmd (decide (p < 6) && decide (off < 2 ^ 64) && decide (1 ≤ len ∧ len ≤ 4096) && decide (data.length = len)) (fun d => d.apertureAccess p write off len data) s

/-- R467: a configuration request. -/
def execConfigRequest (p : Nat) (req : CfgReq) (s : State) : Out :=
  doCmd (decide (p < 6)) (fun d => d.configRequest p req) s

/-- R405: a request of an attached device. -/
def execRootInboundRequest (p : Nat) (write : Bool) (addr : Nat) (len : Nat) (data : List (BitVec 8)) (s : State) : Out :=
  doCmd (decide (p < 6) && decide (addr < 2 ^ 64) && decide (1 ≤ len ∧ len ≤ 4096) && decide (data.length = len)) (fun d => d.rootInbound p write addr len data) s

/-- R406: a link goes down. -/
def execLinkLossStart (p : Nat) (s : State) : Out := doCmd (decide (p < 6)) (fun d => d.linkDown p) s

/-- R406: a link returns. -/
def execHostLinkUp (p : Nat) (speed : Nat) (width : Nat) (s : State) : Out :=
  doCmd (decide (p < 6)) (fun d => d.hostLinkUp p speed width) s

/-- R406: a function completes its reset. -/
def execFunctionResetDone (p : Nat) (s : State) : Out := doCmd (decide (p < 6)) (fun d => d.functionDone p) s

end Sys2Proof.Machine
end

