-- ==== Sys2Proof/Machine/FabLinks.lean ====
section
/-! DEFINITION. Fabric ports, modules, election and routes (R417 to R426, R437 to R441). -/

namespace Sys2Proof.Machine

open Sys2Proof

/-! ## Ports -/

/-- A fabric port as it stands. -/
def Dev.fport (d : Dev) (p : Nat) : FabPort := d.fe.ports.get {} p

/-- Change a fabric port. -/
def Dev.setFport (d : Dev) (p : Nat) (f : FabPort → FabPort) : Dev := { d with fe := { d.fe with ports := d.fe.ports.upd {} p f } }

/-- FE_PORTSTAT.STATE: 0 OFF, 1 NOMODULE, 2 MODWAIT, 3 TRAINING, 4 UP, 5 DOWN, 6 MISCABLED. -/
def Dev.fpState (d : Dev) (p : Nat) : Nat := d.fld (rFePortstat p) 63 60

/-- Give FE_PORTSTAT.STATE a value. -/
def Dev.setFpState (d : Dev) (p s : Nat) : Dev := d.setFld (rFePortstat p) 63 60 s

/-- The FE firmware runs, and the ports are not fenced (R440). -/
def Dev.feRuns (d : Dev) : Bool := d.bit rFeStat 31
/-- The FE takes part in the fabric. -/
def Dev.feSpeaks (d : Dev) : Bool := d.bit rFeStat 31 && !d.bit rFeStat 28

/-- A link that is trained. -/
def Dev.trained (d : Dev) (p : Nat) : Bool := d.fpState p == 4 || d.fpState p == 6

/-- The FE sends something. -/
def Dev.fabTx (d : Dev) (m : FabTx) : Dev := if d.feSpeaks then { d with fe := { d.fe with tx := d.fe.tx ++ [m] } } else d

/-- FE_STAT.PHASE. -/
def Dev.fePhase (d : Dev) (n : Nat) : Dev := d.setFld rFeStat 19 16 n

/-! ## Routes (R426) -/

/-- One name for both ends of a link. -/
def Topo.linkName (t : Topo) (e : Nat × Nat) : Nat × Nat :=
  match t.neighbour e.1 (portDir e.2) with
  | some v => if v < e.1 ∨ (v = e.1 ∧ peerPort e.2 < e.2) then (v, peerPort e.2) else e
  | none => e

/-- R435: collectives with a member that has lost its routing entry end. -/
def Dev.collRoutes (d : Dev) : Dev :=
  (d.fe.colls.keysP (fun _ c => c.members.any (fun m => some m != d.ownId && !d.routed m))).foldl (fun d r => d.failRun r .remoteDead) d

/-- R185: units being reclaimed whose borrower has no routing entry are revoked. -/
def Dev.lendRoutes (d : Dev) : Dev :=
  ((List.range 1152).filter (fun n => d.bit (rCrownFadmit n) 29 && d.fld (rCrownFadmit n) 31 30 == 1 && !d.routed (d.fld (rCrownFadmit n) 14 0) &&
    d.ownId != some (d.fld (rCrownFadmit n) 14 0))).foldl Dev.revoke d

/-- CROWN_PKGID.SERIAL and FE_CFG.PRIO: the key (R437). -/
def Dev.feKey (d : Dev) : Nat × Nat := (d.fld rFeCfg 31 24, d.fld rCrownPkgid 31 0)

/-- Keys in order. -/
def keyLt (a b : Nat × Nat) : Bool := decide (a.1 < b.1 ∨ (a.1 = b.1 ∧ a.2 < b.2))

/-- R440: when the root has failed, a new election begins from the device's own key. -/
def Dev.rootGone (d : Dev) : Dev :=
  match d.fe.best, d.fe.settled with
  | some (pr, sn), true =>
    if (pr, sn) = d.feKey ∨ d.fe.devs.any (fun e => e.2 == sn && d.routed e.1) ∨ !d.fe.devs.any (fun e => e.2 == sn) then d
    else ({ d with fe := { d.fe with best := some d.feKey, bestAt := d.time, settled := false, gone := sn :: d.fe.gone } }).setBit rFeStat 29 false
  | _, _ => d

/-- R427: the numbers of a pair whose routing entry is gone start afresh when the device joins again. -/
def Dev.forgetPairs (d : Dev) : Dev :=
  let live := fun (k : Nat) => k == 0x7FFF || d.routed (k % 0x8000)
  { d with fe := { d.fe with
      nextSeq := d.fe.nextSeq.filter (fun e => live e.1),
      expect := d.fe.expect.filter (fun e => live e.1), held := d.fe.held.filter (fun e => live e.1) } }

/-- R426: compute the routes again and install them. -/
def Dev.install (d : Dev) : Dev :=
  let t := topoOf (d.reg rFeTopo)
  let d := { d with fe := { d.fe with routeDevs := d.fe.devs.keysP (fun _ _ => true), routeFails := d.fe.fails } }
  let d := d.setFld rFeLinkfail 15 0 (min 65535 ((d.fe.fails.map t.linkName).dedup.length))
  (((d.addWrap rFeStat 15 0 1).forgetPairs).collRoutes.lendRoutes).rootGone

/-- R426: the ends of links known to have failed become `fails`. Routes are installed when that changes which links have failed,
not when the other end of a link says so too. -/
def Dev.noteFails (d : Dev) (fails : List (Nat × Nat)) : Dev :=
  let t := topoOf (d.reg rFeTopo)
  let was := d.fe.fails.map t.linkName
  let now := fails.map t.linkName
  let d := { d with fe := { d.fe with fails := fails } }
  if was.all now.contains && now.all was.contains then d else d.install

/-- A link's state as this device floods it: its own end, once it has an ID. -/
def Dev.linkNote (d : Dev) (p : Nat) (up : Bool) : Dev :=
  match d.ownId with
  | none => d
  | some own =>
    let fails := if up then d.fe.fails.erase (own, p) else if d.fe.fails.contains (own, p) then d.fe.fails else d.fe.fails ++ [(own, p)]
    (d.fabTx (.linkState own p up)).noteFails fails

/-- The ports that a topology uses at a device. -/
def Topo.uses (t : Topo) (dev p : Nat) : Bool := (t.neighbour dev (portDir p)).isSome

/-- R437: every port is resolved: UP, MISCABLED or DOWN, off, or without a module. -/
def Dev.portsResolved (d : Dev) : Bool := (List.range 16).all (fun p => !(d.fpState p == 2 || d.fpState p == 3))

/-- R437: FE_STAT.PHASE goes from LINKS to ELECT once every port is resolved. -/
def Dev.linksTick (d : Dev) : Dev := if d.fld rFeStat 19 16 = 1 ∧ d.portsResolved then d.fePhase 2 else d

/-- R426: a link fails: no lane works, its state follows, the failure is flooded. -/
def Dev.linkFail (d : Dev) (p state : Nat) : Dev :=
  let was := d.trained p
  let d := (d.setFpState p state).setFld (rFePortstat p) 59 56 0
  let d := d.setFport p (fun f => { f with lanes := 0, hello := none })
  if was then d.linkNote p false else d

/-! ## Modules (R419 to R421) -/

/-- The wear record of a module. -/
def Dev.wearOf (d : Dev) (sn : Nat) : Wear := d.nv.wear.get {} sn

/-- R420: FE_MODWEAR shows the module's record. -/
def Dev.showWear (d : Dev) (p : Nat) : Dev :=
  match (d.fport p).present with
  | none => d.setReg (rFeModwear p) 0
  | some (_, _, sn) =>
    let w := d.wearOf sn
    let lim := max 1 (d.fld rFeCfg 23 16)
    let worn := decide (lim ≤ w.inserts) || decide (100 ≤ w.bias)
    d.setReg (rFeModwear p) ((if worn || d.bit (rFeModwear p) 63 then 2 ^ 63 else 0) + min 65535 w.inserts * 2 ^ 32 + w.bias % 65536 * 2 ^ 16 + min 65535 w.days)

/-- R419, R420: the FE powers a port: it reads the module's identity and waits for it; `insert` counts an insertion. -/
def Dev.powerPort (d : Dev) (p : Nat) (insert : Bool) : Dev :=
  match (d.fport p).present with
  | none => (d.setFpState p 1).setReg (rFeModid p) 0
  | some (kind, oui, sn) =>
    let d := d.setReg (rFeModid p) (kind * 2 ^ 62 + oui % 2 ^ 24 * 2 ^ 32 + sn % 2 ^ 32)
    if kind = 1 ∨ kind = 2 then
      let d := if insert then { d with nv := { d.nv with wear := d.nv.wear.upd {} sn (fun w => { w with inserts := w.inserts + 1 }) } } else d
      (d.setFpState p (if kind = 1 then 3 else 2)).showWear p
    else d.setFpState p 1

/-- R439 step 2, R437: the FE firmware starts: module ports are powered, the best key is the device's own. -/
def Dev.feStart (d : Dev) : Dev :=
  let d := (d.setBit rFeStat 31 true).fePhase 1
  let d := { d with fe := { d.fe with best := some d.feKey, bestAt := d.time, settled := false } }
  ((List.range 16).foldl (fun d p => if d.bit (rFePortctl p) 31 then d.powerPort p true else d) d).linksTick

/-- R421: a module is inserted. -/
def Dev.moduleIn (d : Dev) (p kind oui sn : Nat) : Dev :=
  let d := d.setFport p (fun f => { f with present := if kind = 0 then none else some (kind % 4, oui, sn % 2 ^ 32) })
  if d.feRuns && d.bit (rFePortctl p) 31 then d.powerPort p true else d

/-- R421, R426: a module is removed. -/
def Dev.moduleOut (d : Dev) (p : Nat) : Dev :=
  let d := d.linkFail p (if d.bit (rFePortctl p) 31 && d.feRuns then 1 else 0)
  let d := (d.setFport p (fun f => { f with present := none })).setReg (rFeModid p) 0
  (d.setReg (rFeModwear p) 0).linksTick

/-- R421: a module is ready: its link trains. -/
def Dev.moduleReady (d : Dev) (p : Nat) : Dev := if d.fpState p = 2 then d.setFpState p 3 else d

/-- R420: a module's wear record is updated. -/
def Dev.moduleWear (d : Dev) (p days bias : Nat) : Dev :=
  match (d.fport p).present with
  | none => d
  | some (_, _, sn) =>
    ({ d with nv := { d.nv with wear := d.nv.wear.upd {} sn (fun w =>
      { w with days := min 65535 (max w.days days), bias := max w.bias bias }) } }).showWear p

/-- Working lanes. -/
def lanesOf (v : BitVec 8) : Nat := ((List.range 8).filter (fun i => v.getLsbD i)).length

/-- R418: the working lanes of a trained link change; with fewer than 6 it is down. -/
def Dev.setLanes (d : Dev) (p : Nat) (v : BitVec 8) : Dev :=
  if !d.trained p then d
  else if lanesOf v < 6 then d.linkFail p 3
  else (d.setFport p (fun f => { f with lanes := v })).setFld (rFePortstat p) 59 56 (lanesOf v)

/-- R418, R421: a link has trained: it is added to routing. -/
def Dev.linkTrained (d : Dev) (p : Nat) (v : BitVec 8) : Dev :=
  if !(d.feRuns && (d.fpState p == 3 || d.fpState p == 5)) || decide (lanesOf v < 6) then d else
  let d := ((d.setFpState p 4).setFld (rFePortstat p) 59 56 (lanesOf v)).setFport p (fun f => { f with lanes := v })
  (d.linkNote p true).linksTick

/-- R437: a port that is not UP in time is DOWN, and goes on training. -/
def Dev.portDeclare (d : Dev) (p : Nat) : Dev := if d.fpState p = 2 ∨ d.fpState p = 3 then (d.setFpState p 5).linksTick else d

/-- R441: FE_PORTCTL.RETRAIN. -/
def Dev.retrain (d : Dev) (p : Nat) : Dev := if d.trained p then d.linkFail p 3 else d

/-- R441: FE_PORTCTL.EN. -/
def Dev.portEnable (d : Dev) (p : Nat) (was : Bool) : Dev :=
  let en := d.bit (rFePortctl p) 31
  if en = was then d
  else if en then (if d.feRuns then d.powerPort p false else d)
  else (d.linkFail p 0).linksTick

/-! ## Coordinates and presence (R438, R440) -/

/-- R440: the fabric ports are fenced. -/
def Dev.feFence (d : Dev) (reason : Nat) : Dev := (d.setBit rFeStat 28 true).setFld rFeStat 27 26 reason

/-- R438, R440: FREADY is set. -/
def Dev.feReady (d : Dev) : Dev :=
  if d.bit rFeStat 30 then d else ((d.setBit rFeStat 30 true).setReg rFeReadytime (d.time % 2 ^ 64)).fePhase 5

/-- R438: the root broadcasts FABRIC_READY once every present device has reported. -/
def Dev.feAnnounce (d : Dev) : Dev :=
  if d.bit rFeStat 29 && !d.fe.announced && !d.fe.devs.isEmpty && d.fe.devs.all (fun e => d.fe.ready.contains e.1) then
    (({ d with fe := { d.fe with announced := true } }).fabTx .fabricReady).feReady
  else d

/-- The coordinates lie within the dimensions. -/
def Topo.holds (t : Topo) (dev : Nat) : Bool := decide (coordDim dev 0 < t.dx) && decide (coordDim dev 1 < t.dy) && decide (coordDim dev 2 < t.dz)

/-- R438: the device takes its coordinates: its presence and its links are flooded, routes are computed, READY is
reported. -/
def Dev.takeCoord (d : Dev) (dev : Nat) : Dev :=
  let t := topoOf (d.reg rFeTopo)
  if !t.holds dev then d.feFence 2 else
  let d := (d.setBit rFeId 31 true).setFld rFeId 14 0 dev
  let own := ((List.range 16).filter (fun p => t.uses dev p && d.fpState p != 4)).map (fun p => (dev, p))
  let d := { d with fe := { d.fe with devs := d.fe.devs.set dev (d.fld rCrownPkgid 31 0), fails := d.fe.fails ++ own.filter (fun e => !d.fe.fails.contains e) } }
  let d := (d.fabTx (.presence dev (d.fld rCrownPkgid 31 0)))
  let d := own.foldl (fun d e => d.fabTx (.linkState dev e.2 false)) d
  let d := (d.install.fePhase 4).fabTx (.ready dev)
  let d := if d.bit rFeStat 30 then d.fePhase 5 else d
  ({ d with fe := { d.fe with ready := if d.fe.ready.contains dev then d.fe.ready else d.fe.ready ++ [dev] } }).feAnnounce

/-- The position straps (R508, R438). -/
def Dev.strapCoord (d : Dev) : Option Nat := if d.pins.posEn then some (d.pins.pos.toNat % 32768) else none

/-- R437, R438: the election settles: the root's FE_TOPO is adopted, straps or ASSIGN give coordinates. -/
def Dev.electionSettle (d : Dev) : Dev :=
  if !d.feSpeaks || d.fe.settled || !d.portsResolved then d else
  match d.fe.best with
  | none => d
  | some b =>
    let root := b == d.feKey
    let heard := d.fe.ports.filterMap (fun e => e.2.hello)
    let topo := if root then none else
      match heard.find? (fun h => (h.prio, h.serial) == b) with
      | some h => some h.topo
      | none => (heard.find? (fun h => (h.bestPrio, h.bestSerial) == b)).map (·.topo)
    let d := match topo with | some v => d.setReg rFeTopo v.toNat | none => d
    let d := ({ d with fe := { d.fe with settled := true } }).setBit rFeStat 29 root
    if d.bit rFeId 31 then d.feAnnounce
    else
      let d := d.fePhase 3
      match d.strapCoord with
      | some c =>
        let d := d.takeCoord c
        if d.bit rFeId 31 then d.fabTx (.assign c) else d
      | none => if root then (d.takeCoord 0).fabTx (.assign 0) else d

/-- R438: the coordinates that an ASSIGN from a sender gives on a port. -/
def Topo.fromSender (t : Topo) (p sender : Nat) : Option Nat := t.neighbour sender { portDir p with plus := !(portDir p).plus }

/-- R417: a link is marked MISCABLED: it counts as failed. -/
def Dev.miscable (d : Dev) (p : Nat) : Dev := if d.fpState p = 4 then ((d.setFpState p 6).linkNote p false) else d

/-- R438: an ASSIGN: the first gives coordinates and is forwarded once; a later one that disagrees marks the link. -/
def Dev.assignReceive (d : Dev) (p sender : Nat) : Dev :=
  if !d.feSpeaks || !d.trained p then d else
  match (topoOf (d.reg rFeTopo)).fromSender p sender, d.ownId with
  | none, _ => d.miscable p
  | some c, some own => if own = c then d else d.miscable p
  | some c, none =>
    if d.pins.posEn then d
    else
      let d := d.takeCoord c
      if d.bit rFeId 31 then d.fabTx (.assign c) else d

/-- R426, R438, R440: a flooded message: what is new is passed on, and routes follow. -/
def Dev.linkStateReceive (d : Dev) (m : FabTx) : Dev :=
  if !d.feSpeaks then d else
  match m with
  | .linkState dev p up =>
    if up then (if d.fe.fails.contains (dev, p) then (d.fabTx m).noteFails (d.fe.fails.erase (dev, p)) else d)
    else if d.fe.fails.contains (dev, p) then d
    else (d.fabTx m).noteFails (d.fe.fails ++ [(dev, p)])
  | .presence dev sn =>
    if d.ownId = some dev ∧ sn ≠ d.fld rCrownPkgid 31 0 then (if sn < d.fld rCrownPkgid 31 0 then d.feFence 1 else d)
    else if d.fe.devs.find dev = some sn then d
    else (({ d with fe := { d.fe with devs := d.fe.devs.set dev sn } }).fabTx m).install
  | _ => d

/-! ## HELLO (R437, R417, R440) -/

/-- R437: a HELLO goes out on every trained link. -/
def Dev.helloSend (d : Dev) : Dev :=
  if !d.feSpeaks then d else
  let b := d.fe.best.getD d.feKey
  (List.range 16).foldl (fun d p =>
    if d.trained p then
      d.fabTx (.hello p ⟨d.feKey.1, d.feKey.2, d.ownId, p, b.1, b.2, BitVec.ofNat 32 (d.reg rFeTopo), d.bit rFeStat 30⟩)
    else d) d

/-- R437: a key is received. -/
def Dev.hearKey (d : Dev) (k : Nat × Nat) : Dev :=
  if d.fe.gone.contains k.2 then d
  else match d.fe.best with
    | some b => if keyLt k b then { d with fe := { d.fe with best := some k, bestAt := d.time, settled := false } } else d
    | none => { d with fe := { d.fe with best := some k, bestAt := d.time } }

/-- R417: a HELLO contradicts the wiring: its peer port, or its coordinates. -/
def Dev.helloWrong (d : Dev) (p : Nat) (h : Hello) : Bool :=
  h.port != peerPort p ||
  (match d.ownId, h.coord with
    | some own, some c => (topoOf (d.reg rFeTopo)).neighbour own (portDir p) != some c
    | _, _ => false)

/-- R417, R437, R440: a HELLO is received. -/
def Dev.helloReceive (d : Dev) (p : Nat) (h : Hello) : Dev :=
  if !d.feSpeaks || !d.trained p then d else
  let d := d.setFport p (fun f => { f with hello := some h })
  let d := (d.setFld (rFePortstat p) 55 52 h.port).setFld (rFePortstat p) 51 37 (h.coord.getD 0)
  let d := if d.helloWrong p h then d.miscable p
    else if d.fpState p = 6 then (d.setFpState p 4).linkNote p true
    else d
  let d := (d.hearKey (h.prio, h.serial)).hearKey (h.bestPrio, h.bestSerial)
  if h.fready && d.bit rFeId 31 && !d.fe.routeDevs.isEmpty then d.feReady else d

/-- R426: three HELLOs in a row are missed. -/
def Dev.helloMissed (d : Dev) (p : Nat) : Dev := if d.trained p then d.linkFail p 3 else d

/-- R426: a link's PHY loses lock. -/
def Dev.linkLoss (d : Dev) (p : Nat) : Dev := if d.trained p then d.linkFail p 3 else d

/-- R438: a READY report reaches the root. -/
def Dev.readyReport (d : Dev) (dev : Nat) : Dev :=
  if !d.feSpeaks || !d.bit rFeStat 29 then d
  else ({ d with fe := { d.fe with ready := if d.fe.ready.contains dev then d.fe.ready else d.fe.ready ++ [dev] } }).feAnnounce

/-! ## The route report (R441) -/

/-- R441: a write of FE_ROUTEQ latches the report. -/
def Dev.routeReport (d : Dev) (dev : Nat) : Dev :=
  let r := match d.ownId with | some own => if d.bit rFeStat 28 then none else d.net.route own dev | none => none
  d.setReg rFeRouteres (match r with
    | some r => 2 ^ 63 + (if r.detour then 2 ^ 62 else 0) + r.hops % 64 * 2 ^ 56 + r.port * 2 ^ 52 + d.fld rFeStat 15 0
    | none => d.fld rFeStat 15 0)

/-! ## Packets in transit (R426) -/

/-- A port carries traffic. -/
def Dev.portUp (d : Dev) (p : Nat) : Bool := d.fpState p == 4

/-- R426 stage 1: the port of a local detour: the next dimension, plus when its link works, else minus. -/
def Dev.detourPort (d : Dev) (dim : Nat) : Option Nat :=
  let pick := fun k => match (Dir.ports ⟨k, true, false⟩).find? d.portUp with
    | some p => some p
    | none => (Dir.ports ⟨k, false, false⟩).find? d.portUp
  match pick ((dim + 1) % 3) with
  | some p => some p
  | none => pick ((dim + 2) % 3)

/-- R426: a packet for another device goes on: on its route, on the other link of the pair, from a failed express link to
single hops, else by a detour; a packet detoured four times is discarded. -/
def Dev.transit (d : Dev) (dst detours : Nat) : Dev :=
  match d.ownId with
  | none => d
  | some own =>
    if own = dst ∨ d.bit rFeStat 28 then d else
    match d.net.route own dst with
    | none => d
    | some r =>
      let dir := portDir r.port
      let same := (r.port :: dir.ports) ++ (if dir.express then Dir.ports { dir with express := false } else [])
      match same.find? d.portUp with
      | some p => d.fabTx (.forward p dst detours)
      | none =>
        if 4 ≤ detours then d
        else match d.detourPort dir.dim with
          | some p => d.fabTx (.forward p dst (detours + 1))
          | none => d

/-! ## Their commands -/

/-- R426: a fabric link fails. -/
def execLinkFailure (p : Nat) (s : State) : Out := doCmd (decide (p < 16)) (fun d => d.linkLoss p) s

/-- R426: HELLOs are missed. -/
def execHelloMissTimeout (p : Nat) (s : State) : Out := doCmd (decide (p < 16)) (fun d => d.helloMissed p) s

/-- R418: a lane fails. -/
def execLaneFailure (p : Nat) (lane : Nat) (s : State) : Out :=
  doCmd (decide (p < 16) && decide (lane < 8)) (fun d => d.setLanes p ((d.fport p).lanes &&& ~~~((1 : BitVec 8) <<< lane))) s

/-- R418: a lane is retrained. -/
def execFabricLaneRetrained (p : Nat) (lane : Nat) (s : State) : Out :=
  doCmd (decide (p < 16) && decide (lane < 8)) (fun d => d.setLanes p ((d.fport p).lanes ||| ((1 : BitVec 8) <<< lane))) s

/-- R418: a flit is replayed. -/
def execFlitCrcFailure (p : Nat) (s : State) : Out :=
  doCmd (decide (p < 16)) (fun d => d.addSat (rFePortstat p) 31 0 1) s

/-- R426: a flooded message. -/
def execLinkStateReceive (m : FabTx) (s : State) : Out := doCmd m.flooded (fun d => d.linkStateReceive m) s

/-- R437: HELLOs are sent. -/
def execHelloTimer  (s : State) : Out := doCmd true (fun d => d.helloSend) s

/-- R437: a HELLO is received. -/
def execHelloReceive (p : Nat) (h : Hello) (s : State) : Out := doCmd (decide (p < 16)) (fun d => d.helloReceive p h) s

/-- R437: a port is declared DOWN. -/
def execPortDownDeclare (p : Nat) (s : State) : Out := doCmd (decide (p < 16)) (fun d => d.portDeclare p) s

/-- R437: the election settles. -/
def execElectionSettle  (s : State) : Out := doCmd true (fun d => d.electionSettle) s

/-- R438: an ASSIGN is received. -/
def execAssignReceive (p : Nat) (coord : Nat) (s : State) : Out :=
  doCmd (decide (p < 16) && decide (coord < 32768)) (fun d => d.assignReceive p coord) s

/-- R438: a READY report is received. -/
def execReadyReportReceive (dev : Nat) (s : State) : Out := doCmd (decide (dev < 32768)) (fun d => d.readyReport dev) s

/-- R438: FABRIC_READY is received. -/
def execFabricReadyReceive  (s : State) : Out :=
  doCmd true (fun d => if d.feSpeaks && d.bit rFeId 31 then d.feReady else d) s

/-- R421: a module is removed. -/
def execModuleRemoval (p : Nat) (s : State) : Out := doCmd (decide (p < 16)) (fun d => d.moduleOut p) s

/-- R421: a module is inserted. -/
def execModuleInsertion (p : Nat) (kind : Nat) (oui : Nat) (sncrc : Nat) (s : State) : Out :=
  doCmd (decide (p < 16)) (fun d => d.moduleIn p kind oui sncrc) s

/-- R421: a module is ready. -/
def execModuleReady (p : Nat) (s : State) : Out := doCmd (decide (p < 16)) (fun d => d.moduleReady p) s

/-- R420: a wear record is updated. -/
def execModuleWearUpdate (p : Nat) (days : Nat) (bias : Nat) (s : State) : Out :=
  doCmd (decide (p < 16)) (fun d => d.moduleWear p days bias) s

/-- R421: a link has trained. -/
def execLinkTrained (p : Nat) (lanes : BitVec 8) (s : State) : Out :=
  doCmd (decide (p < 16)) (fun d => d.linkTrained p lanes) s

/-- R426: a packet in transit. -/
def execFabricTransitPacket (dst : Nat) (detours : Nat) (detoured : Bool) (s : State) : Out :=
  doCmd (decide (detours < 5)) (fun d => d.transit dst (max detours (if detoured then 1 else 0))) s

end Sys2Proof.Machine
end

