-- ==== Sys2Proof/Machine/FabReq.lean ====
section
/-! DEFINITION. Requests across the fabric (R182, R427, R428, R430) and collectives (R431 to R436). -/

namespace Sys2Proof.Machine

open Sys2Proof

/-! ## At the destination (R182, R427, R428) -/

/-- R182: CROWN_FADMIT admits a source device to an offset. -/
def Dev.admits (d : Dev) (dev off : Nat) : Bool :=
  let r := rCrownFadmit (off / 0x20000000)
  d.fld r 31 30 == 2 || (d.fld r 31 30 == 1 && d.fld r 14 0 == dev)

/-- R182, R154: whether an inbound access is admitted: none, or the status that refuses it. -/
def Dev.inboundBad (d : Dev) (dev off len : Nat) (write : Bool) : Option Status :=
  if 0x9000000000 < off + len then some .protection
  else
    let ps := cut 128 off len
    if !ps.all (fun p => d.admits dev p.1) then some .protection
    else ps.findSome? (fun p => match d.verdict (.hbm p.1) 0 write true with | .refuse s => some s | _ => none)

/-- R428: a store is performed as one of an uncached agent; its status. -/
def Dev.inboundStore (d : Dev) (dev off : Nat) (data : List Byte) : Nat × Dev :=
  match d.inboundBad dev off data.length true with
  | some s => (s.code, d)
  | none => (0, (cut 128 off data.length).foldl (fun d p => d.storeLine .engine (.hbm p.1) (part data off p.1 p.2)) d)

/-- R428: a load reads memory through the directory. -/
def Dev.inboundLoad (d : Dev) (dev off len : Nat) : Nat × List Byte :=
  match d.inboundBad dev off len false with
  | some s => (s.code, [])
  | none =>
    if (cut 128 off len).any (fun p => d.badHome (.hbm p.1) p.2) then (Status.poison.code, [])
    else (0, d.ms.mem.readN off len)

/-! ## At the source (R225, R250, R427) -/

/-- The status of an answer. -/
def statusOf (n : Nat) : Status :=
  if n = Status.protection.code then .protection
  else if n = Status.memOffline.code then .memOffline
  else if n = Status.poison.code then .poison
  else .remoteDead

/-- R427, R250: an answer releases its request; a refused store is dropped with those that wait behind it, and the record of
a broadcast names the first device that failed. -/
def Dev.response (d : Dev) (id st : Nat) (data : List Byte) : Dev :=
  match d.fe.reqs.find id with
  | none => d
  | some r =>
    if r.load then
      ({ d with fe := { d.fe with
        reqs := d.fe.reqs.del id, answers := d.fe.answers ++ [(⟨r.origin, windowAddr r.dev r.off, st, data⟩ : Answer)] } }).destroyTick
    else if st = 0 then (({ d with fe := { d.fe with reqs := d.fe.reqs.del id } }).storesSettle d r.origin).destroyTick
    else if r.dev = 0x7FFF then
      let was := d
      let d := { d with fe := { d.fe with reqs := d.fe.reqs.del id } }
      let a := windowAddr 0x7FFF r.off
      let (cls, inst) := d.lossUnit r.origin.thread
      (((d.storeLoss (ofLe (data.take 2)) 1 (statusOf st) cls inst r.qid r.ctx r.tag a).storeDropped r.origin.thread a
        (statusOf st)).storesSettle was r.origin).destroyTick
    else (d.dropStores r (statusOf st)).destroyTick

/-! ## At the destination (R427, R428, R430) -/

/-- R430: a broadcast is answered once every neighbour has answered; at its source that is the store's answer. -/
def Dev.bcastTick (d : Dev) : Dev :=
  let done := d.fe.bcasts.filter (fun b => b.waits.isEmpty)
  let d := { d with fe := { d.fe with bcasts := d.fe.bcasts.filter (fun b => !b.waits.isEmpty) } }
  done.foldl (fun d b =>
    if d.ownId = some b.src then
      match d.fe.reqs.firstP (fun _ r => r.dev == 0x7FFF && r.seq == b.seq) with
      | some id => d.response id b.status (leBytes 2 b.failed)
      | none => d
    else d.fabTx (.answer b.src b.seq b.status (leBytes 2 b.failed))) d

/-- R430: a broadcast store is performed here, passed on, and its answers are awaited. -/
def Dev.bcastStore (d : Dev) (src seq off : Nat) (data : List Byte) : Dev :=
  match d.ownId with
  | none => d
  | some own =>
    let (st, d) := d.inboundStore src off data
    let kids := d.treeChildren src own
    let d := kids.foldl (fun d v => match d.net.route own v with | some r => d.fabTx (.forward r.port 0x7FFF 0) | none => d) d
    ({ d with fe := { d.fe with bcasts := d.fe.bcasts ++ [({ src, seq, waits := kids, status := st, failed := own } : Bcast)] } }).bcastTick

/-- One request is performed and answered. -/
def Dev.perform (d : Dev) (dev : Nat) (q : HeldReq) : Dev :=
  if q.bcast then d.bcastStore dev q.seq q.off q.data
  else if q.load then
    let (st, l) := d.inboundLoad dev q.off q.len
    let d := if st = Status.poison.code then (cut 128 q.off q.len).foldl (fun d p => d.poisonRead .engine (.hbm p.1) p.2) d else d
    d.fabTx (.answer dev q.seq st l)
  else
    let (st, d) := d.inboundStore dev q.off q.data
    d.fabTx (.answer dev q.seq st [])

/-- R427: the pair whose numbers a request carries: a source's stores to every device are numbered apart. -/
def HeldReq.pair (q : HeldReq) (dev : Nat) : Nat := if q.bcast then dev + 0x8000 else dev

/-- R427: perform held requests of a pair while the next in order is here. -/
def Dev.inOrder (d : Dev) (pair fuel : Nat) : Dev :=
  match fuel with
  | 0 => d
  | f + 1 =>
    let n := d.fe.expect.get 0 pair
    match (d.fe.held.get [] pair).find? (·.seq == n) with
    | none => d
    | some q =>
      let d := { d with fe := { d.fe with
        expect := d.fe.expect.set pair (n + 1), held := d.fe.held.set pair ((d.fe.held.get [] pair).filter (·.seq != n)) } }
      (d.perform (pair % 0x8000) q).inOrder pair f

/-- R427: a request arrives; a duplicate is discarded; requests of one pair are performed in the order of their
numbers, of which those below `base` have been answered or dropped. -/
def Dev.arrive (d : Dev) (dev base : Nat) (q : HeldReq) : Dev :=
  let k := q.pair dev
  let n := max base (d.fe.expect.get 0 k)
  let l := (d.fe.held.get [] k).filter (fun h => decide (n ≤ h.seq))
  if !d.feSpeaks || decide (q.seq < n) || l.any (·.seq == q.seq) then d
  else ({ d with fe := { d.fe with expect := d.fe.expect.set k n, held := d.fe.held.set k (l ++ [q]) } }).inOrder k (l.length + 1)

/-- R430: the answer of a neighbour to a broadcast that was passed on. -/
def Dev.bcastAnswer (d : Dev) (src seq child status : Nat) : Dev :=
  ({ d with fe := { d.fe with bcasts := d.fe.bcasts.map (fun (b : Bcast) =>
    if b.src = src ∧ b.seq = seq ∧ b.waits.contains child then
      { b with waits := b.waits.erase child, status := if b.status = 0 then status else b.status,
               failed := if b.status = 0 ∧ status ≠ 0 then child else b.failed }
    else b) } }).bcastTick

/-- R430: a broadcast store, or an answer to one, arrives. -/
def Dev.broadcast (d : Dev) (dev seq base off : Nat) (data : List Byte) (answer : Option (Nat × Nat)) : Dev :=
  match answer with
  | none => d.arrive dev base ⟨seq, false, off, data.length, data, true⟩
  | some (child, st) => if d.feSpeaks then d.bcastAnswer dev seq child st else d

/-! ## At the source (R427) -/

/-- R427: a request is sent again on the present route. -/
def Dev.resend (d : Dev) (id : Nat) : Dev :=
  match d.fe.reqs.find id with
  | none => d
  | some r =>
    let d := { d with fe := { d.fe with reqs := d.fe.reqs.set id { r with resent := d.time, base := d.fabBase r.dev r.seq } } }
    d.fabTx (.request { r with base := d.fabBase r.dev r.seq })

/-! ## Collectives: fields and groups (R431, R432) -/

/-- Bytes of an element. -/
def collElem (dt : Nat) : Nat := match dt with | 0 => 16 | 1 => 32 | 4 => 8 | 5 => 1 | _ => 4

/-- COUNT. -/
def Cmd.collCount (c : Cmd) : Nat := c.dw 10
/-- DTYPE. -/
def Cmd.collType (c : Cmd) : Nat := c.f 2 31 28
/-- ROP, which ALLGATHER ignores. -/
def Cmd.collRop (c : Cmd) : Nat := if c.op = 0x71 then 0 else c.f 2 27 26

/-- R432: the checks of a collective's fields. -/
def collBad (c : Cmd) : Chk :=
  firstBad [badIf (decide (5 < c.collType) || (c.collType == 5 && c.op != 0x71) || c.collRop == 3 ||
      (decide (c.collType < 2) && c.collRop != 0) || c.f 2 25 0 != 0) 2,
    badIf (decide (2 ^ 36 < c.collCount)) 10, c.zeros 12 16,
    protIf (c.dw 4 % 64 != 0 || c.dw 6 % 64 != 0 || c.dw 8 % 64 != 0)]

/-- The members of a group descriptor's words. -/
def groupMembers (w : List Nat) : List Nat :=
  (List.range (word w 0 % 2 ^ 15)).map (fun i => word w (2 + i / 2) / (if i % 2 = 0 then 1 else 65536) % 65536)

/-- R431: the checks of a group descriptor. -/
def groupBad (d : Dev) (c : Cmd) (w : List Nat) : Chk :=
  let n := word w 0 % 2 ^ 15
  let m := groupMembers w
  let fall := (List.range (n - 1)).find? (fun i => decide (m.getD (i + 1) 0 ≤ m.getD i 0))
  firstBad [badIf (decide (2 ^ 15 ≤ word w 0) || n == 0 || decide (20480 < n)) 0,
    badIf (n % 2 == 1 && decide (65536 ≤ word w (2 + n / 2))) (2 + n / 2),
    fall.map (fun i => (.invalidField, 2 + (i + 1) / 2)),
    badIf (match d.ownId with | some own => !m.contains own | none => true) 2,
    badIf (c.op == 0x72 && c.collCount % n != 0) 10,
    if m.all (fun v => some v == d.ownId || d.routed v) then none else some (.remoteDead, 0)]

/-- R435: what members exchange before any data moves: OP, DTYPE, ROP, COUNT, N. -/
def collFields (c : Cmd) (n : Nat) : List Nat := [c.op, c.collType, c.collRop, c.collCount, n]

/-- A collective as it stands. -/
def Dev.coll? (d : Dev) (r : Nat) : Option Coll := d.fe.colls.find r

/-- Change a collective. -/
def Dev.setColl (d : Dev) (r : Nat) (f : Coll → Coll) : Dev := { d with fe := { d.fe with colls := d.fe.colls.adj r f } }

/-! ## Collectives: reduction (R433) -/

/-- One element of a type, from its bytes. -/
def collCombine (dt rop : Nat) (a b : List Byte) : List Byte :=
  let x := ofLe a
  let y := ofLe b
  let ints := fun (w : Nat) =>
    match rop with
    | 0 => (x + y) % 2 ^ w
    | 1 => if toSigned w x < toSigned w y then y else x
    | _ => if toSigned w y < toSigned w x then y else x
  match dt with
  | 0 => leBytes 16 (recBits (recCombine (recLoad false x) (recLoad false y)))
  | 1 => leBytes 32 (recBits (recCombine (recLoad true x) (recLoad true y)))
  | 2 => leBytes 4 (match rop with
      | 0 => (f32.add .rne (f32.unpack x) (f32.unpack y)).1
      | 1 => (f32.maxOp x y).1
      | _ => (f32.minOp x y).1)
  | 4 => leBytes 8 (ints 64)
  | _ => leBytes 4 (ints 32)

/-- One round of the tree: ranks 2^k apart are combined, the lower rank on the left. -/
def treeRound {α : Type} (f : α → α → α) : List α → List α
  | a :: b :: r => f a b :: treeRound f r
  | l => l

/-- R433: the fixed tree over the values of all ranks. -/
def treeFold {α : Type} (f : α → α → α) (fuel : Nat) (l : List α) : Option α :=
  match fuel with
  | 0 => l.head?
  | n + 1 => match l with
    | [a] => some a
    | _ => treeFold f n (treeRound f l)

/-- A chunk reduced over all ranks, element by element. -/
def reduceChunk (dt rop : Nat) (l : List (List Byte)) : List Byte :=
  let e := collElem dt
  let n := (l.headD []).length / e
  (List.range n).flatMap (fun i => (treeFold (collCombine dt rop) 15 (l.map (fun c => (c.drop (i * e)).take e))).getD [])

/-! ## Collectives: data (R433 to R435) -/

/-- Bytes of a chunk. -/
def chunkSize : Nat := 65536

/-- Bytes of a member's source. -/
def Cmd.collBytes (c : Cmd) : Nat := c.collCount * collElem c.collType

/-- Length of chunk j of a member's source. -/
def Cmd.chunkLen (c : Cmd) (j : Nat) : Nat := min chunkSize (c.collBytes - j * chunkSize)

/-- Number of chunks of a member's source. -/
def Cmd.chunks (c : Cmd) : Nat := (c.collBytes + chunkSize - 1) / chunkSize

/-- Where the bytes of chunk j of a rank go in DST: for each destination, its offset, the bytes and the place of their first
byte in the chunk. -/
def collOut (c : Cmd) (n rank j : Nat) (data : List (List Byte)) : List (Nat × List Byte × Nat × Nat) :=
  let base := j * chunkSize
  match c.op with
  | 0x71 => data.zipIdx.map (fun e => (e.2 * c.collBytes + base, e.1, 0, e.2))
  | 0x70 => [(base, reduceChunk c.collType c.collRop data, 0, n)]
  | _ =>
    let seg := c.collBytes / n
    let lo := max base (rank * seg)
    let hi := min (base + c.chunkLen j) ((rank + 1) * seg)
    if lo < hi then [(lo - rank * seg, ((reduceChunk c.collType c.collRop data).drop (lo - base)).take (hi - lo), lo - base, n)] else []

/-- The blocks of 64 bytes of a read that met a poisoned line. -/
def Dev.poisonBlocks (d : Dev) (w : Who) (va n : Nat) : List Nat :=
  ((cut 64 va n).zipIdx.filter (fun e => match d.resolve w e.1.1 .read with | (.ok, h, _, d) => d.badHome h e.1.2 | _ => false)).map (·.2)

/-- R435: DST is unspecified once a collective has ended in an error: its bytes are free. -/
def Dev.collScramble (d : Dev) (r : Nat) : Dev :=
  match d.run? r, d.coll? r with
  | some v, some c =>
    let n := match v.cmd.op with | 0x71 => c.members.length * v.cmd.collBytes | 0x70 => v.cmd.collBytes | _ => v.cmd.collBytes / c.members.length
    let marks := d.ms.poison
    let k := d.free
    let d := (cut 128 (v.cmd.dw 8) n).foldl (fun d p =>
      match d.writeV (d.whoRun r) p.1 ((List.range p.2).map (fun i => Config.mixByte k (p.1 + i))) with | (.ok, d) => d | (_, d) => d) { d with free := k + 1 }
    { d with ms := { d.ms with poison := marks } }
  | _, _ => d

/-- A collective ends on this device; `tell` tells the other members. -/
def Dev.collEnd (d : Dev) (r : Nat) (s : Option Status) (tell : Bool) : Dev :=
  match d.coll? r with
  | none => d
  | some c =>
    let d := match s with | some _ => d.collScramble r | none => d
    let d := { d with fe := { d.fe with colls := d.fe.colls.del r } }
    let d := d.faultLeave (.cmd r)
    match s with
    | none => d.endRun r
    | some s => (if tell then d.fabTx (.collFields c.tag c.seq c.rank [s.code]) else d).failRun r s

/-- R435: every member has sent its fields. -/
def Coll.met (c : Coll) : Bool := decide (c.fields.length = c.members.length)

/-- R433: this member's chunk is read and sent. -/
def Dev.collRead (d : Dev) (r : Nat) (v : Run) (c : Coll) : Dev :=
  let w := d.whoRun r
  let j := v.step
  let n := v.cmd.chunkLen j
  match d.readV w (v.cmd.dw 6 + j * chunkSize) n with
  | (.ok, l, bad, d) =>
    let d := d.fabDone w.waiter
    let blocks := if bad then d.poisonBlocks w (v.cmd.dw 6 + j * chunkSize) n else []
    let d := d.setColl r (fun x => { x with data := x.data.upd [] j (fun m => SMap.set m c.rank (l, blocks)) })
    if c.members.length = 1 then d else d.fabTx (.collData c.tag c.seq c.rank j l blocks)
  | (a, _, _, d) => d.acsEnd w a (fun d s => d.collEnd r (some s) true)

/-- R433: a chunk of which every member's data is here is combined and written. -/
def Dev.collWrite (d : Dev) (r : Nat) (v : Run) (c : Coll) : Dev :=
  let w := d.whoRun r
  let j := v.step
  let n := c.members.length
  let got := c.data.get [] j
  let data := (List.range n).map (fun k => (SMap.get ([], []) got k).1)
  let outs := collOut v.cmd n c.rank j data
  let bad := fun (k : Nat) => if k < n then (SMap.get ([], []) got k).2 else got.flatMap (fun e => e.2.2)
  let poisoned := got.any (fun e => !e.2.2.isEmpty)
  match d.writeOutputs w (outs.map (fun e => (v.cmd.dw 8 + e.1, e.2.1))) with
  | (.ok, d) =>
    let d := d.fabDone w.waiter
    let d := outs.foldl (fun d e =>
      let d := d.notePorts r (v.cmd.dw 8 + e.1) e.2.1.length
      (bad e.2.2.2).foldl (fun d b =>
        (List.range 64).foldl (fun d i =>
          let o := 64 * b + i
          if e.2.2.1 ≤ o ∧ o < e.2.2.1 + e.2.1.length then
            match d.resolve w (v.cmd.dw 8 + e.1 + (o - e.2.2.1)) .write with
            | (.ok, h, _, d) => d.markLine h true
            | (_, _, _, d) => d
          else d) d) d) d
    let d := d.setColl r (fun x => { x with data := x.data.del j, poisoned := x.poisoned || poisoned })
    if j + 1 = v.cmd.chunks then d.collEnd r (if c.poisoned || poisoned then some .poison else none) false else d.nextStep r
  | (a, d) => d.acsEnd w a (fun d s => d.collEnd r (some s) true)

/-- R431, R435, R436: a collective begins: its group is read, its fields are sent. -/
def Dev.collStart (d : Dev) (r : Nat) (v : Run) : Dev :=
  let w := d.whoRun r
  let rd := fun (d : Dev) (n : Nat) (f : Dev → List Nat → Dev) =>
    match d.readV w (v.cmd.dw 4) n with
    | (.ok, l, bad, d) => if bad then (d.fabDone w.waiter).failAt r 0 .poison else f d (bytesWords l)
    | (a, _, _, d) => d.acsEnd w a (fun d s => d.failAt r 0 s)
  if 64 ≤ d.fe.colls.length then d else
  rd d 8 (fun d w0 =>
    match badIf (decide (2 ^ 15 ≤ word w0 0) || word w0 0 == 0 || decide (20480 < word w0 0)) 0 with
    | some (s, i) => (d.fabDone w.waiter).failAt r 0 s i
    | none => rd d (8 + 4 * ((word w0 0 + 1) / 2)) (fun d ws =>
      let d := d.fabDone w.waiter
      match groupBad d v.cmd ws with
      | some (s, i) => d.failAt r 0 s i
      | none =>
        if d.fe.colls.any (fun e => e.2.tag == word ws 1 && e.2.seq == v.cmd.w 3) then d.failAt r 0 .busy else
        let m := groupMembers ws
        let rank := (m.findIdx? (fun x => some x == d.ownId)).getD 0
        let f := collFields v.cmd m.length
        let d := d.beginRun r 0
        let d := { d with fe := { d.fe with colls := d.fe.colls.set r { tag := word ws 1, seq := v.cmd.w 3, members := m, rank := rank, fields := [(rank, f)] } } }
        d.fabTx (.collFields (word ws 1) (v.cmd.w 3) rank f)))

/-- R432 to R436: a collective command as one invocation sees it. -/
def Dev.collective (d : Dev) (r op : Nat) : Dev :=
  match d.run? r with
  | none => d
  | some v =>
    if v.cmd.op != op || v.done || d.faultHeld (.cmd r) then d
    else if !v.began then
      match collBad v.cmd with
      | some (s, i) => d.failAt r 0 s i
      | none => if d.bit rFeStat 30 then d.collStart r v else d.failAt r 0 .busy
    else match d.coll? r with
      | none => d
      | some c =>
        if !c.met then d
        else if v.cmd.chunks = 0 then d.collEnd r none false
        else
          let got := c.data.get [] v.step
          if (SMap.find got c.rank).isNone then d.collRead r v c
          else if got.length = c.members.length then d.collWrite r v c
          else d

/-- R433: a chunk of another member arrives. -/
def Dev.collChunk (d : Dev) (r rank chunk : Nat) (data : List Byte) (poison : List Nat) : Dev :=
  match d.run? r with
  | none => d
  | some v =>
    if !d.feSpeaks || decide (chunk < v.step) || data.length != v.cmd.chunkLen chunk then d else
    d.setColl r (fun c =>
      if rank < c.members.length ∧ rank ≠ c.rank then { c with data := c.data.upd [] chunk (fun m => SMap.set m rank (data, poison)) } else c)

/-- R435: the fields of another member arrive, or the status it has ended with. -/
def Dev.collMeet (d : Dev) (r rank : Nat) (f : List Nat) : Dev :=
  match d.coll? r with
  | none => d
  | some c =>
    if !d.feSpeaks || decide (c.members.length ≤ rank) || rank == c.rank then d else
    match f with
    | [st] =>
      let s := if st = Status.aborted.code then Status.aborted else if st = Status.collMismatch.code then .collMismatch
        else if st = Status.collTimeout.code then .collTimeout else statusOf st
      d.collEnd r (some s) false
    | _ =>
      let own := SMap.get [] c.fields c.rank
      let d := d.setColl r (fun c => { c with fields := c.fields.set rank f })
      if f = own then d else d.collEnd r (some .collMismatch) true

/-- R435: a member has sent nothing in time. -/
def Dev.collTimeout (d : Dev) (r : Nat) : Dev :=
  match d.coll? r with
  | none => d
  | some c => if c.met then d else d.collEnd r (some .collTimeout) true

/-- R435: an abort ends a collective at its next chunk boundary, for every member. -/
def Dev.collAbort (d : Dev) (r : Nat) : Dev := if (d.coll? r).isSome then d.collEnd r (some .aborted) true else d.failRun r .aborted

/-! ## Their commands -/

/-- R182, R427: a request of another device. -/
def execFabricInboundAccess (dev : Nat) (seq : Nat) (base : Nat) (store : Bool) (off : Nat) (len : Nat) (data : List (BitVec 8)) (s : State) : Out :=
  doCmd (decide (dev < 32768) && decide (off < 2 ^ 64) && decide (1 ≤ len ∧ off % 128 + len ≤ 128) && decide (data.length = len)) (fun d => d.arrive dev base ⟨seq, !store, off, if store then data.length else len, data, false⟩) s

/-- R427: an answer. -/
def execFabricResponseReceive (id : Nat) (status : Nat) (data : List (BitVec 8)) (s : State) : Out :=
  doCmd true (fun d => d.response id status data) s

/-- R427: a request is sent again. -/
def execFabricResendTimer (id : Nat) (s : State) : Out := doCmd true (fun d => d.resend id) s

/-- R430: a broadcast store. -/
def execBroadcastStoreReceive (dev : Nat) (seq : Nat) (base : Nat) (off : Nat) (data : List (BitVec 8)) (answer : Option (Nat × Nat)) (s : State) : Out :=
  doCmd (decide (dev < 32768) && decide (off < 2 ^ 64) && decide (off % 128 + data.length ≤ 128)) (fun d => d.broadcast dev seq base off data answer) s

/-- R433: ALLREDUCE. -/
def execAllreduce (run : Nat) (s : State) : Out := doCmd true (fun d => d.collective run 0x70) s

/-- R432: ALLGATHER. -/
def execAllgather (run : Nat) (s : State) : Out := doCmd true (fun d => d.collective run 0x71) s

/-- R432: REDUCE_SCATTER. -/
def execReduceScatter (run : Nat) (s : State) : Out := doCmd true (fun d => d.collective run 0x72) s

/-- R433: a chunk arrives. -/
def execCollectiveChunkReceive (run : Nat) (rank : Nat) (chunk : Nat) (data : List (BitVec 8)) (poison : List Nat) (s : State) : Out :=
  doCmd true (fun d => d.collChunk run rank chunk data poison) s

/-- R435: fields arrive. -/
def execCollectiveFieldsExchange (run : Nat) (rank : Nat) (fields : List Nat) (s : State) : Out :=
  doCmd true (fun d => d.collMeet run rank fields) s

/-- R435: a collective times out. -/
def execCollTimeout (run : Nat) (s : State) : Out := doCmd true (fun d => d.collTimeout run) s

end Sys2Proof.Machine
end

