-- ==== Sys2Proof/Machine/Power.lean ====
section
/-! DEFINITION. The power manager: input, the estimate and its calibration, holding the cap, droop and the fast limit,
thermal control, clock steps (R442 to R461). -/

namespace Sys2Proof.Machine

open Sys2Proof

/-! ## Who runs -/

/-- The input is good, the reference clock runs, and no thermal trip has taken the dies' rails away. -/
def Dev.powered (d : Dev) : Bool := decide (d.pm.input = .good) && d.pins.pkgclk && !d.pins.thermtrip

/-- R466, R477: the PM image runs. -/
def Dev.pmRuns (d : Dev) : Bool := d.powered && decide (3 ≤ d.sup.bootStep)

/-- R477: the PM image is being swapped: F, M and the Culm grants are held. -/
def Dev.pmHeld (d : Dev) : Bool := match d.sp.swapping with | some (2, _) => true | _ => false

/-- PM_CTL.MODE. -/
def Dev.fixedRate (d : Dev) : Bool := d.bit rPmCtl 31

/-- Change the PM's state. -/
def Dev.setPm (d : Dev) (f : Pm → Pm) : Dev := { d with pm := f d.pm }

/-! ## Notification (R462, R494) -/

/-- The causes of PM_NOTIFY as they stand, by bit. -/
def Dev.pmCause (d : Dev) (i : Nat) : Bool :=
  match i with
  | 0 => d.bit rPmStat 30
  | 1 => d.bit rPmStat 25
  | 2 => d.bit rPmStat 24
  | 3 => !d.bit rPmStat 31
  | _ => d.bit rPmStat 27

/-- A cause rises: its interrupt or event, and the in-band interrupt of the management bus. -/
def Dev.pmRaise (d : Dev) (i : Nat) : Dev :=
  let d := if d.bit rPmNotify i then d.interrupt (d.fld rPmNotify 29 28) (d.fld rPmNotify 26 16) else d
  { d with pins := { d.pins with ibi := d.pins.ibi + 1 } }

/-- Do something, and notify of each cause that rises by it. -/
def Dev.pmDo (d : Dev) (f : Dev → Dev) : Dev :=
  let e := f d
  (List.range 5).foldl (fun e i => if !d.pmCause i && e.pmCause i then e.pmRaise i else e) e

/-- R454: something other than a droop trip departs from the fixed rate. -/
def Dev.fixLost (d : Dev) : Dev := if d.fixedRate then d.setBit rPmStat 25 true else d

/-! ## Grants and clock steps (R459, R460) -/

/-- PM_CULMFREQ.REQ of a Culm, held to 12–34. -/
def Dev.culmReq (d : Dev) (u : Nat) : Nat := nearest 12 34 (d.fld rPmCulmfreq (8 * u + 7) (8 * u))
/-- PM_CULMFREQ.GRANT. -/
def Dev.culmGrant (d : Dev) (u : Nat) : Nat := d.fld rPmCulmfreq (8 * u + 23) (8 * u + 16)
/-- Thermal steps in force on a die. -/
def Dev.heatLevel (d : Dev) (s : Nat) : Nat := (d.pm.throttles.get {} s).level

/-- R460: the granted frequency is the lowest of the request, the thermal limit and the cap limit. -/
def Dev.setGrants (d : Dev) : Dev :=
  (List.range 2).foldl (fun d u =>
    d.setFld rPmCulmfreq (8 * u + 23) (8 * u + 16)
      (min (d.culmReq u) (min (34 - d.heatLevel (slotCulm u)) (d.pm.capLimit.get 34 u)))) d

/-- R453, R459: the array step from which thermal control steps down. -/
def Dev.baseStep (d : Dev) : Nat := if d.fixedRate then min 6 (d.fld rPmCtl 30 28) else 0

/-- R459: PM_ISSUE.TSTEP. -/
def Dev.setSteps (d : Dev) : Dev :=
  (List.range 8).foldl (fun d t => d.setFld rPmIssue (34 + 3 * t) (32 + 3 * t) (min 6 (d.baseStep + d.heatLevel (slotTil t)))) d

/-- R460: REQ was written. -/
def Dev.culmReqWritten (d : Dev) : Dev := if d.pmRuns && !d.pmHeld then d.setGrants else d

/-! ## The fast limit and droop (R450, R451) -/

/-- A cause of the fast limit stands. -/
def Dev.fastCause (d : Dev) : Bool := d.pm.pwrlim || d.pm.inlim

/-- R451: FASTLIM follows its causes; under the fast limit the standing M is 8. -/
def Dev.fastUpdate (d : Dev) : Dev :=
  let was := d.bit rPmStat 29
  let d := d.setBit rPmStat 29 d.fastCause
  if d.fastCause then
    let d := if d.pmHeld then d else d.setPm (fun p => { p with m := 8, low := min p.low 8 })
    if was then d else d.fixLost
  else d

/-- R451, R509: PWRLIM_N changes; without a running PM it is recorded. -/
def Dev.pwrlim (d : Dev) (on : Bool) : Dev :=
  let d := d.setPm (fun p => { p with pwrlim := on })
  if d.pmRuns then d.pmDo Dev.fastUpdate else d

/-- R442, R443, R451: the first stage holds input current at 90 A, or no longer does. -/
def Dev.currentLimit (d : Dev) (on : Bool) : Dev :=
  if !d.pmRuns then d else
  d.pmDo (fun d => ((d.setPm (fun p => { p with inlim := on })).setBit rPmStat 28 on).fastUpdate)

/-- R442: a dip below 37 V of less than 50 µs is ridden through under the fast limit. -/
def Dev.inputDip (d : Dev) : Dev := if d.pm.inlim then d else (d.currentLimit true).currentLimit false

/-- R450: a cluster's rail droops. -/
def Dev.droopTrip (d : Dev) (t c : Nat) : Dev :=
  if !d.dieActive (slotTil t) || !d.clsEnabled t c then d
  else (d.setPm (fun p => { p with droops := p.droops.set (84 * t + c) 4, low := min p.low 4 })).addSat rPmCount 63 32 1

/-- R450: 16 array cycles of the recovery have passed: M rises by 1 to the standing M. -/
def Dev.droopStep (d : Dev) (t c : Nat) : Dev :=
  match d.pm.droops.find (84 * t + c) with
  | none => d
  | some m => d.setPm (fun p => { p with droops := if m + 1 < p.m then p.droops.set (84 * t + c) (m + 1) else p.droops.del (84 * t + c) })

/-- R450, R451: the M that a cluster's rows follow. -/
def Dev.clusterM (d : Dev) (k : Nat) : Nat := min d.pm.m (d.pm.droops.get 16 k)

/-! ## The cap (R444 to R448) -/

/-- R444: the effective cap in mW: the least of W, BMCW and 90 A times the input voltage once it has been measured, within
1,200 to 3,600 W. -/
def Dev.effectiveCap (d : Dev) : Nat :=
  let mv := d.fld rPmInput 63 32
  nearest 1200000 3600000 (min (1000 * d.fld rPmCap 11 0) (min (1000 * d.fld rPmCap 27 16) (if mv = 0 then 3600000 else 90 * mv)))

/-- R446: the gain of a die. -/
def Dev.pmGain (d : Dev) (s : Nat) : Rat := d.pm.gains.get 1 s

/-- R445: P_est in mW: the estimates of the dies, each times its gain, and the conversion loss. -/
def Dev.pEst (d : Dev) (est : List Nat) : Rat :=
  (est.zipIdx.map (fun e => (e.1 : Rat) * d.pmGain e.2)).sum + d.pm.loss

/-- R448: to the nearest integer, ties towards zero. -/
def roundCap (x : Rat) : Nat := ((x - 1 / 2).ceil).toNat

/-- The bubble fraction. -/
def Dev.bubble (d : Dev) : Nat := d.fld rPmIssue 24 16
/-- Set the bubble fraction. -/
def Dev.setBubble (d : Dev) (f : Nat) : Dev := d.setFld rPmIssue 24 16 f

/-- A Culm step of R448 is due: 100 µs have passed since the last. -/
def Dev.capStepDue (d : Dev) : Bool := match d.pm.capStepAt with | some t => decide (100000 ≤ d.time - t) | none => true

/-- R448: both Culm limits move. -/
def Dev.capStep (d : Dev) (f : Nat → Option Nat) : Dev :=
  if !d.capStepDue then d else
  (d.setPm (fun p => { p with
    capStepAt := some d.time,
    capLimit := (List.range 2).foldl (fun m u => match f u with | some l => m.set u l | none => m.del u) p.capLimit })).setGrants

/-- R448 step 3: the cap cannot be held. -/
def Dev.capMiss (d : Dev) : Dev :=
  let d := d.setBit rPmStat 24 true
  let ms := d.time / 1000000
  if d.pm.missAt = some ms then d else (d.setPm (fun p => { p with missAt := some ms })).addSat rPmCount 15 0 1

/-- R448 step 4: a Culm's cap limit goes up by 100 MHz, and is gone once it has reached the request. -/
def Dev.capReturn (d : Dev) : Dev :=
  d.capStep (fun u => match d.pm.capLimit.find u with
    | some l => if d.culmReq u ≤ l + 1 then none else some (l + 1)
    | none => none)

/-- R448: one update in capped mode: P_est is `p`, B is `b`. -/
def Dev.capLoop (d : Dev) (p b : Rat) : Dev :=
  let f := d.bubble
  if b < p then
    if 16 < f then d.setBubble (max 16 (f - roundCap (128 * (p - b) / b)))
    else if d.culmGrant 0 = 12 ∧ d.culmGrant 1 = 12 then d.capMiss
    else d.capStep (fun u => some (max 12 (d.culmGrant u - 1)))
  else if p < b then
    if d.pm.capLimit.isEmpty then d.setBubble (min 256 (f + min 8 (roundCap (128 * (b - p) / b)))) else d.capReturn
  else d

/-- R445, R448, R451, R453: the update of every 10 µs. -/
def Dev.pmUpdate (d : Dev) (est : List Nat) : Dev :=
  if !d.pmRuns || d.pmHeld then d else
  d.pmDo (fun d =>
    let p := d.pEst est
    let d := d.setFld rPmPower 31 0 (min (2 ^ 32 - 1) p.floor.toNat)
    let d := d.setFld rPmStat 23 12 (d.effectiveCap / 1000)
    let d := if d.fixedRate then
        let d := d.setBubble (nearest 16 256 (d.fld rPmCtl 24 16))
        if d.pm.capLimit.isEmpty then d else d.capReturn
      else d.capLoop p (99 * (d.effectiveCap : Rat) / 100)
    let d := d.setPm (fun q => { q with m := if d.fastCause then 8 else min 16 (q.m + 1) })
    let now := d.pm.droops.foldl (fun a e => min a e.2) d.pm.m
    (d.setFld rPmIssue 4 0 (min d.pm.low now)).setPm (fun q => { q with low := now }))

/-- R444: PM_CAP.BMCW is written over the management bus. -/
def Dev.bmcCap (d : Dev) (v : Nat) : Dev := if d.powered then d.setFld rPmCap 27 16 (bitsOf v 27 16) else d

/-! ## Calibration (R446, R454, R481) -/

/-- R446: the gain of a die after one calibration: kept where the estimate is 0. -/
def newGain (g : Rat) (est meas : Nat) : Rat := if est = 0 then g else max (17 / 20) (min (23 / 20) (g + ((meas : Rat) / est - g) / 8))

/-- A gain at a clamp. -/
def atClamp (g : Rat) : Bool := decide (g = 17 / 20 ∨ g = 23 / 20)

/-- R446: no gain has moved by more than 1.5 % over 16 calibrations. -/
def gainsStable (h : List (List Rat)) : Bool :=
  match h[16]? with
  | none => false
  | some old => (h.take 17).all (fun g => (g.zip old).all (fun e => decide (e.1 - e.2 ≤ 3 * e.2 / 200 ∧ e.2 - e.1 ≤ 3 * e.2 / 200)))

/-- R446: every die's gain, the loss term, and CALOK. -/
def Dev.calibrate (d : Dev) (est meas : List Nat) (power : Nat) : Dev :=
  let old := (List.range 23).map d.pmGain
  let new := old.zipIdx.map (fun e => newGain e.1 (est.getD e.2 0) (meas.getD e.2 0))
  let hit := (List.range 23).filter (fun s => atClamp (new.getD s 1) && decide (est.getD s 0 ≠ 0))
  let d := d.setPm (fun p => { p with
    gains := (new.zipIdx.filter (fun e => e.1 != 1)).map (fun e => (e.2, e.1)),
    loss := (power : Rat) - (meas.sum : Nat),
    hist := if hit.isEmpty then new :: (if p.hist.isEmpty then [old] else p.hist).take 16 else [] })
  let d := if !hit.isEmpty then d.setBit rPmStat 31 false
    else if gainsStable d.pm.hist then d.setBit rPmStat 31 true else d
  (hit.filter (fun s => !atClamp (old.getD s 1))).foldl (fun d s => d.error 0x19 s 0) d

/-- R454: the hard limit of fixed-rate mode is exceeded: FIXLOST, capped mode, and the notification. -/
def Dev.hardLimit (d : Dev) (power : Nat) : Dev :=
  if d.fixedRate && decide (1000 * nearest 1200 3600 (min (d.fld rPmCtl 11 0) (d.fld rPmCap 27 16)) < power) then
    let d := if d.bit rPmStat 25 then d.pmRaise 1 else d
    (d.fixLost.setBit rPmCtl 31 false).setSteps
  else d

/-- R446: the calibration of every 1 ms: estimates and measured power of each die, input power in mW, voltage and current. -/
def Dev.pmCalibration (d : Dev) (est meas : List Nat) (power mv ma : Nat) : Dev :=
  if !d.pmRuns || d.pmHeld then d else
  d.pmDo (fun d =>
    let d := d.setFld rPmPower 63 32 (min (2 ^ 32 - 1) power)
    let d := (d.setFld rPmInput 63 32 (min (2 ^ 32 - 1) mv)).setFld rPmInput 31 0 (min (2 ^ 32 - 1) ma)
    let d := d.setBit rPmStat 27 (decide (mv < 40000))
    let d := if d.pm.calDue then
        d.setPm (fun p => { p with calDue := false, cal := p.cal.filter (fun e => decide (3 ≤ e.1)) ++ d.nv.cal.filter (fun e => decide (e.1 < 3)) })
      else d
    (d.calibrate est meas power).hardLimit power)

/-- R453, R454, R459: PM_CTL was written; `was` is MODE before. -/
def Dev.pmCtlWritten (d : Dev) (was : Bool) : Dev :=
  if !d.pmRuns || d.pmHeld then d else
  let d := d.setSteps
  let heat := (List.range 10).any (fun i => decide (0 < d.heatLevel (1 + i)))
  if !was && (heat || d.fastCause || !d.pm.capLimit.isEmpty) then d.pmDo Dev.fixLost else d

/-! ## Thermal control (R455 to R457) -/

/-- R455: the die slot of a sensor. -/
def sensorSlot (i : Nat) : Nat :=
  if i < 128 then slotTil (i / 16) else if i < 136 then slotCulm ((i - 128) / 4) else if i < 160 then slotGlm ((i - 136) / 2) else 0

/-- R480: the delta in effect of a calibration item, within its bound; the last entry that names it counts. -/
def Dev.calDelta (d : Dev) (cls idx : Nat) (bound : Int) : Int :=
  match (d.pm.cal.filter (fun e => e.1 == cls && e.2.1 == idx)).getLast? with
  | some e => max (-bound) (min bound e.2.2)
  | none => 0

/-- A reading as PM_TEMP holds it. -/
def tempWord (x : Int) : Nat := ofSigned 16 (max (-32767) (min 32767 x))

/-- R456: a die's thermal action after one reading: `step` is the next step down (the level itself where no step is left),
`back` the next step back. -/
def Throttle.read (t : Throttle) (now : Nat) (hot cool : Bool) (wait step back : Nat) : Throttle :=
  if hot then
    if t.level = 0 ∨ wait ≤ now - t.stepAt then
      { level := step, stepAt := if step = t.level then t.stepAt else now, coolAt := none }
    else { t with coolAt := none }
  else if cool && decide (0 < t.level) then
    match t.coolAt with
    | none => { t with coolAt := some now }
    | some c => if 10000000 ≤ now - c then { t with level := back, coolAt := some now } else t
  else { t with coolAt := none }

/-- R456: the thermal action of a die that is ACTIVE. `own` and `crown` are the hottest readings of the die and of the Crown. -/
def Dev.throttle (d : Dev) (s : Nat) (own crown : Int) : Dev :=
  let t := d.pm.throttles.get {} s
  let t' :=
    if s < 9 then
      t.read d.time (decide (800 ≤ own ∨ 800 ≤ crown)) (decide (own ≤ 776 ∧ crown ≤ 776)) 1000000 (max t.level (min (6 - d.baseStep) (t.level + 1))) (t.level - 1)
    else if s < 11 then
      let lim := max 12 (min (34 - t.level) (d.culmGrant (s - 9)) - 1)
      t.read d.time (decide (800 ≤ own ∨ 800 ≤ crown)) (decide (own ≤ 776 ∧ crown ≤ 776)) 1000000 (34 - min lim (34 - t.level))
        (if d.culmReq (s - 9) ≤ 35 - t.level then 0 else t.level - 1)
    else
      let hot := d.bit (rGlmStat (s - 11)) 17
      t.read d.time (decide (800 ≤ own) || hot) (decide (own ≤ 776) && !hot) 10000000 (min 2 (t.level + 1)) (t.level - 1)
  let d := d.setPm (fun p => { p with throttles := if t' = {} then p.throttles.del s else p.throttles.set s t' })
  let d := if t.level = 0 ∧ 0 < t'.level then d.addSat rPmCount 31 16 1 else d
  if s < 11 ∧ t.level < t'.level then d.fixLost else d

/-- R217, R252: every dirty line is lost: memory is what the homes hold. -/
def Dev.cachesLost (d : Dev) : Dev :=
  let m := d.ms.stale.foldl (fun (m : Memory) e => m.writeN (d.place (e.1 * 128)) (leBytes 128 e.2.toNat)) d.ms.mem
  { d with ms := { d.ms with mem := m, stale := [], caches := [], tlb := [] } }

/-- R252: every volatile thing is lost. What stays: flash and fuses, memory outside the package, what stands in the module
sockets, and the levels on the lands. -/
def Dev.dark (d : Dev) : Dev :=
  let m := d.cachesLost.ms.mem.filter (fun c => decide (0x9000000000 ≤ c.1))
  { nv := d.nv, pins := { warmrst := d.pins.warmrst, pkgclk := d.pins.pkgclk }, pm := { pwrlim := d.pm.pwrlim }, free := d.free,
    ms := { mem := m, poison := d.ms.poison.filter (fun l => decide (0x120000000 ≤ l ∧ l < 2 ^ 60)) },
    fe := { ports := d.fe.ports.mapVals (fun _ p => { present := p.present }) } }

/-- R457: a thermal trip: the record, THERMTRIP_N, and every die rail but those of the SP and the management bus. -/
def Dev.trip (d : Dev) (i temp : Nat) : Dev :=
  let v := 2 ^ 63 + i * 2 ^ 48 + temp * 2 ^ 32
  let e := { d.dark with time := d.time }
  ({ e with pm := { e.pm with input := .good }, sup := { bootStep := min 2 d.sup.bootStep },
            pins := { d.pins with thermtrip := true, caterr := true, warm := none, ibi := d.pins.ibi + 1 } }).setReg rPmTriprec v

/-- R455 to R457: every sensor is read. -/
def Dev.sensorScan (d : Dev) (temps : List Int) : Dev :=
  if !d.pmRuns then d else
  let read := (List.range 184).map (fun i =>
    if d.dieActive (sensorSlot i) then some (temps.getD i 0 + d.calDelta 0 i 16) else none)
  let hot := (List.range 184).filter (fun i => match read.getD i none with | some x => decide (920 ≤ x) | none => false)
  match hot.find? (fun i => d.pm.above.contains i) with
  | some i => d.trip i (tempWord ((read.getD i none).getD 0))
  | none =>
    d.pmDo (fun d =>
      let d := d.setPm (fun p => { p with above := hot })
      let d := read.zipIdx.foldl (fun d e => d.setFld (rPmTemp e.2) 15 0 (match e.1 with | some x => tempWord x | none => 0x8000)) d
      let best := read.zipIdx.foldl (fun (a : Option (Int × Nat)) e =>
        match e.1, a with
        | some x, some (y, _) => if y < x then some (x, e.2) else a
        | some x, none => some (x, e.2)
        | none, _ => a) none
      let d := match best with
        | some (x, i) => (d.setFld rPmTempmax 31 24 i).setFld rPmTempmax 15 0 (tempWord x)
        | none => d
      if d.pmHeld then d else
      let top := fun (s : Nat) => (read.zipIdx.filterMap (fun e => if sensorSlot e.2 = s then e.1 else none)).foldl max (-32768)
      let d := (List.range 22).foldl (fun d i =>
        if d.dieActive (i + 1) then d.throttle (i + 1) (top (i + 1)) (top 0)
        else d.setPm (fun p => { p with throttles := p.throttles.del (i + 1) })) d
      let glm := d.pm.throttles.any (fun e => decide (11 ≤ e.1) && decide (0 < e.2.level))
      let any := d.pm.throttles.any (fun e => decide (0 < e.2.level))
      ((d.setBit rPmStat 26 glm).setBit rPmStat 30 any).setSteps.setGrants)

/-! ## Input (R442) -/

/-- R442: the input rises through 39 V. -/
def Dev.softStart (d : Dev) : Dev := if d.pm.input = .off then d.setPm (fun p => { p with input := .soft }) else d

/-- R442, R463, R507: input good: power-on reset, and the straps are sampled. -/
def Dev.inputGood (d : Dev) (v : Straps) : Dev :=
  if d.pm.input = .soft then
    let e := d.dark
    { e with pm := { e.pm with input := .good }, pins := { e.pins with pkgclk := true, hpmode := v.hpmode, hostloss := v.hostloss, posEn := v.posEn, pos := v.pos, mbaddr := v.mbaddr } }
  else d

/-- R442, R252: every rail goes off. -/
def Dev.powerLoss (d : Dev) : Dev := d.dark

/-! ## Their commands -/

/-- R445, R448: the PM's update of every 10 µs. -/
def execPmUpdate (est : List Nat) (s : State) : Out := doCmd (decide (est.length = 23)) (fun d => d.pmUpdate est) s

/-- R446: the PM's calibration of every 1 ms. -/
def execPmCalibration (est : List Nat) (meas : List Nat) (power : Nat) (mv : Nat) (ma : Nat) (s : State) : Out :=
  doCmd (decide (est.length = 23) && decide (meas.length = 23)) (fun d => d.pmCalibration est meas power mv ma) s

/-- R455: the sensors are read. -/
def execSensorScan (temps : List Int) (s : State) : Out :=
  doCmd (decide (temps.length = 184)) (fun d => d.sensorScan temps) s

/-- R450: a droop. -/
def execDroopTrip (t : Nat) (c : Nat) (s : State) : Out :=
  doCmd (decide (t < 8) && decide (c < 84)) (fun d => d.droopTrip t c) s

/-- R450: M rises again. -/
def execDroopRecoveryStep (t : Nat) (c : Nat) (s : State) : Out :=
  doCmd (decide (t < 8) && decide (c < 84)) (fun d => d.droopStep t c) s

/-- R451: PWRLIM_N is asserted. -/
def execPwrlimAssert  (s : State) : Out := doCmd true (fun d => d.pwrlim true) s

/-- R451: PWRLIM_N is released. -/
def execPwrlimRelease  (s : State) : Out := doCmd true (fun d => d.pwrlim false) s

/-- R451: the first stage holds the input current, or stops. -/
def execInputCurrentLimit (on : Bool) (s : State) : Out := doCmd true (fun d => d.currentLimit on) s

/-- R444: PM_CAP.BMCW is written. -/
def execBmcCapWrite (val : Nat) (s : State) : Out := doCmd (decide (val < 2 ^ 64)) (fun d => d.bmcCap val) s

/-- R442: soft start. -/
def execInputSoftStart  (s : State) : Out := doCmd true (fun d => d.softStart) s

/-- R442: input good. -/
def execInputGood (straps : Straps) (s : State) : Out := doCmd true (fun d => d.inputGood straps) s

/-- R442: a dip is ridden through. -/
def execInputDip  (s : State) : Out := doCmd true (fun d => d.inputDip) s

/-- R442: the rails go off. -/
def execPowerLoss  (s : State) : Out := doCmd true (fun d => d.powerLoss) s


end Sys2Proof.Machine
end

