-- ==== Sys2Proof/Machine/Reset.lean ====
section
/-! DEFINITION. Loss and orderly reset of a die, its rejoining, failures of clusters (R23, R26, R27, R154, R155, R463, R469 to
R471, R487), the device warm reset (R464, R465), loss of the reference clock (R505), host-link loss as a warm reset (R407). -/

namespace Sys2Proof.Machine

open Sys2Proof

/-! ## A die's state -/

/-- A die as it stands. -/
def Dev.die (d : Dev) (s : Nat) : Die := d.dies.get {} s

/-- Change a die. -/
def Dev.setDie (d : Dev) (s : Nat) (f : Die → Die) : Dev := { d with dies := d.dies.upd {} s f }

/-- Give CROWN_DIESTAT.STATE a value. -/
def Dev.setDieState (d : Dev) (s v : Nat) : Dev := d.setFld (rCrownDiestat s) 2 0 v

/-- An offset lies in the granule owner table of Glume g. -/
def gotReg (g o : Nat) : Bool := decide (rGlmGot g 0 ≤ o ∧ o < rGlmGot g 0 + 98304)

/-- R38: an offset lies in the registers that a reset of die s clears: its block, but for the copies the Crown keeps (R29) and
the granule owner table. -/
def dieReg (s o : Nat) : Bool :=
  if s = 0 then false
  else if s < 9 then decide (0xF00000 + s * 0x100000 ≤ o ∧ o < 0x1000000 + s * 0x100000) && !(o == rTilClsen (s - 1) || o == rTilClsmapl (s - 1) || o == rTilClsmaph (s - 1))
  else if s < 11 then decide (0x1800000 + (s - 9) * 0x200000 ≤ o ∧ o < 0x1A00000 + (s - 9) * 0x200000)
  else decide (0x2000000 + (s - 11) * 0x100000 ≤ o ∧ o < 0x2100000 + (s - 11) * 0x100000) && !gotReg (s - 11) o

/-- R29, R31: a Tiller's geometry registers have changed. -/
def Dev.tilChanged (d : Dev) (t : Nat) : Dev := d.addWrap (rTilClsen t) 31 24 1

/-- R31: die s has become ACTIVE or ceased to be. -/
def Dev.dieChanged (d : Dev) (s : Nat) : Dev := (if 1 ≤ s ∧ s < 9 then d.tilChanged (s - 1) else d).geometryChanged

/-! ## What a die takes with it -/

/-- The die on which a waiter runs. -/
def Waiter.die : Waiter → Option Nat
  | .sheaf k => some (slotTil (keyTil k))
  | .lane k _ => some (slotTil (keyTil k))
  | .core n => some (slotCulm (n / 48))
  | _ => none

/-- R26: accesses of waiters that satisfy `p` are discarded: faults they wait on, requests to other devices, answers. -/
def Dev.discardRequests (d : Dev) (p : Waiter → Bool) : Dev :=
  let ws := ((d.flt.table.flatMap (fun e => e.2.waiters) ++ d.flt.overflow.flatMap (fun f => f.waiters)).filter p).dedup
  let d := ws.foldl Dev.faultLeave d
  { d with fe := { d.fe with reqs := d.fe.reqs.filter (fun e => !p e.2.origin), answers := d.fe.answers.filter (fun a => !p a.who) } }

/-- What stands in clusters that satisfy `p` is lost: their rows, sheaves and SRAM. -/
def Dev.clearClusters (d : Dev) (p : Nat → Bool) : Dev :=
  let d := { d with
    rows := d.rows.filter (fun e => !p (e.1 / 16)),
    sheaves := d.sheaves.mapVals (fun k s => if p (keyCls k) then { st := .stopped, cmd := s.cmd } else s) }
  ((d.ms.sram.keysP (fun k _ => p k) ++ d.ms.sramGen.keysP (fun k _ => p k)).dedup).foldl Dev.sramLose d

/-- R23, R463: a Tiller's state is gone, and multicasts drop it. -/
def Dev.clearTiller (d : Dev) (t : Nat) : Dev :=
  let d := (d.clearClusters (fun k => k / 84 == t)).setCache t (fun _ => {})
  { d with
    ms := { d.ms with tlb := d.ms.tlb.del t },
    mcasts := d.mcasts.mapVals (fun _ m => { m with masks := m.masks.del t, buf := m.buf.del t }) }

/-- R469 step 4: a Culm's state is gone: its cores are OFFLINE. What counts since power-on stays. -/
def Dev.clearCulm (d : Dev) (u : Nat) : Dev :=
  let d := d.setCache (8 + u) (fun _ => {})
  (List.range 48).foldl (fun d k =>
    let n := 48 * u + k
    let r := rCorestat n
    let was := d.coreState n
    let kept := d.fld r 15 7
    let d := (d.coreLost n).setCache (10 + n) (fun _ => {})
    let d := { d with ms := { d.ms with tlb := d.ms.tlb.del (32 + n) } }
    let d := (d.setReg r 2).setFld r 15 7 kept
    if was = 2 then d else d.addSat r 15 8 1) d

/-- A Glume's state is gone but for its stack and its repairs. -/
def Dev.clearGlume (d : Dev) (g : Nat) : Dev :=
  let d := d.setGlume g (fun x => { soft := x.soft, used := x.used })
  { d with ms := { d.ms with tlb := d.ms.tlb.del (8 + g) } }

/-- R463: everything die s holds but its place in the package. -/
def Dev.clearDie (d : Dev) (s : Nat) : Dev :=
  if s = 0 then d
  else if s < 9 then (d.clearTiller (s - 1)).resetRegs (dieReg s)
  else if s < 11 then (d.resetRegs (fun o => dieReg s o && decide (o < rCulmCorestat (s - 9) 0 ∨ 1536 ≤ o - rCulmCorestat (s - 9) 0))).clearCulm (s - 9)
  else (d.clearGlume (s - 11)).resetRegs (dieReg s)

/-- R147, R469 step 2: lines that the caches of die s hold modified are written to memory as poison; clean copies are
dropped. -/
def Dev.poisonHeld (d : Dev) (s : Nat) : Dev :=
  let ks := d.ms.caches.keysP (fun k _ => cacheSlot k == s)
  let d := (ks.flatMap d.dirtyLines).foldl (fun d l => (d.writeHome l).poisonLine l) d
  ks.foldl (fun d k => d.setCache k (fun c => { c with lines := [], fills := [] })) d

/-! ## Interleave sets (R154, R155) -/

/-- The slots of an interleave set's Glumes. -/
def setSlots (n : Nat) : List Nat := [slotGlm (3 * n), slotGlm (3 * n + 1), slotGlm (3 * n + 2)]

/-- The commands that run on the set's NMVs end with a status. -/
def Dev.endNearMem (d : Dev) (n : Nat) (s : Status) : Dev :=
  (d.cp.runs.keysP (fun _ v => v.cls == 1 && v.began && !v.done && v.inst / 3 == n)).foldl (fun d r => (d.faultLeave (.cmd r)).failRun r s) d

/-- R154: the set goes offline; its Glumes that are ACTIVE show it. -/
def Dev.setOffline (d : Dev) (n : Nat) (s : Status) : Dev :=
  let d := d.endNearMem n s
  (setSlots n).foldl (fun d s => if d.dieActive s then d.setFld (rGlmStat (s - 11)) 2 0 3 else d) d

/-- R469: the set's contents are lost. -/
def Dev.contentLost (d : Dev) (n : Nat) : Dev :=
  let d := d.loseSet n
  (setSlots n).foldl (fun d s => (d.setDie s (fun x => { x with contLost := true })).setBit (rGlmStat (s - 11)) 16 true) d

/-- R469 step 5: lines of the set that some cache holds modified are dropped, and read as poison once it is back. -/
def Dev.dropSetLines (d : Dev) (n : Nat) : Dev :=
  let ls := (d.ms.stale.keysP (fun l _ => l / 0x48000000 == n))
  ls.foldl (fun d l => (d.discardLine l).poisonLine l) d

/-- R154, R155, R203: once its three Glumes are ACTIVE and trained the set is online. If its contents were lost every granule
of it is in MODE NONE, else CONTLOST is 0. -/
def Dev.setReturn (d : Dev) (n : Nat) : Dev :=
  if !((setSlots n).all d.dieActive) || decide (d.sup.bootStep < 6) || (setSlots n).any (fun s => (d.die s).drain.isSome) then d else
  let lost := (setSlots n).any (fun s => (d.die s).contLost)
  let d := (setSlots n).foldl (fun d s =>
    let r := rGlmStat (s - 11)
    ((d.setFld r 2 0 1).setBit r 16 lost).setDie s (fun x => { x with contLost := false, refreshed := false })) d
  if lost then d.resetRegs (fun o => (setSlots n).any (fun s => gotReg (s - 11) o)) else d

/-! ## Loss (R469) -/

/-- R489: a self-test ends with a status. -/
def Dev.testEnd (d : Dev) (s : Status) (found : Bool) : Dev :=
  (((d.setBit rCrownStstat 31 false).setBit rCrownStstat 26 found).setFld rCrownStstat 15 0 s.code) |> fun d =>
    { d with sup := { d.sup with test := none } }

/-- R489: a die that a self-test is at is lost. -/
def Dev.testLost (d : Dev) (s : Nat) : Dev :=
  match d.sup.test with
  | none => d
  | some t =>
    let hit := match t.kind with
      | 2 => decide (11 ≤ s)
      | 3 => s == t.target
      | 4 => decide (11 ≤ s)
      | 5 => decide (s < 9)
      | _ => match t.cur with | some (u, _) => slotTil u == s | none => false
    if hit then d.testEnd .dieLost t.found else d

/-- R469 steps 1 to 5. -/
def Dev.dieGone (d : Dev) (s : Nat) : Dev :=
  let was := d.dieActive s
  let d := ((d.setDieState s 2).discardRequests (fun w => w.die == some s)).poisonHeld s
  let d :=
    if 11 ≤ s then
      let n := (s - 11) / 3
      let d := (d.setOffline n .dieLost).dropSetLines n
      let d := d.clearDie s
      if (d.die s).refreshed || (d.die s).contLost then d else d.contentLost n
    else d.clearDie s
  let d := ((d.error 0x08 s 0).testLost s).destroyTick
  if was then d.dieChanged s else d

/-- R469: losses of the die within the last hour. -/
def Dev.recentLosses (d : Dev) (s : Nat) : List Nat := (d.die s).losses.filter (fun t => decide (d.time - t < 3600000000000))

/-- R469 step 6: a lost die is reset when AUTO is 1, unless it has been lost four times within one hour. -/
def Dev.dieLoss (d : Dev) (s : Nat) : Dev :=
  if !d.powered || decide (d.sup.bootStep < 5) || decide (2 ≤ d.dieState s) then d
  else if s = 0 then
    { d.dark with pm := { pwrlim := d.pm.pwrlim, input := .lost }, pins := { d.dark.pins with caterr := true } }
  else
    let d := (d.dieGone s).setDie s (fun x => { x with drain := none, losses := d.time :: d.recentLosses s })
    if d.bit (rCrownDiectl s) 31 && decide ((d.recentLosses s).length < 4) then d.setDieState s 1 else d

/-! ## Clusters and their spares (R29, R487) -/

/-- R29: the repair record of a Tiller: its enabled clusters and unused spares; of a new one, clusters 0–79 and the four
others (notes/assumptions/6.md). -/
def Dev.repairRecord (d : Dev) (t : Nat) : BitVec 84 × List Nat := d.nv.maps.get (BitVec.ofNat 84 (2 ^ 80 - 1), [80, 81, 82, 83]) t

/-- R29: TIL_CLSEN and the maps show the repair record. -/
def Dev.loadMap (d : Dev) (t : Nat) : Dev :=
  let (m, sp) := d.repairRecord t
  let n := ((List.range 84).filter (fun c => m.getLsbD c)).length
  (((d.setReg (rTilClsmapl t) (m.toNat % 2 ^ 64)).setReg (rTilClsmaph t) (m.toNat / 2 ^ 64)).setFld (rTilClsen t) 6 0 n).setFld (rTilClsen t) 18 16 sp.length

/-- R487: change the repair record. -/
def Dev.setRepair (d : Dev) (t : Nat) (m : BitVec 84) (spares : List Nat) : Dev :=
  ({ d with nv := { d.nv with maps := d.nv.maps.set t (m, spares) } }).loadMap t

/-- R487: spares that fail their test are removed. -/
def Dev.dropSpares (d : Dev) (t : Nat) (bad : List Nat) : Dev :=
  let (m, sp) := d.repairRecord t
  let out := sp.filter bad.contains
  if out.isEmpty then d
  else out.foldl (fun d c => d.error 0x28 (slotTil t) c) ((d.setRepair t m (sp.filter (fun c => !bad.contains c))).tilChanged t)

/-- R487 steps 2 and 3: the lowest spare that passes its test replaces a cluster; without one the cluster is disabled. -/
def Dev.clusterSwap (d : Dev) (t c : Nat) (badSpares : List Nat) : Dev :=
  let sp := (d.repairRecord t).2
  let d := d.dropSpares t (sp.takeWhile badSpares.contains)
  let (m, sp) := d.repairRecord t
  let without := m &&& ~~~(BitVec.ofNat 84 (2 ^ c))
  match sp with
  | x :: rest => ((d.setRepair t (without ||| BitVec.ofNat 84 (2 ^ x)) rest).tilChanged t).error 0x11 (slotTil t) c
  | [] => ((d.setRepair t without []).tilChanged t).error 0x12 (slotTil t) c

/-- R487: a cluster of an ACTIVE Tiller fails. -/
def Dev.clusterFailure (d : Dev) (t c : Nat) (badSpares : List Nat) : Dev :=
  if !d.powered || !d.dieActive (slotTil t) || !d.clsEnabled t c then d else
  let k := 84 * t + c
  let d := (d.discardRequests (fun w => match w with | .sheaf x => keyCls x == k | .lane x _ => keyCls x == k | _ => false)).clearClusters (· == k)
  (d.clusterSwap t c badSpares).geometryChanged

/-! ## Rejoining (R27, R469 step 6) -/

/-- R469 step 6: the reset of a die ends: its fuses, link and self-test. A die drained to be taken out becomes OFFLINE. -/
def Dev.dieRejoin (d : Dev) (s : Nat) (fuseOk linkOk testOk : Bool) (bad : List Nat) : Dev :=
  if !d.powered || s = 0 || decide (d.sup.bootStep < 5) || d.dieState s != 1 then d
  else if (d.die s).drain = some .offline then (d.setDieState s 3).setDie s (fun x => { x with drain := none })
  else
    let d := (d.setDie s (fun x => { x with drain := none })).setBit (rCrownDiestat s) 4 fuseOk
    if !fuseOk then (d.setDieState s 2).error 0x09 s 0
    else if !linkOk then (d.setDieState s 2).error 0x0A s 0 0 0 0 (some 1)
    else if !testOk then (d.setDieState s 2).error 0x28 s 0
    else
      let d := (d.setDieState s 0).addSat (rCrownDiestat s) 31 24 1
      let d :=
        if s < 9 then
          let t := s - 1
          let d := d.dropSpares t bad
          let d := (bad.filter (d.clsEnabled t)).foldl (fun d c => d.clusterSwap t c bad) d
          d.setBit (rTilScstat t) 31 true
        else if s < 11 then d.setBit (rCulmScstat (s - 9)) 31 true
        else d.setReturn ((s - 11) / 3)
      d.dieChanged s

/-! ## Orderly reset (R470, R471) -/

/-- R471: the orderly reset of an ACTIVE die begins. -/
def Dev.drainStart (d : Dev) (s : Nat) (k : Drain) : Dev :=
  let was := (d.die s).drain.isSome
  let d := d.setDie s (fun x => { x with drain := some k })
  if was then d
  else if s < 9 then
    let xs := d.cp.ctxs.keysP (fun _ c => c.groups.any (fun g => g.til + 1 == s))
    (xs.foldl (fun d x => if (d.ctxLive x).isEmpty then d.releaseGroups x else d.preempt x) d).refreshWaits
  else if s < 11 then (List.range 48).foldl (fun d k => d.coreOffline (48 * (s - 9) + k)) d
  else d.setOffline ((s - 11) / 3) .memOffline

/-- R471: CROWN_DIECTL.REQ: 1 RESET, 2 OFFLINE, 3 ONLINE. -/
def Dev.dieRequest (d : Dev) (s req : Nat) : Dev :=
  if s = 0 || decide (d.sup.bootStep < 5) then d else
  match d.dieState s, req with
  | 0, 1 => d.drainStart s .reset
  | 0, 2 => d.drainStart s .offline
  | 2, 2 => d.setDieState s 3
  | 2, 1 => (d.setDieState s 1).setDie s (fun x => { x with losses := [] })
  | 2, 3 => (d.setDieState s 1).setDie s (fun x => { x with losses := [] })
  | 3, 1 => (d.setDieState s 1).setDie s (fun x => { x with losses := [] })
  | 3, 3 => (d.setDieState s 1).setDie s (fun x => { x with losses := [] })
  | _, _ => d

/-- R471: the drain has ended, or its bound has expired: buffers have drained, caches are written back, a Glume's stack is in
self-refresh. The die becomes RESETTING. -/
def Dev.drainDone (d : Dev) (s : Nat) : Dev :=
  if !d.powered || !d.dieActive s || (d.die s).drain.isNone then d else
  let d := if 9 ≤ s ∧ s < 11 then (List.range 48).foldl (fun d k =>
      let n := 48 * (s - 9) + k
      (d.coreOffline n).coreOfflineDone n) d
    else d
  let ks := d.ms.caches.keysP (fun k _ => cacheSlot k == s)
  let d := (ks.flatMap d.dirtyLines).foldl Dev.writeHome d
  let d := if 11 ≤ s then d.setDie s (fun x => { x with refreshed := true }) else d
  let d := (d.discardRequests (fun w => w.die == some s)).clearDie s
  ((d.setDieState s 1).destroyTick).dieChanged s

/-! ## Device warm reset (R407, R464, R465, R509) -/

/-- R464 step 1: a warm reset begins, unless one is running or the device is lost: dispatch stops, endpoint links go down,
fabric ports are fenced, media ports stop. -/
def Dev.warmRequest (d : Dev) (cause p : Nat) : Dev :=
  if !d.powered || d.pins.warm.isSome then d else
  let d := { d with pins := { d.pins with warm := some (cause, p) } }
  let d := (d.setBit rCpStat 31 false).setBit rFeStat 28 true
  let d := d.endpoints.foldl (fun d p => d.setFld (rHpPortstat p) 62 51 0) d
  (List.range 2).foldl (fun d p => d.setBit (rSePortcfg p) 31 false) d

/-- What counts since power-on, and so survives a warm reset. -/
def Dev.sincePowerOn (d e : Dev) : Dev :=
  let e := e.setReg rCrownRstrec (d.reg rCrownRstrec)
  let e := (List.range 23).foldl (fun e s => if d.fld (rCrownDiestat s) 31 24 = 0 then e else e.setFld (rCrownDiestat s) 31 24 (d.fld (rCrownDiestat s) 31 24)) e
  let e := if d.fld rCpStat 23 16 = 0 then e else e.setFld rCpStat 23 16 (d.fld rCpStat 23 16)
  (List.range 96).foldl (fun e n => if d.fld (rCorestat n) 15 7 = 0 then e else e.setFld (rCorestat n) 15 7 (d.fld (rCorestat n) 15 7)) e

/-- The part as step 4 of R464 leaves it: every die is reset, the SP boot ROM starts again. Memory, flash, fuses, the device
time counter, repairs in effect and what stands in the sockets stay. -/
def Dev.warmCleared (d : Dev) : Dev :=
  let c := d.cachesLost
  let lost := (d.ms.sram.keysP (fun _ _ => true) ++ d.ms.sramGen.keysP (fun _ _ => true)).dedup
  let e : Dev :=
    { time := d.time, free := d.free, nv := d.nv, ms := c.ms,
      glm := d.glm.mapVals (fun _ x => { soft := x.soft, used := x.used }),
      fe := { ports := d.fe.ports.mapVals (fun _ p => { present := p.present }) },
      pm := { input := d.pm.input, pwrlim := d.pm.pwrlim },
      sp := { running := d.sp.running.mapVals (fun _ f => { f with chain := 0 }) },
      pins := { d.pins with warm := none, caterr := false, dynaddr := none, mbOff := 0, ibi := 0, pkgclk := true } }
  d.sincePowerOn (lost.foldl Dev.sramLose e)

/-- R464, R465: a warm reset runs: stores drain, of which `discarded` do not; every Glume that is ACTIVE, but those in
`failed`, enters self-refresh; every die is reset. -/
def Dev.warmReset (d : Dev) (cause p : Nat) (failed : List Nat) (discarded : Nat) : Dev :=
  let d := d.warmRequest cause p
  match d.pins.warm with
  | none => d
  | some (cause, p) =>
    if !d.powered then d else
    let d := (d.cores.keysP (fun n _ => d.dieActive (slotCulm (n / 48)))).foldl Dev.ntDrainAll d
    let kept := fun s => (d.dieActive s && !failed.contains (s - 11)) || ((d.die s).refreshed && !(d.die s).contLost)
    let lost := (List.range 4).filter (fun n => !(setSlots n).all kept)
    let e := d.warmCleared
    let e := lost.foldl Dev.contentLost e
    let r := rCrownRstrec
    ((((e.setFld r 63 60 cause).setFld r 59 56 p).setFld r 55 52 ((lost.map (2 ^ ·)).sum)).setFld r 47 32 (min 65535 discarded)).addSat r 31 0 1

/-- R509, R510: WARMRST_N goes low. -/
def Dev.warmrstLow (d : Dev) : Dev :=
  let d := { d with pins := { d.pins with warmrst := true } }
  d.warmRequest 3 0

/-- R505, R509: WARMRST_N is released. After loss of the reference clock the warm reset runs from here. -/
def Dev.warmrstHigh (d : Dev) : Dev :=
  let d := { d with pins := { d.pins with warmrst := false } }
  if d.pins.pkgclk || d.pins.thermtrip || decide (d.pm.input ≠ .good) then d
  else { d with pins := { d.pins with pkgclk := true, warm := some (3, 0) } }

/-- R505: the reference clock is lost: the device is lost until WARMRST_N or a power cycle. -/
def Dev.pkgclkLoss (d : Dev) : Dev :=
  if !d.powered then d else
  let e := d.warmCleared
  let e := (List.range 4).foldl (fun e n => e.loseSet n) e
  { e with pins := { e.pins with pkgclk := false, caterr := true } }

/-- R406, R407: 100 ms of link loss have passed. -/
def Dev.lossGrace (d : Dev) (p : Nat) : Dev :=
  if (d.port p).lossAt.isNone || d.portLost p then d
  else if !d.isRoot p && d.pins.hostloss then d.warmRequest 4 p
  else d.linkLost p

/-- R406, R407: a function level reset is handled as link loss at once. -/
def Dev.functionLevelReset (d : Dev) (p : Nat) : Dev :=
  if !d.hostHears p then d
  else if d.pins.hostloss then d.warmRequest 4 p
  else (d.setPort p (fun h => { h with flr := true })).linkLost p

/-! ## Their commands -/

/-- R469: a die is lost. -/
def execDieLoss (slot : Nat) (s : State) : Out := doCmd (decide (slot < 23)) (fun d => d.dieLoss slot) s

/-- R26: a die does not answer, and is lost. -/
def execHeartbeatMiss (slot : Nat) (s : State) : Out := doCmd (decide (slot < 23)) (fun d => d.dieLoss slot) s

/-- R469: a die's reset ends. -/
def execDieRejoin (slot : Nat) (fuseOk : Bool) (linkOk : Bool) (testOk : Bool) (bad : List Nat) (s : State) : Out :=
  doCmd (decide (slot < 23)) (fun d => d.dieRejoin slot fuseOk linkOk testOk bad) s

/-- R471: a die has drained. -/
def execDieDrainDone (slot : Nat) (s : State) : Out := doCmd (decide (slot < 23)) (fun d => d.drainDone slot) s

/-- R487: a cluster fails. -/
def execClusterFailure (t : Nat) (c : Nat) (badSpares : List Nat) (s : State) : Out :=
  doCmd (decide (t < 8) && decide (c < 84)) (fun d => d.clusterFailure t c badSpares) s

/-- R464: a warm reset. -/
def execWarmReset (cause : Nat) (p : Nat) (failed : List Nat) (discarded : Nat) (s : State) : Out :=
  doCmd (decide (1 ≤ cause ∧ cause ≤ 4) && decide (p < 6)) (fun d => d.warmReset cause p failed discarded) s

/-- R509: WARMRST_N goes low. -/
def execWarmrstAssert  (s : State) : Out := doCmd true (fun d => d.warmrstLow) s

/-- R509: WARMRST_N is released. -/
def execWarmrstRelease  (s : State) : Out := doCmd true (fun d => d.warmrstHigh) s

/-- R505: the package clock is lost. -/
def execPkgclkLoss  (s : State) : Out := doCmd true (fun d => d.pkgclkLoss) s

/-- R406: 100 ms of link loss. -/
def execLinkLossGraceExpiry (p : Nat) (s : State) : Out := doCmd (decide (p < 6)) (fun d => d.lossGrace p) s

/-- R406: a function level reset. -/
def execFunctionLevelReset (p : Nat) (s : State) : Out := doCmd (decide (p < 6)) (fun d => d.functionLevelReset p) s


end Sys2Proof.Machine
end

