-- ==== Sys2Proof/Machine/Boot.lean ====
section
/-! DEFINITION. Boot (R27, R466 to R468), measurement of images (R475, R476, R479). -/

namespace Sys2Proof.Machine

open Sys2Proof

/-! ## Images (R468, R475, R479) -/

/-- R476: the anti-rollback counter of a class: bits blown. -/
def Dev.arb (d : Dev) (cls : Nat) : Nat := d.nv.arb.get 0 cls

/-- The image in a flash slot of a class. -/
def Dev.flashImage (d : Dev) (cls : Nat) (b : Bool) : Image := d.nv.slots.get { cls := cls } (2 * cls + (if b then 1 else 0))

/-- The running firmware of a class. -/
def Dev.firmware (d : Dev) (cls : Nat) : Firmware := d.sp.running.get {} cls

/-- Change it. -/
def Dev.setFirmware (d : Dev) (cls : Nat) (f : Firmware → Firmware) : Dev := { d with sp := { d.sp with running := d.sp.running.upd {} cls f } }

/-- R478, R479: an image of the class starts: its chain is extended before, and its activation counted. -/
def Dev.measure (d : Dev) (cls : Nat) (img : Image) : Dev :=
  d.setFirmware cls (fun f =>
    { image := img, activations := min (2 ^ 20 - 1) (f.activations + 1), chain := sha384 (hashBytes f.chain ++ hashBytes img.hash) })

/-- R468, R475: what the check of a flash slot gives: a result code, or its image. `bad` lists slots (2 × class + slot) whose
header, key, signature or payload fails, with the code. -/
def Dev.slotCheck (d : Dev) (cls : Nat) (b : Bool) (bad : List (Nat × Nat)) : Nat ⊕ Image :=
  match bad.find? (fun e => e.1 == 2 * cls + (if b then 1 else 0)) with
  | some e => .inl e.2
  | none => if (d.flashImage cls b).svn < d.arb cls then .inl 5 else .inr (d.flashImage cls b)

/-- R468: the image of a class that boot starts: from the active slot, else from the other; none when both fail, which
SP_BOOTSTAT records. -/
def Dev.bootImage (d : Dev) (cls : Nat) (bad : List (Nat × Nat)) : Bool × Dev :=
  let act := d.nv.slotB.getLsbD cls
  let run := fun (img : Image) (b : Bool) => (true, (d.measure cls img).setBit rSpBootstat cls b)
  match d.slotCheck cls act bad with
  | .inr img => run img act
  | .inl _ =>
    match d.slotCheck cls (!act) bad with
    | .inr img => run img (!act)
    | .inl c => (false, (d.setFld rSpBootstat 23 21 cls).setFld rSpBootstat 15 8 c)

/-- SP_BOOTSTAT.STAGE. -/
def Dev.setStage (d : Dev) (n : Nat) : Dev := d.setFld rSpBootstat 27 24 n

/-- R468, R509: boot stops. -/
def Dev.bootStop (d : Dev) : Dev :=
  { (d.setStage 7) with sup := { d.sup with stopped := true }, pins := { d.pins with caterr := true } }

/-- R468: a class without which boot stops. -/
def Dev.needImage (d : Dev) (cls : Nat) (bad : List (Nat × Nat)) (f : Dev → Dev) : Dev :=
  match d.bootImage cls bad with
  | (true, d) => f d
  | (false, d) => d.bootStop

/-! ## The steps (R466) -/

/-- Step 3: fuses are read and slots checked, the repair record and the calibration table are applied, the PM starts. An entry
for slot 14 in `bad` says that the flash table fails its check (R481). -/
def Dev.bootFuses (d : Dev) (bad : List (Nat × Nat)) (badFuses : List Nat) : Dev :=
  let d := (List.range 23).foldl (fun d s => d.setBit (rCrownDiestat s) 4 (!badFuses.contains s)) d
  if badFuses.contains 0 then d.bootStop else
  let d := ((List.range 23).filter badFuses.contains).foldl (fun d s => (d.setDieState s 2).error 0x09 s 0) d
  let d := (List.range 8).foldl Dev.loadMap (d.setDieState 0 0)
  let d := if bad.any (fun e => e.1 == 14) then d.error 0x1A 31 0 else d.setPm (fun p => { p with cal := d.nv.cal })
  d.needImage 2 bad (fun d => (d.setStage 1).pmDo Dev.fastUpdate)

/-- Step 5: dies are powered, links trained, shared caches invalidated. A die that fails stays FENCED. -/
def Dev.bootDies (d : Dev) (badDies : List Nat) : Dev :=
  let d := ((List.range 22).map (· + 1)).foldl (fun d s =>
    if d.dieState s = 2 then d
    else if badDies.contains s then (d.setDieState s 2).error 0x28 s 0
    else d.setDieState s 0) d
  let d := (List.range 8).foldl (fun d t => if d.dieActive (slotTil t) then d.setBit (rTilScstat t) 31 true else d) d
  let d := (List.range 2).foldl (fun d u => if d.dieActive (slotCulm u) then d.setBit (rCulmScstat u) 31 true else d) d
  ((List.range 96).foldl (fun d n => d.setFld (rCorestat n) 2 0 2) d).setStage 3

/-- R152: at power-on every soft repair in the repair record is made hard, while spare rows remain. -/
def Dev.bootRepairs (d : Dev) (g : Nat) : Dev :=
  if d.fld rCrownRstrec 63 60 != 0 || !d.dieActive (slotGlm g) then d else
  let hard := d.nv.hard.get [] g
  let d := d.setGlume g (fun _ => hard.foldl Glume.useSpare {})
  let d := (d.nv.soft.get [] g).foldl (fun d r =>
    if Config.spareRows ≤ (d.glume g).usedIn r then d.repairError 0x04 g 0 r
    else
      let d := d.setGlume g (fun x => x.useSpare r)
      ({ d with nv := { d.nv with hard := d.nv.hard.upd [] g (· ++ [r]) } }).repairError 0x03 g 0 r) d
  { d with nv := { d.nv with soft := d.nv.soft.del g } }

/-- Step 6: the Glume image is loaded and HBM is trained. -/
def Dev.bootMemory (d : Dev) (bad : List (Nat × Nat)) : Dev :=
  let (ok, d) := d.bootImage 5 bad
  let d := if ok then (List.range 12).foldl Dev.bootRepairs d
    else (List.range 12).foldl (fun d g => d.setDieState (slotGlm g) 2) d
  let d := (List.range 12).foldl (fun d g => if d.dieActive (slotGlm g) then d.setFld (rGlmStat g) 2 0 3 else d) d
  ((List.range 4).foldl Dev.setReturn { d with sup := { d.sup with bootStep := 6 } }).setStage 4

/-- R9, R416, R441: values boot firmware writes before the register space is released: HP_PORTCTL.SYSHOST of the
lowest-numbered endpoint port and FE_CFG.PRIO. -/
def Dev.bootRegs (d : Dev) : Dev :=
  let d := match d.endpoints with
    | p :: _ => d.setBit (rHpPortctl p) 31 true
    | [] => d
  d.setFld rFeCfg 31 24 128

/-- Step 7: the CP, Reed and the fabric engine start; the register space answers. -/
def Dev.bootFirmware (d : Dev) (bad : List (Nat × Nat)) : Dev :=
  d.bootRegs.needImage 1 bad (fun d =>
    let d := d.setBit rCpStat 31 true
    let (ok, d) := d.bootImage 3 bad
    let d := d.setBit rSeStat 31 ok
    let (ok, d) := d.bootImage 4 bad
    let d := if ok then d.feStart else d
    d.setStage 5)

/-- Step 8: the cores start; those whose self-test fails are FAILED. -/
def Dev.bootCores (d : Dev) (bad : List (Nat × Nat)) (badCores : List Nat) : Dev :=
  let (ok, d) := d.bootImage 6 bad
  let d := if ok then
      ((List.range 96).filter (fun n => d.dieActive (slotCulm (n / 48)) && !d.bit (rCorestat n) 7)).foldl (fun d n =>
        if badCores.contains n then (d.setFld (rCorestat n) 2 0 4).error 0x10 (slotCulm (n / 48)) (n % 48) else d.coreStart n) d
    else d
  let d := (d.setStage 6).setBit rSpBootstat 31 true
  { d with pins := { d.pins with ibi := d.pins.ibi + 1 } }

/-- R466: the next step of boot. -/
def Dev.boot (d : Dev) (badImages : List (Nat × Nat)) (badDies badFuses badCores : List Nat) : Dev :=
  if !d.powered || d.pins.warmrst || d.pins.warm.isSome || d.sup.stopped || decide (8 ≤ d.sup.bootStep) then d else
  let n := d.sup.bootStep + 1
  let e := { d with sup := { d.sup with bootStep := n } }
  match n with
  | 2 => e.needImage 0 badImages id
  | 3 => e.bootFuses badImages badFuses
  | 4 => e.setStage 2
  | 5 => e.bootDies badDies
  | 6 => e.bootMemory badImages
  | 7 => e.bootFirmware badImages
  | 8 => e.bootCores badImages badCores
  | _ => e

/-! ## Their commands -/

/-- R466: a step of boot. -/
def execBootStep (badImages : List (Nat × Nat)) (badDies : List Nat) (badFuses : List Nat) (badCores : List Nat) (s : State) : Out :=
  doCmd true (fun d => d.boot badImages badDies badFuses badCores) s


end Sys2Proof.Machine
end

