-- ==== Sys2Proof/Machine/Branch.lean ====
section
/-! DEFINITION. Branches and jumps (R79, R85, R86). JALR's target and the link in a lane are read by inference
(notes/assumptions/22.md). -/

namespace Sys2Proof.Machine

open Sys2Proof

/-- R85: an address plus a signed count of words. -/
def wordsOn (pc : BitVec 64) (off : Int) : Nat := (BitVec.ofInt 64 (pc.toNat + off * 4)).toNat

/-- R85: a conditional branch of Ghety-C. -/
def Dev.branch (d : Dev) (i : Instr) (a : Agent) (f : BF) (p : BitVec 64 → BitVec 64 → Bool) : Dev :=
  d.onlyC i a 0 false (fun n d =>
    if p (d.x n f.ra.toNat) (d.x n f.rb.toNat) then (.jump (wordsOn (d.core n).pc f.off.toInt), d) else (.next, d))

/-- R79, R85: JAL. -/
def Dev.jal (d : Dev) (i : Instr) (a : Agent) (f : JF) : Dev :=
  d.ghety i a 0 false
    (fun n d => (.jump (wordsOn (d.core n).pc f.off.toInt), d.putX n 1 ((d.core n).pc + 4)))
    none
    (fun k d => (.jump (wordsOn (d.sheaf k).pc f.off.toInt), d.setSheaf k (fun s => s.putV 1 (fun _ => (s.pc + 4).setWidth 32))))

/-- R86: JALR: to ra plus the immediate, the address after it to rd. In a sheaf the register gives bits [31:0] of
the target, from the lowest active lane; with an empty mask it has no effect. -/
def Dev.jalr (d : Dev) (i : Instr) (a : Agent) (f : IF) : Dev :=
  d.ghety i a 0 false
    (fun n d => (.jump (d.x n f.ra.toNat + f.imm.signExtend 64).toNat, d.putX n f.rd.toNat ((d.core n).pc + 4)))
    none
    (fun k d =>
      match (d.sheaf k).first with
      | none => (.next, d)
      | some l =>
        let s := d.sheaf k
        (.jump (s.pc.toNat / 2 ^ 32 * 2 ^ 32 + (s.getV f.ra.toNat l + f.imm.signExtend 32).toNat),
          d.setSheaf k (fun s => s.putV f.rd.toNat (fun _ => (s.pc + 4).setWidth 32))))

/-- R86: BANY (`any` true) branches when the predicate is 1 in some active lane, BNONE when it is in none. -/
def Dev.branchP (d : Dev) (i : Instr) (a : Agent) (f : BF) (any : Bool) : Dev :=
  d.onlyL i a (cause1 (decide (7 < f.ra.toNat) || f.rb != 0)) (fun k d =>
    let s := d.sheaf k
    if ((s.p.get 0 f.ra.toNat &&& s.mask) != 0) == any then (.jump (wordsOn s.pc f.off.toInt), d) else (.next, d))

/-- R85: BEQ. -/
def execBeq (a : Agent) (f : BF) (s : State) : Out :=
  doCmd a.wf (fun d => d.branch (.beq a f) a f (fun x y => x == y)) s

/-- R85: BNE. -/
def execBne (a : Agent) (f : BF) (s : State) : Out :=
  doCmd a.wf (fun d => d.branch (.bne a f) a f (fun x y => x != y)) s

/-- R85: BLT. -/
def execBlt (a : Agent) (f : BF) (s : State) : Out :=
  doCmd a.wf (fun d => d.branch (.blt a f) a f (fun x y => x.slt y)) s

/-- R85: BGE. -/
def execBge (a : Agent) (f : BF) (s : State) : Out :=
  doCmd a.wf (fun d => d.branch (.bge a f) a f (fun x y => !x.slt y)) s

/-- R85: BLTU. -/
def execBltu (a : Agent) (f : BF) (s : State) : Out :=
  doCmd a.wf (fun d => d.branch (.bltu a f) a f (fun x y => x.ult y)) s

/-- R85: BGEU. -/
def execBgeu (a : Agent) (f : BF) (s : State) : Out :=
  doCmd a.wf (fun d => d.branch (.bgeu a f) a f (fun x y => !x.ult y)) s

/-- R85: JAL. -/
def execJal (a : Agent) (f : JF) (s : State) : Out := doCmd a.wf (fun d => d.jal (.jal a f) a f) s

/-- R86: JALR. -/
def execJalr (a : Agent) (f : IF) (s : State) : Out := doCmd a.wf (fun d => d.jalr (.jalr a f) a f) s

/-- R86: BANY. -/
def execBany (a : Agent) (f : BF) (s : State) : Out := doCmd a.wf (fun d => d.branchP (.bany a f) a f true) s

/-- R86: BNONE. -/
def execBnone (a : Agent) (f : BF) (s : State) : Out := doCmd a.wf (fun d => d.branchP (.bnone a f) a f false) s

end Sys2Proof.Machine
end

