-- ==== Sys2Proof/Machine/CpDispatch.lean ====
section
/-! DEFINITION. Dispatch of commands (R140, R142, R274, R282, R286, R293, R311) and the abort of engine work (R335). -/

namespace Sys2Proof.Machine

open Sys2Proof

/-! ## What an opcode is (R286) -/

/-- R286: what a defined opcode names. -/
inductive OpKind where
  | flow
  | management
  | engine (cls : Nat)
  | undefined
deriving DecidableEq, Repr

/-- R286, R315, R346, R381, R409, R432: the opcodes that are defined. -/
def opKind (op : Nat) : OpKind :=
  if op ≤ 0x09 then .flow
  else if (0x10 ≤ op ∧ op ≤ 0x14) ∨ op = 0x18 ∨ (0x20 ≤ op ∧ op ≤ 0x22) then .management
  else if op = 0x30 then .engine 0
  else if op = 0x40 ∨ op = 0x41 then .engine 1
  else if 0x50 ≤ op ∧ op ≤ 0x52 then .engine 2
  else if 0x60 ≤ op ∧ op ≤ 0x64 then .engine 3
  else if 0x70 ≤ op ∧ op ≤ 0x72 then .engine 4
  else if op = 0x80 then .engine 5
  else .undefined

/-- R286: the flow command stands where the table does not allow it: LOOP outside an indirect buffer, JUMP and RETURN
outside one or inside a loop body. -/
def Queue.misplaced (x : Queue) (op : Nat) : Bool :=
  let ring := decide (x.place = .ring)
  (op == 4 && ring) || ((op == 5 || op == 7) && (ring || x.inBody))

/-! ## ORDER (R140, R142) -/

/-- Ring slots of the queue taken or skipped so far, modulo 2^32: those fetched again by RESUME_RETRY do not count. -/
def Queue.taken (x : Queue) : Nat := (x.n + (2 ^ 32 - (x.fetched.filter (fun c => c.rid == 0)).length)) % 2 ^ 32

/-- Ring slots of a doorbell that the queue has not taken. -/
def Queue.leftOf (x : Queue) (prod : Nat) : Nat := (prod + (2 ^ 32 - x.taken)) % 2 ^ 32

/-- The commands a doorbell covers have all been taken, those of the buffers they called included. -/
def Queue.spent (x : Queue) (prod : Nat) : Bool :=
  let l := x.leftOf prod
  decide (2 ^ 31 ≤ l) || (l == 0 && decide (x.place = .ring) && x.cur.isNone && x.patch.isNone)

/-- R140: a doorbell whose commands other queues of the context wait for: its queue can start them and is not blocked in
FENCE_WAIT. A parked queue counts by what it has fetched. -/
def Dev.bellHolds (d : Dev) (b : Nat × Nat) : Bool :=
  match d.cp.queues.find b.1 with
  | none => false
  | some x =>
    x.cls != 3 && x.wait.isNone && !x.spent b.2 &&
      (decide (x.st = .active) || (decide (x.st = .parked) && (!x.fetched.isEmpty || decide (x.place ≠ .ring) || x.cur.isSome)))

/-- R140, R142: an engine command of class `cls` may start in its context's ORDER: with ORDERED nothing else of the
five ordered engines runs or waits to be signalled, and no earlier doorbell's commands wait. -/
def Dev.orderFree (d : Dev) (q cls : Nat) (again : Bool) : Bool :=
  let x := q / 256
  !d.bit (rCpCtxdesc x) 60 || cls == 3 ||
    (!d.cp.runs.any (fun e => e.2.qid / 256 == x && e.2.isEngine && e.2.cls != 3) &&
     !d.cp.queues.any (fun e => e.1 / 256 == x && e.2.sigs.any (fun g => g.covers.isEmpty && !g.failed)) &&
     (again || (match (d.ctxSt x).bells.find? d.bellHolds with | some b => b.1 == q | none => true)))

/-- Doorbells whose commands have all been taken are forgotten. -/
def Dev.pruneBells (d : Dev) (x : Nat) : Dev :=
  let live := fun (b : Nat × Nat) => match d.cp.queues.find b.1 with | some y => !y.spent b.2 | none => false
  d.setCtx x (fun c => { c with bells := c.bells.filter live })

/-! ## Taking a command (R282, R285, R293) -/

/-- A command about to be taken: its words as patched, and the queue once it is taken. `again` names the execution it
replaces, `used` the PATCH it consumes. -/
structure Taking where
  cmd : Cmd
  next : Queue
  again : Option Nat := none
  used : Option Nat := none

/-- R279, R285, R293: a slot becomes the command to take: a PATCH that waits is applied, or the one of its last execution. -/
def Queue.taking (x : Queue) (c : Cmd) (next : Queue) (retry : Option Cmd) : Taking :=
  match retry with
  | some o => { cmd := { c with words := if o.patch.isEmpty then c.words else applyPatch x o.patch c.words, patch := o.patch },
                next := next, again := some o.rid }
  | none => match x.patch with
    | some p => { cmd := { c with words := applyPatch x p.words c.words, patch := p.words }, next := { next with patch := none },
                  used := some p.rid }
    | none => { cmd := c, next := next }

/-- R276, R285, R290: the next command of a queue, once it has been fetched. -/
def Dev.nextCommand (d : Dev) (q : Nat) : Option Taking × Dev :=
  let x := d.queue q
  match x.retry, x.place with
  | some o, _ =>
    (match o.place with
    | .ring => (none, d)
    | .buf t len i =>
      match d.readSlot q (t + 64 * i) with
      | (some ws, d) => (some (x.taking { words := ws, seq := o.seq, place := .buf t len i, num := o.num } { x with retry := none } (some o)), d)
      | (none, d) => (none, d))
  | none, .ring =>
    (match x.fetched with
    | [] => (none, d)
    | c :: rest => (some (x.taking { c with rid := 0 } { x with fetched := rest } (if c.rid = 0 then none else some c)), d))
  | none, .buf t len i =>
    match x.fetched with
    | c :: rest =>
      if c.rid = 0 then
        (match d.readSlot q (t + 64 * i) with
        | (some ws, d) => (some (x.taking { words := ws, seq := x.outerSeq, place := .buf t len i } { x with place := .buf t len (i + 1) } none), d)
        | (none, d) => (none, d))
      else (some (x.taking { c with rid := 0 } { x with fetched := rest } (some c)), d)
    | [] =>
      match d.readSlot q (t + 64 * i) with
      | (some ws, d) => (some (x.taking { words := ws, seq := x.outerSeq, place := .buf t len i } { x with place := .buf t len (i + 1) } none), d)
      | (none, d) => (none, d)

/-- R140, R282, R296, R311: what holds a command: its BARRIER, a seventeenth signal, no free completion entry, ORDER. -/
def Dev.startHeld (d : Dev) (q : Nat) (t : Taking) : Bool :=
  let x := d.queue q
  let full := !(d.cp.cqs.get {} x.cqid).free
  (t.cmd.barrier && (d.cp.runs.any (fun e => e.2.qid == q) || !x.sigs.isEmpty)) ||
  (match opKind t.cmd.op with
   | .flow => t.cmd.op == 2 && decide (16 ≤ x.sigs.length)
   | .management => full
   | .engine c => c == x.cls && (full || !d.orderFree q c t.again.isSome)
   | .undefined => false)

/-- A command is taken: it has an execution number, stands in its queue's span, and is counted (R296, R312). -/
def Dev.take (d : Dev) (q : Nat) (t : Taking) : Cmd × Dev :=
  let (rid, d) := d.freshRun
  let c := { t.cmd with rid := rid }
  let d := d.setQueue q (fun _ =>
    match t.again with
    | some o => let y := t.next.reexec o rid
                if y.span.contains rid || y.sigs.any (fun g => g.covers.contains rid) then y else { y with span := y.span ++ [rid] }
    | none => { t.next with span := t.next.span ++ [rid] })
  let d := match t.used with | some p => d.uncover q p false | none => d
  (c, d.setReg rCpDispcnt (d.reg rCpDispcnt + 1))

/-- R282, R306, R311: an engine or management command starts: it holds a reservation and awaits its engine. -/
def Dev.startRun (d : Dev) (q cls : Nat) (c : Cmd) : Dev :=
  let d := { d with cp := { d.cp with
    runs := d.cp.runs.set c.rid { qid := q, cmd := c, cls := cls, start := d.time },
    cqs := d.cp.cqs.adj (d.queue q).cqid (fun k => { k with reserved := k.reserved + 1 }) } }
  if c.op = 0x30 then d.refreshWaits else d

/-- R199, R274, R286: a command is taken and started, executed by the CP, or turned away. -/
def Dev.dispatchTake (d : Dev) (q : Nat) (t : Taking) : Dev :=
  let x := d.queue q
  let (c, d) := d.take q t
  let header := c.f 0 18 16 != 0
  match opKind c.op with
  | .undefined => d.flowError q c .badOpcode
  | .flow =>
    if header then d.flowError q c .invalidField 0
    else if x.misplaced c.op then d.flowError q c .invalidField 0xFFFF
    else d.setQueue q (fun x => { x with cur := some c })
  | .management =>
    if q / 256 = 0 then (let d := d.startRun q 6 c; if header then d.failRun c.rid .invalidField 0 else d)
    else if c.op = 0x18 then (d.startRun q 6 c).failRun c.rid .protection
    else d.flowError q c .badOpcode
  | .engine k =>
    if k != x.cls then d.flowError q c .badOpcode
    else (let d := d.startRun q k c; if header then d.failRun c.rid .invalidField 0 else d)

/-- R282, R284, R318, R492: the CP may take a command of this queue: it is ACTIVE or PARKED, its context ACTIVE, and no flow
command, FENCE_WAIT, command that awaits its engine, ring slot to be read again or faulted fetch stands before. -/
def Dev.mayDispatch (d : Dev) (q : Nat) : Bool :=
  let x := d.queue q
  d.cpRuns && d.queueUsed q && decide (x.st = .active ∨ x.st = .parked) && d.ctxState (q / 256) == 1 && x.cur.isNone && x.wait.isNone &&
    !d.cp.runs.any (fun e => e.2.qid == q && !e.2.began) && !d.faultHeld (.fetch q)

/-- R293: a PATCH whose target never comes is discarded with INVALID_FIELD. -/
def Dev.patchLost (d : Dev) (q : Nat) : Dev :=
  match (d.queue q).patch with
  | none => d
  | some p => (d.setQueue q (fun x => { x with patch := none })).flowError q p .invalidField 0xFFFF

/-- R282: the next command of a ready queue starts once its start conditions hold. Bodies and buffers that have been run to
their end are left first (R289, R290). -/
def Dev.dispatch (d : Dev) (q : Nat) : Dev :=
  if !d.mayDispatch q then d else
  let (x, lost) := (d.queue q).settle 16
  let d := d.setQueue q (fun _ => x)
  if lost then d.patchLost q else
  match d.nextCommand q with
  | (none, d) => d
  | (some t, d) =>
    if t.used.isSome && t.cmd.op == 9 then d.patchLost q
    else if d.startHeld q t then d
    else (d.dispatchTake q t).pruneBells (q / 256)

/-! ## The abort of engine work (R335 step 3) -/

/-- A MCAST_LOAD goes on to the next 4 KiB boundary of its source; one that waits on a fault stops where it is. -/
def Dev.mcastAbort (d : Dev) (r : Nat) : Dev :=
  if (d.mcasts.find r).isNone then (d.faultLeave (.cmd r)).failRun r .aborted
  else if d.faultHeld (.cmd r) then
    (((d.faultLeave (.cmd r)).runStatus r .aborted).setRun r (fun v => { v with pos := 1 })).mcastSettle r
  else d.mcastSettle r

/-- A STREAM command ends at its session's next frame boundary; a frame that has not left, and a command that no session
holds, end at once. -/
def Dev.streamAbort (d : Dev) (r : Nat) : Dev :=
  match d.se.sessions.firstP (fun _ s => s.run == r) with
  | some sid => d.setSession sid (fun s => { s with aborted := true })
  | none =>
    if d.se.sessions.any (fun e => e.2.changes.any (fun c => c.run == r) || (match e.2.event with | some v => v.run == r | none => false)) then d
    else
      let other := fun (f : TxFrame) => match f with | .raw k _ => k != r | _ => true
      let d := { d with se := { d.se with txq := d.se.txq.mapVals (fun _ l => l.filter other) } }
      (d.faultLeave (.cmd r)).failRun r .aborted

/-- R335 step 3, R106, R177, R435: an engine that holds a run told to abort stops it at its safe point. -/
def Dev.engineAbort (d : Dev) (r : Nat) : Dev :=
  match d.run? r with
  | none => d
  | some v =>
    if !v.aborting || v.done then d
    else match v.cls with
    | 0 => d.kernelAbort r
    | 3 => d.streamAbort r
    | 4 => (d.faultLeave (.cmd r)).collAbort r
    | _ =>
      if v.cmd.op = 0x52 then d.mcastAbort r
      else if d.midUnit r v && !d.faultHeld (.cmd r) then d
      else (d.faultLeave (.cmd r)).failRun r .aborted

/-! ## Their commands -/

/-- R282: the next command of a queue starts. -/
def execCommandDispatch (q : Nat) (s : State) : Out := doCmd (decide (q < 2 ^ 20)) (fun d => d.dispatch q) s

/-- R335: an engine stops at its safe point. -/
def execEngineAbort (run : Nat) (s : State) : Out := doCmd true (fun d => d.engineAbort run) s

end Sys2Proof.Machine
end

