-- ==== Sys2Proof/Machine/Fp.lean ====
section
/-! DEFINITION. The FP, FMA and FCVT groups (R80, R87, R90 to R93). A core rounds by FCSR.RM and takes an
illegal-instruction exception when it names no mode (R261); a lane rounds to nearest even (R40, R90). -/

namespace Sys2Proof.Machine

open Sys2Proof

/-- FN2 [0], D: 1 selects binary64 (R87). -/
def fmtD (dbl : Bool) : FFmt := if dbl then f64 else f32

/-- R80: the bits of a core's floating-point operand. -/
def CoreSt.fbits (c : CoreSt) (dbl : Bool) (r : Nat) : Nat := (c.getF r).toNat % 2 ^ (fmtD dbl).width

/-- R261: an FP instruction of a core, given the rounding mode; its end is `next`. -/
def Dev.fpCore (n : Nat) (f : CoreSt → RMode → CoreSt) (d : Dev) : CEnd × Dev :=
  match (d.core n).rm with
  | none => (.exc 1 0 0, d)
  | some rm => (.next, d.setCore n (fun c => f c rm))

/-- An operation of two operands with a floating-point result. -/
def Dev.fp2 (d : Dev) (i : Instr) (a : Agent) (f : RF) (bad : Bool) (op : FFmt → RMode → Nat → Nat → Nat × FFlags) : Dev :=
  let dbl := f.fn2.getLsbD 0
  d.ghety i a 0 (bad || decide (1 < f.fn2.toNat))
    (fun n => Dev.fpCore n (fun c rm =>
      let r := op (fmtD dbl) rm (c.fbits dbl f.ra.toNat) (c.fbits dbl f.rb.toNat)
      (c.setF f.rd.toNat (BitVec.ofNat 64 r.1)).addFlags r.2))
    (cause1 (bad || f.fn2 != 0))
    (fun k d => (.next, d.setSheaf k (fun s =>
      let r := fun l => op f32 .rne (s.getV f.ra.toNat l).toNat (s.getV f.rb.toNat l).toNat
      (s.putV f.rd.toNat (fun l => BitVec.ofNat 32 (r l).1)).addFlags (fun l => (r l).2))))

/-- An operation of two operands with an integer result: a compare or FCLASS. -/
def Dev.fpX (d : Dev) (i : Instr) (a : Agent) (f : RF) (bad : Bool) (op : FFmt → Nat → Nat → Nat × FFlags) : Dev :=
  let dbl := f.fn2.getLsbD 0
  d.ghety i a 0 (bad || decide (1 < f.fn2.toNat))
    (fun n => Dev.fpCore n (fun c _ =>
      let r := op (fmtD dbl) (c.fbits dbl f.ra.toNat) (c.fbits dbl f.rb.toNat)
      (c.setX f.rd.toNat (BitVec.ofNat 64 r.1)).addFlags r.2))
    (cause1 (bad || f.fn2 != 0))
    (fun k d => (.next, d.setSheaf k (fun s =>
      let r := fun l => op f32 (s.getV f.ra.toNat l).toNat (s.getV f.rb.toNat l).toNat
      (s.putV f.rd.toNat (fun l => BitVec.ofNat 32 (r l).1)).addFlags (fun l => (r l).2))))

/-- An operation of a core alone (R87: FDIV, FSQRT, FMV, the C conversions). -/
def Dev.fpC (d : Dev) (i : Instr) (a : Agent) (bad : Bool) (op : CoreSt → RMode → CoreSt) : Dev :=
  d.onlyC i a 0 bad (fun n => Dev.fpCore n op)

/-- Two operands of FDIV or FSQRT on a core. -/
def Dev.fpDiv (d : Dev) (i : Instr) (a : Agent) (f : RF) (bad : Bool) (op : FFmt → RMode → Nat → Nat → Nat × FFlags) : Dev :=
  let dbl := f.fn2.getLsbD 0
  d.fpC i a (bad || decide (1 < f.fn2.toNat)) (fun c rm =>
    let r := op (fmtD dbl) rm (c.fbits dbl f.ra.toNat) (c.fbits dbl f.rb.toNat)
    (c.setF f.rd.toNat (BitVec.ofNat 64 r.1)).addFlags r.2)

/-- R87: fused multiply-add; `np` negates the product, `nc` the addend. -/
def fmaOp (np nc : Bool) (g : FFmt) (rm : RMode) (x y z : Nat) : Nat × FFlags :=
  let a := g.unpack x
  let c := g.unpack z
  g.fma rm (if np then a.neg else a) (g.unpack y) (if nc then c.neg else c)

/-- R87: the FMA group. FN [28] is D, FN [31:29] is 0. -/
def Dev.fma (d : Dev) (i : Instr) (a : Agent) (f : R4F) (np nc : Bool) : Dev :=
  let dbl := f.fnhi.getLsbD 0
  d.ghety i a 0 (decide (1 < f.fnhi.toNat))
    (fun n => Dev.fpCore n (fun c rm =>
      let r := fmaOp np nc (fmtD dbl) rm (c.fbits dbl f.ra.toNat) (c.fbits dbl f.rb.toNat) (c.fbits dbl f.rc.toNat)
      (c.setF f.rd.toNat (BitVec.ofNat 64 r.1)).addFlags r.2))
    (cause1 (f.fnhi != 0))
    (fun k d => (.next, d.setSheaf k (fun s =>
      let r := fun l => fmaOp np nc f32 .rne (s.getV f.ra.toNat l).toNat (s.getV f.rb.toNat l).toNat (s.getV f.rc.toNat l).toNat
      (s.putV f.rd.toNat (fun l => BitVec.ofNat 32 (r l).1)).addFlags (fun l => (r l).2))))

/-- R91: FCVT.S.W and FCVT.S.WU: a 32-bit integer to binary32. -/
def Dev.cvtFromInt (d : Dev) (i : Instr) (a : Agent) (f : RF) (signed : Bool) : Dev :=
  let bad := f.fn2 != 0 || f.rb != 0
  let iv := fun (x : BitVec 32) => if signed then x.toInt else (x.toNat : Int)
  d.ghety i a 0 bad
    (fun n => Dev.fpCore n (fun c rm =>
      let r := f32.ofInt rm (iv ((c.getX f.ra.toNat).setWidth 32))
      (c.setF f.rd.toNat (BitVec.ofNat 64 r.1)).addFlags r.2))
    (cause1 bad)
    (fun k d => (.next, d.setSheaf k (fun s =>
      let r := fun l => f32.ofInt .rne (iv (s.getV f.ra.toNat l))
      (s.putV f.rd.toNat (fun l => BitVec.ofNat 32 (r l).1)).addFlags (fun l => (r l).2))))

/-- The bounds of a 32-bit integer. -/
def intLo (signed : Bool) : Int := if signed then -2147483648 else 0
/-- The bounds of a 32-bit integer. -/
def intHi (signed : Bool) : Int := if signed then 2147483647 else 4294967295

/-- R91: FCVT.W.S and FCVT.WU.S: binary32 to a 32-bit integer, towards zero, saturating. On a core the 32-bit result
is sign-extended (notes/assumptions/23.md). -/
def Dev.cvtToInt (d : Dev) (i : Instr) (a : Agent) (f : RF) (signed : Bool) : Dev :=
  let bad := f.fn2 != 0 || f.rb != 0
  let cv := fun (x : Nat) =>
    let r := (f32.unpack x).toIntSat .rtz (intLo signed) (intHi signed)
    ((BitVec.ofInt 32 r.1, r.2) : BitVec 32 × FFlags)
  d.ghety i a 0 bad
    (fun n => Dev.fpCore n (fun c _ =>
      let r := cv (c.fbits false f.ra.toNat)
      (c.setX f.rd.toNat (r.1.signExtend 64)).addFlags r.2))
    (cause1 bad)
    (fun k d => (.next, d.setSheaf k (fun s =>
      let r := fun l => cv (s.getV f.ra.toNat l).toNat
      (s.putV f.rd.toNat (fun l => (r l).1)).addFlags (fun l => (r l).2))))

/-- R92: NPACK at position pos: FN2 [4] is SAT, FN2 [3:0] the target code. -/
def Dev.npack (d : Dev) (i : Instr) (a : Agent) (pos : Nat) (f : RF) : Dev :=
  let code := f.fn2.toNat % 16
  d.onlyL i a (if npackPosOk code pos then none else some 4) (fun k d => (.next, d.setSheaf k (fun s =>
    let r := fun l => Sys2Proof.Machine.npack code (f.fn2.getLsbD 4) pos (s.getV f.ra.toNat l) (s.getV f.rb.toNat l) (s.getV f.rd.toNat l)
    (s.putV f.rd.toNat (fun l => (r l).1)).addFlags (fun l => (r l).2))))

/-- R92: NUNPK. A source code that R57 does not give is a reserved value. -/
def Dev.nunpk (d : Dev) (i : Instr) (a : Agent) (f : RF) : Dev :=
  let code := f.fn2.toNat
  d.onlyL i a (cause1 (decide (8 < code))) (fun k d => (.next, d.setSheaf k (fun s =>
    s.putV f.rd.toNat (fun l => Sys2Proof.Machine.nunpk code (s.getV f.ra.toNat l) (s.getV f.rb.toNat l)))))

/-- R93: a quantising helper of one operand; `bad4` marks a code it does not accept. -/
def Dev.quant (d : Dev) (i : Instr) (a : Agent) (f : RF) (bad1 bad4 : Bool) (op : BitVec 32 → BitVec 32 × FFlags) : Dev :=
  d.onlyL i a (orCause (cause1 (bad1 || f.rb != 0)) (if bad4 then some 4 else none)) (fun k d => (.next, d.setSheaf k (fun s =>
    (s.putV f.rd.toNat (fun l => (op (s.getV f.ra.toNat l)).1)).addFlags (fun l => (op (s.getV f.ra.toNat l)).2))))

/-- A truth value as a number. -/
def b01 (r : Bool × FFlags) : Nat × FFlags := (if r.1 then 1 else 0, r.2)

/-- R90: FADD. -/
def execFadd (a : Agent) (f : RF) (s : State) : Out :=
  doCmd a.wf (fun d => d.fp2 (.fadd a f) a f false (fun g rm x y => g.add rm (g.unpack x) (g.unpack y))) s

/-- R90: FSUB. -/
def execFsub (a : Agent) (f : RF) (s : State) : Out :=
  doCmd a.wf (fun d => d.fp2 (.fsub a f) a f false (fun g rm x y => g.sub rm (g.unpack x) (g.unpack y))) s

/-- R90: FMUL. -/
def execFmul (a : Agent) (f : RF) (s : State) : Out :=
  doCmd a.wf (fun d => d.fp2 (.fmul a f) a f false (fun g rm x y => g.mul rm (g.unpack x) (g.unpack y))) s

/-- R90: FDIV. -/
def execFdiv (a : Agent) (f : RF) (s : State) : Out :=
  doCmd a.wf (fun d => d.fpDiv (.fdiv a f) a f false (fun g rm x y => g.div rm (g.unpack x) (g.unpack y))) s

/-- R90: FSQRT. -/
def execFsqrt (a : Agent) (f : RF) (s : State) : Out :=
  doCmd a.wf (fun d => d.fpDiv (.fsqrt a f) a f (f.rb != 0) (fun g rm x _ => g.sqrt rm (g.unpack x))) s

/-- R90: FMIN. -/
def execFmin (a : Agent) (f : RF) (s : State) : Out :=
  doCmd a.wf (fun d => d.fp2 (.fmin a f) a f false (fun g _ x y => g.minOp x y)) s

/-- R90: FMAX. -/
def execFmax (a : Agent) (f : RF) (s : State) : Out :=
  doCmd a.wf (fun d => d.fp2 (.fmax a f) a f false (fun g _ x y => g.maxOp x y)) s

/-- R90: FAMAX. -/
def execFamax (a : Agent) (f : RF) (s : State) : Out :=
  doCmd a.wf (fun d => d.fp2 (.famax a f) a f false (fun g _ x y => g.amaxOp x y)) s

/-- R87: FSGNJ. -/
def execFsgnj (a : Agent) (f : RF) (s : State) : Out :=
  doCmd a.wf (fun d => d.fp2 (.fsgnj a f) a f false (fun g _ x y => (g.sgnj false false x y, 0))) s

/-- R87: FSGNJN. -/
def execFsgnjn (a : Agent) (f : RF) (s : State) : Out :=
  doCmd a.wf (fun d => d.fp2 (.fsgnjn a f) a f false (fun g _ x y => (g.sgnj true false x y, 0))) s

/-- R87: FSGNJX. -/
def execFsgnjx (a : Agent) (f : RF) (s : State) : Out :=
  doCmd a.wf (fun d => d.fp2 (.fsgnjx a f) a f false (fun g _ x y => (g.sgnj false true x y, 0))) s

/-- R90: FEQ. -/
def execFeq (a : Agent) (f : RF) (s : State) : Out :=
  doCmd a.wf (fun d => d.fpX (.feq a f) a f false (fun g x y => b01 (g.feq x y))) s

/-- R90: FLT. -/
def execFlt (a : Agent) (f : RF) (s : State) : Out :=
  doCmd a.wf (fun d => d.fpX (.flt a f) a f false (fun g x y => b01 (g.flt x y))) s

/-- R90: FLE. -/
def execFle (a : Agent) (f : RF) (s : State) : Out :=
  doCmd a.wf (fun d => d.fpX (.fle a f) a f false (fun g x y => b01 (g.fle x y))) s

/-- R90: FCLASS. -/
def execFclass (a : Agent) (f : RF) (s : State) : Out :=
  doCmd a.wf (fun d => d.fpX (.fclass a f) a f (f.rb != 0) (fun g x _ => (g.fclass x, 0))) s

/-- R87: FMV.XF: x takes the bits of f. -/
def execFmvXf (a : Agent) (f : RF) (s : State) : Out :=
  doCmd a.wf (fun d => d.fpC (.fmvXf a f) a (decide (1 < f.fn2.toNat) || f.rb != 0) (fun c _ => c.setX f.rd.toNat (BitVec.ofNat 64 (c.fbits (f.fn2.getLsbD 0) f.ra.toNat)))) s

/-- R87, R80: FMV.FX: f takes the bits of x, bits [63:32] zero for binary32. -/
def execFmvFx (a : Agent) (f : RF) (s : State) : Out :=
  doCmd a.wf (fun d => d.fpC (.fmvFx a f) a (decide (1 < f.fn2.toNat) || f.rb != 0) (fun c _ => c.setF f.rd.toNat (BitVec.ofNat 64 ((c.getX f.ra.toNat).toNat % 2 ^ (fmtD (f.fn2.getLsbD 0)).width)))) s

/-- R87, R90: FMADD. -/
def execFmadd (a : Agent) (f : R4F) (s : State) : Out := doCmd a.wf (fun d => d.fma (.fmadd a f) a f false false) s

/-- R87, R90: FMSUB. -/
def execFmsub (a : Agent) (f : R4F) (s : State) : Out := doCmd a.wf (fun d => d.fma (.fmsub a f) a f false true) s

/-- R87, R90: FNMADD. -/
def execFnmadd (a : Agent) (f : R4F) (s : State) : Out := doCmd a.wf (fun d => d.fma (.fnmadd a f) a f true true) s

/-- R87, R90: FNMSUB. -/
def execFnmsub (a : Agent) (f : R4F) (s : State) : Out := doCmd a.wf (fun d => d.fma (.fnmsub a f) a f true false) s

/-- R91: FCVT.S.W. -/
def execFcvtSW (a : Agent) (f : RF) (s : State) : Out := doCmd a.wf (fun d => d.cvtFromInt (.fcvtSW a f) a f true) s

/-- R91: FCVT.S.WU. -/
def execFcvtSWu (a : Agent) (f : RF) (s : State) : Out := doCmd a.wf (fun d => d.cvtFromInt (.fcvtSWu a f) a f false) s

/-- R91: FCVT.W.S. -/
def execFcvtWS (a : Agent) (f : RF) (s : State) : Out := doCmd a.wf (fun d => d.cvtToInt (.fcvtWS a f) a f true) s

/-- R91: FCVT.WU.S. -/
def execFcvtWuS (a : Agent) (f : RF) (s : State) : Out := doCmd a.wf (fun d => d.cvtToInt (.fcvtWuS a f) a f false) s

/-- R87: FCVT.S.D, binary64 to binary32. -/
def execFcvtSD (a : Agent) (f : RF) (s : State) : Out :=
  doCmd a.wf (fun d => d.fpC (.fcvtSD a f) a (f.fn2 != 0 || f.rb != 0) (fun c rm => (c.setF f.rd.toNat (BitVec.ofNat 64 (f32.convert rm (f64.unpack (c.fbits true f.ra.toNat))).1)).addFlags (f32.convert rm (f64.unpack (c.fbits true f.ra.toNat))).2)) s

/-- R87: FCVT.D.S, binary32 to binary64. -/
def execFcvtDS (a : Agent) (f : RF) (s : State) : Out :=
  doCmd a.wf (fun d => d.fpC (.fcvtDS a f) a (f.fn2 != 0 || f.rb != 0) (fun c rm => (c.setF f.rd.toNat (BitVec.ofNat 64 (f64.convert rm (f32.unpack (c.fbits false f.ra.toNat))).1)).addFlags (f64.convert rm (f32.unpack (c.fbits false f.ra.toNat))).2)) s

/-- R91: FCVT.D.L, a 64-bit integer to binary64. -/
def execFcvtDL (a : Agent) (f : RF) (s : State) : Out :=
  doCmd a.wf (fun d => d.fpC (.fcvtDL a f) a (f.fn2 != 0 || f.rb != 0) (fun c rm => (c.setF f.rd.toNat (BitVec.ofNat 64 (f64.ofInt rm (c.getX f.ra.toNat).toInt).1)).addFlags (f64.ofInt rm (c.getX f.ra.toNat).toInt).2)) s

/-- R91: FCVT.L.D, binary64 to a 64-bit integer. -/
def execFcvtLD (a : Agent) (f : RF) (s : State) : Out :=
  doCmd a.wf (fun d => d.fpC (.fcvtLD a f) a (f.fn2 != 0 || f.rb != 0) (fun c _ => (c.setX f.rd.toNat (BitVec.ofInt 64 ((f64.unpack (c.fbits true f.ra.toNat)).toIntSat .rtz (-(2 ^ 63)) (2 ^ 63 - 1)).1)).addFlags ((f64.unpack (c.fbits true f.ra.toNat)).toIntSat .rtz (-(2 ^ 63)) (2 ^ 63 - 1)).2)) s

/-- R92: NPACK. -/
def execNpack (a : Agent) (pos : BitVec 2) (f : RF) (s : State) : Out :=
  doCmd a.wf (fun d => d.npack (.npack a pos f) a pos.toNat f) s

/-- R92: NUNPK. -/
def execNunpk (a : Agent) (f : RF) (s : State) : Out := doCmd a.wf (fun d => d.nunpk (.nunpk a f) a f) s

/-- R93: QSCALE.MX. -/
def execQscaleMx (a : Agent) (f : RF) (s : State) : Out :=
  doCmd a.wf (fun d => d.quant (.qscaleMx a f) a f (f.fn2.getLsbD 4) (qscaleEmax (f.fn2.toNat % 16)).isNone (fun x => (Sys2Proof.Machine.qscaleMx (f.fn2.toNat % 16) x, 0))) s

/-- R93: QSCALE.F16. -/
def execQscaleF16 (a : Agent) (f : RF) (s : State) : Out :=
  doCmd a.wf (fun d => d.quant (.qscaleF16 a f) a f (f.fn2.getLsbD 4) (!qscaleF16Ok (f.fn2.toNat % 16)) (fun x => (Sys2Proof.Machine.qscaleF16 (f.fn2.toNat % 16) x, 0))) s

/-- R93: QINV. -/
def execQinv (a : Agent) (f : RF) (s : State) : Out :=
  doCmd a.wf (fun d => d.quant (.qinv a f) a f (decide (1 < f.fn2.toNat)) false (fun x => Sys2Proof.Machine.qinv (f.fn2.getLsbD 0) x)) s

end Sys2Proof.Machine
end

