-- ==== Sys2Proof/Machine/Sp.lean ====
section
/-! DEFINITION. The security processor's commands: staging and activating images, anti-rollback, attestation, calibration
tables (R474 to R481). -/

namespace Sys2Proof.Machine

open Sys2Proof

/-! ## The command buffer (R477, R482) -/

/-- The physical address of the command buffer. -/
def Dev.spBuffer (d : Dev) : Nat := d.fld rSpCmdaddr 55 12 * 4096

/-- `n` bytes from an address are in T2 or T3 and pass the checks of context 0. -/
def Dev.spReach (d : Dev) (pa n : Nat) (write : Bool) : Bool :=
  (cut 128 pa n).all (fun p =>
    let h := d.home p.1
    (match h with | .hbm _ => decide (pa < 2 ^ 55) | .core _ _ => true | _ => false) && d.verdict h 0 write == .pass)

/-- Bytes of the buffer from offset `o`; none where they cannot be read or are poisoned. -/
def Dev.spRead (d : Dev) (o n : Nat) : Option (List Byte) :=
  let pa := d.spBuffer + o
  if d.spReach pa n false && !d.crownBad pa n then some (d.crownRead pa n) else none

/-- SP_CMDSTAT.RESULT. -/
def Dev.spResult (d : Dev) (r : Nat) : Dev := d.setFld rSpCmdstat 27 24 r

/-- A command whose buffer cannot be reached has no effect; the spec gives no result for it: it is free
(notes/assumptions/43.md). -/
def Dev.spUnreached (d : Dev) : Dev := let (v, d) := d.fresh; d.spResult (v.toNat % 16)

/-! ## STAGE (R474, R475) -/

/-- R474: the header and payload of an image, or what refuses it. -/
def imageCheck (d : Dev) (cls : Nat) (hdr : List Byte) (payload : Nat → Option (List Byte)) : Option (Nat ⊕ Image) :=
  let ws := bytesWords hdr
  let w := word ws
  let zero := fun (lo hi : Nat) => (List.range 96).all (fun i => decide (i < lo ∨ hi < i) || w i == 0)
  if w 0 != 0x414A4657 || bitsOf (w 1) 31 24 != 1 || bitsOf (w 1) 23 20 != cls || decide (6 < cls) || bitsOf (w 1) 7 0 != 0 ||
     decide (w 3 < 1 ∨ 16777216 < w 3) || !(zero 4 7 && zero 20 31 && zero 80 95) then some (.inl 1)
  else
    let key := (hdr.drop 128).take 96
    let idx := bitsOf (w 1) 19 16
    if decide (3 < idx) || Config.keyRevoked idx || sha384 key != Config.keyHash idx then some (.inl 2)
    else if !ecdsaVerify (ofBe (key.take 48)) (ofBe (key.drop 48)) (sha384 (hdr.take 224)) (ofBe ((hdr.drop 224).take 48)) (ofBe ((hdr.drop 272).take 48))
    then some (.inl 3)
    else match payload (w 3) with
      | none => none
      | some p =>
        if hashBytes (sha384 p) != (hdr.drop 32).take 48 then some (.inl 4)
        else if bitsOf (w 1) 15 8 < d.arb cls then some (.inl 5)
        else some (.inr { cls := cls, svn := bitsOf (w 1) 15 8, version := w 2, hash := sha384 p })

/-- R477 step 2: STAGE. -/
def Dev.spStage (d : Dev) (cls : Nat) : Dev :=
  match (d.spRead 0 384).bind (fun h => imageCheck d cls h (fun n => d.spRead 384 n)) with
  | none => d.spUnreached
  | some (.inl r) => { (d.spResult r) with sp := { d.sp with staged := none } }
  | some (.inr i) => { (d.spResult 0) with sp := { d.sp with staged := some i } }

/-! ## ACTIVATE (R477) -/

/-- R477 step 4: the new image is written into the inactive flash slot, which becomes the active one. -/
def Dev.flashNew (d : Dev) (cls : Nat) : Dev :=
  let b := !d.nv.slotB.getLsbD cls
  let d := { d with nv := { d.nv with
    slots := d.nv.slots.set (2 * cls + (if b then 1 else 0)) (d.firmware cls).image,
    slotB := if b then d.nv.slotB ||| BitVec.ofNat 7 (2 ^ cls) else d.nv.slotB &&& ~~~(BitVec.ofNat 7 (2 ^ cls)) } }
  d.setBit rSpBootstat cls b

/-- The swap is over: the CP dispatches again, the PM acts on what came meanwhile. -/
def Dev.swapOver (d : Dev) (cls res : Nat) : Dev :=
  let d := { d with sp := { d.sp with swapping := none, staged := none } }
  let d := (d.setBit rSpCmdstat 31 false).spResult res
  if cls = 1 then d.setBit rCpStat 30 false
  else if cls = 2 then (d.pmDo Dev.fastUpdate).setGrants.setSteps
  else d

/-- R477 step 3: ACTIVATE: the chain is extended and the image swapped in. The core boot image is only used later. -/
def Dev.spActivate (d : Dev) (cls : Nat) : Dev :=
  match d.sp.staged with
  | some i =>
    if i.cls != cls then d.spResult 8
    else
      let old := d.firmware cls
      let d := d.measure cls i
      if cls = 6 then (d.flashNew cls).swapOver cls 0
      else
        let d := { (d.setBit rSpCmdstat 31 true) with sp := { d.sp with swapping := some (cls, old) } }
        if cls = 1 then d.setBit rCpStat 30 true else d
  | none => d.spResult 8

/-- R477: the new image reports ready. -/
def Dev.imageReady (d : Dev) (cls : Nat) : Dev :=
  match d.sp.swapping with
  | some (c, _) => if c = cls then (d.flashNew cls).swapOver cls 0 else d
  | none => d

/-- R477: the new image is not ready in time: the previous one is restored. -/
def Dev.activateTimeout (d : Dev) (cls : Nat) : Dev :=
  match d.sp.swapping with
  | some (c, old) => if c = cls then (d.setFirmware cls (fun f => { f with image := old.image })).swapOver cls 6 else d
  | none => d

/-! ## COMMIT (R476) -/

/-- R476: COMMIT. -/
def Dev.spCommit (d : Dev) (cls : Nat) : Dev :=
  ({ d with nv := { d.nv with arb := d.nv.arb.set cls (max (d.arb cls) (d.firmware cls).image.svn) } }).spResult 0

/-- R482: SP_ARB. -/
def Dev.arbValue (d : Dev) : Nat := ((List.range 7).map (fun c => min 63 (d.arb c) * 2 ^ (6 * c))).sum

/-! ## Attestation (R478) -/

/-- R478: the entry of an image class. -/
def Firmware.entry (f : Firmware) (i : Nat) : List Byte :=
  wordBytes [i * 2 ^ 28 + f.image.svn % 256 * 2 ^ 20 + f.activations % 2 ^ 20, f.image.version] ++ hashBytes f.image.hash ++
    hashBytes f.chain ++ List.replicate 24 0

/-- R478: CURRENT of the fuse entry: SHA-384 of the package record and the wafer fuse records in slot order. -/
def Dev.fuseHash (d : Dev) : BitVec 384 :=
  sha384 (leBytes 8 (d.reg rCrownPkgid) ++ (List.range 23).flatMap (fun s => leBytes 8 (d.reg (rCrownDieid s))))

/-- R478: words 0 to 287 of the report. -/
def Dev.report (d : Dev) (nonce : List Byte) : List Byte :=
  wordBytes [0x414A4154, 0x10800, d.time % 2 ^ 32, d.time / 2 ^ 32, d.fld rCrownPkgid 31 0, d.fld rCrownPkgid 55 32] ++ nonce ++
  wordBytes [(if d.pins.hostloss then 2 ^ 31 else 0) + d.pins.hpmode.toNat * 2 ^ 25] ++ leBytes 8 d.arbValue ++ List.replicate 44 0 ++
  (List.range 7).flatMap (fun i => (d.firmware i).entry i) ++
  (wordBytes [7 * 2 ^ 28, 0] ++ hashBytes d.fuseHash ++ List.replicate 72 0)

/-- Write an answer at offset 64 of the buffer, its length into LEN. -/
def Dev.spAnswer (d : Dev) (l : List Byte) : Dev :=
  if d.spReach (d.spBuffer + 64) l.length true then ((d.crownWrite (d.spBuffer + 64) l).setFld rSpCmdstat 23 0 l.length).spResult 0
  else d.spUnreached

/-- R478: ATTEST. -/
def Dev.spAttest (d : Dev) : Dev :=
  match d.spRead 0 48 with
  | none => d.spUnreached
  | some nonce =>
    let r := d.report nonce
    ({ d with free := d.free + 1 }).spAnswer (r ++ beBytes 96 (Config.identitySignature d.free r).toNat)

/-- R478: GETCERT. -/
def Dev.spGetcert (d : Dev) : Dev := d.spAnswer Config.certificateChain

/-! ## Calibration tables (R480, R481) -/

/-- R480: the class and index of an entry are known. The numbers of regulators, coefficients and lanes are not stated. -/
def calKnown (e : Nat × Nat × Int) : Bool :=
  match e.1 with
  | 0 => decide (e.2.1 < 184)
  | 4 => decide (e.2.1 < 192)
  | c => decide (c < 5)

/-- R481: the entries of a table, unknown ones left out. -/
def calEntries (l : List Nat) : List (Nat × Nat × Int) :=
  ((List.range (l.length / 2)).map (fun i =>
    (bitsOf (word l (2 * i)) 31 28, bitsOf (word l (2 * i)) 15 0, toSigned 32 (word l (2 * i + 1))))).filter calKnown

/-- R481: CALWRITE. -/
def Dev.spCalwrite (d : Dev) : Dev :=
  match d.spRead 0 12 with
  | none => d.spUnreached
  | some h =>
    let w := word (bytesWords h)
    if w 0 != 0x414A4341 || decide (8192 < w 1) then d.spResult 7
    else match d.spRead 12 (8 * w 1) with
      | none => d.spUnreached
      | some l =>
        if (crc32 l).toNat != w 2 then d.spResult 7
        else ({ d with nv := { d.nv with cal := calEntries (bytesWords l) } }).spResult 0

/-- R481: CALAPPLY: classes 0 to 2 wait for the next calibration. -/
def Dev.spCalapply (d : Dev) : Dev := (d.setPm (fun p => { p with calDue := true })).spResult 0

/-- R477, R482: a write of SP_CMD; ignored while BUSY is 1. -/
def Dev.spCommand (d : Dev) (op cls : Nat) : Dev :=
  if d.bit rSpCmdstat 31 then d
  else match op with
    | 1 => d.spStage cls
    | 2 => d.spActivate cls
    | 3 => if cls < 7 then d.spCommit cls else d
    | 4 => d.spAttest
    | 5 => d.spGetcert
    | 6 => d.spCalwrite
    | 7 => d.spCalapply
    | _ => d

/-! ## Their commands -/

/-- R477: a new image reports ready. -/
def execImageReadyReport (cls : Nat) (s : State) : Out := doCmd (decide (cls < 7)) (fun d => d.imageReady cls) s

/-- R477: a new image is not ready in time. -/
def execActivateTimeout (cls : Nat) (s : State) : Out := doCmd (decide (cls < 7)) (fun d => d.activateTimeout cls) s


end Sys2Proof.Machine
end

