-- ==== Sys2Proof/Machine/SelfTest.lean ====
section
/-! DEFINITION. Self-test and calibration in service, the watchdog of the CP firmware, error records
(R485, R488 to R490, R492). -/

namespace Sys2Proof.Machine

open Sys2Proof

/-! ## Requests (R488, R489) -/

/-- The enabled clusters across ACTIVE Tillers. -/
def Dev.clusterCount (d : Dev) : Nat := ((List.range 8).map (fun t => (d.tilClusters t).length)).sum

/-- A group as it stands. -/
def Dev.groupAt (d : Dev) (g : Nat × Nat) : Option Group := d.allGroups.find? (fun h => h.til == g.1 && h.idx == g.2)

/-- R488: a group holds more than 2 % of the clusters. -/
def Dev.groupBig (d : Dev) (g : Group) : Bool := decide (d.clusterCount < 50 * g.clusters.length)

/-- R488: the holder of a group is preempted, so that it can be tested. -/
def Dev.drainGroup (d : Dev) (g : Nat × Nat) : Dev :=
  let xs := d.cp.ctxs.keysP (fun _ c => c.groups.any (fun h => h.til == g.1 && h.idx == g.2))
  (xs.foldl (fun d x => if (d.ctxLive x).isEmpty then d.releaseGroups x else d.preempt x) d).refreshWaits

/-- R489: the device is drained: every context but 0 is destroyed, the fabric ports are fenced. -/
def Dev.drainDevice (d : Dev) : Dev :=
  let d := ((List.range 4096).filter (fun x => x != 0 && d.ctxState x != 0)).foldl Dev.destroyOwn d
  (d.setBit rFeStat 28 true).destroyTick

/-- A test starts. -/
def Dev.testStart (d : Dev) (t : SelfTest) : Dev :=
  { (d.setBit rCrownStstat 31 true) with sup := { d.sup with test := some t } }

/-- R489: a request that completes at once. -/
def Dev.testAnswer (d : Dev) (s : Status) : Dev := d.setFld rCrownStstat 15 0 s.code

/-- R488, R489: a request of a test of a group. -/
def Dev.testCluster (d : Dev) (t g : Nat) (force : Bool) : Dev :=
  if 8 ≤ t then d.testAnswer .invalidField
  else if !d.dieActive (slotTil t) then d.testAnswer .dieLost
  else match d.groupAt (t, g) with
    | none => d.testAnswer .invalidField
    | some x =>
      if d.groupBig x && !force then d.testAnswer .busy
      else (d.testStart { kind := 1, target := slotTil t, cur := some (t, g) }).drainGroup (t, g)

/-- R488, R489: a request of a sweep over every group. -/
def Dev.testSweep (d : Dev) (force : Bool) : Dev :=
  let l := d.allGroups
  if l.any d.groupBig && !force then d.testAnswer .busy
  else match l.map (fun g => (g.til, g.idx)) with
    | [] => d.testEnd .success false
    | g :: rest => ((d.testStart { kind := 6, target := 0, cur := some g, groups := rest }).drainGroup g).setFld rCrownStstat 23 16 0

/-- R488, R489: a request of a link test. -/
def Dev.testLink (d : Dev) (s : Nat) (force : Bool) : Dev :=
  if s = 0 ∨ 23 ≤ s then d.testAnswer .invalidField
  else if !d.dieActive s then d.testAnswer .dieLost
  else if (d.die s).wires < Config.linkSpares s then d.testStart { kind := 3, target := s }
  else if force then (d.testStart { kind := 3, target := s }).drainStart s .reset
  else d.testAnswer .busy

/-- R488, R489: a write of CROWN_STCMD. -/
def Dev.testCommand (d : Dev) (v : Nat) : Dev :=
  let kind := bitsOf v 63 60
  let force := v.testBit 59
  let d := d.setFld rCrownStstat 30 27 kind
  if d.sup.test.isSome then d.testAnswer .busy
  else
    let d := d.setBit rCrownStstat 26 false
    match kind with
    | 1 => d.testCluster (bitsOf v 15 8) (bitsOf v 7 0) force
    | 2 => d.testStart { kind := 2, target := 0 }
    | 3 => d.testLink (bitsOf v 15 8) force
    | 4 => if force then (d.testStart { kind := 4, target := 0 }).drainDevice else d.testAnswer .busy
    | 5 => if force then (d.testStart { kind := 5, target := 0 }).drainDevice else d.testAnswer .busy
    | 6 => d.testSweep force
    | _ => d.testAnswer .invalidField

/-! ## Ends (R487 to R489) -/

/-- R463: reset of clusters: what stands in them, their counters and exception records. -/
def Dev.resetClusters (d : Dev) (p : Nat → Bool) : Dev :=
  (d.clearClusters p).resetRegs (fun o => decide (0x1000000 ≤ o ∧ o < 0x1800000) && (List.range 8).any (fun t =>
    (List.range 84).any (fun c => p (84 * t + c) && decide (rClsMxstat t c ≤ o ∧ o < rClsMxstat t c + (rClsMxstat 0 1 - rClsMxstat 0 0)))))

/-- R487: clusters that a test found bad. -/
def Dev.testFound (d : Dev) (found : List (Nat × Nat)) (badSpares : List Nat) : Dev :=
  let bad := found.filter (fun e => decide (e.1 < 8) && d.dieActive (slotTil e.1) && d.clsEnabled e.1 e.2)
  if bad.isEmpty then d
  else (bad.foldl (fun d e => (d.error 0x28 (slotTil e.1) e.2).clusterSwap e.1 e.2 badSpares) d).geometryChanged

/-- R489: after MEMTEST every line of every set reads as poison until written. -/
def Dev.memTested (d : Dev) : Dev :=
  let hbm := fun (l : Nat) => decide (l < 0x120000000)
  let d := { d with ms := { d.ms with
    stale := d.ms.stale.filter (fun e => !hbm e.1),
    caches := d.ms.caches.mapVals (fun _ c => { c with lines := c.lines.filter (fun e => !hbm e.1), fills := c.fills.filter (fun e => !hbm e.1) }) } }
  (List.range 4).foldl Dev.loseSet d

/-- R488: the groups of a test are free of contexts, or every context but 0 is gone. -/
def Dev.testReady (d : Dev) (t : SelfTest) : Bool :=
  match t.kind with
  | 1 | 6 => !d.cp.ctxs.any (fun e => e.2.groups.any (fun g => t.cur == some (g.til, g.idx)))
  | 4 | 5 => (List.range 4096).all (fun x => x == 0 || d.ctxState x == 0)
  | _ => true

/-- R13, R488: the failing wires of a link are mapped onto its spares. -/
def Dev.mapWires (d : Dev) (s n : Nat) : Dev :=
  iter n (fun d =>
    if (d.die s).wires < Config.linkSpares s then (d.setDie s (fun x => { x with wires := x.wires + 1 })).error 0x0A s 0
    else d.error 0x0A s 0 0 0 0 (some 1)) d

/-- R487, R488: a test ends: `found` are the failing clusters, or one pair for each other fault; a sweep goes on with the next
group. -/
def Dev.testDone (d : Dev) (found : List (Nat × Nat)) (badSpares : List Nat) : Dev :=
  match d.sup.test with
  | none => d
  | some t =>
    if !d.cpRuns || !d.testReady t then d else
    let any := t.found || !found.isEmpty
    match t.kind, t.cur with
    | 2, _ => d.testEnd .success any
    | 3, _ => (d.mapWires t.target found.length).testEnd .success any
    | 4, _ =>
      let d := (found.filter (fun e => decide (e.1 < 12))).foldl (fun d e => d.error 0x28 (slotGlm e.1) 0) d
      (d.memTested.setBit rFeStat 28 false).testEnd .success any
    | 5, _ =>
      let d := d.resetClusters (fun k => d.dieActive (slotTil (k / 84)))
      ((d.testFound found badSpares).setBit rFeStat 28 false).testEnd .success any
    | _, none => d.testEnd .success any
    | k, some g =>
      let cls := match d.groupAt g with | some x => x.clusters | none => []
      let d := d.resetClusters (fun c => cls.contains c)
      let d := d.testFound (found.filter (fun e => cls.contains (84 * e.1 + e.2))) badSpares
      let d := if k = 6 then d.addWrap rCrownStstat 23 16 1 else d
      match t.groups with
      | [] => (d.testEnd .success any).refreshWaits
      | h :: rest => ({ d with sup := { d.sup with test := some { t with cur := some h, groups := rest, found := any } } }).drainGroup h

/-- R490: the period of the sweep has passed, or the hour after one that was skipped. -/
def Dev.sweepTimer (d : Dev) : Dev :=
  if d.cpRuns && d.bit rCrownStcfg 31 && d.sup.test.isNone then
    ((d.setFld rCrownStstat 30 27 6).setBit rCrownStstat 26 false).testSweep false
  else d

/-! ## The CP watchdog (R492) -/

/-- R492: ten CP heartbeats in a row have been missed: the firmware is restarted, and held after the third time within one
hour. -/
def Dev.cpMissed (d : Dev) : Dev :=
  if !d.cpRuns then d else
  let recent := d.time :: d.sup.restarts.filter (fun t => decide (d.time - t < 3600000000000))
  let d := ({ d with sup := { d.sup with restarts := recent } }.addSat rCpStat 23 16 1).error 0x20 0 0
  if 3 ≤ recent.length then
    let d := (d.setBit rCpStat 31 false).error 0x21 0 0
    { d with pins := { d.pins with caterr := true } }
  else d.setBit rCpStat 30 true

/-- R492: restarted firmware runs again. -/
def Dev.cpRestarted (d : Dev) : Dev := match d.sp.swapping with | some (1, _) => d | _ => d.setBit rCpStat 30 false

/-! ## Their commands -/

/-- R488: a test ends. -/
def execSelftestDone (found : List (Nat × Nat)) (badSpares : List Nat) (s : State) : Out :=
  doCmd true (fun d => d.testDone found badSpares) s

/-- R490: a sweep is due. -/
def execSweepTimer  (s : State) : Out := doCmd true (fun d => d.sweepTimer) s

/-- R492: the CP firmware is restarted. -/
def execCpHeartbeatMiss  (s : State) : Out := doCmd true (fun d => d.cpMissed) s

/-- R492: the CP firmware runs again. -/
def execCpFirmwareRestartDone  (s : State) : Out := doCmd true (fun d => d.cpRestarted) s

/-- R485: an error record is written. -/
def execErrorRecordWrite  (s : State) : Out := doCmd true (fun d => d.errorWrite) s


end Sys2Proof.Machine
end

