-- ==== Sys2Proof/Machine/RegAccess.lean ====
section
/-! DEFINITION. Accesses to control space (R5 to R8, R29, R38, R39, R202, R206, R396, R405): what a register reads as, and
what a write of it does. -/

namespace Sys2Proof.Machine

open Sys2Proof

/-! ## What registers read as -/

/-- The command that an engine instance runs. -/
def Dev.engineRun (d : Dev) (cls inst : Nat) : Option Run :=
  (d.cp.runs.find? (fun e => e.2.began && !e.2.done && e.2.cls == cls && e.2.inst == inst)).map (·.2)

/-- R29: CROWN_GEOM. -/
def Dev.geomValue (d : Dev) : Nat :=
  let gs := d.allGroups
  let mask := fun (n s : Nat) => ((List.range n).map (fun i => if d.dieActive (s + i) then 2 ^ i else 0)).sum
  let partials := ((List.range 8).map (fun t => if (d.tilGroups t).any (fun g => decide (g.clusters.length < 8)) then 2 ^ t else 0)).sum
  d.fld rCrownGeom 63 56 * 2 ^ 56 + mask 12 11 * 2 ^ 44 + mask 2 9 * 2 ^ 42 + mask 8 1 * 2 ^ 34 + partials * 2 ^ 26
    + gs.length * 2 ^ 10 + d.clusterCount

/-- R312: CP_QINFO0 and CP_QINFO1 of a queue. -/
def Dev.queueInfo (d : Dev) (q : Nat) : Nat × Nat :=
  match d.cp.queues.find q with
  | none => (0, 0)
  | some x =>
    let st := match x.st with | .active => 1 | .parked => 2 | .halted => 3 | .draining => 4
    (st * 2 ^ 61 + x.cls % 8 * 2 ^ 58 + x.prio % 4 * 2 ^ 56 + x.log2 % 32 * 2 ^ 51 + (if x.destroying then 2 ^ 48 else 0)
      + x.lastStatus % 2 ^ 16 * 2 ^ 32 + x.n % 2 ^ 32, x.p % 2 ^ 32 * 2 ^ 32 + x.cqid % 2 ^ 18)

/-- R312: CP_CQINFO0 and CP_CQINFO1 of a completion queue. -/
def Dev.cqInfo (d : Dev) (k : Nat) : Nat × Nat :=
  match d.cp.cqs.find k with
  | none => (0, 0)
  | some c =>
    (2 ^ 63 + c.ctx % 4096 * 2 ^ 51 + c.log2 % 32 * 2 ^ 46 + c.dest % 4 * 2 ^ 44 + c.vec % 2048 * 2 ^ 33 + c.written % 2 ^ 32,
      c.reserved % 2 ^ 32 * 2 ^ 32 + c.cons % 2 ^ 32)

/-- R416: CE_ENGSTAT[i]: descriptors done, or the 4 KiB block of a multicast sequencer. -/
def Dev.engineStat (d : Dev) (i : Nat) : Nat :=
  match d.engineRun 2 i with
  | none => 0
  | some v => 2 ^ 63 + v.qid * 2 ^ 32 + v.qid / 256 * 2 ^ 20 + (if 40 ≤ i then v.step / 32 else v.step) % 65536

/-- R523: GLM_NMVSTAT[g]. -/
def Dev.nmvStat (d : Dev) (g : Nat) : Nat :=
  let waiting := (d.cp.runs.filter (fun e => !e.2.began && !e.2.done && e.2.cls == 1 && e.2.cmd.f 2 27 24 == g)).length
  min 4095 waiting + (match d.engineRun 1 g with
    | none => 0
    | some v => 2 ^ 63 + v.cmd.op * 2 ^ 48 + v.qid / 256 * 2 ^ 32 + v.qid * 2 ^ 12)

/-- R387: TIL_SMPSTAT[t]. -/
def Dev.smpStat (d : Dev) (t : Nat) : Nat :=
  match d.engineRun 5 t with
  | none => 0
  | some v => 2 ^ 63 + v.qid * 2 ^ 32 + v.qid / 256 * 2 ^ 20 + v.step % 1024

/-- R151 to R153, R523: GLM_REPSTAT[g]. -/
def Dev.repStat (d : Dev) (g : Nat) : Nat :=
  let x := d.glume g
  let most := x.used.foldl (fun n e => max n e.2.2.2) 0
  min 255 x.soft.length * 2 ^ 24 + min 255 (d.nv.hard.get [] g).length * 2 ^ 16 + min 255 (Config.spareRows - most) * 2 ^ 8
    + d.fld (rGlmRepstat g) 1 0

/-- R77: CLS_MXSTAT of a cluster, by its key: rows with a full shadow bank, rows with a pass in flight. -/
def Dev.mxStat (d : Dev) (cls : Nat) : Nat :=
  let pass := fun (r : Row) => !r.landing.isEmpty || (match r.run with | some e => (match e.op with | .mpass _ => true | _ => false) | none => false)
  ((List.range 16).map (fun i =>
    let r := d.row (16 * cls + i)
    (if r.shadow.full then 2 ^ (16 + i) else 0) + (if pass r then 2 ^ i else 0))).sum

/-- What a register reads as, but for QINFO0 and CQINFO0: those that report state held elsewhere are made here. -/
def Dev.regValue (d : Dev) (off : Nat) : Nat :=
  let o := off % 0x100000
  if off = rCrownTime then d.time
  else if off = rCrownGeom then d.geomValue
  else if off = rCpQinfo1 then d.cp.latchQ.toNat
  else if off = rCpCqinfo1 then d.cp.latchC.toNat
  else if off = rCpWaitstat then d.swept * 2 ^ 32 + d.watched
  else if off = rCpCtxdesc 0 then putBits (d.reg off) 63 61 1
  else if rCpCtxstat 0 ≤ off ∧ off ≤ rCpCtxstat 4095 then
    putBits (d.reg off) 63 57 (d.ctxSt ((off - rCpCtxstat 0) / 8)).groups.length
  else if rCeEngstat 0 ≤ off ∧ off ≤ rCeEngstat 55 then d.engineStat ((off - rCeEngstat 0) / 8)
  else if off = rFeId then putBits (d.reg off) 30 30 (if d.pins.posEn then 1 else 0)
  else if off = rSpArb then d.arbValue
  else if rHpPortstat 0 ≤ off ∧ off ≤ rHpPortstat 5 ∧ (off - rHpPortstat 0) % 0x100 = 0 then
    putBits (d.reg off) 63 63 (if d.isRoot ((off - rHpPortstat 0) / 0x100) then 1 else 0)
  else if 0x1000000 ≤ off ∧ off < 0x1800000 then
    let t := off / 0x100000 - 0x10
    if o = 0x0A00 then d.smpStat t
    else if 0x10000 ≤ o ∧ o % 0x1000 = 0 then d.mxStat (clsKey t (o / 0x1000 - 0x10))
    else if d.dieActive (slotTil t) then d.reg off
    else if o = 0 then putBits (d.reg off) 6 0 0
    else if o = 8 ∨ o = 0x10 then 0
    else d.reg off
  else if 0x2000000 ≤ off ∧ off < 0x2C00000 then
    let g := off / 0x100000 - 0x20
    if o = 0x38 then d.repStat g else if o = 0x108 then d.nmvStat g else d.reg off
  else d.reg off

/-! ## Which registers answer -/

/-- The die whose registers stand at an offset, if it is one that can leave service. -/
def regDie (off : Nat) : Option Nat :=
  if 0x1000000 ≤ off ∧ off < 0x1800000 then some (slotTil (off / 0x100000 - 0x10))
  else if 0x1800000 ≤ off ∧ off < 0x1C00000 then some (slotCulm ((off - 0x1800000) / 0x200000))
  else if 0x2000000 ≤ off ∧ off < 0x2C00000 then some (slotGlm (off / 0x100000 - 0x20))
  else none

/-- R29: the Tiller registers of which the Crown keeps copies. -/
def crownCopy (off : Nat) : Bool := decide (0x1000000 ≤ off ∧ off < 0x1800000 ∧ off % 0x100000 < 0x18)

/-- R39, R77: the register that starts at an offset, unless its die is not ACTIVE or its cluster not enabled. -/
def Dev.regHere (d : Dev) (off : Nat) : Option RegDesc :=
  let live := match regDie off with
    | none => true
    | some s =>
      (crownCopy off || d.dieActive s) &&
      (!(decide (s < 9) && decide (0x10000 ≤ off % 0x100000)) || d.clsEnabled (s - 1) (off % 0x100000 / 0x1000 - 0x10))
  if live then regAt off else none

/-- R466, R468, R493: the register space answers from boot step 7; before, and after boot has stopped, only the SP_ and SVC_
blocks do. -/
def Dev.regsAnswer (d : Dev) (off : Nat) : Bool :=
  d.powered && ((decide (7 ≤ d.sup.bootStep) && !d.sup.stopped) || decide (0x300000 ≤ off ∧ off < 0x400000)
    || decide (0x800000 ≤ off ∧ off < 0x900000))

/-! ## MSI-X tables and downstream windows (R392, R396, R405) -/

/-- What an access to control space ends in: done, refused, or held until a port returns. -/
inductive CtrlEnd where
  | ok
  | refuse (s : Status)
  | wait
deriving DecidableEq, Repr

/-- The port whose 64 KiB block holds an offset. -/
def portBlock (off : Nat) : Option Nat := if 0x780000 ≤ off ∧ off < 0x7E0000 then some ((off - 0x780000) / 0x10000) else none

/-- R396: a read of an endpoint's MSI-X table or pending-bit array. -/
def Dev.msixRead (d : Dev) (p o size : Nat) : Option Nat :=
  let pend := ((d.port p).pba.map (fun v => 2 ^ v)).sum
  let w := fun (i : Nat) => if i < 8192 then ((d.port p).msixWord i).toNat else pend / 2 ^ (32 * (i - 8192)) % 2 ^ 32
  if o < 0x8100 ∧ o % size = 0 then
    (if size = 4 then some (w (o / 4)) else if size = 8 then some (w (o / 4) + 2 ^ 32 * w (o / 4 + 1)) else none)
  else none

/-- R396: a write of an endpoint's MSI-X table; the pending bits are read-only. A vector that is unmasked is sent. -/
def Dev.msixStore (d : Dev) (p o size v : Nat) : Option Dev :=
  let put := fun (d : Dev) (i x : Nat) =>
    if i < 8192 then d.setPort p (fun h => { h with msix := h.msix.set i (BitVec.ofNat 32 (if i % 4 = 3 then x % 2 else x)) }) else d
  if o < 0x8100 ∧ o % size = 0 then
    (if size = 4 then some ((put d (o / 4) v).msixPending p)
    else if size = 8 then some ((put (put d (o / 4) v) (o / 4 + 1) (v / 2 ^ 32)).msixPending p)
    else none)
  else none

/-- R405: an access through the downstream window of a root port: the lower half is configuration space, the upper half
device memory. What a read returns is the attached device's (notes/assumptions/46.md). -/
def Dev.window (d : Dev) (p o size : Nat) (v : Option Nat) : CtrlEnd × Nat × Dev :=
  match d.portVerdict p with
  | .refuse s => (.refuse s, 0, d)
  | .wait => (.wait, 0, d)
  | .pass =>
    let b := v.map (fun x => BitVec.ofNat 64 (x % 2 ^ (8 * size)))
    let a := d.fld (rHpRpwin p) 63 15 * 2 ^ 15 + (o - 0x8000)
    let m : HostTx := if o < 0x8000 then .config p o size b else .bus p a size b
    let d := if d.linkUp p then { d with hostTx := d.hostTx ++ [m] } else d
    match v with
    | some _ => (.ok, 0, d)
    | none =>
      let (x, d) := d.fresh
      (.ok, x.toNat % 2 ^ (8 * size), d)

/-! ## Reads -/

/-- A read of a whole register; CP_QINFO0 and CP_CQINFO0 latch their second halves (R312). -/
def Dev.regSample (d : Dev) (off : Nat) : Nat × Dev :=
  if off = rCpQinfo0 then
    let i := d.queueInfo (d.fld rCpQsel 19 0)
    (i.1, { d with cp := { d.cp with latchQ := BitVec.ofNat 64 i.2 } })
  else if off = rCpCqinfo0 then
    let i := d.cqInfo (d.fld rCpCqsel 17 0)
    (i.1, { d with cp := { d.cp with latchC := BitVec.ofNat 64 i.2 } })
  else (d.regValue off, d)

/-- R6, R39: a control-space access error of a read: zero is returned. -/
def Dev.ctrlZero (d : Dev) (off : Nat) : CtrlEnd × Nat × Dev := (.ok, 0, d.ctrlError off)

/-- R5, R6, R39: a read in the register space by context 0. -/
def Dev.regRead (d : Dev) (off size : Nat) : CtrlEnd × Nat × Dev :=
  if !d.regsAnswer off then (.ok, 0, d) else
  match d.regHere off with
  | some r => if r.bytes = size then (.ok, d.regSample off) else d.ctrlZero off
  | none =>
    match portBlock off with
    | none => d.ctrlZero off
    | some p =>
      if d.isRoot p then (if off % size = 0 then d.window p (off % 0x10000) size none else d.ctrlZero off)
      else match d.msixRead p (off % 0x10000) size with
        | some v => (.ok, v, d)
        | none => d.ctrlZero off

/-- R38, R206: a read in control space as context `ctx`. -/
def Dev.ctrlRead (d : Dev) (ctx off size : Nat) : CtrlEnd × Nat × Dev :=
  let page := (off - 0x10000000) / 4096
  if 0x10000000 ≤ off ∧ off < 0x11000000 ∧ (ctx = 0 ∨ ctx = page) then (.ok, 0, d)
  else if ctx ≠ 0 then (.refuse .protection, 0, d.ctrlError off)
  else if off < 0x4000000 then d.regRead off size
  else d.ctrlZero off

/-! ## Writes -/

/-- R520: a write of a record ring's control register. -/
def Dev.ringCtlStore (d : Dev) (n v : Nat) : Dev :=
  let was := d.ringOn n
  (d.setReg (ringRegs n).ctl (if was then putBits v 4 0 (d.fld (ringRegs n).ctl 4 0) else v)).ringSwitched n was

/-- R520: whether BASE of a ring may be written. -/
def Dev.ringBaseStore (d : Dev) (n v : Nat) : Dev := if d.ringOn n then d else d.setReg (ringRegs n).base v

/-- A write of a register of the CROWN_ block: `v` is what it stores, `w` the bits as written. -/
def Dev.crownStore (d : Dev) (off v w : Nat) : Dev :=
  if rCrownFqbase 0 ≤ off ∧ off < rCrownFqbase 16 then
    let n := (off - rCrownFqbase 0) / 0x20
    (match off % 0x20 with
    | 0 => d.ringBaseStore n v
    | 8 => d.ringCtlStore n v
    | _ => (d.setReg off v).faultFlush n)
  else if off = rCrownFresume then d.faultResume (bitsOf w 63 62) (bitsOf w 23 0)
  else if off = rCrownLendrel then d.lendRelease w
  else if rCrownFadmit 0 ≤ off ∧ off < rCrownFadmit 1152 then d.fadmitWrite ((off - rCrownFadmit 0) / 4) w
  else if off = rCrownSlbase then d.ringBaseStore 16 v
  else if off = rCrownSlctl then d.ringCtlStore 16 v
  else if off = rCrownErrbase then d.ringBaseStore 17 v
  else if off = rCrownErrctl then d.ringCtlStore 17 v
  else if off = rCrownEvraise then d.raiseEvent (bitsOf w 10 0)
  else if rCrownDiectl 0 ≤ off ∧ off < rCrownDiectl 23 then
    (d.setReg off v).dieRequest ((off - rCrownDiectl 0) / 4) (bitsOf w 1 0)
  else if off = rCrownRstctl then (if w.testBit 31 then d.warmRequest 1 0 else d)
  else if off = rCrownStcmd then d.testCommand w
  else d.setReg off v

/-- A write of a register of a Tiller, Culm or Glume. -/
def Dev.dieStore (d : Dev) (off v w : Nat) : Dev :=
  let o := off % 0x100000
  if 0x1000000 ≤ off ∧ off < 0x1800000 then
    let t := off / 0x100000 - 0x10
    if o = 0x0808 then d.cacheSweep t (bitsOf w 1 0)
    else if 0x10000 ≤ o ∧ o % 0x1000 = 0x400 then
      (if w.testBit 63 then d.setFld (rClsLexc t (o / 0x1000 - 0x10)) 63 56 0 else d)
    else d.setReg off v
  else if 0x1800000 ≤ off ∧ off < 0x1C00000 then
    let u := (off - 0x1800000) / 0x200000
    let q := (off - 0x1800000) % 0x200000
    if q = 0x0808 then d.cacheSweep (8 + u) (bitsOf w 1 0)
    else if 0x10000 ≤ q ∧ q % 0x20 = 0 then
      (match bitsOf w 1 0 with
      | 1 => d.coreOffline (48 * u + (q - 0x10000) / 0x20)
      | 2 => d.coreOnline (48 * u + (q - 0x10000) / 0x20)
      | _ => d)
    else d.setReg off v
  else
    let g := off / 0x100000 - 0x20
    if o = 0x30 then d.repairCommand g (bitsOf w 63 60) (repRow w)
    else if o = 0x10 then (if w.testBit 63 then (d.setReg (rGlmErrrec g) 0).setReg (rGlmErraddr g) 0 else d)
    else d.setReg off v

/-- A write of a register of another block. -/
def Dev.blockStore (d : Dev) (off v w : Nat) : Dev :=
  if rCpCtxdesc 0 ≤ off ∧ off ≤ rCpCtxdesc 4095 then ((d.setReg off v).refreshWaits).noticeFlush
  else if off = rPmCtl then
    let was := d.fixedRate
    (d.setReg off v).pmCtlWritten was
  else if off = rPmCulmfreq then (d.setReg off v).culmReqWritten
  else if off = rSpCmd then d.spCommand (bitsOf w 63 60) (bitsOf w 59 57)
  else if off = rSeStatebase then (if d.se.sessions.isEmpty then d.setReg off v else d)
  else if off = rSeExbase 0 then d.ringBaseStore 18 v
  else if off = rSeExbase 1 then d.ringBaseStore 19 v
  else if off = rSeExctl 0 then d.ringCtlStore 18 v
  else if off = rSeExctl 1 then d.ringCtlStore 19 v
  else if rHpPortctl 0 ≤ off ∧ off ≤ rHpPortctl 5 ∧ (off - rHpPortctl 0) % 0x100 = 0 then
    let d := d.setReg off v
    if w.testBit 0 then d.rearm ((off - rHpPortctl 0) / 0x100) else d
  else if rFePortctl 0 ≤ off ∧ off ≤ rFePortctl 15 ∧ (off - rFePortctl 0) % 0x40 = 0 then
    let p := (off - rFePortctl 0) / 0x40
    let was := d.bit off 31
    let d := (d.setReg off v).portEnable p was
    if w.testBit 30 then d.retrain p else d
  else if off = rFeRouteq then (d.setReg off v).routeReport (bitsOf v 14 0)
  else d.setReg off v

/-- R5, R8: a write of the bits in `mask` of a register. -/
def Dev.regStore (d : Dev) (r : RegDesc) (off val mask : Nat) : Dev :=
  let v := r.writeFields (d.reg off) val mask
  let w := val &&& mask
  if off < 0x100000 then d.crownStore off v w
  else if (regDie off).isSome then d.dieStore off v w
  else d.blockStore off v w

/-- The bits an access of `size` bytes carries. -/
def sizeMask (size : Nat) : Nat := 2 ^ (8 * size) - 1

/-- R5, R6, R39: a write in the register space by context 0. -/
def Dev.regWrite (d : Dev) (off size val : Nat) : CtrlEnd × Dev :=
  if !d.regsAnswer off then (.ok, d) else
  match d.regHere off with
  | some r => (.ok, if r.bytes = size then d.regStore r off val (sizeMask size) else d.ctrlError off)
  | none =>
    match portBlock off with
    | none => (.ok, d.ctrlError off)
    | some p =>
      if d.isRoot p then
        (if off % size = 0 then
          let (e, _, d) := d.window p (off % 0x10000) size (some val)
          (e, d)
        else (.ok, d.ctrlError off))
      else match d.msixStore p (off % 0x10000) size val with
        | some d => (.ok, d)
        | none => (.ok, d.ctrlError off)

/-- R38, R206: a write in control space as context `ctx`. -/
def Dev.ctrlWrite (d : Dev) (ctx off size val : Nat) : CtrlEnd × Dev :=
  if 0x10000000 ≤ off ∧ off < 0x11000000 then
    match d.doorbellWrite ctx (off - 0x10000000) size val with
    | (true, d) => (.ok, d)
    | (false, d) => (.refuse .protection, d.ctrlError off)
  else if ctx ≠ 0 then (.refuse .protection, d.ctrlError off)
  else if off < 0x4000000 then d.regWrite off size val
  else (.ok, d.ctrlError off)

/-- A write of a 32-bit register as context `ctx`. -/
def Dev.write4 (d : Dev) (ctx off val : Nat) : Dev := (d.ctrlWrite ctx off 4 (val % 2 ^ 32)).2
/-- A write of a 64-bit register as context `ctx`. -/
def Dev.write8 (d : Dev) (ctx off val : Nat) : Dev := (d.ctrlWrite ctx off 8 val).2

/-- A read of a register as context `ctx`, which answers with the bytes. -/
def Dev.readOut (d : Dev) (ctx off size : Nat) : Dev :=
  match d.ctrlRead ctx off size with
  | (.ok, v, d) => { d with out := leBytes size v, outBad := false }
  | (_, _, d) => { d with out := [], outBad := false }

/-- The GLM_REPCMD word of an operation on a row. -/
def repWord (op : Nat) (r : DramRow) : Nat := op * 2 ^ 60 + r.ch % 16 * 2 ^ 56 + r.pc % 2 * 2 ^ 55 + r.bank % 64 * 2 ^ 49 + r.row % 2 ^ 17 * 2 ^ 32

/-- The CROWN_STCMD word of a test. -/
def testWord (kind : Nat) (force : Bool) (target grp : Nat) : Nat :=
  kind * 2 ^ 60 + (if force then 2 ^ 59 else 0) + target % 256 * 2 ^ 8 + grp % 256

/-! ## Their commands -/

/-- R8: a write of a register. -/
def execRegisterWrite (ctx : Nat) (off : Nat) (size : Nat) (val : Nat) (s : State) : Out :=
  doCmd (decide (ctx < 4096) && decide (off < 2 ^ 64) && decide (size = 1 ∨ size = 2 ∨ size = 4 ∨ size = 8) && decide (val < 2 ^ 64)) (fun d => (d.ctrlWrite ctx off size (val % 2 ^ (8 * size))).2) s

/-- R471: CROWN_DIECTL.REQ = RESET. -/
def execDieResetReq (ctx : Nat) (slot : Nat) (s : State) : Out :=
  doCmd (decide (ctx < 4096) && decide (slot < 23)) (fun d => d.write4 ctx (rCrownDiectl slot) (d.fld (rCrownDiectl slot) 31 31 * 2 ^ 31 + 1)) s

/-- R471: CROWN_DIECTL.REQ = OFFLINE. -/
def execDieOfflineReq (ctx : Nat) (slot : Nat) (s : State) : Out :=
  doCmd (decide (ctx < 4096) && decide (slot < 23)) (fun d => d.write4 ctx (rCrownDiectl slot) (d.fld (rCrownDiectl slot) 31 31 * 2 ^ 31 + 2)) s

/-- R471: CROWN_DIECTL.REQ = ONLINE. -/
def execDieOnlineReq (ctx : Nat) (slot : Nat) (s : State) : Out :=
  doCmd (decide (ctx < 4096) && decide (slot < 23)) (fun d => d.write4 ctx (rCrownDiectl slot) (d.fld (rCrownDiectl slot) 31 31 * 2 ^ 31 + 3)) s

/-- R266, R264: a write of CROWN_EVRAISE. -/
def execEvraise (ctx : Nat) (ev : Nat) (s : State) : Out :=
  doCmd (decide (ctx < 4096) && decide (ev < 2048)) (fun d => d.write4 ctx rCrownEvraise ev) s

/-- R268: CULM_CORECTL.REQ = OFFLINE. -/
def execCoreOffline (ctx : Nat) (n : Nat) (s : State) : Out :=
  doCmd (decide (ctx < 4096) && decide (n < 96)) (fun d => d.write4 ctx (rCulmCorectl (n / 48) (n % 48)) 1) s

/-- R268: CULM_CORECTL.REQ = ONLINE. -/
def execCoreOnline (ctx : Nat) (n : Nat) (s : State) : Out :=
  doCmd (decide (ctx < 4096) && decide (n < 96)) (fun d => d.write4 ctx (rCulmCorectl (n / 48) (n % 48)) 2) s

/-- R151: GLM_REPCMD.OP = SOFT. -/
def execRepcmdSoft (ctx : Nat) (g : Nat) (row : DramRow) (s : State) : Out :=
  doCmd (decide (ctx < 4096) && decide (g < 12) && row.wf) (fun d => d.write8 ctx (rGlmRepcmd g) (repWord 1 row)) s

/-- R152: GLM_REPCMD.OP = HARD. -/
def execRepcmdHard (ctx : Nat) (g : Nat) (row : DramRow) (s : State) : Out :=
  doCmd (decide (ctx < 4096) && decide (g < 12) && row.wf) (fun d => d.write8 ctx (rGlmRepcmd g) (repWord 2 row)) s

/-- R152: GLM_REPCMD.OP = HARDALL. -/
def execRepcmdHardall (ctx : Nat) (g : Nat) (s : State) : Out :=
  doCmd (decide (ctx < 4096) && decide (g < 12)) (fun d => d.write8 ctx (rGlmRepcmd g) (3 * 2 ^ 60)) s

/-- R196: a write of CROWN_FQCONS. -/
def execFaultQueueConsWrite (ctx : Nat) (n : Nat) (val : Nat) (s : State) : Out :=
  doCmd (decide (ctx < 4096) && decide (n < 16) && decide (val < 2 ^ 64)) (fun d => d.write4 ctx (rCrownFqcons n) val) s

/-- R197: a write of RETRY to CROWN_FRESUME. -/
def execFaultRetry (ctx : Nat) (id : Nat) (s : State) : Out :=
  doCmd (decide (ctx < 4096)) (fun d => d.write8 ctx rCrownFresume (2 ^ 62 + id)) s

/-- R197: a write of FAIL to CROWN_FRESUME. -/
def execFaultFail (ctx : Nat) (id : Nat) (s : State) : Out :=
  doCmd (decide (ctx < 4096)) (fun d => d.write8 ctx rCrownFresume (2 * 2 ^ 62 + id)) s

/-- R198: a write of CROWN_FAULTCFG. -/
def execFaultcfgWrite (ctx : Nat) (val : Nat) (s : State) : Out :=
  doCmd (decide (ctx < 4096) && decide (val < 2 ^ 64)) (fun d => d.write4 ctx rCrownFaultcfg val) s

/-- R520: a ring's control register is written with EN = 1. -/
def execRingEnable (ctx : Nat) (ring : Nat) (val : Nat) (s : State) : Out :=
  doCmd (decide (ctx < 4096) && decide (ring < 20) && decide (val < 2 ^ 64)) (fun d => d.write4 ctx (ringRegs ring).ctl (putBits val 31 31 1)) s

/-- R520: a ring's control register is written with EN = 0. -/
def execRingDisable (ctx : Nat) (ring : Nat) (val : Nat) (s : State) : Out :=
  doCmd (decide (ctx < 4096) && decide (ring < 20) && decide (val < 2 ^ 64)) (fun d => d.write4 ctx (ringRegs ring).ctl (putBits val 31 31 0)) s

/-- R185: a write of CROWN_FADMIT. -/
def execFadmitWrite (ctx : Nat) (unit : Nat) (val : Nat) (s : State) : Out :=
  doCmd (decide (ctx < 4096) && decide (unit < 1152) && decide (val < 2 ^ 64)) (fun d => d.write4 ctx (rCrownFadmit unit) val) s

/-- R185: RECLAIM is written to 1. -/
def execFadmitReclaim (ctx : Nat) (unit : Nat) (val : Nat) (s : State) : Out :=
  doCmd (decide (ctx < 4096) && decide (unit < 1152) && decide (val < 2 ^ 64)) (fun d => d.write4 ctx (rCrownFadmit unit) (putBits val 29 29 1)) s

/-- R185: MODE NONE is written. -/
def execFadmitRevoke (ctx : Nat) (unit : Nat) (val : Nat) (s : State) : Out :=
  doCmd (decide (ctx < 4096) && decide (unit < 1152) && decide (val < 2 ^ 64)) (fun d => d.write4 ctx (rCrownFadmit unit) (putBits (putBits val 31 30 0) 29 29 0)) s

/-- R185: a write of CROWN_LENDREL. -/
def execLendRelease (ctx : Nat) (val : Nat) (s : State) : Out :=
  doCmd (decide (ctx < 4096) && decide (val < 2 ^ 64)) (fun d => d.write8 ctx rCrownLendrel val) s

/-- R218: SCCMD.OP = WBALL. -/
def execSccmdWball (ctx : Nat) (k : Nat) (s : State) : Out :=
  doCmd (decide (ctx < 4096) && decide (k < 10)) (fun d => d.write4 ctx (rSccmd k) 1) s

/-- R218: SCCMD.OP = FLUSHALL. -/
def execSccmdFlushall (ctx : Nat) (k : Nat) (s : State) : Out :=
  doCmd (decide (ctx < 4096) && decide (k < 10)) (fun d => d.write4 ctx (rSccmd k) 2) s

/-- R312: a read of CP_QINFO0. -/
def execQinfoRead (ctx : Nat) (s : State) : Out := doCmd (decide (ctx < 4096)) (fun d => d.readOut ctx rCpQinfo0 8) s

/-- R312: a read of CP_CQINFO0. -/
def execCqinfoRead (ctx : Nat) (s : State) : Out := doCmd (decide (ctx < 4096)) (fun d => d.readOut ctx rCpCqinfo0 8) s

/-- R406: HP_PORTCTL.REARM. -/
def execPortRearm (ctx : Nat) (p : Nat) (s : State) : Out :=
  doCmd (decide (ctx < 4096) && decide (p < 6)) (fun d => d.write4 ctx (rHpPortctl p) (putBits (d.reg (rHpPortctl p)) 0 0 1)) s

/-- R441: FE_PORTCTL.RETRAIN. -/
def execPortRetrain (ctx : Nat) (p : Nat) (s : State) : Out :=
  doCmd (decide (ctx < 4096) && decide (p < 16)) (fun d => d.write4 ctx (rFePortctl p) (putBits (d.reg (rFePortctl p)) 30 30 1)) s

/-- R441: FE_PORTCTL.EN is written. -/
def execFePortEnWrite (ctx : Nat) (p : Nat) (en : Bool) (s : State) : Out :=
  doCmd (decide (ctx < 4096) && decide (p < 16)) (fun d => d.write4 ctx (rFePortctl p) (if en then 2 ^ 31 else 0)) s

/-- R441: a write of FE_ROUTEQ. -/
def execRouteqWrite (ctx : Nat) (val : Nat) (s : State) : Out :=
  doCmd (decide (ctx < 4096) && decide (val < 2 ^ 64)) (fun d => d.write4 ctx rFeRouteq val) s

/-- R477: SP_CMD.OP = STAGE. -/
def execSpStage (ctx : Nat) (cls : Nat) (s : State) : Out :=
  doCmd (decide (ctx < 4096) && decide (cls < 7)) (fun d => d.write8 ctx rSpCmd (1 * 2 ^ 60 + cls * 2 ^ 57)) s

/-- R477: SP_CMD.OP = ACTIVATE. -/
def execSpActivate (ctx : Nat) (cls : Nat) (s : State) : Out :=
  doCmd (decide (ctx < 4096) && decide (cls < 7)) (fun d => d.write8 ctx rSpCmd (2 * 2 ^ 60 + cls * 2 ^ 57)) s

/-- R476, R477: SP_CMD.OP = COMMIT. -/
def execSpCommit (ctx : Nat) (cls : Nat) (s : State) : Out :=
  doCmd (decide (ctx < 4096) && decide (cls < 7)) (fun d => d.write8 ctx rSpCmd (3 * 2 ^ 60 + cls * 2 ^ 57)) s

/-- R478, R479: SP_CMD.OP = ATTEST. -/
def execSpAttest (ctx : Nat) (s : State) : Out :=
  doCmd (decide (ctx < 4096)) (fun d => d.write8 ctx rSpCmd (4 * 2 ^ 60)) s

/-- R478, R479: SP_CMD.OP = GETCERT. -/
def execSpGetcert (ctx : Nat) (s : State) : Out :=
  doCmd (decide (ctx < 4096)) (fun d => d.write8 ctx rSpCmd (5 * 2 ^ 60)) s

/-- R481: SP_CMD.OP = CALWRITE. -/
def execSpCalwrite (ctx : Nat) (s : State) : Out :=
  doCmd (decide (ctx < 4096)) (fun d => d.write8 ctx rSpCmd (6 * 2 ^ 60)) s

/-- R481: SP_CMD.OP = CALAPPLY. -/
def execSpCalapply (ctx : Nat) (s : State) : Out :=
  doCmd (decide (ctx < 4096)) (fun d => d.write8 ctx rSpCmd (7 * 2 ^ 60)) s

/-- R488: CROWN_STCMD.KIND = 1. -/
def execSelftestCluster (ctx : Nat) (t : Nat) (grp : Nat) (force : Bool) (s : State) : Out :=
  doCmd (decide (ctx < 4096) && decide (t < 8) && decide (grp < 16)) (fun d => d.write8 ctx rCrownStcmd (testWord 1 force t grp)) s

/-- R488: CROWN_STCMD.KIND = 2. -/
def execSelftestHbmcal (ctx : Nat) (s : State) : Out :=
  doCmd (decide (ctx < 4096)) (fun d => d.write8 ctx rCrownStcmd (testWord 2 false 0 0)) s

/-- R488: CROWN_STCMD.KIND = 3. -/
def execSelftestDielink (ctx : Nat) (slot : Nat) (force : Bool) (s : State) : Out :=
  doCmd (decide (ctx < 4096) && decide (slot < 23)) (fun d => d.write8 ctx rCrownStcmd (testWord 3 force slot 0)) s

/-- R489, R488: CROWN_STCMD.KIND = 4. -/
def execSelftestMemtest (ctx : Nat) (force : Bool) (s : State) : Out :=
  doCmd (decide (ctx < 4096)) (fun d => d.write8 ctx rCrownStcmd (testWord 4 force 0 0)) s

/-- R489, R488: CROWN_STCMD.KIND = 5. -/
def execSelftestArraytest (ctx : Nat) (force : Bool) (s : State) : Out :=
  doCmd (decide (ctx < 4096)) (fun d => d.write8 ctx rCrownStcmd (testWord 5 force 0 0)) s

/-- R488: CROWN_STCMD.KIND = 6. -/
def execSelftestSweep (ctx : Nat) (force : Bool) (s : State) : Out :=
  doCmd (decide (ctx < 4096)) (fun d => d.write8 ctx rCrownStcmd (testWord 6 force 0 0)) s


end Sys2Proof.Machine
end

