-- ==== Sys2Proof/Machine/CoreMem.lean ====
section
/-! DEFINITION. Memory accesses of the Culm cores: translation (R257), loads and stores (R94, R95, R227, R233, R262, R263),
STN (R235), LDL and STC (R99, R241), atomics (R98, R243), cache maintenance (R101), barriers (R236 to R245). -/

namespace Sys2Proof.Machine

open Sys2Proof

/-! ## Fabric stores not yet answered (R225, R245) -/

/-- The stores of a thread to other devices that have not been answered. -/
def Dev.fabStores (d : Dev) (p : Waiter → Bool) : List Nat := d.fe.reqs.keysP (fun _ r => !r.load && p r.origin)

/-- R245: a store to `h` waits for the answers of the stores that an earlier SYNC.S orders before it, unless they go to the same
device. -/
def Dev.fenceHolds (d : Dev) (fence : List Nat) (h : Home) : Bool :=
  fence.any (fun i => match d.fe.reqs.find i with
    | some r => (match h with | .fabric dev _ => dev != r.dev | _ => true)
    | none => false)

/-- The line of memory that names a home in the combining buffer. -/
def Home.ntLine : Home → Option Nat
  | .hbm a => some (a / 128)
  | .core a _ => some (a / 128)
  | .host a _ => some (a / 128)
  | .fabric dev off => some (windowAddr dev off / 128)
  | _ => none

/-! ## Translation (R257) -/

/-- What a core's address goes through. -/
inductive CoreMap where
  | perm
  | phys
  | tables (root ctx : Nat)
deriving DecidableEq, Repr

/-- R257: the table of levels and halves. -/
def CoreSt.mapOf (c : CoreSt) (va : Nat) : CoreMap :=
  let kernel := va.testBit 55
  let user := CoreMap.tables (c.getCsr 0x111) (c.getCsr 0x110)
  if c.level = 3 ∧ !(c.getCsr 0x113).testBit 0 then .phys
  else if c.level = 0 then (if kernel then .perm else user)
  else if kernel then .tables (c.getCsr 0x112) 0
  else if (c.getCsr 0x100).testBit 18 then user
  else .perm

/-- What a core's translation ends in: a home with its physical address, context and NA; a page exception with WALK and LEVEL;
an access exception; a wait. -/
inductive CoreXlt where
  | ok (h : Home) (pa ctx : Nat) (na : Bool)
  | page (walk level : Nat)
  | access (s : Status)
  | wait
deriving DecidableEq, Repr

/-- R94, R257, R258: translate an address of core `n`. -/
def Dev.coreXlt (d : Dev) (n va : Nat) (a : Acc3) : CoreXlt × Dev :=
  if 2 ^ 56 ≤ va then (.access .protection, d) else
  match (d.core n).mapOf va with
  | .perm => (.page 1 0, d)
  | .phys => (.ok (d.home va) va 0 false, d)
  | .tables root ctx =>
    match d.translateBy (32 + n) ctx va a (d.walkFrom ctx va root [(1, 55, 42), (2, 41, 29), (3, 28, 16)]) with
    | (.ok e level, d) => (.ok (d.leafHome e level va) (leafPa e level va) ctx (pteNa e), d)
    | (.fault c l, d) => (.page c l, d)
    | (.status s, d) => (.access s, d)
    | (.wait, d) => (.wait, d)

/-- R261: the exception of a page fault: `base` is the code of the kind of access. -/
def pageExc (base va walk level : Nat) : CEnd := .exc base va (level * 4 + walk)

/-- R261, R262: an access exception with its status. -/
def accessExc (base va : Nat) (s : Status) : CEnd := .exc (base + 4) va (s.code * 2 ^ 48)

/-- Translate for an access that reports with page code `base`: 0x0D for a load, 0x0E for a store. -/
def Dev.coreMap (d : Dev) (n base va : Nat) (a : Acc3) : CEnd × Home × Nat × Nat × Bool × Dev :=
  match d.coreXlt n va a with
  | (.ok h pa ctx na, d) => (.next, h, pa, ctx, na, d)
  | (.page w l, d) => (pageExc base va w l, .outside, 0, 0, false, d)
  | (.access s, d) => (accessExc base va s, .outside, 0, 0, false, d)
  | (.wait, d) => (.wait, .outside, 0, 0, false, d)

/-- R235: an access of the core to a line its combining buffer holds drains that entry first; false while it cannot. -/
def Dev.ntReady (d : Dev) (n : Nat) (h : Home) : Bool × Dev :=
  match h.ntLine with
  | none => (true, d)
  | some l =>
    let d := d.ntDrainLine n l
    (!(d.core n).nt.any (fun e => e.line == l), d)

/-- The value `n` bytes long, sign- or zero-extended to 64 bits. -/
def extend64 (n : Nat) (signed : Bool) (v : Nat) : BitVec 64 := if signed then BitVec.ofInt 64 (toSigned (8 * n) v) else BitVec.ofNat 64 v

/-! ## Loads (R94, R233, R262) -/

/-- Load the pieces of an access in order. A misaligned access to control space reads zero and is counted once (R6). -/
def Dev.coreLoads (d : Dev) (n : Nat) (aligned : Bool) (ps : List (Nat × Nat)) (counted : Bool) : CEnd × List Byte × Dev :=
  match ps with
  | [] => (.next, [], d)
  | (va, len) :: rest =>
    let more := fun (l : List Byte) (c : Bool) (d : Dev) =>
      let (e, l', d) := d.coreLoads n aligned rest c
      (e, l ++ l', d)
    match d.coreMap n 0x0D va .read with
    | (.next, h, _, ctx, na, d) =>
      match h with
      | .ctrl off =>
        if aligned || ctx != 0 then
          match d.ctrlRead ctx off len with
          | (.ok, v, d) => more (leBytes len v) counted d
          | (.refuse s, _, d) => (accessExc 0x0D va s, [], d)
          | (.wait, _, d) => (.wait, [], d)
        else more (List.replicate len 0) true (if counted then d else d.ctrlError off)
      | _ =>
        match d.ntReady n h with
        | (false, d) => (.wait, [], d)
        | (true, d) =>
          match d.readPiece (coreWho n ctx) h len na with
          | (.ok, l, bad, d) => if bad then (accessExc 0x0D va .poison, [], d) else more l counted d
          | (.fail s, _, _, d) => (accessExc 0x0D va s, [], d)
          | (_, _, _, d) => (.wait, [], d)
    | (e, _, _, _, _, d) => (e, [], d)

/-- The pieces of an access by a core (R233). -/
def corePieces (va size : Nat) : List (Nat × Nat) := if va % size = 0 then [(va, size)] else cut 8 va size

/-- An instruction that does not wait has used the answers of its fabric loads. -/
def Dev.coreEnd (n : Nat) (r : CEnd × Dev) : CEnd × Dev :=
  match r with
  | (.wait, d) => (.wait, d)
  | (e, d) => (e, d.fabDone (.core n))

/-- R94: the address of an instruction of format I. -/
def Dev.coreAddr (d : Dev) (n : Nat) (f : IF) : Nat := (d.x n f.ra.toNat + f.imm.signExtend 64).toNat

/-- R94: LB to LWU on a core. -/
def Dev.coreLd (size : Nat) (signed : Bool) (f : IF) (n : Nat) (d : Dev) : CEnd × Dev :=
  let va := d.coreAddr n f
  Dev.coreEnd n (match d.coreLoads n (decide (va % size = 0)) (corePieces va size) false with
    | (.next, l, d) => (.next, d.putX n f.rd.toNat (extend64 size signed (ofLe l)))
    | (e, _, d) => (e, d))

/-! ## Stores (R94, R233, R263) -/

/-- A piece of a store that has been translated. -/
structure CorePiece where
  h : Home
  pa : Nat
  ctx : Nat
  na : Bool
  bytes : List Byte
deriving DecidableEq, Repr

/-- R262: translate the pieces of a store; one outside R32 is refused before retirement. -/
def Dev.coreStoreMap (d : Dev) (n va : Nat) (l : List Byte) (ps : List (Nat × Nat)) : CEnd × List CorePiece × Dev :=
  match ps with
  | [] => (.next, [], d)
  | (a, len) :: rest =>
    match d.coreMap n 0x0E a .write with
    | (.next, h, pa, ctx, na, d) =>
      if h = .outside then (accessExc 0x0E a .protection, [], d)
      else
        let (e, r, d) := d.coreStoreMap n va l rest
        (e, ⟨h, pa, ctx, na, part l va a len⟩ :: r, d)
    | (e, _, _, _, _, d) => (e, [], d)

/-- R227, R263: perform one piece of a store: a refusal leaves a deferred error. None while it must wait. -/
def Dev.corePut (d : Dev) (n : Nat) (aligned counted : Bool) (c : CorePiece) : Option Dev :=
  match c.h with
  | .ctrl off =>
    if aligned || c.ctx != 0 then
      match d.ctrlWrite c.ctx off c.bytes.length (ofLe c.bytes) with
      | (.ok, d) => some d
      | (.refuse s, d) => some (d.deferError n c.pa s)
      | (.wait, _) => none
    else some (if counted then d else d.ctrlError off)
  | _ =>
    match d.ntReady n c.h with
    | (false, _) => none
    | (true, d) =>
      match d.coreWrite n c.ctx c.h c.pa c.bytes false c.na with
      | (.wait, _) => none
      | (_, d) => some d

/-- Perform the pieces of a store in order. -/
def Dev.corePuts (d : Dev) (n : Nat) (aligned counted : Bool) (l : List CorePiece) : Option Dev :=
  match l with
  | [] => some d
  | c :: rest =>
    match d.corePut n aligned counted c with
    | some d => d.corePuts n aligned (counted || (match c.h with | .ctrl _ => true | _ => false)) rest
    | none => none

/-- A store of `size` bytes at `va`. -/
def Dev.coreSt (d : Dev) (n va size v : Nat) : CEnd × Dev :=
  match d.coreStoreMap n va (leBytes size v) (corePieces va size) with
  | (.next, l, e) =>
    if l.any (fun c => e.fenceHolds (e.core n).fence c.h) then (.wait, d)
    else match e.corePuts n (decide (va % size = 0)) false l with
      | some d => (.next, d)
      | none => (.wait, d)
  | r => (r.1, r.2.2)

/-- R94: SB to SD on a core. -/
def Dev.coreStI (size : Nat) (f : IF) (n : Nat) (d : Dev) : CEnd × Dev :=
  d.coreSt n (d.coreAddr n f) size ((d.x n f.rd.toNat).toNat % 2 ^ (8 * size))

/-! ## STN (R97, R235) -/

/-- The data and mask of an entry with bytes written at an offset of its line. -/
def NtEntry.put (e : NtEntry) (o : Nat) (l : List Byte) : NtEntry :=
  let old := leBytes 128 e.data.toNat
  { e with
    data := BitVec.ofNat 1024 (ofLe (old.take o ++ l ++ old.drop (o + l.length)))
    mask := e.mask ||| BitVec.ofNat 128 ((2 ^ l.length - 1) <<< o) }

/-- Drain the entries of a core that satisfy `p`; none when one of them must wait. -/
def Dev.ntForce (d : Dev) (n : Nat) (p : NtEntry → Bool) : Option Dev :=
  let d := d.ntDrain n p
  if (d.core n).nt.any p then none else some d

/-- R235: put bytes into the combining buffer: into the line's entry, or a new one, for which the oldest of eight drains; an
entry that is covered whole drains. None while an entry that must drain waits. -/
def Dev.ntPut (d : Dev) (n ctx line o : Nat) (l : List Byte) : Option Dev :=
  let d := d.setCore n (fun c => { c with resv := c.resv.filter (fun r => r.addr / 128 != line) })
  match d.ntForce n (fun e => e.line == line && e.ctx != ctx) with
  | none => none
  | some d =>
    let hit := (d.core n).nt.any (fun e => e.line == line)
    let room := if hit || decide ((d.core n).nt.length < 8) then some d
      else d.ntForce n (fun e => (d.core n).nt.head? == some e)
    room.map (fun (d : Dev) =>
      let d := d.setCore n (fun c =>
        { c with nt := if hit then c.nt.map (fun e => if e.line = line then e.put o l else e)
                       else c.nt ++ [NtEntry.put ⟨line, ctx, 0, 0⟩ o l] })
      d.ntDrain n (fun e => e.line == line && e.mask == BitVec.allOnes 128))

/-- R97: STN on a core: 8 bytes; a store to control space or cluster SRAM passes the buffer by. -/
def Dev.coreStn (f : IF) (n : Nat) (d : Dev) : CEnd × Dev :=
  let va := d.coreAddr n f
  match d.coreStoreMap n va (leBytes 8 (d.x n f.rd.toNat).toNat) (corePieces va 8) with
  | (.next, l, e) =>
    let r := l.foldl (fun (acc : Option Dev) c =>
      match acc with
      | none => none
      | some d =>
        match c.h.ntLine with
        | none => d.corePut n (decide (va % 8 = 0)) false c
        | some line => d.ntPut n c.ctx line (c.pa % 128) c.bytes) (some e)
    (match r with | some d => (.next, d) | none => (.wait, d))
  | r => (r.1, r.2.2)

/-! ## Barriers (R97, R236 to R245) -/

/-- Every store of the core has been performed: its buffer has drained and its fabric stores have been answered (R238). -/
def Dev.coreQuiet (d : Dev) (n : Nat) : Bool := d.ntEmpty n && (d.fabStores (· == .core n)).isEmpty

/-- SYNC and SYNC.D. -/
def Dev.coreSync (n : Nat) (d : Dev) : CEnd × Dev :=
  let d := d.ntDrainAll n
  if d.coreQuiet n then (.next, d.setCore n (fun c => { c with fence := [] })) else (.wait, d)

/-- SYNC.S. -/
def Dev.coreSyncS (n : Nat) (d : Dev) : CEnd × Dev :=
  (.next, d.setCore n (fun c => { c with fence := d.fabStores (· == .core n) }))

/-! ## LDL, STC, atomics (R98 to R100, R240 to R243) -/

/-- R98: the place performs atomics. -/
def atomicPlace : Home → Bool
  | .hbm _ => true
  | .core _ _ => true
  | .host _ _ => true
  | .sram _ _ _ => true
  | _ => false

/-- R87: W64 of an ATOMIC instruction, as a width in bytes. -/
def amoWidth (f : RF) : Nat := if f.fn2.getLsbD 0 then 8 else 4

/-- R240: REL. -/
def amoRel (f : RF) : Bool := f.fn2.getLsbD 2

/-- The common part of LDL, STC and the atomics on a core: alignment (R95), translation, placement (R98), what REL orders before
it (R240), the combining buffer (R235). -/
def Dev.coreAtomic (d : Dev) (n : Nat) (f : RF) (misaligned : Nat) (a : Acc3) (go : Dev → Home → Nat → Bool → CEnd × Dev) : CEnd × Dev :=
  let va := (d.x n f.ra.toNat).toNat
  if va % (amoWidth f) ≠ 0 then (.exc misaligned va 0, d) else
  match d.coreMap n 0x0E va a with
  | (.next, h, _, ctx, na, d) =>
    if !atomicPlace h then (accessExc 0x0E va .protection, d) else
    let e := if amoRel f then d.ntDrainAll n else d
    if amoRel f && !e.coreQuiet n then (.wait, e)
    else match e.ntReady n h with
      | (false, e) => (.wait, e)
      | (true, e) =>
        match e.verdict h ctx a.stores with
        | .refuse s => (accessExc 0x0E va s, e)
        | .wait => (.wait, e)
        | .pass =>
          if a != .write && e.badHome h (amoWidth f) then (accessExc 0x0E va .poison, e.poisonRead .engine h (amoWidth f))
          else if a.stores && e.fenceHolds (e.core n).fence h then (.wait, e)
          else go e h ctx na
  | (e, _, _, _, _, d) => (e, d)

/-- R99: LDL. -/
def Dev.coreLdl (f : RF) (n : Nat) (d : Dev) : CEnd × Dev :=
  d.coreAtomic n f 0x08 .read (fun d h _ na =>
    let v := ofLe (d.readHome h (amoWidth f))
    let d := (d.loadLine (.core n) h na).setCore n (fun c => { c with resv := some ⟨h.mark, (amoWidth f)⟩ })
    (.next, d.putX n f.rd.toNat (extend64 (amoWidth f) true v)))

/-- R99: STC. -/
def Dev.coreStc (f : RF) (n : Nat) (d : Dev) : CEnd × Dev :=
  let v := (d.x n f.rb.toNat).toNat
  d.coreAtomic n f 0x09 .write (fun d h _ na =>
    let held := (d.core n).resv == some ⟨h.mark, (amoWidth f)⟩
    let d := if held then d.storeLine (.core n) h (leBytes (amoWidth f) v) false na else d
    let d := d.setCore n (fun c => { c with resv := none })
    (.next, d.putX n f.rd.toNat (if held then 0 else 1)))

/-- R98: the atomic functions. -/
inductive AmoOp where
  | swap | add | band | bor | bxor | min | max | minu | maxu | cas | fadd
deriving DecidableEq, Repr

/-- R98: the value an atomic of `w` bytes stores: `old` is what memory holds, `rb` the operand, `rd` what CAS compares with; none
stores nothing. -/
def AmoOp.eval (op : AmoOp) (w old rb rd : Nat) : Option Nat :=
  let m := 2 ^ (8 * w)
  let s := toSigned (8 * w)
  match op with
  | .swap => some rb
  | .add => some ((old + rb) % m)
  | .band => some (old &&& rb)
  | .bor => some (old ||| rb)
  | .bxor => some (old ^^^ rb)
  | .min => some (if s rb < s old then rb else old)
  | .max => some (if s old < s rb then rb else old)
  | .minu => some (Nat.min old rb)
  | .maxu => some (Nat.max old rb)
  | .cas => if old = rd then some rb else none
  | .fadd => some (f32.add .rne (f32.unpack old) (f32.unpack rb)).1

/-- R98, R243: perform an atomic at a home: a modified copy of the line is recalled and written back first. The value found. -/
def Dev.amoAt (d : Dev) (op : AmoOp) (h : Home) (w rb rd : Nat) : Nat × Dev :=
  let d := match h.key with | some a => d.recall (a / 128) true | none => d
  let old := ofLe (d.readHome h w)
  (old, match op.eval w old (rb % 2 ^ (8 * w)) (rd % 2 ^ (8 * w)) with
    | some v => d.storeLine .engine h (leBytes w v)
    | none => d.clearResv (h.mark / 128))

/-- R98: an atomic on a core. -/
def Dev.coreAmo (op : AmoOp) (f : RF) (n : Nat) (d : Dev) : CEnd × Dev :=
  let rb := (d.x n f.rb.toNat).toNat
  let rd := (d.x n f.rd.toNat).toNat
  d.coreAtomic n f 0x08 .atomic (fun d h _ _ =>
    let (old, d) := d.amoAt op h (amoWidth f) rb rd
    (.next, d.putX n f.rd.toNat (extend64 (amoWidth f) true old)))

/-! ## Cache maintenance (R101) -/

/-- R101: the instructions. -/
inductive CacheOp where
  | cwb | cflush | cinv
deriving DecidableEq, Repr

/-- R101: their effect on a line, in every cache; a reservation on it is lost (R241). -/
def Dev.cacheLine (d : Dev) (op : CacheOp) (line : Nat) : Dev :=
  (match op with
    | .cwb => d.recall line false
    | .cflush => d.recall line true
    | .cinv => d.discardLine line).clearResv line

/-- CWB, CFLUSH and CINV on a core. -/
def Dev.coreCache (op : CacheOp) (f : CacheF) (n : Nat) (d : Dev) : CEnd × Dev :=
  let va := (d.x n f.ra.toNat + f.imm.signExtend 64).toNat
  let a := Acc3.line (op == .cinv)
  match d.coreMap n 0x0E va a with
  | (.next, h, _, ctx, _, d) =>
    if h = .outside then (accessExc 0x0E va .protection, d)
    else match h.key with
      | none => (.next, d)
      | some pa =>
        match d.verdict h ctx a.stores with
        | .refuse s => (accessExc 0x0E va s, d)
        | .wait => (.wait, d)
        | .pass => (.next, d.cacheLine op (pa / 128))
  | (e, _, _, _, _, d) => (e, d)

/-- R101: CPREF of an address whose translation is cached: the line is fetched into shared cache `k`. -/
def Dev.prefetch (d : Dev) (k ctx : Nat) (h : Home) (na : Bool) : Dev :=
  match h.key with
  | none => d
  | some pa => if d.verdict h ctx false = .pass then d.sharedLoad k (pa / 128) na else d

/-- CPREF on a core: it never faults, and does nothing on a translation miss. -/
def Dev.corePref (f : CacheF) (n : Nat) (d : Dev) : CEnd × Dev :=
  let va := (d.x n f.ra.toNat + f.imm.signExtend 64).toNat
  let k := 8 + n / 48
  (.next,
    if 2 ^ 56 ≤ va then d else
    match (d.core n).mapOf va with
    | .perm => d
    | .phys => d.prefetch k 0 (d.home va) false
    | .tables _ ctx =>
      match d.tlbFind (32 + n) ctx va with
      | some (e, level) => if ptePermits e .read then d.prefetch k ctx (d.leafHome e level va) (pteNa e) else d
      | none => d)

end Sys2Proof.Machine
end

