-- ==== Sys2Proof/Machine/LaneMem.lean ====
section
/-! DEFINITION. Memory accesses of the lanes: global loads and stores, STN, local accesses, LDL and STC, atomics, cache maintenance
and barriers of a sheaf (R94 to R101, R106, R107, R193, R212, R233, R237, R241, R243), and the page walk (R189). -/

namespace Sys2Proof.Machine

open Sys2Proof

/-- R192, R195: the accesses of a lane: the Tiller's translation and shared caches, the cluster as the source of its stores. -/
def Dev.whoLane (d : Dev) (k l : Nat) : Who :=
  let t := keyTil k
  let c := keyC k
  match (d.sheaf k).cmd with
  | some r => { d.whoRun r with tlb := t, via := .til t c, waiter := .lane k l, cls := 0, inst := 128 * t + c }
  | none => { tlb := t, via := .til t c, ctx := 0, waiter := .lane k l, inst := 128 * t + c }

/-! ## Addresses (R94, R95) -/

/-- R94: the address of a lane, from the pair v[RA+1]:v[RA] (RA = 0: base 0) and the immediate. -/
def laneAddr (s : Sheaf) (f : IF) (l : Nat) : Nat :=
  (BitVec.ofNat 64 (if f.ra = 0 then 0 else s.getPair f.ra.toNat l) + f.imm.signExtend 64).toNat

/-- R83: the base pair ends beyond v31. -/
def pairBad (ra : BitVec 5) : Bool := ra.toNat == 31

/-! ## Checking every lane before any has an effect (R106, R193) -/

/-- What the checks of one lane's access give: its pieces, each with its home and NA; a lane exception; a translation fault; a
wait. -/
inductive LChk where
  | ok (l : List (Home × Bool × Nat))
  | exc (cause : Nat) (s : Status)
  | fault (cause level va : Nat)
  | wait
deriving DecidableEq, Repr

/-- The check of one piece of an access. `place` asks for a place where atomics are performed (R98). -/
def Dev.laneCheck1 (d : Dev) (w : Who) (h : Home) (a : Acc3) (place : Bool) : LChk × Dev :=
  if place && !atomicPlace h && h != .outside then (.exc 0x22 .protection, d)
  else match h with
  | .ctrl off =>
    let page := (off - 0x10000000) / 4096
    if w.ctx = 0 ∨ (0x10000000 ≤ off ∧ off < 0x11000000 ∧ w.ctx = page) then (.ok [], d) else (.exc 0x40 .protection, d.ctrlError off)
  | .fabric dev off => (if 0x9000000000 ≤ off ∨ (dev = 0x7FFF ∧ !a.stores) then .exc 0x40 .protection else .ok [], d)
  | _ =>
    match d.verdict h w.ctx a.stores with
    | .refuse s => (.exc 0x40 s, d)
    | .wait => (.wait, d)
    | .pass => (.ok [], d)

/-- The check of the pieces of one lane's access, in order. -/
def Dev.laneCheck (d : Dev) (w : Who) (ps : List (Nat × Nat)) (a : Acc3) (place : Bool) : LChk × Dev :=
  match ps with
  | [] => (.ok [], d)
  | (va, n) :: rest =>
    match d.translate w.tlb w.ctx va a with
    | (.fault c l, d) => (.fault c l va, d)
    | (.status s, d) => (.exc 0x40 s, d)
    | (.wait, d) => (.wait, d)
    | (.ok e level, d) =>
      let h := d.leafHome e level va
      match d.laneCheck1 w h a place with
      | (.ok _, d) =>
        (match d.laneCheck w rest a place with
        | (.ok l, d) => (.ok ((h, pteNa e, n) :: l), d)
        | r => r)
      | r => r

/-- What the checks of all active lanes found: the first exception with its lane, faults, whether one waits, the lanes' pieces. -/
structure LPlan where
  exc : Option (Nat × Status × Nat) := none
  faults : List (Nat × Nat × Nat) := []
  wait : Bool := false
  plan : List (Nat × List (Home × Bool × Nat)) := []

/-- Check the access of every active lane: `addr` its address, `size` its width; `align` asks for natural alignment. -/
def Dev.lanePlan (d : Dev) (k : Nat) (a : Acc3) (size : Nat) (align place : Bool) (addr : Nat → Nat) : LPlan × Dev :=
  (d.sheaf k).lanes.foldl (fun (acc : LPlan × Dev) l =>
    let (p, d) := acc
    let va := addr l
    if 2 ^ 56 ≤ va then ({ p with exc := p.exc <|> some (0x21, .protection, l) }, d)
    else if align && va % size != 0 then ({ p with exc := p.exc <|> some (0x20, .misaligned, l) }, d)
    else match d.laneCheck (d.whoLane k l) (corePieces va size) a place with
      | (.ok x, d) => ({ p with plan := p.plan ++ [(l, x)] }, d)
      | (.exc c s, d) => ({ p with exc := p.exc <|> some (c, s, l) }, d)
      | (.fault c lv v, d) => ({ p with faults := p.faults ++ [(c, lv, v)] }, d)
      | (.wait, d) => ({ p with wait := true }, d)) ({}, d)

/-- R106, R193: an instruction whose lanes have been checked: an exception has no effect in any lane; faults hold the sheaf;
else `go` performs it. -/
def Dev.laneDo (d : Dev) (k : Nat) (a : Acc3) (size : Nat) (align place : Bool) (addr : Nat → Nat)
    (go : Dev → List (Nat × List (Home × Bool × Nat)) → LEnd × Dev) : LEnd × Dev :=
  match d.lanePlan k a size align place addr with
  | (p, e) =>
    match p.exc with
    | some (c, s, l) => (.exc c s l, e)
    | none =>
      if !p.faults.isEmpty then
        (.wait, p.faults.foldl (fun (d : Dev) f => d.hold { d.whoLane k 0 with waiter := .sheaf k } f.1 f.2.1 f.2.2 a) e)
      else if p.wait then (.wait, d)
      else go e p.plan

/-! ## Loads -/

/-- Load one lane's pieces. -/
def Dev.laneLoad1 (d : Dev) (w : Who) (aligned counted : Bool) (ps : List (Home × Bool × Nat)) : Acs × List Byte × Bool × Dev :=
  match ps with
  | [] => (.ok, [], false, d)
  | (h, na, n) :: rest =>
    let more := fun (l : List Byte) (bad c : Bool) (d : Dev) =>
      let (a, l', bad', d) := d.laneLoad1 w aligned c rest
      (a, l ++ l', bad || bad', d)
    match h with
    | .ctrl off =>
      if aligned || w.ctx != 0 then
        match d.ctrlRead w.ctx off n with
        | (.ok, v, d) => more (leBytes n v) false counted d
        | (.refuse s, _, d) => (.fail s, [], false, d)
        | (.wait, _, d) => (.wait, [], false, d)
      else more (List.replicate n 0) false true (if counted then d else d.ctrlError off)
    | _ =>
      match d.readPiece w h n na with
      | (.ok, l, bad, d) => more l bad counted d
      | r => r

/-- What the loads of all lanes give: values by lane, the first exception, whether one waits. -/
structure LLoad where
  vals : SMap Nat := []
  exc : Option (Nat × Status × Nat) := none
  wait : Bool := false

/-- Every lane's answers from other devices have been used. -/
def Dev.laneFabDone (d : Dev) (k : Nat) : Dev :=
  { d with fe := { d.fe with answers := d.fe.answers.filter (fun a => a.who.thread != .sheaf k) } }

/-- R94, R106: a load by every active lane: poison ends the command. -/
def Dev.laneLoads (d : Dev) (k size : Nat) (addr : Nat → Nat) (put : Sheaf → SMap Nat → Sheaf) : LEnd × Dev :=
  d.laneDo k .read size false false addr (fun d plan =>
    let r := plan.foldl (fun (acc : LLoad × Dev) e =>
      let (p, d) := acc
      match d.laneLoad1 (d.whoLane k e.1) (decide (addr e.1 % size = 0)) false e.2 with
      | (.ok, l, bad, d) =>
        if bad then ({ p with exc := p.exc <|> some (0x40, .poison, e.1) }, d)
        else ({ p with vals := p.vals.set e.1 (ofLe l) }, d)
      | (.fail s, _, _, d) => ({ p with exc := p.exc <|> some (0x40, s, e.1) }, d)
      | (_, _, _, d) => ({ p with wait := true }, d)) ({}, d)
    match r.1.exc with
    | some (c, s, l) => (.exc c s l, r.2.laneFabDone k)
    | none =>
      if r.1.wait then (.wait, r.2)
      else (.next, (r.2.laneFabDone k).setSheaf k (fun s => put s r.1.vals)))

/-- R94: LB, LH, LW, LBU and LHU of a lane. -/
def Dev.laneLd (size : Nat) (signed : Bool) (f : IF) (k : Nat) (d : Dev) : LEnd × Dev :=
  d.laneLoads k size (laneAddr (d.sheaf k) f)
    (fun s v => s.putV f.rd.toNat (fun l => (extend64 size signed (v.get 0 l)).setWidth 32))

/-! ## Stores (R212) -/

/-- A piece to be stored, with its lane. -/
structure LWrite where
  lane : Nat
  h : Home
  na : Bool
  bytes : List Byte
deriving DecidableEq, Repr

/-- The home at another address of the same line. -/
def Home.moved (h : Home) (a : Nat) : Home :=
  match h with
  | .hbm _ => .hbm a
  | .core _ p => .core a p
  | .host _ p => .host a p
  | h => h

/-- R212: the stores of one instruction to one line, combined: full-line when every byte is covered. Where lanes store to the
same byte, the highest lane's value stays (notes/assumptions/48.md). -/
def Dev.laneLine (d : Dev) (t c line : Nat) (ws : List LWrite) (stn : Bool) : Dev :=
  match ws with
  | [] => d
  | w0 :: _ =>
    let e := ws.foldl (fun (e : NtEntry) w => e.put (w.h.key.getD 0 % 128) w.bytes) ⟨line, 0, 0, 0⟩
    (maskRuns e.mask).foldl (fun (d : Dev) r =>
      d.storeLine (.til t c) (w0.h.moved (line * 128 + r.1)) (e.bytes r) stn (ws.any (·.na))) d

/-- Store a piece that is not combined by line: cluster SRAM, another device, control space. None while it must wait. -/
def Dev.lanePut1 (d : Dev) (k : Nat) (aligned : Bool) (w : LWrite) : Option Dev :=
  let o := d.whoLane k w.lane
  match w.h with
  | .ctrl off =>
    if aligned || o.ctx != 0 then
      (match d.ctrlWrite o.ctx off w.bytes.length (ofLe w.bytes) with
      | (.wait, _) => none
      | (_, d) => some d)
    else some (d.ctrlError off)
  | _ =>
    match d.writePiece o w.h w.bytes with
    | (.wait, _) => none
    | (_, d) => some d

/-- R94, R97, R212: a store by every active lane of the bytes `val` gives. -/
def Dev.laneStores (d : Dev) (k size : Nat) (addr : Nat → Nat) (val : Nat → Nat) (stn : Bool) : LEnd × Dev :=
  d.laneDo k .write size false false addr (fun e plan =>
    let ws := plan.flatMap (fun x =>
      let l := leBytes size (val x.1)
      ((corePieces (addr x.1) size).zip x.2).map (fun p => ({ lane := x.1, h := p.2.1, na := p.2.2.1, bytes := part l (addr x.1) p.1.1 p.1.2 } : LWrite)))
    if ws.any (fun w => e.fenceHolds (e.sheaf k).fence w.h) then (.wait, d)
    else
      let lined := ws.filter (fun w => w.h.key.isSome)
      let loose := ws.filter (fun w => w.h.key.isNone)
      match loose.foldl (fun (acc : Option Dev) w => match acc with
        | none => none
        | some d => d.lanePut1 k (decide (addr w.lane % size = 0)) w) (some e) with
      | none => (.wait, d)
      | some e =>
        let lines := (lined.map (fun w => w.h.key.getD 0 / 128)).eraseDups
        (.next, lines.foldl (fun (d : Dev) n => d.laneLine (keyTil k) (keyC k) n (lined.filter (fun w => w.h.key.getD 0 / 128 == n)) stn) e))

/-- R94: SB, SH, SW and STN of a lane. -/
def Dev.laneSt (size : Nat) (stn : Bool) (f : IF) (k : Nat) (d : Dev) : LEnd × Dev :=
  let s := d.sheaf k
  d.laneStores k size (laneAddr s f) (fun l => (s.getV f.rd.toNat l).toNat % 2 ^ (8 * size)) stn

/-! ## Local accesses (R94, R95) -/

/-- R94: the byte offset of a local access in the cluster's own SRAM. -/
def localOff (s : Sheaf) (f : IF) (l : Nat) : Nat := (s.getV f.ra.toNat l + f.imm.signExtend 32).toNat

/-- The first lane whose local access is refused: past the SRAM, or misaligned. -/
def localBad (s : Sheaf) (f : IF) (size : Nat) : Option (Nat × Status × Nat) :=
  s.lanes.findSome? (fun l =>
    let o := localOff s f l
    if 0x200000 ≤ o then some (0x21, .protection, l) else if o % size ≠ 0 then some (0x20, .misaligned, l) else none)

/-- LLW and LLQ: `n` words of each active lane. -/
def Dev.localLd (n : Nat) (f : IF) (k : Nat) (d : Dev) : LEnd × Dev :=
  let s := d.sheaf k
  match localBad s f (4 * n) with
  | some (c, e, l) => (.exc c e l, d)
  | none =>
    let home := fun l => Home.sram (keyTil k) (keyC k) (localOff s f l)
    match s.lanes.find? (fun l => d.badHome (home l) (4 * n)) with
    | some l => (.exc 0x40 .poison l, d)
    | none =>
      let v := s.lanes.foldl (fun (m : SMap Nat) l => m.set l (ofLe (d.readHome (home l) (4 * n)))) []
      (.next, d.setSheaf k (fun s => (List.range n).foldl (fun s i =>
        s.putV (f.rd.toNat + i) (fun l => BitVec.ofNat 32 (v.get 0 l / 2 ^ (32 * i)))) s))

/-- SLW and SLQ. -/
def Dev.localSt (n : Nat) (f : IF) (k : Nat) (d : Dev) : LEnd × Dev :=
  let s := d.sheaf k
  match localBad s f (4 * n) with
  | some (c, e, l) => (.exc c e l, d)
  | none =>
    (.next, s.lanes.foldl (fun (d : Dev) l =>
      d.storeLine (.til (keyTil k) (keyC k)) (.sram (keyTil k) (keyC k) (localOff s f l))
        ((List.range n).flatMap (fun i => leBytes 4 (s.getV (f.rd.toNat + i) l).toNat))) d)

/-! ## Barriers (R237, R238) -/

/-- SYNC and SYNC.D of a sheaf: every store of every lane has been performed. -/
def Dev.laneSync (k : Nat) (d : Dev) : LEnd × Dev :=
  if (d.fabStores (fun w => w.thread == .sheaf k)).isEmpty then (.next, d.setSheaf k (fun s => { s with fence := [] })) else (.wait, d)

/-- SYNC.S of a sheaf. -/
def Dev.laneSyncS (k : Nat) (d : Dev) : LEnd × Dev :=
  (.next, d.setSheaf k (fun s => { s with fence := d.fabStores (fun w => w.thread == .sheaf k) }))

/-! ## LDL, STC, atomics (R98 to R100, R240 to R243) -/

/-- A register or pair of a lane as a number. -/
def Sheaf.getW (s : Sheaf) (w r l : Nat) : Nat := if w = 8 then s.getPair r l else (s.getV r l).toNat

/-- Write a register or pair in every active lane. -/
def Sheaf.putW (s : Sheaf) (w r : Nat) (v : Nat → Nat) : Sheaf :=
  let s' := s.putV r (fun l => BitVec.ofNat 32 (v l))
  if w = 8 then s'.putV (r + 1) (fun l => BitVec.ofNat 32 (v l / 2 ^ 32)) else s'

/-- The reservation of a lane. -/
def Sheaf.getResv (s : Sheaf) (l : Nat) : Option Resv := s.resv.getD l none

/-- Set the reservation of a lane. -/
def Sheaf.setResv (s : Sheaf) (l : Nat) (r : Option Resv) : Sheaf :=
  { s with resv := (List.range 256).map (fun i => if i = l then r else s.getResv i) }

/-- The common part: checks of every lane, REL, poison, then lane by lane in ascending order (R241, R243). `go` gives a lane's
result. -/
def Dev.laneAtomics (d : Dev) (k : Nat) (f : RF) (a : Acc3) (go : Dev → Nat → Home → Bool → Nat × Dev) (w : Nat) : LEnd × Dev :=
  let s := d.sheaf k
  d.laneDo k a (amoWidth f) true true (fun l => s.getPair f.ra.toNat l) (fun e plan =>
    let acts := plan.flatMap (fun x => x.2.map (fun p => (x.1, p.1, p.2.1)))
    match (if a = .write then none else acts.find? (fun x => e.badHome x.2.1 (amoWidth f))) with
    | some x => (.exc 0x40 .poison x.1, e.poisonRead .engine x.2.1 (amoWidth f))
    | none =>
      if (amoRel f && !(e.fabStores (fun w => w.thread == .sheaf k)).isEmpty)
          || (a.stores && acts.any (fun x => e.fenceHolds (e.sheaf k).fence x.2.1)) then (.wait, d)
      else
        let r := acts.foldl (fun (acc : SMap Nat × Dev) x =>
          let (v, d) := go acc.2 x.1 x.2.1 x.2.2
          (acc.1.set x.1 v, d)) ([], e)
        (.next, r.2.setSheaf k (fun s => s.putW w f.rd.toNat (fun l => r.1.get 0 l))))

/-- R99, R241: LDL in a sheaf. -/
def Dev.laneLdl (f : RF) (k : Nat) (d : Dev) : LEnd × Dev :=
  d.laneAtomics k f .read (fun d l h na =>
    let v := ofLe (d.readHome h (amoWidth f))
    (v, (d.loadLine (.til (keyTil k) (keyC k)) h na).setSheaf k (fun s => s.setResv l (some ⟨h.mark, amoWidth f⟩)))) (amoWidth f)

/-- R99, R241: STC in a sheaf. -/
def Dev.laneStc (f : RF) (k : Nat) (d : Dev) : LEnd × Dev :=
  let s0 := d.sheaf k
  d.laneAtomics k f .write (fun d l h na =>
    let held := (d.sheaf k).getResv l == some ⟨h.mark, amoWidth f⟩
    let d := if held then d.storeLine (.til (keyTil k) (keyC k)) h (leBytes (amoWidth f) (s0.getW (amoWidth f) f.rb.toNat l)) false na else d
    (if held then 0 else 1, d.setSheaf k (fun s => s.setResv l none))) 4

/-- R98, R243: an atomic in a sheaf. -/
def Dev.laneAmo (op : AmoOp) (f : RF) (k : Nat) (d : Dev) : LEnd × Dev :=
  let s0 := d.sheaf k
  let w := amoWidth f
  d.laneAtomics k f .atomic (fun d l h _ => d.amoAt op h w (s0.getW w f.rb.toNat l) (s0.getW w f.rd.toNat l)) w

/-! ## Cache maintenance (R101) -/

/-- R94: the address of a CACHE instruction of a lane. -/
def cacheIF (f : CacheF) : IF := { imm := f.imm, ra := f.ra, rd := 0 }

/-- CWB and CFLUSH in a sheaf. -/
def Dev.laneCache (op : CacheOp) (f : CacheF) (k : Nat) (d : Dev) : LEnd × Dev :=
  d.laneDo k (.line false) 1 false false (laneAddr (d.sheaf k) (cacheIF f)) (fun d plan =>
    (.next, (plan.flatMap (fun x => x.2.map (·.1))).foldl (fun (d : Dev) h =>
      match h.key with | some pa => d.cacheLine op (pa / 128) | none => d) d))

/-- CPREF in a sheaf. -/
def Dev.lanePref (f : CacheF) (k : Nat) (d : Dev) : LEnd × Dev :=
  let s := d.sheaf k
  (.next, s.lanes.foldl (fun (d : Dev) l =>
    let va := laneAddr s (cacheIF f) l
    let x := (d.whoLane k l).ctx
    if 2 ^ 56 ≤ va then d
    else match d.tlbFind (keyTil k) x va with
      | some (e, level) => if ptePermits e .read then d.prefetch (keyTil k) x (d.leafHome e level va) (pteNa e) else d
      | none => d) d)

/-! ## The page walk (R189, R193, R194) -/

/-- Who waits on a walk, as the access it serves names itself. -/
def Dev.walkWho (d : Dev) (w : Waiter) : Option Who :=
  match w with
  | .sheaf k => if d.sheafActs k then some { d.whoLane k 0 with waiter := .sheaf k } else none
  | .lane k l => if d.sheafActs k then some { d.whoLane k l with waiter := .sheaf k } else none
  | .cmd r =>
    (match d.run? r with
    | none => none
    | some v =>
      if !v.began || v.done then none
      else if v.cls = 1 then some { d.whoRun r with tlb := 8 + v.inst }
      else if v.cls = 5 then some { d.whoRun r with tlb := v.inst, via := .til v.inst 84 }
      else some (d.whoRun r))
  | .fetch q => if d.queueUsed q then some (whoFetch q) else none
  | .core _ => none

/-- R189: a translation miss walks the tables: a complete and valid entry is installed; a stop opens a fault for an engine, or
ends its access with the status of a refused read. A core's walk leaves its stop to the instruction that raised it. -/
def Dev.pageWalk (d : Dev) (cache ctx va : Nat) (write : Bool) (w : Waiter) : Dev :=
  let a := if write then Acc3.write else .read
  match w with
  | .core n =>
    (match (d.core n).mapOf va with
    | .tables _ x => if cache = 32 + n ∧ x = ctx ∧ d.coreActs n then (d.coreXlt n va a).2 else d
    | _ => d)
  | _ =>
    match d.walkWho w with
    | none => d
    | some o =>
      if o.tlb ≠ cache ∨ o.ctx ≠ ctx then d
      else match d.translate cache ctx va a with
        | (.fault c l, d) => d.hold o c l va a
        | (.status s, d) => d.waiterFail o.waiter s
        | (_, d) => d

/-- R189: a page walk. -/
def execPageWalk (cache : Nat) (ctx : Nat) (va : Nat) (write : Bool) (who : Waiter) (s : State) : Out :=
  doCmd (decide (cache < 128) && decide (ctx < 4096) && decide (va < 2 ^ 64)) (fun d => d.pageWalk cache ctx va write who) s


end Sys2Proof.Machine
end

