-- ==== Sys2Proof/Machine/GhetyMem.lean ====
section
/-! DEFINITION. The memory instructions of Ghety: loads, stores, local accesses, barriers, LDL and STC, atomics, cache maintenance
(R83, R86, R87, R94 to R101). -/

namespace Sys2Proof.Machine

open Sys2Proof

/-- R83: cause 0x02 when the base pair of a global address ends beyond v31. -/
def basePair (ra : BitVec 5) : Option Nat := if pairBad ra then some 2 else none

/-- A load of either profile. -/
def Dev.loadI (d : Dev) (i : Instr) (a : Agent) (f : IF) (size : Nat) (signed : Bool) : Dev :=
  d.ghety i a 0 false (Dev.coreLd size signed f) (basePair f.ra) (Dev.laneLd size signed f)

/-- A load of Ghety-C only (R86). -/
def Dev.loadC (d : Dev) (i : Instr) (a : Agent) (f : IF) (size : Nat) (signed : Bool) : Dev :=
  d.onlyC i a 0 false (Dev.coreLd size signed f)

/-- A store of either profile. -/
def Dev.storeI (d : Dev) (i : Instr) (a : Agent) (f : IF) (size : Nat) : Dev :=
  d.ghety i a 0 false (Dev.coreStI size f) (basePair f.ra) (Dev.laneSt size false f)

/-- R83: cause 0x02 when a local access of four registers has no run of four. -/
def quadRun (n : Nat) (f : IF) : Option Nat := if n = 4 && runBad f.rd.toNat 4 then some 2 else none

/-- R86: whether an instruction of the SYNC group has an unused field that is not 0. -/
def syncUsed (f : RF) : Bool := f.fn2 != 0 || f.rb != 0 || f.ra != 0 || f.rd != 0

/-- A barrier of either profile. -/
def Dev.barrier (d : Dev) (i : Instr) (a : Agent) (f : RF) (onC : Nat → Dev → CEnd × Dev) (onL : Nat → Dev → LEnd × Dev) : Dev :=
  d.ghety i a 0 (syncUsed f) onC (cause1 (syncUsed f))
    (fun k d => if (d.sheaf k).first.isNone then (.next, d) else onL k d)

/-- R83, R87: what makes an ATOMIC instruction illegal in a lane, when its fields are allowed: a base pair beyond v31, or a run of
a 64-bit operand. `regs` are the registers that hold operands of its width. -/
def atomicRuns (f : RF) (regs : List (BitVec 5)) : Option Nat :=
  if pairBad f.ra || (amoWidth f == 8 && regs.any (fun r => runBad r.toNat 2)) then some 2 else none

/-- An instruction of the ATOMIC group. -/
def Dev.atomic (d : Dev) (i : Instr) (a : Agent) (f : RF) (bad : Bool) (regs : List (BitVec 5)) (onC : Nat → Dev → CEnd × Dev)
    (onL : Nat → Dev → LEnd × Dev) : Dev :=
  let b := bad || decide (7 < f.fn2.toNat)
  d.ghety i a 0 b onC (orCause (cause1 b) (atomicRuns f regs)) onL

/-- An atomic. -/
def Dev.amo (d : Dev) (i : Instr) (a : Agent) (op : AmoOp) (f : RF) : Dev :=
  d.atomic i a f (op == .fadd && f.fn2.getLsbD 0) [f.rb, f.rd] (Dev.coreAmo op f) (Dev.laneAmo op f)

/-- R94: LB. -/
def execLb (a : Agent) (f : IF) (s : State) : Out := doCmd a.wf (fun d => d.loadI (.lb a f) a f 1 true) s

/-- R94: LH. -/
def execLh (a : Agent) (f : IF) (s : State) : Out := doCmd a.wf (fun d => d.loadI (.lh a f) a f 2 true) s

/-- R94: LW. -/
def execLw (a : Agent) (f : IF) (s : State) : Out := doCmd a.wf (fun d => d.loadI (.lw a f) a f 4 true) s

/-- R94: LBU. -/
def execLbu (a : Agent) (f : IF) (s : State) : Out := doCmd a.wf (fun d => d.loadI (.lbu a f) a f 1 false) s

/-- R94: LHU. -/
def execLhu (a : Agent) (f : IF) (s : State) : Out := doCmd a.wf (fun d => d.loadI (.lhu a f) a f 2 false) s

/-- R94: LD. -/
def execLd (a : Agent) (f : IF) (s : State) : Out := doCmd a.wf (fun d => d.loadC (.ld a f) a f 8 true) s

/-- R94: LWU. -/
def execLwu (a : Agent) (f : IF) (s : State) : Out := doCmd a.wf (fun d => d.loadC (.lwu a f) a f 4 false) s

/-- R94: SB. -/
def execSb (a : Agent) (f : IF) (s : State) : Out := doCmd a.wf (fun d => d.storeI (.sb a f) a f 1) s

/-- R94: SH. -/
def execSh (a : Agent) (f : IF) (s : State) : Out := doCmd a.wf (fun d => d.storeI (.sh a f) a f 2) s

/-- R94: SW. -/
def execSw (a : Agent) (f : IF) (s : State) : Out := doCmd a.wf (fun d => d.storeI (.sw a f) a f 4) s

/-- R94: SD. -/
def execSd (a : Agent) (f : IF) (s : State) : Out :=
  doCmd a.wf (fun d => d.onlyC (.sd a f) a 0 false (Dev.coreStI 8 f)) s

/-- R94: LLW. -/
def execLlw (a : Agent) (f : IF) (s : State) : Out :=
  doCmd a.wf (fun d => d.onlyL (.llw a f) a (quadRun 1 f) (Dev.localLd 1 f)) s

/-- R94: SLW. -/
def execSlw (a : Agent) (f : IF) (s : State) : Out :=
  doCmd a.wf (fun d => d.onlyL (.slw a f) a (quadRun 1 f) (Dev.localSt 1 f)) s

/-- R94: LLQ. -/
def execLlq (a : Agent) (f : IF) (s : State) : Out :=
  doCmd a.wf (fun d => d.onlyL (.llq a f) a (quadRun 4 f) (Dev.localLd 4 f)) s

/-- R94: SLQ. -/
def execSlq (a : Agent) (f : IF) (s : State) : Out :=
  doCmd a.wf (fun d => d.onlyL (.slq a f) a (quadRun 4 f) (Dev.localSt 4 f)) s

/-- R238, R97: SYNC. -/
def execSync (a : Agent) (f : RF) (s : State) : Out :=
  doCmd a.wf (fun d => d.barrier (.sync a f) a f Dev.coreSync Dev.laneSync) s

/-- R238, R97: SYNC.S. -/
def execSyncS (a : Agent) (f : RF) (s : State) : Out :=
  doCmd a.wf (fun d => d.barrier (.syncS a f) a f Dev.coreSyncS Dev.laneSyncS) s

/-- R238, R97: SYNC.L: every load has been performed when its instruction ends. -/
def execSyncL (a : Agent) (f : RF) (s : State) : Out :=
  doCmd a.wf (fun d => d.barrier (.syncL a f) a f (fun _ d => (.next, d)) (fun _ d => (.next, d))) s

/-- R238, R97: SYNC.D. -/
def execSyncD (a : Agent) (f : RF) (s : State) : Out :=
  doCmd a.wf (fun d => d.barrier (.syncD a f) a f Dev.coreSync Dev.laneSync) s

/-- R99: LDL. -/
def execLdl (a : Agent) (f : RF) (s : State) : Out :=
  doCmd a.wf (fun d => d.atomic (.ldl a f) a f (f.rb != 0) [f.rd] (Dev.coreLdl f) (Dev.laneLdl f)) s

/-- R99: STC. -/
def execStc (a : Agent) (f : RF) (s : State) : Out :=
  doCmd a.wf (fun d => d.atomic (.stc a f) a f false [f.rb] (Dev.coreStc f) (Dev.laneStc f)) s

/-- R98: AMO.SWAP. -/
def execAmoSwap (a : Agent) (f : RF) (s : State) : Out := doCmd a.wf (fun d => d.amo (.amoSwap a f) a .swap f) s

/-- R98: AMO.ADD. -/
def execAmoAdd (a : Agent) (f : RF) (s : State) : Out := doCmd a.wf (fun d => d.amo (.amoAdd a f) a .add f) s

/-- R98: AMO.AND. -/
def execAmoAnd (a : Agent) (f : RF) (s : State) : Out := doCmd a.wf (fun d => d.amo (.amoAnd a f) a .band f) s

/-- R98: AMO.OR. -/
def execAmoOr (a : Agent) (f : RF) (s : State) : Out := doCmd a.wf (fun d => d.amo (.amoOr a f) a .bor f) s

/-- R98: AMO.XOR. -/
def execAmoXor (a : Agent) (f : RF) (s : State) : Out := doCmd a.wf (fun d => d.amo (.amoXor a f) a .bxor f) s

/-- R98: AMO.MIN. -/
def execAmoMin (a : Agent) (f : RF) (s : State) : Out := doCmd a.wf (fun d => d.amo (.amoMin a f) a .min f) s

/-- R98: AMO.MAX. -/
def execAmoMax (a : Agent) (f : RF) (s : State) : Out := doCmd a.wf (fun d => d.amo (.amoMax a f) a .max f) s

/-- R98: AMO.MINU. -/
def execAmoMinu (a : Agent) (f : RF) (s : State) : Out := doCmd a.wf (fun d => d.amo (.amoMinu a f) a .minu f) s

/-- R98: AMO.MAXU. -/
def execAmoMaxu (a : Agent) (f : RF) (s : State) : Out := doCmd a.wf (fun d => d.amo (.amoMaxu a f) a .maxu f) s

/-- R98: AMO.CAS. -/
def execAmoCas (a : Agent) (f : RF) (s : State) : Out := doCmd a.wf (fun d => d.amo (.amoCas a f) a .cas f) s

/-- R100, R98: AMO.FADD. -/
def execAmoFadd (a : Agent) (f : RF) (s : State) : Out := doCmd a.wf (fun d => d.amo (.amoFadd a f) a .fadd f) s

/-- R101: CWB. -/
def execCwb (a : Agent) (f : CacheF) (s : State) : Out :=
  doCmd a.wf (fun d => d.ghety (.cwb a f) a 0 false (Dev.coreCache .cwb f) (basePair f.ra) (Dev.laneCache .cwb f)) s

/-- R101: CFLUSH. -/
def execCflush (a : Agent) (f : CacheF) (s : State) : Out :=
  doCmd a.wf (fun d => d.ghety (.cflush a f) a 0 false (Dev.coreCache .cflush f) (basePair f.ra) (Dev.laneCache .cflush f)) s

/-- R101: CINV. -/
def execCinv (a : Agent) (f : CacheF) (s : State) : Out :=
  doCmd a.wf (fun d => d.onlyC (.cinv a f) a 1 false (Dev.coreCache .cinv f)) s

/-- R101: CPREF. -/
def execCpref (a : Agent) (f : CacheF) (s : State) : Out :=
  doCmd a.wf (fun d => d.ghety (.cpref a f) a 0 false (Dev.corePref f) (basePair f.ra) (Dev.lanePref f)) s

/-- R97: STN. -/
def execStn (a : Agent) (f : IF) (s : State) : Out :=
  doCmd a.wf (fun d => d.ghety (.stn a f) a 0 false (Dev.coreStn f) (basePair f.ra) (Dev.laneSt 4 true f)) s

end Sys2Proof.Machine
end

