-- ==== Sys2Proof/Machine/Paths.lean ====
section
/-! DEFINITION. The ways into the register space from outside: HW-A (R392, R467), the 32-bit paths with their latches (R5), the
service port (R493), the management bus (R494), the test access port (R495). -/

namespace Sys2Proof.Machine

open Sys2Proof

/-! ## HW-A -/

/-- R392, R467: an access through HW-A. Requests before the function is ready, or past the BAR, complete with Unsupported
Request, which carries no data. -/
def Dev.hwa (d : Dev) (p : Nat) (write : Bool) (off size v : Nat) : Dev :=
  let answer := fun (d : Dev) (l : List Byte) => if write then d else { d with out := l, outBad := false }
  let own := decide (0x780000 + 0x10000 * p ≤ off ∧ off < 0x790000 + 0x10000 * p)
  if !d.hostHears p then d
  else if !d.hostReady || !(d.port p).fn.mse || decide (0x4000000 ≤ off) then answer d []
  else if (if d.sup.stopped then !decide (0x300000 ≤ off ∧ off < 0x400000) else !(d.bit (rHpPortctl p) 31 || own)) then
    answer (if d.sup.stopped then d else d.addSat (rHpPortcnt p) 47 32 1) (leBytes size 0)
  else if write then (d.regWrite off size (v % 2 ^ (8 * size))).2
  else
    let (_, x, d) := d.regRead off size
    answer d (leBytes size x)

/-! ## The 32-bit paths (R5) -/

/-- The latches of a path. -/
def Dev.latch (d : Dev) : PathId → Latch
  | .service => d.svcLatch
  | .management => d.mbLatch

/-- Change the latches of a path. -/
def Dev.setLatch (d : Dev) (path : PathId) (l : Latch) : Dev :=
  match path with
  | .service => { d with svcLatch := l }
  | .management => { d with mbLatch := l }

/-- R494: what the management bus reaches for reads. -/
def mbReads (off : Nat) : Bool :=
  decide (0x200000 ≤ off ∧ off < 0x300000) || decide (rCrownDiestat 0 ≤ off ∧ off < rCrownDiestat 23) ||
  [rCrownPkgid, rCrownRstrec, rCrownErrstat, rSpBootstat].any (fun r => decide (r ≤ off ∧ off < r + 8) && !(r == rSpBootstat && decide (r + 4 ≤ off)))

/-- R494: what the management bus reaches for writes: PM_CAP.BMCW and CROWN_RSTCTL.WARM. -/
def mbWrites (off : Nat) : Bool := off == rPmCap || off == rCrownRstctl

/-- R494: the management bus answers: from boot step 2, also after a thermal trip, but not while the SP image is swapped (R480). -/
def Dev.mbAnswers (d : Dev) : Bool :=
  decide (d.pm.input = .good) && decide (2 ≤ d.sup.bootStep) && (match d.sp.swapping with | some (0, _) => false | _ => true)

/-- What a path reaches at an offset. -/
def Dev.pathReaches (d : Dev) (path : PathId) (off : Nat) (write : Bool) : Bool :=
  match path with
  | .service => d.regsAnswer off
  | .management => d.mbAnswers && (if write then mbWrites off else mbReads off)

/-- The register a 32-bit access of a path names, its offset, and whether it names the high half. -/
def Dev.pathReg (d : Dev) (off : Nat) : Option (RegDesc × Nat × Bool) :=
  match d.regHere off with
  | some r => some (r, off, false)
  | none => if off % 8 = 4 then (match d.regHere (off - 4) with | some r => if r.bytes = 8 then some (r, off - 4, true) else none | none => none) else none

/-- R494: a write through the management bus. -/
def Dev.mbStore (d : Dev) (off v : Nat) : Dev :=
  if off = rPmCap then d.bmcCap v else if v.testBit 31 then d.warmRequest 2 0 else d

/-- R5: a 32-bit write through a path that reaches the offset. -/
def Dev.pathWrite (d : Dev) (path : PathId) (off v : Nat) : Dev :=
  match path with
  | .management => (d.setLatch .management {}).mbStore off v
  | .service =>
    match d.pathReg off with
    | none => ((d.setLatch .service {}).regWrite off 4 v).2
    | some (r, o, high) =>
      if r.bytes = 4 then (d.setLatch .service {}).regStore r o v (sizeMask 4)
      else
        let l := d.latch .service
        let rd := l.rd.filter (fun e => e.1 == o)
        if !high then d.setLatch .service { wr := some (o, BitVec.ofNat 32 v), rd := rd }
        else
          let d := d.setLatch .service { wr := none, rd := rd }
          match l.wr.filter (fun e => e.1 == o) with
          | some e => d.regStore r o (v * 2 ^ 32 + e.2.toNat) (sizeMask 8)
          | none => d.regStore r o (v * 2 ^ 32) (sizeMask 8 - sizeMask 4)

/-- R5: a 32-bit read through a path that reaches the offset. -/
def Dev.pathRead (d : Dev) (path : PathId) (off : Nat) : Nat × Dev :=
  match d.pathReg off with
  | none =>
    let (_, v, d) := (d.setLatch path {}).regRead off 4
    (v, d)
  | some (r, o, high) =>
    if r.bytes = 4 then (d.setLatch path {}).regSample o
    else
      let l := d.latch path
      let wr := l.wr.filter (fun e => e.1 == o)
      match high, l.rd.filter (fun e => e.1 == o) with
      | true, some e => (e.2.toNat, d.setLatch path { wr := wr, rd := none })
      | _, _ =>
        let (v, d) := d.regSample o
        let hi := BitVec.ofNat 32 (v / 2 ^ 32)
        if high then (hi.toNat, d.setLatch path { wr := wr, rd := none })
        else (v % 2 ^ 32, d.setLatch path { wr := wr, rd := some (o, hi) })

/-! ## The service port (R493) -/

/-- R493: a frame is answered 0x5A; it carries no data. -/
def Dev.svcRefused (d : Dev) : Dev := { (d.addSat rSvcStat 63 48 1) with out := [], outBad := false }

/-- WREG: 4 bytes are written. -/
def Dev.svcWreg (d : Dev) (off v : Nat) : Dev :=
  if d.pathReaches .service off true then d.pathWrite .service off v else d.svcRefused

/-- RREG: 4 bytes are read. -/
def Dev.svcRreg (d : Dev) (off : Nat) : Dev :=
  if d.pathReaches .service off false then
    let (v, d) := d.pathRead .service off
    { d with out := leBytes 4 v, outBad := false }
  else d.svcRefused

/-- SVC_ADDR. -/
def Dev.svcAddr (d : Dev) : Nat := d.fld rSvcAddr 55 0

/-- WDATA, RDATA: whether a burst of `n` bytes at SVC_ADDR is served, as context 0: in T2 or T3, within 4 KiB. -/
def Dev.svcVerdict (d : Dev) (n : Nat) (write : Bool) : Verdict :=
  let tier := match d.home d.svcAddr with | .hbm _ => true | .core _ _ => true | _ => false
  if !d.powered || !tier || decide (4096 < d.svcAddr % 4096 + n) then .refuse .protection else d.rangeVerdict 0 d.svcAddr n write

/-- SVC_ADDR advances. -/
def Dev.svcAdvance (d : Dev) (n : Nat) : Dev := d.setFld rSvcAddr 55 0 (d.svcAddr + n)

/-- WDATA. A burst to a port that is being waited for waits (R406). -/
def Dev.svcWdata (d : Dev) (l : List Byte) : Dev :=
  match d.svcVerdict l.length true with
  | .refuse _ => d.svcRefused
  | .wait => d
  | .pass => (d.crownWrite d.svcAddr l).svcAdvance l.length

/-- RDATA. -/
def Dev.svcRdata (d : Dev) (n : Nat) : Dev :=
  match d.svcVerdict n false with
  | .refuse _ => d.svcRefused
  | .wait => d
  | .pass => { ((cut 128 d.svcAddr n).foldl (fun (e : Dev) p => e.poisonRead .engine (e.home p.1) p.2) (d.svcAdvance n)) with out := d.crownRead d.svcAddr n, outBad := d.crownBad d.svcAddr n }

/-! ## The management bus (R494) -/

/-- An access outside the table completes with a NACK. -/
def Dev.mbNack (d : Dev) : Dev := { (d.addSat rSvcStat 47 32 1) with out := [], outBad := false }

/-- A private write sets the offset, and may write 4 bytes there. -/
def Dev.mbPrivateWrite (d : Dev) (off : Nat) (data : Option (BitVec 32)) : Dev :=
  if !d.mbAnswers then d else
  let d := { d with pins := { d.pins with mbOff := off } }
  match data with
  | none => d
  | some v => if d.pathReaches .management off true then d.pathWrite .management off v.toNat else d.mbNack

/-- A private read returns 4 bytes from the offset, which advances by 4. -/
def Dev.mbPrivateRead (d : Dev) : Dev :=
  let off := d.pins.mbOff
  if !d.mbAnswers then d
  else if d.pathReaches .management off false then
    let (v, d) := d.pathRead .management off
    { d with out := leBytes 4 v, outBad := false, pins := { d.pins with mbOff := (off + 4) % 2 ^ 32 } }
  else d.mbNack

/-! ## The rows of R5 -/

/-- A write through either path at a 32-bit address. -/
def Dev.onPathWrite (d : Dev) (path : PathId) (off v : Nat) : Dev :=
  match path with
  | .service => d.svcWreg off v
  | .management => d.mbPrivateWrite off (some (BitVec.ofNat 32 v))

/-- A read through either path at a 32-bit address. -/
def Dev.onPathRead (d : Dev) (path : PathId) (off : Nat) : Dev :=
  match path with
  | .service => d.svcRreg off
  | .management => (d.mbPrivateWrite off none).mbPrivateRead

/-! ## The test access port (R495) -/

/-- R495: a test instruction is loaded; those that act on the lands take effect only while the warm reset land is asserted,
otherwise BYPASS is loaded. -/
def Dev.jtag (d : Dev) (i : JtagIr) : Dev :=
  let acts := match i with | .bypass => false | .idcode => false | .samplePreload => false | _ => true
  if acts && !d.pins.warmrst then
    let e := d.addSat rSvcStat 31 16 1
    { e with pins := { e.pins with jtag := .bypass } }
  else { d with pins := { d.pins with jtag := i } }

/-! ## Their commands -/

/-- R392: an access through HW-A. -/
def execHwaAccess (p : Nat) (write : Bool) (off : Nat) (size : Nat) (val : Nat) (s : State) : Out :=
  doCmd (decide (p < 6) && decide (off < 2 ^ 64) && decide (size = 1 ∨ size = 2 ∨ size = 4 ∨ size = 8) && decide (val < 2 ^ 64)) (fun d => d.hwa p write off size val) s

/-- R5: the low half of a 64-bit register is written on a 32-bit path. -/
def execPathLowWordWrite (path : PathId) (off : Nat) (val : Nat) (s : State) : Out :=
  doCmd (decide (off < 2 ^ 64) && decide (val < 2 ^ 64)) (fun d => d.onPathWrite path off (val % 2 ^ 32)) s

/-- R5: the high half of the register at `off` is written. -/
def execPathHighWordWrite (path : PathId) (off : Nat) (val : Nat) (s : State) : Out :=
  doCmd (decide (off < 2 ^ 64) && decide (val < 2 ^ 64)) (fun d => d.onPathWrite path (off + 4) (val % 2 ^ 32)) s

/-- R5: the low half of a 64-bit register is read on a 32-bit path. -/
def execPathLowWordRead (path : PathId) (off : Nat) (s : State) : Out :=
  doCmd (decide (off < 2 ^ 64)) (fun d => d.onPathRead path off) s

/-- R5: the high half of the register at `off` is read. -/
def execPathHighWordRead (path : PathId) (off : Nat) (s : State) : Out :=
  doCmd (decide (off < 2 ^ 64)) (fun d => d.onPathRead path (off + 4)) s

/-- R493: a WREG frame. -/
def execSvcWreg (off : Nat) (val : Nat) (s : State) : Out :=
  doCmd (decide (off < 2 ^ 64) && decide (val < 2 ^ 64)) (fun d => d.svcWreg off (val % 2 ^ 32)) s

/-- R493: an RREG frame. -/
def execSvcRreg (off : Nat) (s : State) : Out := doCmd (decide (off < 2 ^ 64)) (fun d => d.svcRreg off) s

/-- R493: a WDATA frame. -/
def execSvcWdata (data : List (BitVec 8)) (s : State) : Out :=
  doCmd (decide (1 ≤ data.length ∧ data.length ≤ 4096)) (fun d => d.svcWdata data) s

/-- R493: an RDATA frame. -/
def execSvcRdata (len : Nat) (s : State) : Out := doCmd (decide (1 ≤ len ∧ len ≤ 4096)) (fun d => d.svcRdata len) s

/-- R493: a frame's wait has lasted 64 µs. -/
def execSvcFrameTimeout  (s : State) : Out := doCmd true (fun d => d.svcRefused) s

/-- R494: a private write. -/
def execMbPrivateWrite (off : Nat) (data : Option (BitVec 32)) (s : State) : Out :=
  doCmd (decide (off < 2 ^ 64)) (fun d => d.mbPrivateWrite off data) s

/-- R494: a private read. -/
def execMbPrivateRead  (s : State) : Out := doCmd true (fun d => d.mbPrivateRead) s

/-- R494: SETDASA or ENTDAA. -/
def execMbAddressAssign (addr : Nat) (s : State) : Out :=
  doCmd (decide (addr < 128)) (fun d => if d.mbAnswers then { d with pins := { d.pins with dynaddr := some addr } } else d) s

/-- R495: BYPASS is loaded. -/
def execJtagBypass  (s : State) : Out := doCmd true (fun d => d.jtag .bypass) s

/-- R495: IDCODE is loaded; the code is shifted out. -/
def execJtagIdcode  (s : State) : Out :=
  doCmd true (fun d => { (d.jtag .idcode) with out := leBytes 4 0x1720054F, outBad := false }) s

/-- R495: SAMPLE/PRELOAD is loaded. -/
def execJtagSamplePreload  (s : State) : Out := doCmd true (fun d => d.jtag .samplePreload) s

/-- R495: EXTEST is loaded. -/
def execJtagExtest  (s : State) : Out := doCmd true (fun d => d.jtag .extest) s

/-- R495: EXTEST_PULSE is loaded. -/
def execJtagExtestPulse  (s : State) : Out := doCmd true (fun d => d.jtag .extestPulse) s

/-- R495: EXTEST_TRAIN is loaded. -/
def execJtagExtestTrain  (s : State) : Out := doCmd true (fun d => d.jtag .extestTrain) s

/-- R495: CLAMP is loaded. -/
def execJtagClamp  (s : State) : Out := doCmd true (fun d => d.jtag .clamp) s

/-- R495: HIGHZ is loaded. -/
def execJtagHighz  (s : State) : Out := doCmd true (fun d => d.jtag .highz) s


end Sys2Proof.Machine
end

