-- ==== Sys2Proof/Machine/Dispatch.lean ====
section
/-! DEFINITION. The one dispatch of commands to their meanings. -/

namespace Sys2Proof.Machine

/-- The effect of a command on everything but the queue. -/
def exec (i : Instr) (s : State) : Host.Outcome State Fault Refusal :=
  match i with
  | .registerWrite ctx off size val => Sys2Proof.Machine.execRegisterWrite ctx off size val s
  | .pathLowWordWrite path off val => Sys2Proof.Machine.execPathLowWordWrite path off val s
  | .pathHighWordWrite path off val => Sys2Proof.Machine.execPathHighWordWrite path off val s
  | .pathLowWordRead path off => Sys2Proof.Machine.execPathLowWordRead path off s
  | .pathHighWordRead path off => Sys2Proof.Machine.execPathHighWordRead path off s
  | .mcastLoad run => Sys2Proof.Machine.execMcastLoad run s
  | .mcastLineRead run => Sys2Proof.Machine.execMcastLineRead run s
  | .mcastLineDeliver run t => Sys2Proof.Machine.execMcastLineDeliver run t s
  | .dieLoss slot => Sys2Proof.Machine.execDieLoss slot s
  | .heartbeatMiss slot => Sys2Proof.Machine.execHeartbeatMiss slot s
  | .dieRejoin slot fuseOk linkOk testOk bad => Sys2Proof.Machine.execDieRejoin slot fuseOk linkOk testOk bad s
  | .dieResetReq ctx slot => Sys2Proof.Machine.execDieResetReq ctx slot s
  | .dieOfflineReq ctx slot => Sys2Proof.Machine.execDieOfflineReq ctx slot s
  | .dieOnlineReq ctx slot => Sys2Proof.Machine.execDieOnlineReq ctx slot s
  | .dieDrainDone slot => Sys2Proof.Machine.execDieDrainDone slot s
  | .clusterFailure t c badSpares => Sys2Proof.Machine.execClusterFailure t c badSpares s
  | .geometryChangedHandling => Sys2Proof.Machine.execGeometryChangedHandling s
  | .add a f => Sys2Proof.Machine.execAdd a f s
  | .sub a f => Sys2Proof.Machine.execSub a f s
  | .and a f => Sys2Proof.Machine.execAnd a f s
  | .or a f => Sys2Proof.Machine.execOr a f s
  | .xor a f => Sys2Proof.Machine.execXor a f s
  | .andn a f => Sys2Proof.Machine.execAndn a f s
  | .sll a f => Sys2Proof.Machine.execSll a f s
  | .srl a f => Sys2Proof.Machine.execSrl a f s
  | .sra a f => Sys2Proof.Machine.execSra a f s
  | .ror a f => Sys2Proof.Machine.execRor a f s
  | .slt a f => Sys2Proof.Machine.execSlt a f s
  | .sltu a f => Sys2Proof.Machine.execSltu a f s
  | .min a f => Sys2Proof.Machine.execMin a f s
  | .max a f => Sys2Proof.Machine.execMax a f s
  | .minu a f => Sys2Proof.Machine.execMinu a f s
  | .maxu a f => Sys2Proof.Machine.execMaxu a f s
  | .addc a f => Sys2Proof.Machine.execAddc a f s
  | .subc a f => Sys2Proof.Machine.execSubc a f s
  | .clz a f => Sys2Proof.Machine.execClz a f s
  | .ctz a f => Sys2Proof.Machine.execCtz a f s
  | .popc a f => Sys2Proof.Machine.execPopc a f s
  | .sel a f => Sys2Proof.Machine.execSel a f s
  | .addW a f => Sys2Proof.Machine.execAddW a f s
  | .subW a f => Sys2Proof.Machine.execSubW a f s
  | .sllW a f => Sys2Proof.Machine.execSllW a f s
  | .srlW a f => Sys2Proof.Machine.execSrlW a f s
  | .sraW a f => Sys2Proof.Machine.execSraW a f s
  | .addi a f => Sys2Proof.Machine.execAddi a f s
  | .andi a f => Sys2Proof.Machine.execAndi a f s
  | .ori a f => Sys2Proof.Machine.execOri a f s
  | .xori a f => Sys2Proof.Machine.execXori a f s
  | .slti a f => Sys2Proof.Machine.execSlti a f s
  | .sltiu a f => Sys2Proof.Machine.execSltiu a f s
  | .shi a f => Sys2Proof.Machine.execShi a f s
  | .lui a f => Sys2Proof.Machine.execLui a f s
  | .auipc a f => Sys2Proof.Machine.execAuipc a f s
  | .mul a f => Sys2Proof.Machine.execMul a f s
  | .mulh a f => Sys2Proof.Machine.execMulh a f s
  | .mulhu a f => Sys2Proof.Machine.execMulhu a f s
  | .mulhsu a f => Sys2Proof.Machine.execMulhsu a f s
  | .div a f => Sys2Proof.Machine.execDiv a f s
  | .divu a f => Sys2Proof.Machine.execDivu a f s
  | .rem a f => Sys2Proof.Machine.execRem a f s
  | .remu a f => Sys2Proof.Machine.execRemu a f s
  | .mulW a f => Sys2Proof.Machine.execMulW a f s
  | .divW a f => Sys2Proof.Machine.execDivW a f s
  | .divuW a f => Sys2Proof.Machine.execDivuW a f s
  | .remW a f => Sys2Proof.Machine.execRemW a f s
  | .remuW a f => Sys2Proof.Machine.execRemuW a f s
  | .lb a f => Sys2Proof.Machine.execLb a f s
  | .lh a f => Sys2Proof.Machine.execLh a f s
  | .lw a f => Sys2Proof.Machine.execLw a f s
  | .ld a f => Sys2Proof.Machine.execLd a f s
  | .lbu a f => Sys2Proof.Machine.execLbu a f s
  | .lhu a f => Sys2Proof.Machine.execLhu a f s
  | .lwu a f => Sys2Proof.Machine.execLwu a f s
  | .sb a f => Sys2Proof.Machine.execSb a f s
  | .sh a f => Sys2Proof.Machine.execSh a f s
  | .sw a f => Sys2Proof.Machine.execSw a f s
  | .sd a f => Sys2Proof.Machine.execSd a f s
  | .llw a f => Sys2Proof.Machine.execLlw a f s
  | .slw a f => Sys2Proof.Machine.execSlw a f s
  | .llq a f => Sys2Proof.Machine.execLlq a f s
  | .slq a f => Sys2Proof.Machine.execSlq a f s
  | .beq a f => Sys2Proof.Machine.execBeq a f s
  | .bne a f => Sys2Proof.Machine.execBne a f s
  | .blt a f => Sys2Proof.Machine.execBlt a f s
  | .bge a f => Sys2Proof.Machine.execBge a f s
  | .bltu a f => Sys2Proof.Machine.execBltu a f s
  | .bgeu a f => Sys2Proof.Machine.execBgeu a f s
  | .jal a f => Sys2Proof.Machine.execJal a f s
  | .jalr a f => Sys2Proof.Machine.execJalr a f s
  | .bany a f => Sys2Proof.Machine.execBany a f s
  | .bnone a f => Sys2Proof.Machine.execBnone a f s
  | .fadd a f => Sys2Proof.Machine.execFadd a f s
  | .fsub a f => Sys2Proof.Machine.execFsub a f s
  | .fmul a f => Sys2Proof.Machine.execFmul a f s
  | .fdiv a f => Sys2Proof.Machine.execFdiv a f s
  | .fsqrt a f => Sys2Proof.Machine.execFsqrt a f s
  | .fmin a f => Sys2Proof.Machine.execFmin a f s
  | .fmax a f => Sys2Proof.Machine.execFmax a f s
  | .famax a f => Sys2Proof.Machine.execFamax a f s
  | .fsgnj a f => Sys2Proof.Machine.execFsgnj a f s
  | .fsgnjn a f => Sys2Proof.Machine.execFsgnjn a f s
  | .fsgnjx a f => Sys2Proof.Machine.execFsgnjx a f s
  | .feq a f => Sys2Proof.Machine.execFeq a f s
  | .flt a f => Sys2Proof.Machine.execFlt a f s
  | .fle a f => Sys2Proof.Machine.execFle a f s
  | .fclass a f => Sys2Proof.Machine.execFclass a f s
  | .fmvXf a f => Sys2Proof.Machine.execFmvXf a f s
  | .fmvFx a f => Sys2Proof.Machine.execFmvFx a f s
  | .fmadd a f => Sys2Proof.Machine.execFmadd a f s
  | .fmsub a f => Sys2Proof.Machine.execFmsub a f s
  | .fnmadd a f => Sys2Proof.Machine.execFnmadd a f s
  | .fnmsub a f => Sys2Proof.Machine.execFnmsub a f s
  | .fcvtSW a f => Sys2Proof.Machine.execFcvtSW a f s
  | .fcvtSWu a f => Sys2Proof.Machine.execFcvtSWu a f s
  | .fcvtWS a f => Sys2Proof.Machine.execFcvtWS a f s
  | .fcvtWuS a f => Sys2Proof.Machine.execFcvtWuS a f s
  | .fcvtSD a f => Sys2Proof.Machine.execFcvtSD a f s
  | .fcvtDS a f => Sys2Proof.Machine.execFcvtDS a f s
  | .fcvtDL a f => Sys2Proof.Machine.execFcvtDL a f s
  | .fcvtLD a f => Sys2Proof.Machine.execFcvtLD a f s
  | .npack a pos f => Sys2Proof.Machine.execNpack a pos f s
  | .nunpk a f => Sys2Proof.Machine.execNunpk a f s
  | .qscaleMx a f => Sys2Proof.Machine.execQscaleMx a f s
  | .qscaleF16 a f => Sys2Proof.Machine.execQscaleF16 a f s
  | .qinv a f => Sys2Proof.Machine.execQinv a f s
  | .sync a f => Sys2Proof.Machine.execSync a f s
  | .syncS a f => Sys2Proof.Machine.execSyncS a f s
  | .syncL a f => Sys2Proof.Machine.execSyncL a f s
  | .syncD a f => Sys2Proof.Machine.execSyncD a f s
  | .ldl a f => Sys2Proof.Machine.execLdl a f s
  | .stc a f => Sys2Proof.Machine.execStc a f s
  | .amoSwap a f => Sys2Proof.Machine.execAmoSwap a f s
  | .amoAdd a f => Sys2Proof.Machine.execAmoAdd a f s
  | .amoAnd a f => Sys2Proof.Machine.execAmoAnd a f s
  | .amoOr a f => Sys2Proof.Machine.execAmoOr a f s
  | .amoXor a f => Sys2Proof.Machine.execAmoXor a f s
  | .amoMin a f => Sys2Proof.Machine.execAmoMin a f s
  | .amoMax a f => Sys2Proof.Machine.execAmoMax a f s
  | .amoMinu a f => Sys2Proof.Machine.execAmoMinu a f s
  | .amoMaxu a f => Sys2Proof.Machine.execAmoMaxu a f s
  | .amoCas a f => Sys2Proof.Machine.execAmoCas a f s
  | .amoFadd a f => Sys2Proof.Machine.execAmoFadd a f s
  | .cwb a f => Sys2Proof.Machine.execCwb a f s
  | .cflush a f => Sys2Proof.Machine.execCflush a f s
  | .cinv a f => Sys2Proof.Machine.execCinv a f s
  | .cpref a f => Sys2Proof.Machine.execCpref a f s
  | .stn a f => Sys2Proof.Machine.execStn a f s
  | .ecall a f => Sys2Proof.Machine.execEcall a f s
  | .ebreak a f => Sys2Proof.Machine.execEbreak a f s
  | .eret a f => Sys2Proof.Machine.execEret a f s
  | .wfi a f => Sys2Proof.Machine.execWfi a f s
  | .csrrw a f => Sys2Proof.Machine.execCsrrw a f s
  | .csrrs a f => Sys2Proof.Machine.execCsrrs a f s
  | .csrrc a f => Sys2Proof.Machine.execCsrrc a f s
  | .tlbi a f => Sys2Proof.Machine.execTlbi a f s
  | .halt a f => Sys2Proof.Machine.execHalt a f s
  | .evclaimRead a rd => Sys2Proof.Machine.execEvclaimRead a rd s
  | .timeloRead a rd => Sys2Proof.Machine.execTimeloRead a rd s
  | .psetnz a f => Sys2Proof.Machine.execPsetnz a f s
  | .pand a f => Sys2Proof.Machine.execPand a f s
  | .por a f => Sys2Proof.Machine.execPor a f s
  | .pxor a f => Sys2Proof.Machine.execPxor a f s
  | .pnot a f => Sys2Proof.Machine.execPnot a f s
  | .pmov a f => Sys2Proof.Machine.execPmov a f s
  | .pload a f => Sys2Proof.Machine.execPload a f s
  | .mpush a f => Sys2Proof.Machine.execMpush a f s
  | .melse a f => Sys2Proof.Machine.execMelse a f s
  | .mpop a f => Sys2Proof.Machine.execMpop a f s
  | .sbar a f => Sys2Proof.Machine.execSbar a f s
  | .sbarComplete r => Sys2Proof.Machine.execSbarComplete r s
  | .lshfl a f => Sys2Proof.Machine.execLshfl a f s
  | .pcmpEq a f => Sys2Proof.Machine.execPcmpEq a f s
  | .pcmpNe a f => Sys2Proof.Machine.execPcmpNe a f s
  | .pcmpLt a f => Sys2Proof.Machine.execPcmpLt a f s
  | .pcmpGe a f => Sys2Proof.Machine.execPcmpGe a f s
  | .pcmpLtu a f => Sys2Proof.Machine.execPcmpLtu a f s
  | .pcmpGeu a f => Sys2Proof.Machine.execPcmpGeu a f s
  | .pfcmpEq a f => Sys2Proof.Machine.execPfcmpEq a f s
  | .pfcmpLt a f => Sys2Proof.Machine.execPfcmpLt a f s
  | .pfcmpLe a f => Sys2Proof.Machine.execPfcmpLe a f s
  | .pfcmpUn a f => Sys2Proof.Machine.execPfcmpUn a f s
  | .wfill a f => Sys2Proof.Machine.execWfill a f s
  | .wfillStart r => Sys2Proof.Machine.execWfillStart r s
  | .wfillDone r => Sys2Proof.Machine.execWfillDone r s
  | .bcast a f => Sys2Proof.Machine.execBcast a f s
  | .brd a f => Sys2Proof.Machine.execBrd a f s
  | .mstep a f => Sys2Proof.Machine.execMstep a f s
  | .mpass a f => Sys2Proof.Machine.execMpass a f s
  | .passStart r => Sys2Proof.Machine.execPassStart r s
  | .chunkInjection r granted permitted => Sys2Proof.Machine.execChunkInjection r granted permitted s
  | .passComplete r => Sys2Proof.Machine.execPassComplete r s
  | .accrd a f => Sys2Proof.Machine.execAccrd a f s
  | .accrdDrain r => Sys2Proof.Machine.execAccrdDrain r s
  | .accld a f => Sys2Proof.Machine.execAccld a f s
  | .tld a f => Sys2Proof.Machine.execTld a f s
  | .rwait a f => Sys2Proof.Machine.execRwait a f s
  | .sfuExp2 a f => Sys2Proof.Machine.execSfuExp2 a f s
  | .sfuLog2 a f => Sys2Proof.Machine.execSfuLog2 a f s
  | .sfuRcp a f => Sys2Proof.Machine.execSfuRcp a f s
  | .sfuRsq a f => Sys2Proof.Machine.execSfuRsq a f s
  | .sfuTanh a f => Sys2Proof.Machine.execSfuTanh a f s
  | .sfuSig a f => Sys2Proof.Machine.execSfuSig a f s
  | .rngKey a f => Sys2Proof.Machine.execRngKey a f s
  | .rngNext a f => Sys2Proof.Machine.execRngNext a f s
  | .rngU32 a f => Sys2Proof.Machine.execRngU32 a f s
  | .rngUf a f => Sys2Proof.Machine.execRngUf a f s
  | .rngSkip a f => Sys2Proof.Machine.execRngSkip a f s
  | .rngSave a f => Sys2Proof.Machine.execRngSave a f s
  | .rngLoad a f => Sys2Proof.Machine.execRngLoad a f s
  | .interruptTaken n => Sys2Proof.Machine.execInterruptTaken n s
  | .timerExpiry n machine => Sys2Proof.Machine.execTimerExpiry n machine s
  | .deferredError n => Sys2Proof.Machine.execDeferredError n s
  | .eventDelivery ev => Sys2Proof.Machine.execEventDelivery ev s
  | .evraise ctx ev => Sys2Proof.Machine.execEvraise ctx ev s
  | .coreOffline ctx n => Sys2Proof.Machine.execCoreOffline ctx n s
  | .coreOnline ctx n => Sys2Proof.Machine.execCoreOnline ctx n s
  | .coreSelftestDone n ok => Sys2Proof.Machine.execCoreSelftestDone n ok s
  | .coreFailed n => Sys2Proof.Machine.execCoreFailed n s
  | .nearmemGemv run => Sys2Proof.Machine.execNearmemGemv run s
  | .nearmemAttend run => Sys2Proof.Machine.execNearmemAttend run s
  | .glumeRead g ctx line errs row => Sys2Proof.Machine.execGlumeRead g ctx line errs row s
  | .glumeWrite g ctx line size data => Sys2Proof.Machine.execGlumeWrite g ctx line size data s
  | .stackTempRead g temp => Sys2Proof.Machine.execStackTempRead g temp s
  | .channelRecal g ch => Sys2Proof.Machine.execChannelRecal g ch s
  | .scrubRead g line errs row => Sys2Proof.Machine.execScrubRead g line errs row s
  | .softRepair g row => Sys2Proof.Machine.execSoftRepair g row s
  | .hardRepair g row => Sys2Proof.Machine.execHardRepair g row s
  | .repcmdSoft ctx g row => Sys2Proof.Machine.execRepcmdSoft ctx g row s
  | .repcmdHard ctx g row => Sys2Proof.Machine.execRepcmdHard ctx g row s
  | .repcmdHardall ctx g => Sys2Proof.Machine.execRepcmdHardall ctx g s
  | .pageWalk cache ctx va write who => Sys2Proof.Machine.execPageWalk cache ctx va write who s
  | .faultRecordWrite fid => Sys2Proof.Machine.execFaultRecordWrite fid s
  | .faultQueueConsWrite ctx n val => Sys2Proof.Machine.execFaultQueueConsWrite ctx n val s
  | .faultRetry ctx id => Sys2Proof.Machine.execFaultRetry ctx id s
  | .faultFail ctx id => Sys2Proof.Machine.execFaultFail ctx id s
  | .faultTimeout fid => Sys2Proof.Machine.execFaultTimeout fid s
  | .faultcfgWrite ctx val => Sys2Proof.Machine.execFaultcfgWrite ctx val s
  | .ringEnable ctx ring val => Sys2Proof.Machine.execRingEnable ctx ring val s
  | .ringDisable ctx ring val => Sys2Proof.Machine.execRingDisable ctx ring val s
  | .fabricInboundAccess dev seq base store off len data => Sys2Proof.Machine.execFabricInboundAccess dev seq base store off len data s
  | .fadmitWrite ctx unit val => Sys2Proof.Machine.execFadmitWrite ctx unit val s
  | .fadmitReclaim ctx unit val => Sys2Proof.Machine.execFadmitReclaim ctx unit val s
  | .fadmitRevoke ctx unit val => Sys2Proof.Machine.execFadmitRevoke ctx unit val s
  | .reclaimNotice dev unit notice => Sys2Proof.Machine.execReclaimNotice dev unit notice s
  | .lendRelease ctx val => Sys2Proof.Machine.execLendRelease ctx val s
  | .lendReleaseReceived dev unit => Sys2Proof.Machine.execLendReleaseReceived dev unit s
  | .lendNoticeExpiry unit => Sys2Proof.Machine.execLendNoticeExpiry unit s
  | .invalidate run => Sys2Proof.Machine.execInvalidate run s
  | .invalidateComplete run => Sys2Proof.Machine.execInvalidateComplete run s
  | .sccmdWball ctx k => Sys2Proof.Machine.execSccmdWball ctx k s
  | .sccmdFlushall ctx k => Sys2Proof.Machine.execSccmdFlushall ctx k s
  | .sccmdDone k => Sys2Proof.Machine.execSccmdDone k s
  | .cacheInitDone k => Sys2Proof.Machine.execCacheInitDone k s
  | .cacheMiss k line streaming victim => Sys2Proof.Machine.execCacheMiss k line streaming victim s
  | .cacheFillReturn k line evict => Sys2Proof.Machine.execCacheFillReturn k line evict s
  | .seqdetTimeout k region => Sys2Proof.Machine.execSeqdetTimeout k region s
  | .ntbufIdleDrain n => Sys2Proof.Machine.execNtbufIdleDrain n s
  | .fabricStoreTimeout id => Sys2Proof.Machine.execFabricStoreTimeout id s
  | .fabricLoadTimeout id => Sys2Proof.Machine.execFabricLoadTimeout id s
  | .submissionDoorbell ctx page idx val => Sys2Proof.Machine.execSubmissionDoorbell ctx page idx val s
  | .cqConsumerDoorbell ctx page idx val => Sys2Proof.Machine.execCqConsumerDoorbell ctx page idx val s
  | .slotFetch q => Sys2Proof.Machine.execSlotFetch q s
  | .slotRefetch q => Sys2Proof.Machine.execSlotRefetch q s
  | .commandDispatch q => Sys2Proof.Machine.execCommandDispatch q s
  | .nop q => Sys2Proof.Machine.execNop q s
  | .fenceWait q => Sys2Proof.Machine.execFenceWait q s
  | .fenceReevaluate q => Sys2Proof.Machine.execFenceReevaluate q s
  | .fencePoll q => Sys2Proof.Machine.execFencePoll q s
  | .fenceSweep => Sys2Proof.Machine.execFenceSweep s
  | .fenceWatchdogTick => Sys2Proof.Machine.execFenceWatchdogTick s
  | .fenceSignal q => Sys2Proof.Machine.execFenceSignal q s
  | .fenceSignalPerform q => Sys2Proof.Machine.execFenceSignalPerform q s
  | .cond q => Sys2Proof.Machine.execCond q s
  | .loop q => Sys2Proof.Machine.execLoop q s
  | .jump q => Sys2Proof.Machine.execJump q s
  | .call q => Sys2Proof.Machine.execCall q s
  | .retCmd q => Sys2Proof.Machine.execRetCmd q s
  | .paramSet q => Sys2Proof.Machine.execParamSet q s
  | .paramLoad q => Sys2Proof.Machine.execParamLoad q s
  | .paramAdd q => Sys2Proof.Machine.execParamAdd q s
  | .patch q => Sys2Proof.Machine.execPatch q s
  | .createQueue run => Sys2Proof.Machine.execCreateQueue run s
  | .destroyQueue run => Sys2Proof.Machine.execDestroyQueue run s
  | .destroyQueueTimeout run => Sys2Proof.Machine.execDestroyQueueTimeout run s
  | .engineAbort run => Sys2Proof.Machine.execEngineAbort run s
  | .queueHalt run => Sys2Proof.Machine.execQueueHalt run s
  | .queueResume run => Sys2Proof.Machine.execQueueResume run s
  | .queueResumeRetry run => Sys2Proof.Machine.execQueueResumeRetry run s
  | .queueSetprio run => Sys2Proof.Machine.execQueueSetprio run s
  | .createCq run => Sys2Proof.Machine.execCreateCq run s
  | .destroyCq run => Sys2Proof.Machine.execDestroyCq run s
  | .kernel run => Sys2Proof.Machine.execKernel run s
  | .kernelComplete run => Sys2Proof.Machine.execKernelComplete run s
  | .completionEntryWrite run => Sys2Proof.Machine.execCompletionEntryWrite run s
  | .flushingRead run p => Sys2Proof.Machine.execFlushingRead run p s
  | .qinfoRead ctx => Sys2Proof.Machine.execQinfoRead ctx s
  | .cqinfoRead ctx => Sys2Proof.Machine.execCqinfoRead ctx s
  | .createContext run => Sys2Proof.Machine.execCreateContext run s
  | .destroyContext run => Sys2Proof.Machine.execDestroyContext run s
  | .destroyContextTimeout run => Sys2Proof.Machine.execDestroyContextTimeout run s
  | .contextSuspend run => Sys2Proof.Machine.execContextSuspend run s
  | .contextResume run => Sys2Proof.Machine.execContextResume run s
  | .suspendTimeout run => Sys2Proof.Machine.execSuspendTimeout run s
  | .groupGrant => Sys2Proof.Machine.execGroupGrant s
  | .sliceEnd => Sys2Proof.Machine.execSliceEnd s
  | .idleRelease ctx => Sys2Proof.Machine.execIdleRelease ctx s
  | .clusterYielded t c => Sys2Proof.Machine.execClusterYielded t c s
  | .yieldwaitExpiry ctx => Sys2Proof.Machine.execYieldwaitExpiry ctx s
  | .saveComplete ctx => Sys2Proof.Machine.execSaveComplete ctx s
  | .sessionOpen run => Sys2Proof.Machine.execSessionOpen run s
  | .sessionModify run => Sys2Proof.Machine.execSessionModify run s
  | .sessionClose run => Sys2Proof.Machine.execSessionClose run s
  | .pktSend run => Sys2Proof.Machine.execPktSend run s
  | .dtmfSend run => Sys2Proof.Machine.execDtmfSend run s
  | .frameBoundary sid => Sys2Proof.Machine.execFrameBoundary sid s
  | .outprodRead sid => Sys2Proof.Machine.execOutprodRead sid s
  | .progressBlockWrite sid => Sys2Proof.Machine.execProgressBlockWrite sid s
  | .mediaFrameReceive p fcsOk authOk frame plain => Sys2Proof.Machine.execMediaFrameReceive p fcsOk authOk frame plain s
  | .sample run => Sys2Proof.Machine.execSample run s
  | .sampleVector run => Sys2Proof.Machine.execSampleVector run s
  | .hwaAccess p write off size val => Sys2Proof.Machine.execHwaAccess p write off size val s
  | .hwbDoorbellWrite p off size val => Sys2Proof.Machine.execHwbDoorbellWrite p off size val s
  | .apertureAccess p write off len data => Sys2Proof.Machine.execApertureAccess p write off len data s
  | .configRequest p req => Sys2Proof.Machine.execConfigRequest p req s
  | .rootInboundRequest p write addr len data => Sys2Proof.Machine.execRootInboundRequest p write addr len data s
  | .linkLossStart p => Sys2Proof.Machine.execLinkLossStart p s
  | .linkLossGraceExpiry p => Sys2Proof.Machine.execLinkLossGraceExpiry p s
  | .functionLevelReset p => Sys2Proof.Machine.execFunctionLevelReset p s
  | .hostLinkUp p speed width => Sys2Proof.Machine.execHostLinkUp p speed width s
  | .portRearm ctx p => Sys2Proof.Machine.execPortRearm ctx p s
  | .copy run => Sys2Proof.Machine.execCopy run s
  | .copyDescriptor run => Sys2Proof.Machine.execCopyDescriptor run s
  | .rangeWb run => Sys2Proof.Machine.execRangeWb run s
  | .allreduce run => Sys2Proof.Machine.execAllreduce run s
  | .allgather run => Sys2Proof.Machine.execAllgather run s
  | .reduceScatter run => Sys2Proof.Machine.execReduceScatter run s
  | .collectiveChunkReceive run rank chunk data poison => Sys2Proof.Machine.execCollectiveChunkReceive run rank chunk data poison s
  | .collectiveFieldsExchange run rank fields => Sys2Proof.Machine.execCollectiveFieldsExchange run rank fields s
  | .collTimeout run => Sys2Proof.Machine.execCollTimeout run s
  | .fabricResponseReceive id status data => Sys2Proof.Machine.execFabricResponseReceive id status data s
  | .fabricResendTimer id => Sys2Proof.Machine.execFabricResendTimer id s
  | .broadcastStoreReceive dev seq base off data answer => Sys2Proof.Machine.execBroadcastStoreReceive dev seq base off data answer s
  | .linkFailure p => Sys2Proof.Machine.execLinkFailure p s
  | .helloMissTimeout p => Sys2Proof.Machine.execHelloMissTimeout p s
  | .laneFailure p lane => Sys2Proof.Machine.execLaneFailure p lane s
  | .linkStateReceive m => Sys2Proof.Machine.execLinkStateReceive m s
  | .helloTimer => Sys2Proof.Machine.execHelloTimer s
  | .helloReceive p h => Sys2Proof.Machine.execHelloReceive p h s
  | .portDownDeclare p => Sys2Proof.Machine.execPortDownDeclare p s
  | .electionSettle => Sys2Proof.Machine.execElectionSettle s
  | .assignReceive p coord => Sys2Proof.Machine.execAssignReceive p coord s
  | .readyReportReceive dev => Sys2Proof.Machine.execReadyReportReceive dev s
  | .fabricReadyReceive => Sys2Proof.Machine.execFabricReadyReceive s
  | .moduleRemoval p => Sys2Proof.Machine.execModuleRemoval p s
  | .moduleInsertion p kind oui sncrc => Sys2Proof.Machine.execModuleInsertion p kind oui sncrc s
  | .linkTrained p lanes => Sys2Proof.Machine.execLinkTrained p lanes s
  | .portRetrain ctx p => Sys2Proof.Machine.execPortRetrain ctx p s
  | .routeqWrite ctx val => Sys2Proof.Machine.execRouteqWrite ctx val s
  | .pmUpdate est => Sys2Proof.Machine.execPmUpdate est s
  | .pmCalibration est meas power mv ma => Sys2Proof.Machine.execPmCalibration est meas power mv ma s
  | .sensorScan temps => Sys2Proof.Machine.execSensorScan temps s
  | .droopTrip t c => Sys2Proof.Machine.execDroopTrip t c s
  | .droopRecoveryStep t c => Sys2Proof.Machine.execDroopRecoveryStep t c s
  | .pwrlimAssert => Sys2Proof.Machine.execPwrlimAssert s
  | .pwrlimRelease => Sys2Proof.Machine.execPwrlimRelease s
  | .bmcCapWrite val => Sys2Proof.Machine.execBmcCapWrite val s
  | .inputSoftStart => Sys2Proof.Machine.execInputSoftStart s
  | .inputGood straps => Sys2Proof.Machine.execInputGood straps s
  | .inputDip => Sys2Proof.Machine.execInputDip s
  | .powerLoss => Sys2Proof.Machine.execPowerLoss s
  | .pkgclkLoss => Sys2Proof.Machine.execPkgclkLoss s
  | .warmReset cause p failed discarded => Sys2Proof.Machine.execWarmReset cause p failed discarded s
  | .warmrstAssert => Sys2Proof.Machine.execWarmrstAssert s
  | .warmrstRelease => Sys2Proof.Machine.execWarmrstRelease s
  | .bootStep badImages badDies badFuses badCores => Sys2Proof.Machine.execBootStep badImages badDies badFuses badCores s
  | .spStage ctx cls => Sys2Proof.Machine.execSpStage ctx cls s
  | .spActivate ctx cls => Sys2Proof.Machine.execSpActivate ctx cls s
  | .imageReadyReport cls => Sys2Proof.Machine.execImageReadyReport cls s
  | .activateTimeout cls => Sys2Proof.Machine.execActivateTimeout cls s
  | .spCommit ctx cls => Sys2Proof.Machine.execSpCommit ctx cls s
  | .spAttest ctx => Sys2Proof.Machine.execSpAttest ctx s
  | .spGetcert ctx => Sys2Proof.Machine.execSpGetcert ctx s
  | .spCalwrite ctx => Sys2Proof.Machine.execSpCalwrite ctx s
  | .spCalapply ctx => Sys2Proof.Machine.execSpCalapply ctx s
  | .errorRecordWrite => Sys2Proof.Machine.execErrorRecordWrite s
  | .selftestCluster ctx t grp force => Sys2Proof.Machine.execSelftestCluster ctx t grp force s
  | .selftestHbmcal ctx => Sys2Proof.Machine.execSelftestHbmcal ctx s
  | .selftestDielink ctx slot force => Sys2Proof.Machine.execSelftestDielink ctx slot force s
  | .selftestMemtest ctx force => Sys2Proof.Machine.execSelftestMemtest ctx force s
  | .selftestArraytest ctx force => Sys2Proof.Machine.execSelftestArraytest ctx force s
  | .selftestSweep ctx force => Sys2Proof.Machine.execSelftestSweep ctx force s
  | .selftestDone found badSpares => Sys2Proof.Machine.execSelftestDone found badSpares s
  | .sweepTimer => Sys2Proof.Machine.execSweepTimer s
  | .cpHeartbeatMiss => Sys2Proof.Machine.execCpHeartbeatMiss s
  | .svcWreg off val => Sys2Proof.Machine.execSvcWreg off val s
  | .svcRreg off => Sys2Proof.Machine.execSvcRreg off s
  | .svcWdata data => Sys2Proof.Machine.execSvcWdata data s
  | .svcRdata len => Sys2Proof.Machine.execSvcRdata len s
  | .svcFrameTimeout => Sys2Proof.Machine.execSvcFrameTimeout s
  | .mbPrivateWrite off data => Sys2Proof.Machine.execMbPrivateWrite off data s
  | .mbPrivateRead => Sys2Proof.Machine.execMbPrivateRead s
  | .mbAddressAssign addr => Sys2Proof.Machine.execMbAddressAssign addr s
  | .jtagBypass => Sys2Proof.Machine.execJtagBypass s
  | .jtagIdcode => Sys2Proof.Machine.execJtagIdcode s
  | .jtagSamplePreload => Sys2Proof.Machine.execJtagSamplePreload s
  | .jtagExtest => Sys2Proof.Machine.execJtagExtest s
  | .jtagExtestPulse => Sys2Proof.Machine.execJtagExtestPulse s
  | .jtagExtestTrain => Sys2Proof.Machine.execJtagExtestTrain s
  | .jtagClamp => Sys2Proof.Machine.execJtagClamp s
  | .jtagHighz => Sys2Proof.Machine.execJtagHighz s
  | .cpFirmwareRestartDone => Sys2Proof.Machine.execCpFirmwareRestartDone s
  | .coreOfflineDone n => Sys2Proof.Machine.execCoreOfflineDone n s
  | .mediaLinkChange p up => Sys2Proof.Machine.execMediaLinkChange p up s
  | .moduleReady p => Sys2Proof.Machine.execModuleReady p s
  | .fabricLaneRetrained p lane => Sys2Proof.Machine.execFabricLaneRetrained p lane s
  | .flitCrcFailure p => Sys2Proof.Machine.execFlitCrcFailure p s
  | .fabricTransitPacket dst detours detoured => Sys2Proof.Machine.execFabricTransitPacket dst detours detoured s
  | .inputCurrentLimit on => Sys2Proof.Machine.execInputCurrentLimit on s
  | .hbmRepairComplete g failed => Sys2Proof.Machine.execHbmRepairComplete g failed s
  | .functionResetDone p => Sys2Proof.Machine.execFunctionResetDone p s
  | .fePortEnWrite ctx p en => Sys2Proof.Machine.execFePortEnWrite ctx p en s
  | .mediaFrameTransmitted p => Sys2Proof.Machine.execMediaFrameTransmitted p s
  | .moduleWearUpdate p days bias => Sys2Proof.Machine.execModuleWearUpdate p days bias s

end Sys2Proof.Machine
end

