-- ==== Sys2Proof/Safety.lean ====
section
/-! DEFINITION. What counts as a safe step, and the terms the claims are stated in: who may run an instruction, and what an
instruction that retires leaves. -/

namespace Sys2Proof

open Sys2Proof.Machine

/-- The next step goes on. -/
def SafeStep (s : Machine.State) : Prop := ∃ s', Machine.step s = .next s'

/-- Every command that waits is well formed. -/
def WaitingWf (s : Machine.State) : Prop := ∀ i ∈ s.pending, i.wf = true

/-- Core n exists, executes, and runs at level `lvl` or above (R255, R256). -/
def CoreRuns (s : Machine.State) (n lvl : Nat) : Prop :=
  n < 96 ∧ s.dev.coreActs n = true ∧ lvl ≤ (s.dev.core n).level

/-- The state after core n retires an instruction that changes the core by `f` and goes on at the next word (R78). -/
def coreDoes (s : Machine.State) (n : Nat) (f : CoreSt → CoreSt) : Machine.State :=
  { s with dev := s.dev.setCore n (fun c => { f c with pc := c.pc + 4, retired := c.retired + 1 }) }

/-- The state after core n retires an instruction that changes the core by `f` and goes on at `t`. -/
def coreJumps (s : Machine.State) (n : Nat) (t : BitVec 64) (f : CoreSt → CoreSt) : Machine.State :=
  { s with dev := s.dev.setCore n (fun c => { f c with pc := t, retired := c.retired + 1 }) }

/-- The sheaf of thread slot r, s of a row exists and executes (R81). -/
def SheafRuns (s : Machine.State) (t c r k : Nat) : Prop :=
  (t < 8 ∧ c < 84 ∧ r < 16 ∧ k < 8) ∧ s.dev.sheafActs (sheafKey t c r k) = true

/-- The state after a sheaf executes an instruction that changes it by `f` and goes on at the next word (R81). -/
def sheafDoes (s : Machine.State) (k : Nat) (f : Sheaf → Sheaf) : Machine.State :=
  { s with dev := s.dev.setSheaf k (fun x => { f x with pc := x.pc + 4 }) }

/-- The state after a sheaf executes an instruction that changes it by `f` and goes on at `t`. -/
def sheafJumps (s : Machine.State) (k : Nat) (t : BitVec 64) (f : Sheaf → Sheaf) : Machine.State :=
  { s with dev := s.dev.setSheaf k (fun x => { f x with pc := t }) }

/-- The state after core n executes a taken branch or a jump to `t` that changes it by `f`: a target that is not aligned to 4 bytes
raises FETCH_MISALIGNED at the branch instead (R261). -/
def coreGoes (s : Machine.State) (n t : Nat) (f : CoreSt → CoreSt) : Machine.State :=
  if t % 4 = 0 then coreJumps s n (BitVec.ofNat 64 t) f else { s with dev := s.dev.coreException n 6 t 0 }

/-- The state after core n takes a synchronous exception at its present instruction: the combining buffer starts to drain, and the
core enters the handler (R260). -/
def coreTraps (s : Machine.State) (n code faddr finfo : Nat) : Machine.State :=
  { s with dev := (s.dev.ntDrainAll n).setCore n (fun c =>
      c.enter ((s.dev.core n).excToM code) (s.dev.core n).pc.toNat code faddr finfo) }

/-- The register that starts at `off` is `n` bytes wide and answers an access by context 0 (R39, R466). -/
def RegAnswers (s : Machine.State) (off n : Nat) : Prop :=
  s.dev.regsAnswer off = true ∧ ∃ r, s.dev.regHere off = some r ∧ r.bytes = n

/-- Bytes of the coherent memory are as they were at every address that `p` does not hold of. -/
def KeepsMemory (s t : Machine.State) (p : Nat → Prop) : Prop := ∀ a, ¬ p a → t.dev.ms.mem.read a = s.dev.ms.mem.read a

/-- State s with the part as `d`: the queue stays. -/
def leaves (s : Machine.State) (d : Dev) : Machine.State := { s with dev := d }

/-- What the register that starts at `off` holds after a write of all its `n` bytes, field by field (R5, R8). -/
def stored (s : Machine.State) (off n val : Nat) : Nat :=
  match regAt off with
  | some r => r.writeFields (s.dev.reg off) val (2 ^ (8 * n) - 1)
  | none => 0

/-- Two accumulators agree: the same value, tag, LOSS, MISMATCH, anchor, pair, scale mode and mode (R70). -/
def SameAcc (a b : AccV) : Prop :=
  a.val = b.val ∧ a.info.tag = b.info.tag ∧ a.info.loss = b.info.loss ∧ a.info.mismatch = b.info.mismatch ∧
  a.info.anchor = b.info.anchor ∧ a.info.pair = b.info.pair ∧ a.info.smode = b.info.smode ∧ a.info.f16 = b.info.f16

/-- The result of an integer operation on words of `w` bits, as R87 and R88 give it in terms of integers and bits. -/
def intMath (op : AluOp) (w : Nat) (x y : BitVec w) : BitVec w :=
  match op with
  | .add => BitVec.ofInt w (x.toInt + y.toInt)
  | .sub => BitVec.ofInt w (x.toInt - y.toInt)
  | .and => x &&& y
  | .or => x ||| y
  | .xor => x ^^^ y
  | .andn => x &&& ~~~y
  | .sll => BitVec.ofNat w (x.toNat * 2 ^ (y.toNat % w))
  | .srl => BitVec.ofNat w (x.toNat / 2 ^ (y.toNat % w))
  | .sra => BitVec.ofInt w (x.toInt / 2 ^ (y.toNat % w))
  | .ror => BitVec.ofNat w (x.toNat / 2 ^ (y.toNat % w)) ||| BitVec.ofNat w (x.toNat * 2 ^ (w - y.toNat % w))
  | .slt => if x.toInt < y.toInt then 1 else 0
  | .sltu => if x.toNat < y.toNat then 1 else 0
  | .min => BitVec.ofInt w (min x.toInt y.toInt)
  | .max => BitVec.ofInt w (max x.toInt y.toInt)
  | .minu => BitVec.ofNat w (min x.toNat y.toNat)
  | .maxu => BitVec.ofNat w (max x.toNat y.toNat)
  | .clz => BitVec.ofNat w ((List.range w).takeWhile (fun i => !x.getLsbD (w - 1 - i))).length
  | .ctz => BitVec.ofNat w ((List.range w).takeWhile (fun i => !x.getLsbD i)).length
  | .popc => BitVec.ofNat w ((List.range w).countP (fun i => x.getLsbD i))
  | .mul => BitVec.ofInt w (x.toInt * y.toInt)
  | .mulh => BitVec.ofInt w (x.toInt * y.toInt / 2 ^ w)
  | .mulhu => BitVec.ofNat w (x.toNat * y.toNat / 2 ^ w)
  | .mulhsu => BitVec.ofInt w (x.toInt * y.toNat / 2 ^ w)
  | .div => if y = 0 then BitVec.ofInt w (-1) else BitVec.ofInt w (x.toInt.tdiv y.toInt)
  | .divu => if y = 0 then BitVec.allOnes w else BitVec.ofNat w (x.toNat / y.toNat)
  | .rem => if y = 0 then x else BitVec.ofInt w (x.toInt.tmod y.toInt)
  | .remu => if y = 0 then x else BitVec.ofNat w (x.toNat % y.toNat)

end Sys2Proof
end

