-- ==== Sys2Proof/Certificates/Slice0/Obligations.lean ====
section
/-! DEFINITION. The statements for the provers, from the numbered rules of the spec. -/

open Sys2Proof Sys2Proof.Machine

/-- A step takes the command at the front of the queue and executes it on the state with the queue's rest. -/
def Obligations.StepRunsFront : Prop :=
  ∀ (c : Instr) (s : Machine.State), step { s with pending := c :: s.pending } = exec c s

/-- R461 gives the device time counter; that a step on an empty queue is one tick of it is the model's choice
(notes/assumptions/1.md). -/
def Obligations.EmptyQueueCountsTime : Prop :=
  ∀ s : Machine.State, s.pending = [] →
    ∃ t, step s = .next t ∧ t = { s with dev := { s.dev with time := t.dev.time } } ∧
      t.dev.time = (s.dev.time + 1) % 2 ^ 64

/-- Every command with operands in range answers a next state, whatever the state, and leaves the queue as it was. The one fault of the model is raised exactly by operands out of range; nothing refuses. -/
def Obligations.CommandsCompleteOrStop : Prop :=
  (∀ (i : Instr) (s : Machine.State), i.wf = true → ∃ t, exec i s = .next t ∧ t.pending = s.pending) ∧
  (∀ (i : Instr) (s : Machine.State), (exec i s = .fault .illFormed ↔ i.wf = false) ∧ ∀ r, exec i s ≠ .refused r)

/-- The queue holds well-formed commands: every step keeps it so, from any state. -/
def Obligations.WaitingStaysWellFormed : Prop :=
  ∀ s t : Machine.State, WaitingWf s → step s = .next t → WaitingWf t

/-- No state of the part and no sequence of well-formed commands stops the model: a run of any length goes on, and takes one
command at each step, first in, first out. -/
def Obligations.RunsNeverStop : Prop :=
  ∀ (n : Nat) (s : Machine.State), WaitingWf s →
    ∃ t, Host.Core.run Sys2Proof.core n s = .next t ∧ t.pending = s.pending.drop n ∧ WaitingWf t

/-- At reset the queue is empty. R9: registers hold their reset values; the memory lists nothing (notes/assumptions/8.md says what it reads as); cores leave
reset at M (R256). -/
def Obligations.ResetState : Prop :=
  (State.reset.pending = [] ∧ WaitingWf State.reset) ∧
  ((∀ off r, regAt off = some r → State.reset.dev.reg off = r.reset.toNat) ∧
    (∀ slot < 23, State.reset.dev.dieState slot = 1) ∧
    State.reset.dev.fld rFeRespto 19 0 = 1000 ∧ State.reset.dev.fld rCrownFaultcfg 19 0 = 10000 ∧
    (∀ n < 20, State.reset.dev.bit (ringRegs n).ctl 31 = false) ∧
    Memory.wf State.reset.dev.ms.mem = true ∧ State.reset.dev.ms.mem = [] ∧
    (∀ n, (State.reset.dev.core n).level = 3 ∧ (State.reset.dev.core n).resv = none))

/-- R78, R85 to R87: decode of encode, for all Ghety instructions of both profiles. -/
def Obligations.DecodeEncode : Prop :=
  ∀ (i : Instr) (a : Agent) (w : BitVec 32), encode i = some (a, w) → decodeGhety a w = some i

/-- R86: the illegal opcode 0x00 and the reserved ones. -/
def Obligations.ReservedOpcodesRefused : Prop :=
  ∀ (a : Agent) (w : BitVec 32),
    (w.toNat % 64 = 0 ∨ (0x0C ≤ w.toNat % 64 ∧ w.toNat % 64 ≤ 0x0F) ∨ w.toNat % 64 = 0x17 ∨ w.toNat % 64 = 0x2B ∨ 0x37 ≤ w.toNat % 64) →
    decodeGhety a w = none

/-- R87, R88 at width 64, with the frame: only rd, the program counter and the count of retired instructions change. `setX`
discards a write of x0 (R79). -/
def Obligations.CoreIntegerResults : Prop :=
  ∀ p ∈ ([(.add, .add), (.sub, .sub), (.and, .and), (.or, .or), (.xor, .xor), (.andn, .andn), (.sll, .sll), (.srl, .srl), (.sra, .sra),
      (.ror, .ror), (.slt, .slt), (.sltu, .sltu), (.min, .min), (.max, .max), (.minu, .minu), (.maxu, .maxu), (.mul, .mul),
      (.mulh, .mulh), (.mulhu, .mulhu), (.mulhsu, .mulhsu), (.div, .div), (.divu, .divu), (.rem, .rem), (.remu, .remu)] :
      List ((Agent → RF → Instr) × AluOp)),
    ∀ (s : Machine.State) (n : Nat) (f : RF), CoreRuns s n 0 → f.fn2 = 0 →
      exec (p.1 (.core n) f) s =
        .next (coreDoes s n (fun c => c.setX f.rd.toNat (intMath p.2 64 (c.getX f.ra.toNat) (c.getX f.rb.toNat))))

/-- R87, R88: the bit counts. R88: the .W forms. R85: the immediate forms of a core. R86: SHI on a core; the value of a 32-bit shift by more than 31 is free (DESIGN CHOICE, notes/assumptions/3.md). -/
def Obligations.CoreCountsAndImmediates : Prop :=
  ((∀ p ∈ ([(.clz, .clz), (.ctz, .ctz), (.popc, .popc)] : List ((Agent → RF → Instr) × AluOp)),
       ∀ (s : Machine.State) (n : Nat) (f : RF), CoreRuns s n 0 → f.fn2 = 0 → f.rb = 0 →
         exec (p.1 (.core n) f) s =
           .next (coreDoes s n (fun c => c.setX f.rd.toNat (intMath p.2 64 (c.getX f.ra.toNat) 0)))) ∧
   (∀ p ∈ ([(.addW, .add), (.subW, .sub), (.sllW, .sll), (.srlW, .srl), (.sraW, .sra), (.mulW, .mul), (.divW, .div), (.divuW, .divu),
         (.remW, .rem), (.remuW, .remu)] : List ((Agent → RF → Instr) × AluOp)),
       ∀ (s : Machine.State) (n : Nat) (f : RF), CoreRuns s n 0 → f.fn2 = 0 →
         exec (p.1 (.core n) f) s =
           .next (coreDoes s n (fun c => c.setX f.rd.toNat
             (BitVec.ofInt 64 (intMath p.2 32 (BitVec.ofNat 32 (c.getX f.ra.toNat).toNat) (BitVec.ofNat 32 (c.getX f.rb.toNat).toNat)).toInt))))) ∧
  (((∀ p ∈ ([(.addi, .add, true), (.andi, .and, false), (.ori, .or, false), (.xori, .xor, false), (.slti, .slt, true), (.sltiu, .sltu, true)] :
         List ((Agent → IF → Instr) × AluOp × Bool)),
       ∀ (s : Machine.State) (n : Nat) (f : IF), CoreRuns s n 0 →
         exec (p.1 (.core n) f) s =
           .next (coreDoes s n (fun c => c.setX f.rd.toNat (intMath p.2.1 64 (c.getX f.ra.toNat)
             (if p.2.2 then BitVec.ofInt 64 f.imm.toInt else BitVec.ofNat 64 f.imm.toNat))))) ∧
     (∀ (s : Machine.State) (n : Nat) (f : UF), CoreRuns s n 0 →
       exec (.lui (.core n) f) s =
         .next (coreDoes s n (fun c => c.setX f.rd.toNat (BitVec.ofInt 64 (f.imm.toInt * 2048)))) ∧
       exec (.auipc (.core n) f) s =
         .next (coreDoes s n (fun c => c.setX f.rd.toNat (c.pc + BitVec.ofInt 64 (f.imm.toInt * 2048)))))) ∧
   (∀ (s : Machine.State) (n : Nat) (f : IF) (amount : Nat) (kind : Nat) (op : AluOp),
       CoreRuns s n 0 → amount < 64 → (kind, op) ∈ [(0, AluOp.sll), (1, .srl), (2, .sra), (3, .ror)] →
       (f.imm.toNat = amount + 64 * kind →
         exec (.shi (.core n) f) s = .next (coreDoes s n (fun c =>
           c.setX f.rd.toNat (intMath op 64 (c.getX f.ra.toNat) (BitVec.ofNat 64 amount))))) ∧
       (f.imm.toNat = amount + 64 * kind + 256 → amount < 32 →
         exec (.shi (.core n) f) s = .next (coreDoes s n (fun c =>
           c.setX f.rd.toNat (BitVec.ofInt 64
             (intMath op 32 (BitVec.ofNat 32 (c.getX f.ra.toNat).toNat) (BitVec.ofNat 32 amount)).toInt)))) ∧
       (f.imm.toNat = amount + 64 * kind + 256 → 32 ≤ amount →
         ∃ v : BitVec 64, exec (.shi (.core n) f) s =
           .next (coreDoes { s with dev := { s.dev with free := s.dev.free + 1 } } n (fun c => c.setX f.rd.toNat v))) ∧
       (512 ≤ f.imm.toNat → exec (.shi (.core n) f) s = .next (coreTraps s n 1 0 0))))

/-- R85, R261: the branches of a core. R79, R85, R86, R261: the jumps of a core; JALR's target is read by inference (notes/assumptions/22.md). -/
def Obligations.CoreBranchesAndJumps : Prop :=
  (∀ p ∈ ([(.beq, fun x y => decide (x = y)), (.bne, fun x y => decide (x ≠ y)), (.blt, fun x y => decide (x.toInt < y.toInt)),
        (.bge, fun x y => decide (y.toInt ≤ x.toInt)), (.bltu, fun x y => decide (x.toNat < y.toNat)),
        (.bgeu, fun x y => decide (y.toNat ≤ x.toNat))] : List ((Agent → BF → Instr) × (BitVec 64 → BitVec 64 → Bool))),
      ∀ (s : Machine.State) (n : Nat) (f : BF), CoreRuns s n 0 →
        exec (p.1 (.core n) f) s = .next
          (if p.2 ((s.dev.core n).getX f.ra.toNat) ((s.dev.core n).getX f.rb.toNat)
            then coreGoes s n ((s.dev.core n).pc + BitVec.ofInt 64 (f.off.toInt * 4)).toNat id
            else coreDoes s n id)) ∧
  (∀ (s : Machine.State) (n : Nat), CoreRuns s n 0 →
      (∀ f : JF, exec (.jal (.core n) f) s =
        .next (coreGoes s n ((s.dev.core n).pc + BitVec.ofInt 64 (f.off.toInt * 4)).toNat (fun c => c.setX 1 (c.pc + 4)))) ∧
      (∀ f : IF, exec (.jalr (.core n) f) s =
        .next (coreGoes s n ((s.dev.core n).getX f.ra.toNat + BitVec.ofInt 64 f.imm.toInt).toNat (fun c => c.setX f.rd.toNat (c.pc + 4)))))

/-- R79, whole: register 0 in both profiles, and the register JAL links through. -/
def Obligations.ZeroRegisters : Prop :=
  (∀ (c : CoreSt) (v : BitVec 64), c.getX 0 = 0 ∧ c.setX 0 v = c) ∧
  (∀ (x : Sheaf) (l : Nat) (v : Nat → BitVec 32), x.getV 0 l = 0 ∧ x.putV 0 v = x ∧ x.putAll 0 v = x) ∧
  (∀ (s : Machine.State) (n : Nat) (f : JF), CoreRuns s n 0 → (s.dev.core n).pc.toNat % 4 = 0 →
    ∃ t, exec (.jal (.core n) f) s = .next t ∧ (t.dev.core n).getX 1 = (s.dev.core n).pc + 4) ∧
  (∀ (s : Machine.State) (t c r k l : Nat) (f : JF), SheafRuns s t c r k → l < 256 → (s.dev.sheaf (sheafKey t c r k)).on l = true →
    ∃ t', exec (.jal (.sheaf t c r k) f) s = .next t' ∧
      (t'.dev.sheaf (sheafKey t c r k)).getV 1 l = BitVec.ofNat 32 ((s.dev.sheaf (sheafKey t c r k)).pc + 4).toNat)

/-- R102, R261: the calls and the breakpoint. -/
def Obligations.CoreTraps : Prop :=
  ∀ (s : Machine.State) (n : Nat), CoreRuns s n 0 →
    ((s.dev.core n).level = 0 → exec (.ecall (.core n) ⟨0, 0, 0⟩) s = .next (coreTraps s n 3 0 0)) ∧
    ((s.dev.core n).level = 1 → exec (.ecall (.core n) ⟨0, 0, 0⟩) s = .next (coreTraps s n 4 0 0)) ∧
    ((s.dev.core n).level = 3 → exec (.ecall (.core n) ⟨0, 0, 0⟩) s = .next (coreTraps s n 5 0 0)) ∧
    exec (.ebreak (.core n) ⟨0, 0, 0⟩) s = .next (coreTraps s n 2 (s.dev.core n).pc.toNat 0)

/-- R260, steps 1 to 5. The registers of M lie 0x200 above those of S (R271). R256, R260: the return from an exception. -/
def Obligations.ExceptionEntryAndReturns : Prop :=
  ((∀ (c : CoreSt) (code : Nat), c.excToM code = (decide (c.level = 3) || !(c.getCsr 0x300).testBit code)) ∧
   ∀ (c : CoreSt) (toM : Bool) (savepc cause faddr finfo : Nat),
     savepc < 2 ^ 64 → cause < 2 ^ 64 → faddr < 2 ^ 64 → finfo < 2 ^ 64 → c.level < 4 → (toM = false → c.level < 2) →
     let e := c.enter toM savepc cause faddr finfo
     let o := if toM then 0x200 else 0
     e.getCsr (0x105 + o) = savepc ∧ e.getCsr (0x106 + o) = cause ∧ e.getCsr (0x107 + o) = faddr ∧ e.getCsr (0x108 + o) = finfo ∧
     e.level = (if toM then 3 else 1) ∧ e.resv = none ∧
     e.pc.toNat = c.getCsr (0x104 + o) / 256 * 256 ∧
     bitsOf (e.getCsr 0x100) 12 11 = (if toM then c.level else bitsOf (c.getCsr 0x100) 12 11) ∧
     bitsOf (e.getCsr 0x100) 8 8 = (if toM then bitsOf (c.getCsr 0x100) 8 8 else c.level) ∧
     (e.getCsr 0x100).testBit (if toM then 5 else 4) = (c.getCsr 0x100).testBit (if toM then 1 else 0) ∧
     (e.getCsr 0x100).testBit (if toM then 1 else 0) = false ∧
     (∀ i, i ∉ (if toM then [1, 5, 11, 12] else [0, 4, 8]) → (e.getCsr 0x100).testBit i = (c.getCsr 0x100).testBit i) ∧
     (∀ k, k ∉ [0x100, 0x105 + o, 0x106 + o, 0x107 + o, 0x108 + o] → e.getCsr k = c.getCsr k) ∧
     e.x = c.x ∧ e.f = c.f ∧ e.retired = c.retired) ∧
  (∀ (s : Machine.State) (n : Nat), CoreRuns s n 0 →
     let c := s.dev.core n
     (c.level = 0 → exec (.eret (.core n) ⟨0, 0, 0⟩) s = .next (coreTraps s n 1 0 0)) ∧
     (c.level = 1 ∨ c.level = 3 → ∃ t, exec (.eret (.core n) ⟨0, 0, 0⟩) s = .next t ∧
       (t.dev.core n).pc.toNat = c.getCsr (if c.level = 3 then 0x305 else 0x105) ∧
       (t.dev.core n).level = (if c.level = 3 then (if bitsOf (c.getCsr 0x100) 12 11 = 2 then 0 else bitsOf (c.getCsr 0x100) 12 11)
         else bitsOf (c.getCsr 0x100) 8 8) ∧
       ((t.dev.core n).getCsr 0x100).testBit (if c.level = 3 then 1 else 0) = (c.getCsr 0x100).testBit (if c.level = 3 then 5 else 4) ∧
       (∀ i, i ≠ (if c.level = 3 then 1 else 0) → ((t.dev.core n).getCsr 0x100).testBit i = (c.getCsr 0x100).testBit i) ∧
       (∀ k, k ≠ 0x100 → (t.dev.core n).getCsr k = c.getCsr k) ∧
       (t.dev.core n).x = c.x ∧ (t.dev.core n).f = c.f ∧ (t.dev.core n).resv = c.resv ∧
       (∀ m, m ≠ n → t.dev.core m = s.dev.core m) ∧ t.dev.ms = s.dev.ms ∧ t.dev.regs = s.dev.regs))

/-- R102, R256, R271: the system registers of a core. Registers with an effect of their own, TIME, CYCLE, RETIRED, IPEND, EVCLAIM and the
timers' compare values, are left to CoreEvents. -/
def Obligations.CoreSystemRegisters : Prop :=
  ∀ (s : Machine.State) (n lvl : Nat) (f : SysF), CoreRuns s n 0 →
    let c := s.dev.core n
    let k := f.csr.toNat
    ((csrKind k = none ∨ (∃ w, csrKind k = some (lvl, w) ∧ c.level < lvl) ∨ csrKind k = some (lvl, false)) →
      exec (.csrrw (.core n) f) s = .next (coreTraps s n 1 0 0)) ∧
    ((csrKind k = none ∨ (∃ w, csrKind k = some (lvl, w) ∧ c.level < lvl) ∨ (csrKind k = some (lvl, false) ∧ f.ra ≠ 0)) →
      exec (.csrrs (.core n) f) s = .next (coreTraps s n 1 0 0) ∧ exec (.csrrc (.core n) f) s = .next (coreTraps s n 1 0 0)) ∧
    (csrKind k = some (lvl, true) → lvl ≤ c.level → k ≠ 0x10A → k ≠ 0x30A →
      let m := csrMask k c.level
      let old := c.getCsr k
      let x := (c.getX f.ra.toNat).toNat
      let put := fun v => coreDoes s n (fun c => (c.setCsr k ((v &&& m) ||| (old - (old &&& m)))).setX f.rd.toNat (BitVec.ofNat 64 old))
      exec (.csrrw (.core n) f) s = .next (put x) ∧
      (f.ra ≠ 0 → exec (.csrrs (.core n) f) s = .next (put (old ||| x)) ∧
        exec (.csrrc (.core n) f) s = .next (put (old - (old &&& x)))) ∧
      (f.ra = 0 → exec (.csrrs (.core n) f) s = .next (coreDoes s n (fun c => c.setX f.rd.toNat (BitVec.ofNat 64 old))) ∧
        exec (.csrrc (.core n) f) s = .next (coreDoes s n (fun c => c.setX f.rd.toNat (BitVec.ofNat 64 old)))))

/-- R259, R264, R266, R271: the system instructions of a core that reach further than its registers. R97, R98, R101, R235: the other memory instructions of a core. -/
def Obligations.CoreEventsAndBarriers : Prop :=
  (∀ (s : Machine.State) (n : Nat), CoreRuns s n 1 →
     let c := s.dev.core n
     exec (.wfi (.core n) ⟨0, 0, 0⟩) s = .next (coreDoes s n id) ∧
     (∀ ra : BitVec 5, exec (.tlbi (.core n) ⟨0, ra, 0⟩) s = .next (coreDoes
       { s with dev := s.dev.tlbi n (if ra = 0 then none else some (c.getX ra.toNat).toNat) } n id)) ∧
     (∀ rd : BitVec 5, c.level = 1 ∨ c.level = 3 → (if c.level = 3 then c.evqM else c.evqS) = [] →
       exec (.evclaimRead (.core n) rd) s = .next (coreDoes s n (fun c => c.setX rd.toNat 0))) ∧
     (∀ (rd : BitVec 5) (e : Nat) (r : List Nat), c.level = 1 ∨ c.level = 3 → (if c.level = 3 then c.evqM else c.evqS) = e :: r →
       ∃ t, exec (.evclaimRead (.core n) rd) s = .next t ∧ t.dev.bit (rCrownEvroute e) 30 = false ∧
         (∀ r, r ≠ rCrownEvroute e → t.dev.reg r = s.dev.reg r) ∧ t.dev.ms = s.dev.ms ∧
         t.dev.core n = { (if c.level = 3 then { c with evqM := r } else { c with evqS := r } : CoreSt).setX rd.toNat
           (BitVec.ofNat 64 (2 ^ 31 + e)) with pc := c.pc + 4, retired := c.retired + 1 }) ∧
     (∀ rd : BitVec 5, exec (.csrrs (.core n) ⟨0x010, 0, rd⟩) s =
       .next (coreDoes s n (fun c => c.setX rd.toNat (BitVec.ofNat 64 s.dev.time)))) ∧
     (∀ rd : BitVec 5, exec (.csrrs (.core n) ⟨0x102, 0, rd⟩) s =
       .next (coreDoes s n (fun c => c.setX rd.toNat (BitVec.ofNat 64 c.ipend)))) ∧
     (∀ rd : BitVec 5, exec (.timeloRead (.core n) rd) s = .next (coreTraps s n 1 0 0))) ∧
  (∀ (s : Machine.State) (n : Nat), CoreRuns s n 0 →
     let c := s.dev.core n
     let z : RF := ⟨0, 0, 0, 0⟩
     (c.nt = [] → s.dev.fabStores (· == .core n) = [] →
       exec (.sync (.core n) z) s = .next (coreDoes s n (fun c => { c with fence := [] })) ∧
       exec (.syncD (.core n) z) s = .next (coreDoes s n (fun c => { c with fence := [] })) ∧
       exec (.syncS (.core n) z) s = .next (coreDoes s n (fun c => { c with fence := [] }))) ∧
     exec (.syncL (.core n) z) s = .next (coreDoes s n id) ∧
     (∀ (f : CacheF) (pa a ctx : Nat) (na : Bool) (e : Dev) (i : Instr) (drop : Bool),
       (i, drop) ∈ [(Instr.cwb (.core n) f, false), (.cflush (.core n) f, false)] ∨ (i = .cinv (.core n) f ∧ drop = true ∧ 1 ≤ c.level) →
       s.dev.coreXlt n (c.getX f.ra.toNat + BitVec.ofInt 64 f.imm.toInt).toNat (.line drop) = (.ok (.hbm pa) a ctx na, e) → pa < 0x9000000000 →
       s.dev.verdict (.hbm pa) ctx drop = .pass →
       ∃ t, exec i s = .next t ∧ (t.dev.core n).pc = c.pc + 4 ∧ (t.dev.core n).x = c.x ∧
         (drop = false ∨ s.dev.ms.stale.find (pa / 128) = none → KeepsMemory s t (fun _ => False)) ∧
         KeepsMemory s t (fun b => b / 128 = pa / 128) ∧
         (i ≠ .cwb (.core n) f → ∀ k, (t.dev.cache k).lines.find (pa / 128) = none) ∧ t.dev.modified (pa / 128) = false) ∧
     (∀ f : CacheF, ∃ t, exec (.cpref (.core n) f) s = .next t ∧ KeepsMemory s t (fun _ => False) ∧
       t.dev.core n = { c with pc := c.pc + 4, retired := c.retired + 1 }) ∧
     (∀ (f : IF) (pa a ctx : Nat) (na : Bool) (e : Dev),
       let va := (c.getX f.ra.toNat + BitVec.ofInt 64 f.imm.toInt).toNat
       va % 8 = 0 → s.dev.coreXlt n va .write = (.ok (.hbm pa) a ctx na, e) → pa < 0x9000000000 → c.nt = [] →
       ∃ t, exec (.stn (.core n) f) s = .next t ∧ KeepsMemory s t (fun _ => False) ∧ (t.dev.core n).x = c.x ∧
         (t.dev.core n).pc = c.pc + 4 ∧ (t.dev.core n).nt = [NtEntry.put ⟨pa / 128, ctx, 0, 0⟩ (a % 128) (leBytes 8 (c.getX f.rd.toNat).toNat)]) ∧
     (∀ (f : RF) (pa a ctx : Nat) (na : Bool) (e : Dev), f.fn2.toNat < 8 → f.fn2.getLsbD 0 = false →
       let va := (c.getX f.ra.toNat).toNat
       va % 4 = 0 → s.dev.coreXlt n va .atomic = (.ok (.hbm pa) a ctx na, e) → pa < 0x9000000000 →
       s.dev.verdict (.hbm pa) ctx true = .pass → s.dev.badHome (.hbm pa) 4 = false → c.nt = [] → c.fence = [] →
       s.dev.fabStores (· == .core n) = [] →
       ∃ t, exec (.amoFadd (.core n) f) s = .next t ∧
         t.dev.ms.mem.readN pa 4 = leBytes 4 (f32.add .rne (f32.unpack (ofLe (s.dev.ms.mem.readN pa 4)))
           (f32.unpack ((c.getX f.rb.toNat).toNat % 2 ^ 32))).1 ∧
         KeepsMemory s t (fun b => pa ≤ b ∧ b < pa + 4)))

/-- R80, R87, R90, R91: results in f registers. `fbits` are the low 32 bits of an f register for binary32. -/
def Obligations.CoreFpResults : Prop :=
  ∀ (s : Machine.State) (n : Nat), CoreRuns s n 0 →
    let does := fun (rd : Nat) (r : CoreSt → Nat × FFlags) =>
      coreDoes s n (fun c => (c.setF rd (BitVec.ofNat 64 (r c).1)).addFlags (r c).2)
    (∀ p ∈ ([(.fadd, fun g m x y => g.add m (g.unpack x) (g.unpack y)), (.fsub, fun g m x y => g.sub m (g.unpack x) (g.unpack y)),
        (.fmul, fun g m x y => g.mul m (g.unpack x) (g.unpack y)), (.fdiv, fun g m x y => g.div m (g.unpack x) (g.unpack y)),
        (.fmin, fun g _ x y => g.minOp x y), (.fmax, fun g _ x y => g.maxOp x y), (.famax, fun g _ x y => g.amaxOp x y),
        (.fsgnj, fun g _ x y => (g.sgnj false false x y, 0)), (.fsgnjn, fun g _ x y => (g.sgnj true false x y, 0)),
        (.fsgnjx, fun g _ x y => (g.sgnj false true x y, 0))] :
        List ((Agent → RF → Instr) × (FFmt → RMode → Nat → Nat → Nat × FFlags))),
      ∀ (f : RF) (dbl : Bool) (m : RMode), f.fn2 = (if dbl then 1 else 0) → (s.dev.core n).rm = some m →
        exec (p.1 (.core n) f) s = .next (does f.rd.toNat (fun c => p.2 (fmtD dbl) m (c.fbits dbl f.ra.toNat) (c.fbits dbl f.rb.toNat)))) ∧
    (∀ (f : RF) (dbl : Bool) (m : RMode), f.fn2 = (if dbl then 1 else 0) → f.rb = 0 → (s.dev.core n).rm = some m →
      exec (.fsqrt (.core n) f) s = .next (does f.rd.toNat
        (fun c => (fmtD dbl).sqrt m ((fmtD dbl).unpack (c.fbits dbl f.ra.toNat))))) ∧
    (∀ p ∈ ([(.fmadd, false, false), (.fmsub, false, true), (.fnmadd, true, true), (.fnmsub, true, false)] :
        List ((Agent → R4F → Instr) × Bool × Bool)),
      ∀ (f : R4F) (dbl : Bool) (m : RMode), f.fnhi = (if dbl then 1 else 0) → (s.dev.core n).rm = some m →
        exec (p.1 (.core n) f) s = .next (does f.rd.toNat (fun c =>
          fmaOp p.2.1 p.2.2 (fmtD dbl) m (c.fbits dbl f.ra.toNat) (c.fbits dbl f.rb.toNat) (c.fbits dbl f.rc.toNat)))) ∧
    (∀ p ∈ ([(.fcvtSW, fun m c r => f32.ofInt m (BitVec.ofNat 32 (c.getX r).toNat).toInt),
        (.fcvtSWu, fun m c r => f32.ofInt m ((c.getX r).toNat % 2 ^ 32 : Nat)),
        (.fcvtDL, fun m c r => f64.ofInt m (c.getX r).toInt),
        (.fcvtSD, fun m c r => f32.convert m (f64.unpack (c.fbits true r))),
        (.fcvtDS, fun m c r => f64.convert m (f32.unpack (c.fbits false r)))] :
        List ((Agent → RF → Instr) × (RMode → CoreSt → Nat → Nat × FFlags))),
      ∀ (f : RF) (m : RMode), f.fn2 = 0 → f.rb = 0 → (s.dev.core n).rm = some m →
        exec (p.1 (.core n) f) s = .next (does f.rd.toNat (fun c => p.2 m c f.ra.toNat))) ∧
    (∀ f : RF, f.fn2.toNat < 2 → (s.dev.core n).rm = none → exec (.fadd (.core n) f) s = .next (coreTraps s n 1 0 0))

/-- R87, R90, R91: results in x registers, and FMV.FX. That a 32-bit conversion result is sign-extended is the model's reading
(notes/assumptions/23.md). R90, R91: the special values. -/
def Obligations.CoreFpToIntegerAndSpecialValues : Prop :=
  (∀ (s : Machine.State) (n : Nat) (f : RF) (m : RMode), CoreRuns s n 0 → (s.dev.core n).rm = some m →
     (∀ p ∈ ([(.feq, fun g x y => b01 (g.feq x y)), (.flt, fun g x y => b01 (g.flt x y)), (.fle, fun g x y => b01 (g.fle x y))] :
         List ((Agent → RF → Instr) × (FFmt → Nat → Nat → Nat × FFlags))),
       ∀ dbl : Bool, f.fn2 = (if dbl then 1 else 0) →
         exec (p.1 (.core n) f) s = .next (coreDoes s n (fun c =>
           let r := p.2 (fmtD dbl) (c.fbits dbl f.ra.toNat) (c.fbits dbl f.rb.toNat)
           (c.setX f.rd.toNat (BitVec.ofNat 64 r.1)).addFlags r.2))) ∧
     (∀ dbl : Bool, f.fn2 = (if dbl then 1 else 0) → f.rb = 0 →
       exec (.fclass (.core n) f) s = .next (coreDoes s n (fun c =>
         (c.setX f.rd.toNat (BitVec.ofNat 64 ((fmtD dbl).fclass (c.fbits dbl f.ra.toNat)))).addFlags 0)) ∧
       exec (.fmvXf (.core n) f) s = .next (coreDoes s n (fun c => c.setX f.rd.toNat
         (BitVec.ofNat 64 ((c.getF f.ra.toNat).toNat % 2 ^ (if dbl then 64 else 32))))) ∧
       exec (.fmvFx (.core n) f) s = .next (coreDoes s n (fun c => c.setF f.rd.toNat
         (BitVec.ofNat 64 ((c.getX f.ra.toNat).toNat % 2 ^ (if dbl then 64 else 32)))))) ∧
     (∀ p ∈ ([(.fcvtWS, false, 32, -(2 ^ 31), 2 ^ 31 - 1), (.fcvtWuS, false, 32, 0, 2 ^ 32 - 1), (.fcvtLD, true, 64, -(2 ^ 63), 2 ^ 63 - 1)] :
         List ((Agent → RF → Instr) × Bool × Nat × Int × Int)),
       f.fn2 = 0 → f.rb = 0 →
         exec (p.1 (.core n) f) s = .next (coreDoes s n (fun c =>
           let r := ((fmtD p.2.1).unpack (c.fbits p.2.1 f.ra.toNat)).toIntSat .rtz p.2.2.2.1 p.2.2.2.2
           (c.setX f.rd.toNat (BitVec.ofInt 64 (BitVec.ofInt p.2.2.1 r.1).toInt)).addFlags r.2)))) ∧
  (f32.nanBits = 0x7FC00000 ∧ f64.nanBits = 0x7FF8000000000000 ∧
   (∀ g ∈ [f32, f64], ∀ (m : RMode) (a b : FVal), a.isNaN = true ∨ b.isNaN = true →
     (g.add m a b).1 = g.nanBits ∧ (g.sub m a b).1 = g.nanBits ∧ (g.mul m a b).1 = g.nanBits ∧ (g.div m a b).1 = g.nanBits ∧
     (a.isNaN = true → (g.sqrt m a).1 = g.nanBits ∧ (g.convert m a).1 = g.nanBits) ∧
     ∀ c : FVal, (g.fma m a b c).1 = g.nanBits ∧ (g.fma m c a b).1 = g.nanBits) ∧
   (∀ g ∈ [f32, f64], ∀ x y : Nat,
     ((g.unpack x).isNaN = true → (g.unpack y).isNaN = false → (g.minOp x y).1 = y ∧ (g.maxOp x y).1 = y ∧ (g.minOp y x).1 = y ∧ (g.maxOp y x).1 = y) ∧
     ((g.unpack x).isNaN = true → (g.unpack y).isNaN = true → (g.minOp x y).1 = g.nanBits ∧ (g.maxOp x y).1 = g.nanBits) ∧
     ((g.unpack x).isNaN = true ∨ (g.unpack y).isNaN = true → (g.amaxOp x y).1 = g.nanBits) ∧
     (∃ i < 10, g.fclass x = 2 ^ i)) ∧
   (∀ (a : FVal) (m : RMode) (lo hi : Int), lo ≤ 0 → 0 ≤ hi →
     lo ≤ (a.toIntSat m lo hi).1 ∧ (a.toIntSat m lo hi).1 ≤ hi ∧
     (a.isNaN = true → a.toIntSat m lo hi = (0, fINV)) ∧
     (∀ s e k, a = .fin s k e → ((toIntRound m s k e).1 < lo → a.toIntSat m lo hi = (lo, fINV)) ∧
       (hi < (toIntRound m s k e).1 → a.toIntSat m lo hi = (hi, fINV))) ∧
     (∀ s, a = .inf s → a.toIntSat m lo hi = (if s then lo else hi, fINV))))

/-- R94: LB to LWU, LD and LWU of a core, with the translation R257 gives. `e` is the part with the translation cached (R192). R94: SB, SH, SW and SD of a core. The data register is the RD field (R85). -/
def Obligations.CoreLoadsAndStores : Prop :=
  (∀ p ∈ ([(.lb, 1, true), (.lh, 2, true), (.lw, 4, true), (.ld, 8, true), (.lbu, 1, false), (.lhu, 2, false), (.lwu, 4, false)] :
        List ((Agent → IF → Instr) × Nat × Bool)),
      ∀ (s : Machine.State) (n : Nat) (f : IF) (pa a ctx : Nat) (na : Bool) (e : Dev), CoreRuns s n 0 →
        let c := s.dev.core n
        let va := (c.getX f.ra.toNat + BitVec.ofInt 64 f.imm.toInt).toNat
        let size := p.2.1
        va % size = 0 → s.dev.coreXlt n va .read = (.ok (.hbm pa) a ctx na, e) → pa < 0x9000000000 →
        s.dev.verdict (.hbm pa) ctx false = .pass → s.dev.badHome (.hbm pa) size = false → c.nt.all (fun x => x.line != pa / 128) = true →
        ∃ t, exec (p.1 (.core n) f) s = .next t ∧
          t.dev.core n = { (c.setX f.rd.toNat (let v := ofLe (s.dev.ms.mem.readN pa size)
            if p.2.2 then BitVec.ofInt 64 (toSigned (8 * size) v) else BitVec.ofNat 64 v)) with pc := c.pc + 4, retired := c.retired + 1 } ∧
          KeepsMemory s t (fun _ => False) ∧ t.pending = s.pending) ∧
  (∀ p ∈ ([(.sb, 1), (.sh, 2), (.sw, 4), (.sd, 8)] : List ((Agent → IF → Instr) × Nat)),
      ∀ (s : Machine.State) (n : Nat) (f : IF) (pa a ctx : Nat) (na : Bool) (e : Dev), CoreRuns s n 0 →
        let c := s.dev.core n
        let va := (c.getX f.ra.toNat + BitVec.ofInt 64 f.imm.toInt).toNat
        let size := p.2
        va % size = 0 → s.dev.coreXlt n va .write = (.ok (.hbm pa) a ctx na, e) → pa < 0x9000000000 →
        s.dev.verdict (.hbm pa) ctx true = .pass → c.nt.all (fun x => x.line != pa / 128) = true → c.fence = [] →
        ∃ t, exec (p.1 (.core n) f) s = .next t ∧
          t.dev.ms.mem.readN pa size = leBytes size (c.getX f.rd.toNat).toNat ∧
          KeepsMemory s t (fun b => pa ≤ b ∧ b < pa + size) ∧ (Memory.wf s.dev.ms.mem = true → Memory.wf t.dev.ms.mem = true) ∧
          (t.dev.core n).x = c.x ∧ (t.dev.core n).f = c.f ∧ (t.dev.core n).csr = c.csr ∧ (t.dev.core n).level = c.level ∧
          (t.dev.core n).pc = c.pc + 4 ∧ (t.dev.core n).retired = c.retired + 1 ∧ t.pending = s.pending)

/-- R95, R98: the atomic functions. The 32-bit value returned is sign-extended. R95, R99: load-reserve and store-conditional of a core. -/
def Obligations.CoreAtomicsAndReservations : Prop :=
  (∀ p ∈ ([(.amoSwap, fun _ _ b _ => some b), (.amoAdd, fun w o b _ => some ((o + b) % 2 ^ (8 * w))), (.amoAnd, fun _ o b _ => some (o &&& b)),
       (.amoOr, fun _ o b _ => some (o ||| b)), (.amoXor, fun _ o b _ => some (o ^^^ b)),
       (.amoMin, fun w o b _ => some (if toSigned (8 * w) o ≤ toSigned (8 * w) b then o else b)),
       (.amoMax, fun w o b _ => some (if toSigned (8 * w) b ≤ toSigned (8 * w) o then o else b)),
       (.amoMinu, fun _ o b _ => some (min o b)), (.amoMaxu, fun _ o b _ => some (max o b)),
       (.amoCas, fun _ o b r => if o = r then some b else none)] :
       List ((Agent → RF → Instr) × (Nat → Nat → Nat → Nat → Option Nat))),
     ∀ (s : Machine.State) (n : Nat) (f : RF), CoreRuns s n 0 → f.fn2.toNat < 8 →
       let c := s.dev.core n
       let va := (c.getX f.ra.toNat).toNat
       let w := if f.fn2.getLsbD 0 then 8 else 4
       (va % w ≠ 0 → exec (p.1 (.core n) f) s = .next (coreTraps s n 8 va 0)) ∧
       (∀ (pa a ctx : Nat) (na : Bool) (e : Dev), va % w = 0 → s.dev.coreXlt n va .atomic = (.ok (.hbm pa) a ctx na, e) → pa < 0x9000000000 →
         s.dev.verdict (.hbm pa) ctx true = .pass → s.dev.badHome (.hbm pa) w = false → c.nt = [] → c.fence = [] →
         s.dev.fabStores (· == .core n) = [] →
         let old := ofLe (s.dev.ms.mem.readN pa w)
         let new := p.2 w old ((c.getX f.rb.toNat).toNat % 2 ^ (8 * w)) ((c.getX f.rd.toNat).toNat % 2 ^ (8 * w))
         ∃ t, exec (p.1 (.core n) f) s = .next t ∧
           t.dev.ms.mem.readN pa w = leBytes w (new.getD old) ∧ KeepsMemory s t (fun b => pa ≤ b ∧ b < pa + w) ∧
           (t.dev.core n).x = (c.setX f.rd.toNat (BitVec.ofInt 64 (toSigned (8 * w) old))).x ∧
           (t.dev.core n).f = c.f ∧ (t.dev.core n).csr = c.csr ∧ (t.dev.core n).level = c.level ∧ (t.dev.core n).pc = c.pc + 4)) ∧
  (∀ (s : Machine.State) (n : Nat) (f : RF), CoreRuns s n 0 → f.fn2.toNat < 8 →
     let c := s.dev.core n
     let va := (c.getX f.ra.toNat).toNat
     let w := if f.fn2.getLsbD 0 then 8 else 4
     (va % w ≠ 0 → exec (.stc (.core n) f) s = .next (coreTraps s n 9 va 0) ∧
       (f.rb = 0 → exec (.ldl (.core n) f) s = .next (coreTraps s n 8 va 0))) ∧
     (∀ (pa a ctx : Nat) (na : Bool) (e : Dev), va % w = 0 → pa < 0x9000000000 → c.nt = [] → c.fence = [] →
       s.dev.fabStores (· == .core n) = [] →
       (f.rb = 0 → s.dev.coreXlt n va .read = (.ok (.hbm pa) a ctx na, e) → s.dev.verdict (.hbm pa) ctx false = .pass →
         s.dev.badHome (.hbm pa) w = false →
         ∃ t, exec (.ldl (.core n) f) s = .next t ∧ (t.dev.core n).resv = some ⟨pa, w⟩ ∧ KeepsMemory s t (fun _ => False) ∧
           (t.dev.core n).x = (c.setX f.rd.toNat (BitVec.ofInt 64 (toSigned (8 * w) (ofLe (s.dev.ms.mem.readN pa w))))).x ∧
           (t.dev.core n).pc = c.pc + 4) ∧
       (s.dev.coreXlt n va .write = (.ok (.hbm pa) a ctx na, e) → s.dev.verdict (.hbm pa) ctx true = .pass →
         ∃ t, exec (.stc (.core n) f) s = .next t ∧ (t.dev.core n).resv = none ∧ (t.dev.core n).pc = c.pc + 4 ∧
           (c.resv = some ⟨pa, w⟩ → t.dev.ms.mem.readN pa w = leBytes w (c.getX f.rb.toNat).toNat ∧
             KeepsMemory s t (fun b => pa ≤ b ∧ b < pa + w) ∧ (t.dev.core n).x = (c.setX f.rd.toNat 0).x) ∧
           (c.resv ≠ some ⟨pa, w⟩ → KeepsMemory s t (fun _ => False) ∧ (t.dev.core n).x = (c.setX f.rd.toNat 1).x))))

/-- R81, R87, R88 at width 32. `putV` writes the active lanes and discards a write of v0. R81: what the register and predicate writes of the lane statements change. R85, R86 in a sheaf. JALR's target is read by inference (notes/assumptions/22.md). -/
def Obligations.LaneIntegersAndImmediates : Prop :=
  ((∀ p ∈ ([(.add, .add), (.sub, .sub), (.and, .and), (.or, .or), (.xor, .xor), (.andn, .andn), (.sll, .sll), (.srl, .srl), (.sra, .sra),
         (.ror, .ror), (.slt, .slt), (.sltu, .sltu), (.min, .min), (.max, .max), (.minu, .minu), (.maxu, .maxu), (.mul, .mul),
         (.mulh, .mulh), (.mulhu, .mulhu), (.mulhsu, .mulhsu), (.div, .div), (.divu, .divu), (.rem, .rem), (.remu, .remu),
         (.clz, .clz), (.ctz, .ctz), (.popc, .popc)] : List ((Agent → RF → Instr) × AluOp)),
       ∀ (s : Machine.State) (t c r k : Nat) (f : RF), SheafRuns s t c r k → f.fn2 = 0 → (p.2 ∈ [AluOp.clz, .ctz, .popc] → f.rb = 0) →
         exec (p.1 (.sheaf t c r k) f) s = .next (sheafDoes s (sheafKey t c r k) (fun x =>
           x.putV f.rd.toNat (fun l => intMath p.2 32 (x.getV f.ra.toNat l) (x.getV f.rb.toNat l))))) ∧
   (∀ (x : Sheaf) (r : Nat) (v : Nat → BitVec 32) (l : Nat), l < 256 →
       (r ≠ 0 → x.on l = true → (x.putV r v).getV r l = v l) ∧
       (x.on l = false → (x.putV r v).getV r l = x.getV r l) ∧
       (∀ r', r' ≠ r → (x.putV r v).getV r' l = x.getV r' l) ∧
       (x.putV r v).p = x.p ∧ (x.putV r v).mask = x.mask ∧ (x.putV r v).pc = x.pc ∧ (x.putV r v).stack = x.stack ∧ (x.putV r v).lflags = x.lflags ∧
       (∀ (p : Nat) (b : Nat → Bool), (x.putP p b).getP p l = (if x.on l then b l else x.getP p l) ∧
         (∀ q, q ≠ p → (x.putP p b).getP q l = x.getP q l) ∧ (x.putP p b).v = x.v ∧ (x.putP p b).mask = x.mask))) ∧
  (∀ (s : Machine.State) (t c r k : Nat), SheafRuns s t c r k →
     let a : Agent := .sheaf t c r k
     let q := sheafKey t c r k
     let pc := (s.dev.sheaf q).pc
     (∀ p ∈ ([(.addi, .add, true), (.andi, .and, false), (.ori, .or, false), (.xori, .xor, false), (.slti, .slt, true), (.sltiu, .sltu, true)] :
         List ((Agent → IF → Instr) × AluOp × Bool)), ∀ f : IF,
       exec (p.1 a f) s = .next (sheafDoes s q (fun x => x.putV f.rd.toNat (fun l => intMath p.2.1 32 (x.getV f.ra.toNat l)
         (if p.2.2 then BitVec.ofInt 32 f.imm.toInt else BitVec.ofNat 32 f.imm.toNat))))) ∧
     (∀ f : UF, exec (.lui a f) s = .next (sheafDoes s q (fun x => x.putV f.rd.toNat (fun _ => BitVec.ofInt 32 (f.imm.toInt * 2048)))) ∧
       exec (.auipc a f) s = .next (sheafDoes s q (fun x => x.putV f.rd.toNat (fun _ => BitVec.ofInt 32 (x.pc.toNat + f.imm.toInt * 2048))))) ∧
     (∀ (f : IF) (amount kind : Nat) (op : AluOp), amount < 32 → (kind, op) ∈ [(0, AluOp.sll), (1, .srl), (2, .sra), (3, .ror)] →
       f.imm.toNat = amount + 64 * kind →
       exec (.shi a f) s = .next (sheafDoes s q (fun x => x.putV f.rd.toNat (fun l => intMath op 32 (x.getV f.ra.toNat l) (BitVec.ofNat 32 amount))))) ∧
     (∀ f : JF, exec (.jal a f) s = .next (sheafJumps s q (pc + BitVec.ofInt 64 (f.off.toInt * 4))
       (fun x => x.putV 1 (fun _ => BitVec.ofNat 32 (x.pc.toNat + 4))))) ∧
     (∀ (f : IF) (l : Nat), (s.dev.sheaf q).first = some l →
       exec (.jalr a f) s = .next (sheafJumps s q (BitVec.ofNat 64 (pc.toNat / 2 ^ 32 * 2 ^ 32 +
           ((s.dev.sheaf q).getV f.ra.toNat l + BitVec.ofInt 32 f.imm.toInt).toNat))
         (fun x => x.putV f.rd.toNat (fun _ => BitVec.ofNat 32 (x.pc.toNat + 4))))))

/-- R89, whole. -/
def Obligations.LaneCarryAndSelect : Prop :=
  ∀ (s : Machine.State) (t c r k : Nat) (f : RF), SheafRuns s t c r k → f.fn2.toNat < 8 →
    let p := f.fn2.toNat
    let one := fun (b : Bool) => if b then 1 else 0
    exec (.addc (.sheaf t c r k) f) s = .next (sheafDoes s (sheafKey t c r k) (fun x =>
      let sum := fun l => (x.getV f.ra.toNat l).toNat + (x.getV f.rb.toNat l).toNat + one (x.getP p l)
      (x.putV f.rd.toNat (fun l => BitVec.ofNat 32 (sum l))).putP p (fun l => decide (2 ^ 32 ≤ sum l)))) ∧
    exec (.subc (.sheaf t c r k) f) s = .next (sheafDoes s (sheafKey t c r k) (fun x =>
      let diff := fun l => ((x.getV f.ra.toNat l).toNat : Int) - (x.getV f.rb.toNat l).toNat - (one (x.getP p l) : Nat)
      (x.putV f.rd.toNat (fun l => BitVec.ofInt 32 (diff l))).putP p (fun l => decide (diff l < 0)))) ∧
    exec (.sel (.sheaf t c r k) f) s = .next (sheafDoes s (sheafKey t c r k) (fun x =>
      x.putV f.rd.toNat (fun l => if x.getP p l then x.getV f.ra.toNat l else x.getV f.rb.toNat l))) ∧
    (∀ (x : Sheaf) (b : Nat → Bool) (l : Nat), l < 256 → x.on l = false → (x.putP p b).getP p l = x.getP p l)

/-- R87: predicates. R86: branches of a sheaf on a predicate. R84: the mask instructions. -/
def Obligations.LanePredicatesAndMasks : Prop :=
  (∀ (s : Machine.State) (t c r k : Nat) (f : RF), SheafRuns s t c r k → f.fn2 = 0 →
     let a : Agent := .sheaf t c r k
     let q := sheafKey t c r k
     let sets := fun (g : Sheaf → Nat → Bool) => sheafDoes s q (fun x => x.putP f.rd.toNat (g x))
     (f.rd.toNat < 8 → f.ra.toNat < 8 → f.rb.toNat < 8 →
       exec (.pand a f) s = .next (sets (fun x l => x.getP f.ra.toNat l && x.getP f.rb.toNat l)) ∧
       exec (.por a f) s = .next (sets (fun x l => x.getP f.ra.toNat l || x.getP f.rb.toNat l)) ∧
       exec (.pxor a f) s = .next (sets (fun x l => x.getP f.ra.toNat l != x.getP f.rb.toNat l)) ∧
       (f.rb = 0 → exec (.pnot a f) s = .next (sets (fun x l => !x.getP f.ra.toNat l)))) ∧
     (f.rd.toNat < 8 → f.rb = 0 → exec (.psetnz a f) s = .next (sets (fun x l => decide (x.getV f.ra.toNat l ≠ 0)))) ∧
     (f.rb = 0 → f.ra = 0 → exec (.pmov a f) s = .next (sheafDoes s q (fun x => x.putV f.rd.toNat (fun l =>
       BitVec.ofNat 32 ((List.range 8).map (fun i => if x.getP i l then 2 ^ i else 0)).sum)))) ∧
     (f.rb = 0 → f.rd = 0 → exec (.pload a f) s = .next (sheafDoes s q (fun x =>
       (List.range 8).foldl (fun y i => y.putP i (fun l => (x.getV f.ra.toNat l).getLsbD i)) x))) ∧
     (f.rd.toNat < 8 → ∀ p ∈ ([(.pcmpEq, fun x y => (decide (x = y), 0)), (.pcmpNe, fun x y => (decide (x ≠ y), 0)),
         (.pcmpLt, fun x y => (decide (x.toInt < y.toInt), 0)), (.pcmpGe, fun x y => (decide (y.toInt ≤ x.toInt), 0)),
         (.pcmpLtu, fun x y => (decide (x.toNat < y.toNat), 0)), (.pcmpGeu, fun x y => (decide (y.toNat ≤ x.toNat), 0)),
         (.pfcmpEq, fun x y => f32.feq x.toNat y.toNat), (.pfcmpLt, fun x y => f32.flt x.toNat y.toNat),
         (.pfcmpLe, fun x y => f32.fle x.toNat y.toNat),
         (.pfcmpUn, fun x y => ((f32.unpack x.toNat).isNaN || (f32.unpack y.toNat).isNaN, sNaNFlag (f32.unpack x.toNat) ||| sNaNFlag (f32.unpack y.toNat)))] :
         List ((Agent → RF → Instr) × (BitVec 32 → BitVec 32 → Bool × FFlags))),
       exec (p.1 a f) s = .next (sheafDoes s q (fun x =>
         (x.putP f.rd.toNat (fun l => (p.2 (x.getV f.ra.toNat l) (x.getV f.rb.toNat l)).1)).addFlags
           (fun l => (p.2 (x.getV f.ra.toNat l) (x.getV f.rb.toNat l)).2))))) ∧
  ((∀ (s : Machine.State) (t c r k : Nat) (f : BF), SheafRuns s t c r k →
       let q := sheafKey t c r k
       let x := s.dev.sheaf q
       (f.ra.toNat < 8 → f.rb = 0 →
         let go := sheafJumps s q (x.pc + BitVec.ofInt 64 (f.off.toInt * 4)) id
         let stay := sheafDoes s q id
         ((∃ l < 256, x.on l = true ∧ x.getP f.ra.toNat l = true) →
           exec (.bany (.sheaf t c r k) f) s = .next go ∧ exec (.bnone (.sheaf t c r k) f) s = .next stay) ∧
         ((∀ l < 256, x.on l = true → x.getP f.ra.toNat l = false) →
           exec (.bany (.sheaf t c r k) f) s = .next stay ∧ exec (.bnone (.sheaf t c r k) f) s = .next go)) ∧
       (∀ l, x.first = some l → 8 ≤ f.ra.toNat ∨ f.rb ≠ 0 →
         exec (.bany (.sheaf t c r k) f) s = .next { s with dev := s.dev.laneException q 1 .illegalInstruction l (wordNat (.bany (.sheaf t c r k) f)) } ∧
         exec (.bnone (.sheaf t c r k) f) s = .next { s with dev := s.dev.laneException q 1 .illegalInstruction l (wordNat (.bnone (.sheaf t c r k) f)) })) ∧
   (∀ (s : Machine.State) (t c r k : Nat) (ra : BitVec 5), SheafRuns s t c r k → ra.toNat < 8 →
       let a : Agent := .sheaf t c r k
       let q := sheafKey t c r k
       let x := s.dev.sheaf q
       let f : RF := ⟨0, 0, ra, 0⟩
       let z : RF := ⟨0, 0, 0, 0⟩
       (x.stack.length < 16 → exec (.mpush a f) s = .next (sheafDoes s q (fun x =>
         { x with stack := x.mask :: x.stack, mask := x.mask &&& x.p.get 0 ra.toNat }))) ∧
       (∀ m rest, x.stack = m :: rest →
         exec (.melse a f) s = .next (sheafDoes s q (fun x => { x with mask := m &&& ~~~(x.p.get 0 ra.toNat) })) ∧
         exec (.mpop a z) s = .next (sheafDoes s q (fun x => { x with mask := m, stack := rest }))) ∧
       (∀ l, x.first = some l →
         let ill := fun i => ({ s with dev := s.dev.laneException q 3 .illegalInstruction l (wordNat i) } : Machine.State)
         (16 ≤ x.stack.length → exec (.mpush a f) s = .next (ill (.mpush a f))) ∧
         (x.stack = [] → exec (.melse a f) s = .next (ill (.melse a f)) ∧ exec (.mpop a z) s = .next (ill (.mpop a z))))))

/-- R87, R90 to R93, R121 in a sheaf. -/
def Obligations.LaneFloatResults : Prop :=
  ∀ (s : Machine.State) (t c r k : Nat) (f : RF), SheafRuns s t c r k →
    let a : Agent := .sheaf t c r k
    let q := sheafKey t c r k
    let puts := fun (g : Sheaf → Nat → BitVec 32 × FFlags) =>
      sheafDoes s q (fun x => (x.putV f.rd.toNat (fun l => (g x l).1)).addFlags (fun l => (g x l).2))
    let bits := fun (v : Nat × FFlags) => (BitVec.ofNat 32 v.1, v.2)
    (∀ p ∈ ([(.fadd, fun x y => f32.add .rne (f32.unpack x) (f32.unpack y)), (.fsub, fun x y => f32.sub .rne (f32.unpack x) (f32.unpack y)),
        (.fmul, fun x y => f32.mul .rne (f32.unpack x) (f32.unpack y)), (.fmin, f32.minOp), (.fmax, f32.maxOp), (.famax, f32.amaxOp),
        (.fsgnj, fun x y => (f32.sgnj false false x y, 0)), (.fsgnjn, fun x y => (f32.sgnj true false x y, 0)),
        (.fsgnjx, fun x y => (f32.sgnj false true x y, 0)), (.feq, fun x y => b01 (f32.feq x y)), (.flt, fun x y => b01 (f32.flt x y)),
        (.fle, fun x y => b01 (f32.fle x y))] : List ((Agent → RF → Instr) × (Nat → Nat → Nat × FFlags))),
      f.fn2 = 0 → exec (p.1 a f) s = .next (puts (fun x l => bits (p.2 (x.getV f.ra.toNat l).toNat (x.getV f.rb.toNat l).toNat)))) ∧
    (f.fn2 = 0 → f.rb = 0 → ∀ p ∈ ([(.fclass, fun x => bits (f32.fclass x.toNat, 0)),
        (.fcvtSW, fun x => bits (f32.ofInt .rne x.toInt)), (.fcvtSWu, fun x => bits (f32.ofInt .rne x.toNat)),
        (.fcvtWS, fun x => let v := (f32.unpack x.toNat).toIntSat .rtz (-(2 ^ 31)) (2 ^ 31 - 1); (BitVec.ofInt 32 v.1, v.2)),
        (.fcvtWuS, fun x => let v := (f32.unpack x.toNat).toIntSat .rtz 0 (2 ^ 32 - 1); (BitVec.ofInt 32 v.1, v.2)),
        (.sfuExp2, sfuEval .exp2), (.sfuLog2, sfuEval .log2), (.sfuRcp, sfuEval .rcp), (.sfuRsq, sfuEval .rsq), (.sfuTanh, sfuEval .tanh),
        (.sfuSig, sfuEval .sig)] : List ((Agent → RF → Instr) × (BitVec 32 → BitVec 32 × FFlags))),
      exec (p.1 a f) s = .next (puts (fun x l => p.2 (x.getV f.ra.toNat l)))) ∧
    (∀ (p : BitVec 2), npackPosOk (f.fn2.toNat % 16) p.toNat = true →
      exec (.npack a p f) s = .next (puts (fun x l => npack (f.fn2.toNat % 16) (f.fn2.getLsbD 4) p.toNat
        (x.getV f.ra.toNat l) (x.getV f.rb.toNat l) (x.getV f.rd.toNat l)))) ∧
    (f.fn2.toNat ≤ 8 → exec (.nunpk a f) s = .next (sheafDoes s q (fun x => x.putV f.rd.toNat (fun l =>
      nunpk f.fn2.toNat (x.getV f.ra.toNat l) (x.getV f.rb.toNat l))))) ∧
    (f.rb = 0 → f.fn2.toNat < 16 → (qscaleEmax f.fn2.toNat).isSome = true →
      exec (.qscaleMx a f) s = .next (puts (fun x l => (qscaleMx f.fn2.toNat (x.getV f.ra.toNat l), 0)))) ∧
    (f.rb = 0 → f.fn2.toNat < 16 → qscaleF16Ok f.fn2.toNat = true →
      exec (.qscaleF16 a f) s = .next (puts (fun x l => (qscaleF16 f.fn2.toNat (x.getV f.ra.toNat l), 0)))) ∧
    (f.rb = 0 → f.fn2.toNat < 2 → exec (.qinv a f) s = .next (puts (fun x l => qinv (decide (f.fn2 = 1)) (x.getV f.ra.toNat l)))) ∧
    (∀ p ∈ ([(.fmadd, false, false), (.fmsub, false, true), (.fnmadd, true, true), (.fnmsub, true, false)] :
        List ((Agent → R4F → Instr) × Bool × Bool)), ∀ g : R4F, g.fnhi = 0 → g.rd = f.rd →
      exec (p.1 a g) s = .next (puts (fun x l => bits (fmaOp p.2.1 p.2.2 f32 .rne (x.getV g.ra.toNat l).toNat
        (x.getV g.rb.toNat l).toNat (x.getV g.rc.toNat l).toNat))))

/-- R122, R373 to R375: the generator of the lanes. R102 to R104, R115: lane control. -/
def Obligations.LaneGeneratorAndControl : Prop :=
  ((∀ (v : BitVec 128), lcgStep v = BitVec.ofNat 128 (0x9E6C63D0676A9A99D1B7C5E34F0A2B65 * v.toNat + 0x1B03738712FAD5C9A3E40F8D6B217C4F)) ∧
   (∀ (n v : BitVec 128), lcgSkip n v = iter n.toNat lcgStep v) ∧
   ∀ (s : Machine.State) (t c r k : Nat) (rd : BitVec 5), SheafRuns s t c r k →
     let a : Agent := .sheaf t c r k
     let q := sheafKey t c r k
     let z : RF := ⟨0, 0, 0, rd⟩
     let out := fun (x : Sheaf) (l : Nat) => lcgOut (lcgStep (x.rngOf l))
     let step := fun (x : Sheaf) (l : Nat) => lcgStep (x.rngOf l)
     (0 < rd.toNat → rd.toNat ≤ 30 → exec (.rngNext a z) s = .next (sheafDoes s q (fun x =>
       ((x.putV rd.toNat (fun l => BitVec.ofNat 32 (out x l).toNat)).putV (rd.toNat + 1) (fun l => BitVec.ofNat 32 ((out x l).toNat / 2 ^ 32))).putRng (step x)))) ∧
     exec (.rngU32 a z) s = .next (sheafDoes s q (fun x => (x.putV rd.toNat (fun l => BitVec.ofNat 32 ((out x l).toNat / 2 ^ 32))).putRng (step x))) ∧
     exec (.rngUf a z) s = .next (sheafDoes s q (fun x =>
       (x.putV rd.toNat (fun l => BitVec.ofNat 32 (f32.round .rne false ((out x l).toNat / 2 ^ 40) (-24)).1)).putRng (step x))) ∧
     (∀ ra : BitVec 5, exec (.rngSkip a ⟨0, 0, ra, 0⟩) s = .next (sheafDoes s q (fun x =>
       x.putRng (fun l => iter (x.getV ra.toNat l).toNat lcgStep (x.rngOf l))))) ∧
     (∀ ra rb : BitVec 5, 0 < ra.toNat → ra.toNat ≤ 30 → 0 < rb.toNat → rb.toNat ≤ 30 →
       exec (.rngKey a ⟨0, rb, ra, 0⟩) s = .next (sheafDoes s q (fun x =>
         x.putRng (fun l => lcgKey (BitVec.ofNat 64 (x.getPair ra.toNat l)) (x.getPair rb.toNat l))))) ∧
     (∀ ra : BitVec 5, 0 < ra.toNat → ra.toNat ≤ 28 → exec (.rngLoad a ⟨0, 0, ra, 0⟩) s = .next (sheafDoes s q (fun x =>
       x.putRng (fun l => BitVec.ofNat 128 (x.getPair ra.toNat l + 2 ^ 64 * x.getPair (ra.toNat + 2) l))))) ∧
     (0 < rd.toNat → rd.toNat ≤ 28 → exec (.rngSave a z) s = .next (sheafDoes s q (fun x =>
       (List.range 4).foldl (fun y i => y.putV (rd.toNat + i) (fun l => BitVec.ofNat 32 ((x.rngOf l).toNat / 2 ^ (32 * i)))) x))) ∧
     (∀ (x : Sheaf) (g : Nat → BitVec 128) (l : Nat), l < 256 → (x.putRng g).rngOf l = if x.on l then g l else x.rngOf l)) ∧
  (∀ (s : Machine.State) (t c r k : Nat), SheafRuns s t c r k →
     let a : Agent := .sheaf t c r k
     let q := sheafKey t c r k
     let x := s.dev.sheaf q
     (∀ f : RF, f.fn2 = 0 → exec (.lshfl a f) s = .next (sheafDoes s q (fun x => x.putV f.rd.toNat (fun l =>
       x.getV f.ra.toNat (l / 16 * 16 + (x.getV f.rb.toNat l).toNat % 16))))) ∧
     exec (.sbar a ⟨0, 0, 0, 0⟩) s = .next { s with dev := s.dev.setSheaf q (fun x => { x with bar := true }) } ∧
     (∀ l, x.first = some l →
       exec (.ebreak a ⟨0, 0, 0⟩) s = .next { s with dev := s.dev.laneException q 0x30 .laneTrap l (wordNat (.ebreak a ⟨0, 0, 0⟩)) } ∧
       (∀ f : SysF, f.csr.toNat ≠ 0x20 → exec (.csrrw a f) s =
         .next { s with dev := s.dev.laneException q 4 .illegalInstruction l (wordNat (.csrrw a f)) }) ∧
       (∀ rd : BitVec 5, exec (.csrrs a ⟨0, 0, rd⟩) s = .next (sheafDoes s q (fun x => x.putV rd.toNat (fun l => BitVec.ofNat 32 l))) ∧
         exec (.csrrs a ⟨1, 0, rd⟩) s = .next (sheafDoes s q (fun x => x.putV rd.toNat (fun _ => BitVec.ofNat 32 r))) ∧
         exec (.csrrc a ⟨2, 0, rd⟩) s = .next (sheafDoes s q (fun x => x.putV rd.toNat (fun _ => BitVec.ofNat 32 c))) ∧
         exec (.csrrc a ⟨3, 0, rd⟩) s = .next (sheafDoes s q (fun x => x.putV rd.toNat (fun _ => BitVec.ofNat 32 t))) ∧
         exec (.csrrs a ⟨4, 0, rd⟩) s = .next (sheafDoes s q (fun x => x.putV rd.toNat (fun _ => BitVec.ofNat 32 k)))) ∧
       (∀ rd : BitVec 5, ∃ t', exec (.timeloRead a rd) s = .next t' ∧ t'.pending = s.pending ∧
         ∀ j < 256, x.on j = true → (rd ≠ 0 → (t'.dev.sheaf q).getV rd.toNat j = BitVec.ofNat 32 s.dev.time) ∧
           lane 0 (t'.dev.sheaf q).timeHi j = BitVec.ofNat 32 (s.dev.time / 2 ^ 32)) ∧
       (∀ f : SysF, f.csr = 0x20 → ∃ t', exec (.csrrw a f) s = .next t' ∧ ∀ j < 256,
         (t'.dev.sheaf q).getL j = (if x.on j then BitVec.ofNat 5 (x.getV f.ra.toNat j).toNat else x.getL j))) ∧
     exec (.halt a ⟨0, 0, 0⟩) s = .next { s with dev :=
       (s.dev.setSheaf q (fun x => { x with st := SheafRun.halted, pc := x.pc + 4 })).setRow (keyRow q) (fun y => y.discardChunks k) } ∧
     (∀ u : Machine.State, u.dev.dieActive (slotTil t) = true → u.dev.rowSheaves (rowKey t c r) ≠ [] →
       (∀ j ∈ u.dev.rowSheaves (rowKey t c r), (u.dev.sheaf j).bar = true) →
       ∃ t', exec (.sbarComplete ⟨t, c, r⟩) u = .next t' ∧
         ∀ j, t'.dev.sheaf j = (if j ∈ u.dev.rowSheaves (rowKey t c r) then
           { u.dev.sheaf j with bar := false, pc := (u.dev.sheaf j).pc + 4 } else u.dev.sheaf j)))

/-- R94, R95: LLW, LLQ, SLW and SLQ. -/
def Obligations.LaneLocalAccesses : Prop :=
  ∀ p ∈ ([(.llw, .slw, 1), (.llq, .slq, 4)] : List ((Agent → IF → Instr) × (Agent → IF → Instr) × Nat)),
    ∀ (s : Machine.State) (t c r k : Nat) (f : IF), SheafRuns s t c r k → (p.2.2 = 4 → 0 < f.rd.toNat ∧ f.rd.toNat ≤ 28) →
      let a : Agent := .sheaf t c r k
      let q := sheafKey t c r k
      let x := s.dev.sheaf q
      let n := p.2.2
      let adr := fun l => (x.getV f.ra.toNat l + BitVec.ofInt 32 f.imm.toInt).toNat
      ((∀ l ∈ x.lanes, adr l < 0x200000 ∧ adr l % (4 * n) = 0) →
        ((∀ l ∈ x.lanes, s.dev.badHome (.sram t c (adr l)) (4 * n) = false) →
          ∃ t', exec (p.1 a f) s = .next t' ∧ t'.dev.ms = s.dev.ms ∧ (t'.dev.sheaf q).pc = x.pc + 4 ∧
            ∀ l ∈ x.lanes, ∀ i < n, f.rd.toNat + i ≠ 0 →
              (t'.dev.sheaf q).getV (f.rd.toNat + i) l = BitVec.ofNat 32 (ofLe (s.dev.sramRead (84 * t + c) (adr l + 4 * i) 4))) ∧
        (∃ t', exec (p.2.1 a f) s = .next t' ∧ t'.dev.ms.mem = s.dev.ms.mem ∧ (t'.dev.sheaf q).pc = x.pc + 4 ∧
          (∀ l ∈ x.lanes, (∀ j ∈ x.lanes, l < j → adr j + 4 * n ≤ adr l ∨ adr l + 4 * n ≤ adr j) → ∀ i < n,
            t'.dev.sramRead (84 * t + c) (adr l + 4 * i) 4 = leBytes 4 (x.getV (f.rd.toNat + i) l).toNat) ∧
          (∀ j o, (84 * t + c ≠ j ∨ ∀ l ∈ x.lanes, ¬ (adr l ≤ o ∧ o < adr l + 4 * n)) →
            t'.dev.sramRead j o 1 = s.dev.sramRead j o 1))) ∧
      (∀ l ∈ x.lanes, (∀ j ∈ x.lanes, j < l → adr j < 0x200000 ∧ adr j % (4 * n) = 0) → 0x200000 ≤ adr l ∨ adr l % (4 * n) ≠ 0 →
        let e := fun (i : Instr) => ({ s with dev := (if 0x200000 ≤ adr l then s.dev.laneException q 0x21 .protection l (wordNat i)
          else s.dev.laneException q 0x20 .misaligned l (wordNat i)) } : Machine.State)
        exec (p.1 a f) s = .next (e (p.1 a f)) ∧ exec (p.2.1 a f) s = .next (e (p.2.1 a f)))

/-- R108 to R120: what a sheaf's row instructions do at issue. `w`, `d` and `g` read the control words of R110 and R116; once issued,
what the drain path can do at its head is done. -/
def Obligations.RowIssue : Prop :=
  ∀ (s : Machine.State) (t c r k : Nat) (f : MF), SheafRuns s t c r k →
    let a : Agent := .sheaf t c r k
    let q := sheafKey t c r k
    let row := rowKey t c r
    let x := s.dev.sheaf q
    let y := s.dev.row row
    (x.first = none → ∀ i ∈ [Instr.wfill a f, .mpass a f, .mstep a f, .bcast a f, .accrd a f, .accld a f, .tld a f, .brd a f, .rwait a f],
      exec i s = .next (sheafDoes s q id)) ∧
    ∀ l, x.first = some l →
      let ra := (x.getV f.ra.toNat l).toNat
      let ra1 := (x.getV (f.ra.toNat + 1) l).toNat
      let rb := (x.getV f.rb.toNat l).toNat
      let fl := fun (n : Nat) => f.flags.getLsbD n
      let w := fun (z reuse tr : Bool) (kind : Nat) =>
        ({ slot := k, addr := ra, scaleAddr := ra1, anchor := passAnchor (rb / 2 ^ 12 % 256) (rb / 2 ^ 20 % 4) (toSigned 10 (rb / 2 ^ 22)),
           smode := rb / 2 ^ 20 % 4, pair := rb / 2 ^ 12 % 256, abase := rb / 2 ^ 6 % 64, b := rb % 64 + 1, zero := z, reuse := reuse,
           tr := tr, kind := kind } : PassArgs)
      let g : DrainArgs :=
        { slot := k, rd := f.rd.toNat, addr := ra, dscale := if f.flags = 0 then 0x3F800000 else x.getV f.flags.toNat l,
          f16 := rb.testBit 20, gauss := rb.testBit 19, dest := rb.testBit 18, rtz := rb.testBit 17, sat := rb.testBit 16,
          target := rb / 2 ^ 12 % 16, n := rb / 2 ^ 6 % 64 + 1, acc := rb % 64 }
      let fd : FillDesc := ⟨f.flags.toNat % 4, f.flags.toNat / 4 % 4, f.rd.toNat⟩
      let recs := if g.dest then [] else (List.range 256).map (fun l =>
        BitVec.ofNat 256 ((List.range g.regs).map (fun i => (x.getV (g.rd + i) l).toNat * 2 ^ (32 * i))).sum)
      let pairBase : Option Nat := if f.ra = 0 ∨ f.ra = 31 then some 2 else none
      let one : Bool → Option Nat := fun b => if b then some 1 else none
      (∀ e ∈ [(Instr.wfill a f, pairBase, wfillCause ra ra1 (rb % 65536) (rb / 65536) fd (fl 4), RowOp.wfill k ra ra1 (rb % 65536) fd (fl 4)),
          (.mpass a f, orCause (one (decide (8 ≤ f.flags.toNat))) pairBase, mpassCause y (w (fl 0) (fl 1) (fl 2) f.rd.toNat),
            .mpass (w (fl 0) (fl 1) (fl 2) f.rd.toNat)),
          (.mstep a f, orCause (one (decide (4 ≤ f.flags.toNat ∨ 16 ≤ f.rd.toNat))) pairBase, mstepCause y (w (fl 0) true false 0) f.rd.toNat (fl 1),
            .mstep (w (fl 0) true false 0) f.rd.toNat (fl 1) (closesBlock (rb / 2 ^ 20 % 4) (classOf (rb / 2 ^ 16 % 16)) f.rd.toNat)),
          (.bcast a f, one (f.flags &&& 0x1B != 0 || f.rd != 0), bcastCause rb ra (rb % 64 + 1) (fl 2) (rb / 2 ^ 16 % 16),
            .bcast k ra (rb % 64 + 1) (fl 2) (classOf (rb / 2 ^ 16 % 16))),
          (.accrd a f, none, orCause (drainRun g) (accrdCause y rb g), .accrd g),
          (.accld a f, none, orCause (drainRun g) (accldCause rb g), .accld g recs),
          (.tld a f, one (decide (4 ≤ f.flags.toNat)), tldCause ra rb f.flags.toNat, .tld k f.rd.toNat ra rb f.flags.toNat)],
        (∀ n, orCause e.2.1 e.2.2.1 = some n → exec e.1 s = .next (leaves s (s.dev.laneException q n (causeStatus n) l (wordNat e.1)))) ∧
        (orCause e.2.1 e.2.2.1 = none →
          let held := 8 ≤ y.queue.length ∨ (e.2.2.2.isFill = true ∧ ∃ o ∈ y.queue, o.op.isFill = true)
          (held → exec e.1 s = .next s) ∧
          (¬ held → exec e.1 s = .next (leaves s (((s.dev.setRow row (fun y =>
            { y.noteIssue e.2.2.2 with queue := y.queue ++ [⟨y.nextSeq, e.2.2.2⟩], nextSeq := y.nextSeq + 1 })).rowSettle 8 row).sheafGo q
              (x.pc.toNat + 4)))))) ∧
      (f.flags = 0 → f.ra = 0 → f.rb = 0 → 0 < f.rd.toNat → f.rd.toNat ≤ 30 → ∀ (u v : List (Nat × BitVec 64)) (n : BitVec 64),
        y.rx = u ++ (k, n) :: v → (∀ e ∈ u, e.1 ≠ k) →
        exec (.brd a f) s = .next (leaves s (((s.dev.setRow row (fun y => { y with rx := u ++ v })).setSheaf q (fun x =>
          (x.putAll f.rd.toNat (fun _ => n.setWidth 32)).putAll (f.rd.toNat + 1) (fun _ => (n >>> (32 : Nat)).setWidth 32))).sheafGo q (x.pc.toNat + 4)))) ∧
      (f.flags = 0 → f.ra = 0 → f.rb = 0 → f.rd.toNat ≤ 30 → 0 < f.rd.toNat → (∀ e ∈ y.rx, e.1 ≠ k) → y.bcastPending k = false →
        exec (.brd a f) s = .next (leaves s (s.dev.laneException q 0x16 .illegalRowSequence l (wordNat (.brd a f))))) ∧
      (f = ⟨0, 0, 0, 0⟩ → exec (.rwait a f) s = .next (if y.busyFor k then s else sheafDoes s q id))

/-- R43, R44, R48, R111 to R113, R116: when a row instruction is an illegal row sequence, in the order the causes are found. -/
def Obligations.RowCauses : Prop :=
  (∀ (y : Row) (p : PassArgs),
    let act := p.pair / 16
    let wgt := p.pair % 16
    let ok := pairLegal act wgt = true ∧ smodeLegal p.smode act = true ∧ smodeLegal p.smode wgt = true ∧ kindPairOk p.kind p.pair p.smode = true
    let named := p.abase + (if p.kind = 1 then 2 * p.b else if p.kind = 2 then 3 * p.b else p.b)
    let room := if p.pair = 0x77 then 32 else 64
    let bank := if p.reuse then y.issActive else y.issFill
    (¬ ok → mpassCause y p = some 0x10) ∧
    (ok → room < named → mpassCause y p = some 0x11) ∧
    (ok → named ≤ room → p.reuse = false → y.issFill = none → mpassCause y p = some 0x12) ∧
    (ok → named ≤ room → (p.reuse = true ∨ y.issFill ≠ none) → bank ≠ some ⟨classOf wgt, p.smode, p.kind⟩ → mpassCause y p = some 0x13) ∧
    (ok → named ≤ room → bank = some ⟨classOf wgt, p.smode, p.kind⟩ →
      ((p.addr % 8 ≠ 0 ∨ 128 < p.addr % 1024 / 8 + p.b ∨ (p.tr = true ∧ classOf act = 1) ∨
          (p.tr = false ∧ 0x200000 ≤ p.addr + 1024 * 15 + 8 * (p.b - 1) + 7)) → mpassCause y p = some 0x14) ∧
      (p.addr % 8 = 0 → p.addr % 1024 / 8 + p.b ≤ 128 → p.tr = false → p.addr + 1024 * 15 + 8 * (p.b - 1) + 7 < 0x200000 → p.smode = 0 →
        mpassCause y p = none))) ∧
  (∀ x w : Nat, pairLegal x w = true ↔ (x ≤ 3 ∧ w ≤ 3) ∨ (x = w ∧ 4 ≤ x ∧ x ≤ 8)) ∧
  (∀ (y : Row) (cw : Nat) (g : DrainArgs), cw < 2 ^ 21 → (g.target ≤ 4 ∨ g.target = 15) →
    ((if g.f16 then 32 else 64) < g.acc + g.n ∨ (g.gauss = true ∧ g.f16 = false) ∨
      (g.target = 15 ∧ g.dest = false ∧ (1 < g.n ∨ g.gauss = true)) ∨ (g.f16 = false ∧ ∃ i < g.n, y.issMode.get false (g.acc + i) = true) →
      accrdCause y cw g = some 0x11)) ∧
  (∀ (addr sa st hi : Nat) (d : FillDesc) (tr : Bool), 5 ≤ d.kind ∨ hi ≠ 0 ∨ 2 < d.cls ∨ (d.cls = 2 ∧ d.smode ≠ 0) ∨
    (1 ≤ d.kind ∧ d.kind ≤ 3 ∧ d.cls ≠ 2) ∨ (d.kind = 4 ∧ d.cls ≠ 0) ∨ (1 ≤ d.kind ∧ d.smode ≠ 0) →
    wfillCause addr sa st hi d tr = some 0x10)

/-- R45 to R51, R108: what the paths of a row do with the queue. -/
def Obligations.RowPaths : Prop :=
  ∀ (s : Machine.State) (r : RowId), r.wf = true → s.dev.rowActs (rowIdKey r) = true →
    let k := rowIdKey r
    let y := s.dev.row k
    let count := fun (d : Dev) (o : Nat) => d.setFld o 63 0 (d.fld o 63 0 + 1)
    (∀ (u v : List RowEntry) (n slot a sa st : Nat) (d : FillDesc) (tr : Bool), y.queue = u ++ ⟨n, .wfill slot a sa st d tr⟩ :: v →
      (∀ e ∈ u, e.op.isFill = false) →
      exec (.wfillStart r) s = .next (if y.shadow.full = true ∨ y.filling ≠ none then s else leaves s (s.dev.setRow k (fun y =>
        { y with queue := u ++ v, filling := some (fillBank (s.dev.rowRead k) a sa st d tr), fillSlot := slot })))) ∧
    (∀ b, y.filling = some b → exec (.wfillDone r) s = .next (leaves s (s.dev.setRow k (fun y => { y with shadow := b, filling := none })))) ∧
    (∀ (u v : List RowEntry) (n : Nat) (o : RowOp), y.run = none → y.queue = u ++ ⟨n, o⟩ :: v → (∀ e ∈ u, e.op.isRachis = false) →
      let started := fun (y : Row) => { y with queue := u ++ v, run := some ⟨n, o, 0, 0, 0⟩ }
      (∀ p, o = .mpass p →
        (p.reuse = true → exec (.passStart r) s = .next (leaves s (s.dev.setRow k started))) ∧
        (p.reuse = false → y.shadow.full = true → exec (.passStart r) s = .next (leaves s (s.dev.setRow k (fun y =>
          started { y with active := y.shadow, shadow := { y.active with full := false } })))) ∧
        (p.reuse = false → y.shadow.full = false → exec (.passStart r) s = .next (leaves s (count s.dev (rClsSbnr r.t r.c r.r))))) ∧
      (∀ slot a b tr c, o = .bcast slot a b tr c → exec (.passStart r) s = .next
        (if ∃ e ∈ y.rx, e.1 = slot then s else leaves s (s.dev.setRow k started)))) ∧
    (y.injects = true →
      (∀ g, exec (.chunkInjection r g false) s = .next (leaves s (count s.dev (rClsLimit r.t r.c r.r)))) ∧
      exec (.chunkInjection r false true) s = .next (leaves s (count s.dev (rClsOpnr r.t r.c r.r))) ∧
      (∀ z l m n i, (s.dev.rxKeep k y).inject (s.dev.rowRead k) = .done z l m n i →
        exec (.chunkInjection r true true) s = .next (leaves s (((s.dev.setRow k (fun _ => s.dev.rxKeep k z)).mxFlag k
          ((if m then 16 else 0) + (if n then 8 else 0) + (if i then 4 else 0) + (if l then 2 else 0))).rowSettle 8 k)))) ∧
    (∀ (n a v j b slot : Nat) (tr : Bool) (c : Nat), y.run = some ⟨n, .bcast slot a b tr c, 0, v, j⟩ → y.rx.length < 32 →
      ∃ z, y.inject (s.dev.rowRead k) = .done z false false false false ∧
        z.rx = y.rx ++ [(slot, BitVec.ofNat 64 (operandChunk (s.dev.rowRead k) c tr a v j))] ∧ z.accs = y.accs ∧ z.queue = y.queue) ∧
    (∀ x l, y.landing = x :: l → 
      let d := s.dev.setRow k (fun y => { y with landing := l })
      exec (.passComplete r) s = .next (leaves s ((if x.counts then count d (rClsPasses r.t r.c r.r) else d).rowSettle 8 k))) ∧
    (∀ (u v : List RowEntry) (n : Nat) (g : DrainArgs), y.queue = u ++ ⟨n, .accrd g⟩ :: v → (∀ e ∈ u, e.op.isDrain = false) →
      exec (.accrdDrain r) s = .next (if y.accWriting n (RowOp.accrd g).drainPlaces then s else
        leaves s (((s.dev.drainAccrd k g).setRow k (fun y => { y with queue := u ++ v })).rowSettle 8 k)))

/-- R63, R64, R66, R70, R118: accumulators of the lanes. -/
def Obligations.AccumulatorRecords : Prop :=
  (∀ a : AccV, a.val < 2 ^ accWidth a.info.f16 → -512 ≤ a.info.anchor → a.info.anchor < 512 → a.info.pair < 256 → a.info.smode < 4 →
    SameAcc (recLoad a.info.f16 (recBits a)) a ∧
    (let w := recBits a / 2 ^ accWidth a.info.f16
     recBits a % 2 ^ accWidth a.info.f16 = a.val ∧ w < 2 ^ 26 ∧ w % 4 = a.info.tag.code ∧ w.testBit 2 = false ∧ w.testBit 3 = a.info.loss ∧
     w.testBit 4 = a.info.mismatch ∧ w.testBit 5 = a.info.f16 ∧ w / 2 ^ 6 % 4 = a.info.smode ∧ w / 2 ^ 8 % 256 = a.info.pair ∧
     toSigned 10 (w / 2 ^ 16) = a.info.anchor)) ∧
  (∀ (f16 : Bool) (x : Nat), (x / 2 ^ accWidth f16).testBit 5 ≠ f16 →
    (recLoad f16 x).info.mismatch = true ∧ (recLoad f16 x).info.tag = .nan ∧ (recLoad f16 x).val = x % 2 ^ accWidth f16) ∧
  (∀ (f16 : Bool) (lx lw p q anchor : Int) (b : BlockSum) (a : AccV), anchor ≤ lx + lw + p + q →
    let r := accBlock f16 lx lw (.pow p) (.pow q) b anchor a
    (r.val : Int) = ((a.val : Int) + b.s * 2 ^ (lx + lw + p + q - anchor).toNat) % 2 ^ accWidth f16 ∧ r.info.loss = a.info.loss ∧
      r.info.tag = a.info.tag.comb b.tag ∧ r.info.mismatch = a.info.mismatch ∧ r.info.anchor = a.info.anchor) ∧
  (∀ (f16 : Bool) (pair smode : Nat) (anchor : Int) (a : AccV),
    (let r := accStart true f16 pair smode anchor a
     r.val = 0 ∧ r.info.tag = .none ∧ r.info.loss = false ∧ r.info.mismatch = false ∧ r.info.anchor = anchor ∧ r.info.pair = pair ∧
       r.info.smode = smode ∧ r.info.f16 = f16) ∧
    (a.info.anchor ≠ anchor ∨ a.info.pair ≠ pair ∨ a.info.smode ≠ smode →
      (accStart false f16 pair smode anchor a).info.mismatch = true ∧ (accStart false f16 pair smode anchor a).info.tag = .nan ∧
        (accStart false f16 pair smode anchor a).val = a.val))

/-- R72: the drained bits are the same for every division of a product, also when LOSS is set or the value wraps. -/
def Obligations.SplitsDoNotMatter : Prop :=
  (∀ (f16 : Bool) (lx lw anchor : Int) (l l' : List (Scale × Scale × BlockSum)) (a : AccV), l.Perm l' →
    l.foldl (fun a p => accBlock f16 lx lw p.1 p.2.1 p.2.2 anchor a) a = l'.foldl (fun a p => accBlock f16 lx lw p.1 p.2.1 p.2.2 anchor a) a) ∧
  (∀ a b c : AccV, a.info.f16 = b.info.f16 → b.info.f16 = c.info.f16 →
    SameAcc (recCombine (recCombine a b) c) (recCombine a (recCombine b c))) ∧
  (∀ a b : AccV, a.info.f16 = b.info.f16 →
    let r := recCombine a b
    let q := recCombine b a
    r.val = q.val ∧ r.info.tag = q.info.tag ∧ r.info.loss = q.info.loss ∧ r.info.mismatch = q.info.mismatch) ∧
  (∀ (f16 : Bool) (pair smode : Nat) (anchor lx lw : Int) (l l' : List (Scale × Scale × BlockSum)) (a : AccV),
    let go := fun (l : List (Scale × Scale × BlockSum)) (a : AccV) => l.foldl (fun a p => accBlock f16 lx lw p.1 p.2.1 p.2.2 anchor a) a
    let z := accStart true f16 pair smode anchor a
    SameAcc (recCombine (go l z) (go l' z)) (go (l ++ l') z))

/-- R94, R95, R97, R98: global accesses of the lanes. `reach` says that every active lane's access is admitted at `pa`. That the
highest lane's value stays where lanes store to one address is the model's choice (notes/assumptions/48.md). -/
def Obligations.LaneGlobalAccesses : Prop :=
  ∀ (s : Machine.State) (t c r k : Nat), SheafRuns s t c r k →
    let a : Agent := .sheaf t c r k
    let q := sheafKey t c r k
    let x := s.dev.sheaf q
    let reach := fun (op : Acc3) (size : Nat) (adr pa : Nat → Nat) => ∀ l ∈ x.lanes, adr l < 2 ^ 56 ∧ adr l % size = 0 ∧ pa l % size = 0 ∧
      pa l < 0x9000000000 ∧ s.dev.verdict (.hbm (pa l)) (s.dev.whoLane q l).ctx op.stores = .pass ∧
      ∃ e lv, s.dev.translate t (s.dev.whoLane q l).ctx (adr l) op = (.ok e lv, s.dev) ∧ s.dev.leafHome e lv (adr l) = .hbm (pa l)
    let adr := fun (f : IF) (l : Nat) =>
      (BitVec.ofNat 64 (if f.ra = 0 then 0 else x.getPair f.ra.toNat l) + BitVec.ofInt 64 f.imm.toInt).toNat
    (∀ p ∈ ([(.lb, 1, true), (.lh, 2, true), (.lw, 4, true), (.lbu, 1, false), (.lhu, 2, false)] : List ((Agent → IF → Instr) × Nat × Bool)),
      ∀ (f : IF) (pa : Nat → Nat), f.ra ≠ 31 → reach .read p.2.1 (adr f) pa →
        (∀ l ∈ x.lanes, s.dev.badHome (.hbm (pa l)) p.2.1 = false) →
        ∃ u, exec (p.1 a f) s = .next u ∧ KeepsMemory s u (fun _ => False) ∧ (u.dev.sheaf q).pc = x.pc + 4 ∧ u.pending = s.pending ∧
          (∀ n, n ≠ f.rd.toNat ∨ n = 0 → ∀ l < 256, (u.dev.sheaf q).getV n l = x.getV n l) ∧
          ∀ l < 256, f.rd ≠ 0 → (u.dev.sheaf q).getV f.rd.toNat l = (if x.on l then
            (let v := ofLe (s.dev.ms.mem.readN (pa l) p.2.1)
             if p.2.2 then BitVec.ofInt 32 (toSigned (8 * p.2.1) v) else BitVec.ofNat 32 v) else x.getV f.rd.toNat l)) ∧
    (∀ p ∈ ([(.sb, 1), (.sh, 2), (.sw, 4), (.stn, 4)] : List ((Agent → IF → Instr) × Nat)),
      ∀ (f : IF) (pa : Nat → Nat), f.ra ≠ 31 → reach .write p.2 (adr f) pa → x.fence = [] →
        ∃ u, exec (p.1 a f) s = .next u ∧ (u.dev.sheaf q).pc = x.pc + 4 ∧ (u.dev.sheaf q).v = x.v ∧ u.pending = s.pending ∧
          (Memory.wf s.dev.ms.mem = true → Memory.wf u.dev.ms.mem = true) ∧
          KeepsMemory s u (fun b => ∃ l ∈ x.lanes, pa l ≤ b ∧ b < pa l + p.2) ∧
          ∀ l ∈ x.lanes, (∀ j ∈ x.lanes, l < j → pa j ≠ pa l) →
            u.dev.ms.mem.readN (pa l) p.2 = leBytes p.2 (x.getV f.rd.toNat l).toNat) ∧
    (∀ p ∈ ([(.amoSwap, fun _ _ b _ => some b), (.amoAdd, fun w o b _ => some ((o + b) % 2 ^ (8 * w))),
        (.amoCas, fun _ o b r => if o = r then some b else none)] : List ((Agent → RF → Instr) × (Nat → Nat → Nat → Nat → Option Nat))),
      ∀ (f : RF) (pa : Nat → Nat),
        let w := if f.fn2.getLsbD 0 then 8 else 4
        let reg := fun (n l : Nat) => if w = 8 then x.getPair n l else (x.getV n l).toNat
        f.fn2.toNat < 8 → f.ra ≠ 31 → (w = 8 → 0 < f.rb.toNat ∧ f.rb.toNat ≤ 30 ∧ 0 < f.rd.toNat ∧ f.rd.toNat ≤ 30) →
        reach .atomic w (fun l => x.getPair f.ra.toNat l) pa → (∀ l ∈ x.lanes, s.dev.badHome (.hbm (pa l)) w = false) → x.fence = [] →
        s.dev.fabStores (fun o => o.thread == .sheaf q) = [] → (∀ l ∈ x.lanes, ∀ j ∈ x.lanes, l ≠ j → pa l ≠ pa j) →
        ∃ u, exec (p.1 a f) s = .next u ∧ (u.dev.sheaf q).pc = x.pc + 4 ∧
          KeepsMemory s u (fun b => ∃ l ∈ x.lanes, pa l ≤ b ∧ b < pa l + w) ∧
          ∀ l ∈ x.lanes,
            let old := ofLe (s.dev.ms.mem.readN (pa l) w)
            u.dev.ms.mem.readN (pa l) w = leBytes w ((p.2 w old (reg f.rb.toNat l) (reg f.rd.toNat l)).getD old) ∧
            (f.rd ≠ 0 → (u.dev.sheaf q).getV f.rd.toNat l = BitVec.ofNat 32 old) ∧
            (w = 8 → (u.dev.sheaf q).getV (f.rd.toNat + 1) l = BitVec.ofNat 32 (old / 2 ^ 32))) ∧
    (∀ (f : IF) l, f.ra = 31 → x.first = some l →
      exec (.lw a f) s = .next (leaves s (s.dev.laneException q 2 .illegalInstruction l (wordNat (.lw a f)))) ∧
      exec (.sw a f) s = .next (leaves s (s.dev.laneException q 2 .illegalInstruction l (wordNat (.sw a f))))) ∧
    (let z : RF := ⟨0, 0, 0, 0⟩
     exec (.syncL a z) s = .next (sheafDoes s q id) ∧
     (s.dev.fabStores (fun o => o.thread == .sheaf q) = [] → x.first ≠ none →
       exec (.sync a z) s = .next (sheafDoes s q (fun x => { x with fence := [] })) ∧
       exec (.syncD a z) s = .next (sheafDoes s q (fun x => { x with fence := [] }))) ∧
     (x.first ≠ none → exec (.syncS a z) s = .next (sheafDoes s q (fun x =>
       { x with fence := s.dev.fabStores (fun o => o.thread == .sheaf q) }))))

/-- R78, R86, R107: what makes a word illegal; a word that decodes to no instruction is refused by the decoder. -/
def Obligations.ProfilesAndIllegalWords : Prop :=
  (∀ (s : Machine.State) (n : Nat), CoreRuns s n 0 →
    let a : Agent := .core n
    let traps := fun (i : Instr) => exec i s = .next (coreTraps s n 1 0 0)
    (∀ f : RF, (∀ i ∈ [Instr.addc a f, .subc a f, .sel a f, .lshfl a f, .mpush a f, .melse a f, .mpop a f, .sbar a f], traps i) ∧
      (f.fn2 ≠ 0 → ∀ i ∈ [Instr.add a f, .sub a f, .and a f, .mul a f, .div a f], traps i) ∧
      (f.fn2 ≠ 0 ∨ f.rb ≠ 0 → ∀ i ∈ [Instr.clz a f, .ctz a f, .popc a f], traps i) ∧ (8 ≤ f.fn2.toNat → traps (.amoAdd a f))) ∧
    (∀ f : IF, ∀ i ∈ [Instr.llw a f, .llq a f, .slw a f, .slq a f], traps i) ∧
    (∀ f : MF, ∀ i ∈ [Instr.wfill a f, .bcast a f, .brd a f, .mstep a f, .mpass a f, .accrd a f, .accld a f, .tld a f, .rwait a f], traps i)) ∧
  (∀ (s : Machine.State) (t c r k l : Nat), SheafRuns s t c r k →
    let a : Agent := .sheaf t c r k
    let q := sheafKey t c r k
    let goesOn := fun (i : Instr) => (s.dev.sheaf q).first = none → exec i s = .next (sheafDoes s q id)
    let stops := fun (i : Instr) => (s.dev.sheaf q).first = some l → exec i s =
      .next (leaves s (s.dev.laneException q 1 .illegalInstruction l (wordNat i)))
    (∀ f : RF, (∀ i ∈ [Instr.addW a f, .subW a f, .sllW a f, .srlW a f, .sraW a f, .mulW a f, .divW a f, .divuW a f, .remW a f, .remuW a f],
        stops i ∧ goesOn i) ∧
      (f.fn2 ≠ 0 → ∀ i ∈ [Instr.add a f, .sub a f, .and a f, .mul a f, .div a f, .lshfl a f], stops i ∧ goesOn i)) ∧
    (∀ f : IF, ∀ i ∈ [Instr.ld a f, .lwu a f, .sd a f], stops i ∧ goesOn i) ∧
    (∀ f : CacheF, stops (.cinv a f) ∧ goesOn (.cinv a f)) ∧
    (∀ f : MF, f.flags ≠ 0 → stops (.rwait a f) ∧ stops (.brd a f)))

/-- R7, R8: the access types, field by field and bit by bit. -/
def Obligations.RegisterFields : Prop :=
  ∀ (r : RegDesc) (old new mask i : Nat), r.fields.Pairwise (fun f g => f.hi < g.lo ∨ g.hi < f.lo) → (∀ f ∈ r.fields, f.lo ≤ f.hi) →
    let v := r.writeFields old new mask
    let w := mask.testBit i && new.testBit i
    (∀ f ∈ r.fields, f.lo ≤ i → i ≤ f.hi → v.testBit i = (match f.ty with
      | .rw => if mask.testBit i then new.testBit i else old.testBit i
      | .w1c => old.testBit i && !w
      | .w1s => old.testBit i || w
      | .ro => old.testBit i
      | .wo => old.testBit i)) ∧
    ((∀ f ∈ r.fields, i < f.lo ∨ f.hi < i) → v.testBit i = old.testBit i)

/-- R6, R38, R39, R206: who may write registers. -/
def Obligations.ControlSpaceErrors : Prop :=
  ∀ (s : Machine.State),
    (∀ ctx, ctx ≠ 0 → ctx < 4096 → ∀ (n val : Nat) (b : Bool),
      ∀ e ∈ [(Instr.dieResetReq ctx n, rCrownDiectl n, 23), (.dieOfflineReq ctx n, rCrownDiectl n, 23), (.dieOnlineReq ctx n, rCrownDiectl n, 23),
        (.evraise ctx n, rCrownEvraise, 2048), (.coreOffline ctx n, rCulmCorectl (n / 48) (n % 48), 96),
        (.coreOnline ctx n, rCulmCorectl (n / 48) (n % 48), 96), (.repcmdHardall ctx n, rGlmRepcmd n, 12),
        (.faultQueueConsWrite ctx n val, rCrownFqcons n, 16), (.faultRetry ctx n, rCrownFresume, 2 ^ 62), (.faultFail ctx n, rCrownFresume, 2 ^ 62),
        (.faultcfgWrite ctx n, rCrownFaultcfg, 2 ^ 64), (.ringEnable ctx n val, (ringRegs n).ctl, 20), (.ringDisable ctx n val, (ringRegs n).ctl, 20),
        (.fadmitWrite ctx n val, rCrownFadmit n, 1152), (.fadmitReclaim ctx n val, rCrownFadmit n, 1152), (.fadmitRevoke ctx n val, rCrownFadmit n, 1152),
        (.lendRelease ctx n, rCrownLendrel, 2 ^ 64), (.sccmdWball ctx n, rSccmd n, 10), (.sccmdFlushall ctx n, rSccmd n, 10),
        (.portRearm ctx n, rHpPortctl n, 6), (.portRetrain ctx n, rFePortctl n, 16), (.fePortEnWrite ctx n b, rFePortctl n, 16),
        (.routeqWrite ctx n, rFeRouteq, 2 ^ 64), (.spStage ctx n, rSpCmd, 7), (.spActivate ctx n, rSpCmd, 7), (.spCommit ctx n, rSpCmd, 7),
        (.spAttest ctx, rSpCmd, 2 ^ 64), (.spGetcert ctx, rSpCmd, 2 ^ 64), (.spCalwrite ctx, rSpCmd, 2 ^ 64), (.spCalapply ctx, rSpCmd, 2 ^ 64),
        (.selftestCluster ctx n 0 b, rCrownStcmd, 8), (.selftestHbmcal ctx, rCrownStcmd, 2 ^ 64), (.selftestDielink ctx n b, rCrownStcmd, 23),
        (.selftestMemtest ctx b, rCrownStcmd, 2 ^ 64), (.selftestArraytest ctx b, rCrownStcmd, 2 ^ 64), (.selftestSweep ctx b, rCrownStcmd, 2 ^ 64)],
        n < e.2.2 → val < 2 ^ 64 → exec e.1 s = .next (leaves s (s.dev.ctrlError e.2.1))) ∧
    (∀ ctx, ctx ≠ 0 → ctx < 4096 →
      (∀ off size val, (off < 0x10000000 ∨ (0x11000000 ≤ off ∧ off < 2 ^ 64)) → size ∈ [1, 2, 4, 8] → val < 2 ^ 64 →
        exec (.registerWrite ctx off size val) s = .next (leaves s (s.dev.ctrlError off))) ∧
      (∀ (g : Nat) (row : DramRow), g < 12 → row.wf = true →
        exec (.repcmdSoft ctx g row) s = .next (leaves s (s.dev.ctrlError (rGlmRepcmd g))) ∧
        exec (.repcmdHard ctx g row) s = .next (leaves s (s.dev.ctrlError (rGlmRepcmd g)))) ∧
      exec (.qinfoRead ctx) s = .next (leaves s { s.dev.ctrlError rCpQinfo0 with out := [], outBad := false }) ∧
      exec (.cqinfoRead ctx) s = .next (leaves s { s.dev.ctrlError rCpCqinfo0 with out := [], outBad := false })) ∧
    (∀ off size val, size ∈ [1, 2, 4, 8] → val < 2 ^ 64 →
      (off < 0x4000000 → s.dev.regsAnswer off = false → exec (.registerWrite 0 off size val) s = .next s) ∧
      (off < 0x4000000 → s.dev.regsAnswer off = true → (s.dev.regHere off = none → portBlock off = none) →
        (∀ r, s.dev.regHere off = some r → r.bytes ≠ size) → exec (.registerWrite 0 off size val) s = .next (leaves s (s.dev.ctrlError off))) ∧
      (0x4000000 ≤ off → off < 0x10000000 → exec (.registerWrite 0 off size val) s = .next (leaves s (s.dev.ctrlError off))))

/-- What each register command of context 0 does. -/
def Obligations.RegisterCommands : Prop :=
  ∀ (s : Machine.State),
    let d := s.dev
    let does := fun (i : Instr) (e : Dev) => exec i s = .next (leaves s e)
    (∀ i val, i < 256 → val < 2 ^ 64 → RegAnswers s (rCrownRchkb i) 8 →
      does (.registerWrite 0 (rCrownRchkb i) 8 val) (d.setReg (rCrownRchkb i) (stored s (rCrownRchkb i) 8 val))) ∧
    (∀ off size val, off < 0x4000000 → size ∈ [4, 8] → val < 2 ^ 64 → ∀ r, d.regsAnswer off = true → d.regHere off = some r → r.bytes = size →
      does (.registerWrite 0 off size val) (d.regStore r off (val % 2 ^ (8 * size)) (2 ^ (8 * size) - 1))) ∧
    (∀ n, n < 23 → RegAnswers s (rCrownDiectl n) 4 →
      let e := d.setReg (rCrownDiectl n) (d.reg (rCrownDiectl n))
      does (.dieResetReq 0 n) (e.dieRequest n 1) ∧ does (.dieOfflineReq 0 n) (e.dieRequest n 2) ∧ does (.dieOnlineReq 0 n) (e.dieRequest n 3)) ∧
    (∀ n, n < 2048 → RegAnswers s rCrownEvraise 4 → does (.evraise 0 n) (d.setBit (rCrownEvroute n) 30 true)) ∧
    (∀ n, n < 96 → RegAnswers s (rCulmCorectl (n / 48) (n % 48)) 4 →
      does (.coreOffline 0 n) (d.coreOffline n) ∧ does (.coreOnline 0 n) (d.coreOnline n)) ∧
    (∀ g, g < 12 → RegAnswers s (rGlmRepcmd g) 8 → does (.repcmdHardall 0 g) (d.repairCommand g 3 ⟨0, 0, 0, 0⟩) ∧
      ∀ row : DramRow, row.wf = true → does (.repcmdSoft 0 g row) (d.repairCommand g 1 row) ∧ does (.repcmdHard 0 g row) (d.repairCommand g 2 row)) ∧
    (∀ n val, n < 16 → val < 2 ^ 64 → RegAnswers s (rCrownFqcons n) 4 →
      does (.faultQueueConsWrite 0 n val) ((d.setFld (rCrownFqcons n) 15 0 (val % 65536)).faultFlush n)) ∧
    (∀ id, id < 2 ^ 24 → RegAnswers s rCrownFresume 8 → does (.faultRetry 0 id) (d.faultResume 1 id) ∧ does (.faultFail 0 id) (d.faultResume 2 id)) ∧
    (∀ val, val < 2 ^ 64 → RegAnswers s rCrownFaultcfg 4 → does (.faultcfgWrite 0 val) (d.setFld rCrownFaultcfg 19 0 (val % 2 ^ 20))) ∧
    (∀ n val (on : Bool), n < 20 → val < 2 ^ 64 → RegAnswers s (ringRegs n).ctl 4 →
      ∃ v, (∀ i < 64, v.testBit i = if i = 31 then on else if i < 5 ∨ (16 ≤ i ∧ i < 27) ∨ i = 28 ∨ i = 29 then val.testBit i
          else (d.reg (ringRegs n).ctl).testBit i) ∧
        does (if on then .ringEnable 0 n val else .ringDisable 0 n val) (d.ringCtlStore n v)) ∧
    (∀ n val, n < 1152 → val < 2 ^ 64 → RegAnswers s (rCrownFadmit n) 4 → does (.fadmitWrite 0 n val) (d.fadmitWrite n (val % 2 ^ 32)) ∧
      does (.fadmitReclaim 0 n val) (d.fadmitWrite n (putBits val 29 29 1 % 2 ^ 32)) ∧
      does (.fadmitRevoke 0 n val) (d.fadmitWrite n (putBits (putBits val 31 30 0) 29 29 0 % 2 ^ 32))) ∧
    (∀ val, val < 2 ^ 64 → RegAnswers s rCrownLendrel 8 → does (.lendRelease 0 val) (d.lendRelease val)) ∧
    (∀ k, k < 10 → RegAnswers s (rSccmd k) 4 → does (.sccmdWball 0 k) (d.cacheSweep k 1) ∧ does (.sccmdFlushall 0 k) (d.cacheSweep k 2)) ∧
    (RegAnswers s rCpQinfo0 8 → let q := d.queueInfo (d.fld rCpQsel 19 0)
      does (.qinfoRead 0) { d with cp := { d.cp with latchQ := BitVec.ofNat 64 q.2 }, out := leBytes 8 q.1, outBad := false }) ∧
    (RegAnswers s rCpCqinfo0 8 → let q := d.cqInfo (d.fld rCpCqsel 17 0)
      does (.cqinfoRead 0) { d with cp := { d.cp with latchC := BitVec.ofNat 64 q.2 }, out := leBytes 8 q.1, outBad := false }) ∧
    (∀ p, p < 6 → RegAnswers s (rHpPortctl p) 4 → does (.portRearm 0 p) ((d.setReg (rHpPortctl p) (d.reg (rHpPortctl p))).rearm p)) ∧
    (∀ p, p < 16 → RegAnswers s (rFePortctl p) 4 →
      does (.portRetrain 0 p) (((d.setReg (rFePortctl p) (d.reg (rFePortctl p))).portEnable p (d.bit (rFePortctl p) 31)).retrain p) ∧
      ∀ on, does (.fePortEnWrite 0 p on) ((d.setBit (rFePortctl p) 31 on).portEnable p (d.bit (rFePortctl p) 31))) ∧
    (∀ val, val < 2 ^ 64 → RegAnswers s rFeRouteq 4 → does (.routeqWrite 0 val)
      ((d.setFld rFeRouteq 14 0 (val % 2 ^ 15)).routeReport (val % 2 ^ 15))) ∧
    (RegAnswers s rSpCmd 8 →
      (∀ c, c < 7 → does (.spStage 0 c) (d.spCommand 1 c) ∧ does (.spActivate 0 c) (d.spCommand 2 c) ∧ does (.spCommit 0 c) (d.spCommand 3 c)) ∧
      does (.spAttest 0) (d.spCommand 4 0) ∧ does (.spGetcert 0) (d.spCommand 5 0) ∧ does (.spCalwrite 0) (d.spCommand 6 0) ∧
      does (.spCalapply 0) (d.spCommand 7 0)) ∧
    (RegAnswers s rCrownStcmd 8 → ∀ f : Bool,
      let w := fun (kind target grp : Nat) => d.testCommand (kind * 2 ^ 60 + (if f then 2 ^ 59 else 0) + target * 2 ^ 8 + grp)
      (∀ t g, t < 8 → g < 16 → does (.selftestCluster 0 t g f) (w 1 t g)) ∧ (f = false → does (.selftestHbmcal 0) (w 2 0 0)) ∧
      (∀ n, n < 23 → does (.selftestDielink 0 n f) (w 3 n 0)) ∧ does (.selftestMemtest 0 f) (w 4 0 0) ∧
      does (.selftestArraytest 0 f) (w 5 0 0) ∧ does (.selftestSweep 0 f) (w 6 0 0))

/-- R5: the latches of the service port. `h` is a half of a register's value. R392, R467, R493, R494: the ways into the register space from outside. R495: the test instructions. -/
def Obligations.PathHalvesAndServicePaths : Prop :=
  (∀ (s : Machine.State) (o : Nat) (r : RegDesc), s.dev.regsAnswer o = true → s.dev.regsAnswer (o + 4) = true → s.dev.regHere o = some r →
     s.dev.regHere (o + 4) = none → r.bytes = 8 → o % 8 = 0 → o + 4 < 2 ^ 64 →
     let d := s.dev
     let does := fun (i : Instr) (e : Dev) => exec i s = .next (leaves s e)
     let ours := fun (x : Option (Nat × BitVec 32)) => x.filter (fun e => e.1 == o)
     let sample := (d.regSample o).1
     (∀ v, v < 2 ^ 32 → does (.pathLowWordWrite .service o v) { d with svcLatch := ⟨some (o, BitVec.ofNat 32 v), ours d.svcLatch.rd⟩ }) ∧
     (∀ (v : Nat) (lo : BitVec 32), v < 2 ^ 32 → d.svcLatch.wr = some (o, lo) → does (.pathHighWordWrite .service o v)
       (({ d with svcLatch := ⟨none, ours d.svcLatch.rd⟩ } : Dev).regStore r o (v * 2 ^ 32 + lo.toNat) (2 ^ 64 - 1))) ∧
     (∀ v, v < 2 ^ 32 → ours d.svcLatch.wr = none → does (.pathHighWordWrite .service o v)
       (({ d with svcLatch := ⟨none, ours d.svcLatch.rd⟩ } : Dev).regStore r o (v * 2 ^ 32) (2 ^ 64 - 2 ^ 32))) ∧
     does (.pathLowWordRead .service o) { (d.regSample o).2 with svcLatch := ⟨ours d.svcLatch.wr, some (o, BitVec.ofNat 32 (sample / 2 ^ 32))⟩, out := leBytes 4 sample, outBad := false } ∧
     (∀ hi : BitVec 32, d.svcLatch.rd = some (o, hi) → does (.pathHighWordRead .service o)
       { d with svcLatch := ⟨ours d.svcLatch.wr, none⟩, out := leBytes 4 hi.toNat, outBad := false }) ∧
     (ours d.svcLatch.rd = none → does (.pathHighWordRead .service o)
       { (d.regSample o).2 with svcLatch := ⟨ours d.svcLatch.wr, none⟩, out := leBytes 4 (sample / 2 ^ 32), outBad := false })) ∧
  ((∀ (s : Machine.State),
       let d := s.dev
       let does := fun (i : Instr) (e : Dev) => exec i s = .next (leaves s e)
       let refused := { d.addSat rSvcStat 63 48 1 with out := [], outBad := false }
       (∀ p off size v, p < 6 → off < 0x4000000 → size ∈ [1, 2, 4, 8] → v < 2 ^ 64 →
         (d.hostHears p = false → ∀ w, exec (.hwaAccess p w off size v) s = .next s) ∧
         (d.hostReaches p = true → d.sup.stopped = false →
           ((d.bit (rHpPortctl p) 31 = true ∨ (0x780000 + 0x10000 * p ≤ off ∧ off < 0x790000 + 0x10000 * p)) →
             does (.hwaAccess p true off size v) (d.regWrite off size (v % 2 ^ (8 * size))).2 ∧
             does (.hwaAccess p false off size v) { (d.regRead off size).2.2 with out := leBytes size (d.regRead off size).2.1, outBad := false }) ∧
           (d.bit (rHpPortctl p) 31 = false → ¬ (0x780000 + 0x10000 * p ≤ off ∧ off < 0x790000 + 0x10000 * p) →
             does (.hwaAccess p true off size v) (d.addSat (rHpPortcnt p) 47 32 1) ∧
             does (.hwaAccess p false off size v) { d.addSat (rHpPortcnt p) 47 32 1 with out := leBytes size 0, outBad := false }))) ∧
       (∀ off v, off < 2 ^ 64 → v < 2 ^ 32 →
         (d.regsAnswer off = false → does (.svcWreg off v) refused ∧ does (.svcRreg off) refused) ∧
         (∀ r, d.regsAnswer off = true → d.regHere off = some r → r.bytes = 4 →
           does (.svcWreg off v) (({ d with svcLatch := ⟨none, none⟩ } : Dev).regStore r off v (2 ^ 32 - 1)) ∧
           does (.svcRreg off) (let q := ({ d with svcLatch := ⟨none, none⟩ } : Dev).regSample off
             { q.2 with out := leBytes 4 q.1, outBad := false }))) ∧
       (∀ (l : List (BitVec 8)), 1 ≤ l.length → l.length ≤ 4096 →
         let a := d.fld rSvcAddr 55 0
         let tier := d.powered = true ∧ ((∃ x, d.home a = .hbm x) ∨ ∃ x p, d.home a = .core x p) ∧ a % 4096 + l.length ≤ 4096
         (tier → d.rangeVerdict 0 a l.length true = .pass →
           does (.svcWdata l) (let e := d.crownWrite a l
             e.setFld rSvcAddr 55 0 (e.fld rSvcAddr 55 0 + l.length))) ∧
         (tier → d.rangeVerdict 0 a l.length false = .pass → ∃ t, exec (.svcRdata l.length) s = .next t ∧
           t.dev.out = d.crownRead a l.length ∧ t.dev.outBad = d.crownBad a l.length ∧ t.dev.fld rSvcAddr 55 0 = (a + l.length) % 2 ^ 56 ∧
           KeepsMemory s t (fun _ => False)) ∧
         (¬ tier → does (.svcWdata l) refused ∧ does (.svcRdata l.length) refused)) ∧
       does .svcFrameTimeout refused ∧
       (d.mbAnswers = true →
         (∀ off, off < 2 ^ 64 → does (.mbPrivateWrite off none) { d with pins := { d.pins with mbOff := off } } ∧
           ∀ v : BitVec 32, let e : Dev := { d with pins := { d.pins with mbOff := off } }
             (off = rPmCap → d.powered = true → does (.mbPrivateWrite off (some v))
               (({ e with mbLatch := ⟨none, none⟩ } : Dev).setFld rPmCap 27 16 (v.toNat / 2 ^ 16 % 2 ^ 12))) ∧
             (off = rCrownRstctl → v.toNat < 2 ^ 31 → does (.mbPrivateWrite off (some v)) { e with mbLatch := ⟨none, none⟩ }) ∧
             (off ≠ rPmCap → off ≠ rCrownRstctl → does (.mbPrivateWrite off (some v)) { e.addSat rSvcStat 47 32 1 with out := [], outBad := false })) ∧
         (∀ i, i < 23 → d.pins.mbOff = rCrownDiestat i → does .mbPrivateRead
           { d with mbLatch := ⟨none, none⟩, out := leBytes 4 (d.reg (rCrownDiestat i)), outBad := false, pins := { d.pins with mbOff := rCrownDiestat i + 4 } }) ∧
         (mbReads d.pins.mbOff = false → does .mbPrivateRead { d.addSat rSvcStat 47 32 1 with out := [], outBad := false }) ∧
         (∀ a, a < 128 → does (.mbAddressAssign a) { d with pins := { d.pins with dynaddr := some a } })) ∧
       (d.mbAnswers = false → exec .mbPrivateRead s = .next s ∧ ∀ off v, off < 2 ^ 64 → exec (.mbPrivateWrite off v) s = .next s)) ∧
   (∀ (s : Machine.State),
       let d := s.dev
       let does := fun (i : Instr) (e : Dev) => exec i s = .next (leaves s e)
       let ir := fun (d : Dev) (j : JtagIr) => ({ d with pins := { d.pins with jtag := j } } : Dev)
       does .jtagBypass (ir d .bypass) ∧ does .jtagSamplePreload (ir d .samplePreload) ∧
       does .jtagIdcode { ir d .idcode with out := leBytes 4 0x1720054F, outBad := false } ∧
       ∀ e ∈ [(Instr.jtagExtest, JtagIr.extest), (.jtagExtestPulse, .extestPulse), (.jtagExtestTrain, .extestTrain), (.jtagClamp, .clamp), (.jtagHighz, .highz)],
         (d.pins.warmrst = true → does e.1 (ir d e.2)) ∧ (d.pins.warmrst = false → does e.1 (ir (d.addSat rSvcStat 31 16 1) .bypass))))

/-- R263, R264, R266, R268, R269: what happens to cores without an instruction. FADDR of an interrupt is a free value
(notes/assumptions/3.md). -/
def Obligations.InterruptsAndCoreStates : Prop :=
  ∀ (s : Machine.State) (n : Nat), n < 96 →
    let d := s.dev
    let c := d.core n
    let does := fun (i : Instr) (e : Dev) => exec i s = .next (leaves s e)
    let at_ := fun (d : Dev) (st : Nat) => d.setFld (rCorestat n) 2 0 st
    (∀ c : CoreSt, let on := fun i => c.ipend.testBit i = true ∧ (c.getCsr 0x101).testBit i = true
      (on 3 → c.levelOpen true = true → c.interrupt = some (4, true)) ∧
      (¬ (on 3 ∧ c.levelOpen true = true) → on 2 → c.levelOpen true = true → c.interrupt = some (2, true)) ∧
      (¬ on 3 → ¬ on 2 → on 1 → c.levelOpen false = true → c.interrupt = some (3, false)) ∧
      (¬ on 3 → ¬ on 2 → ¬ on 1 → on 0 → c.levelOpen false = true → c.interrupt = some (1, false)) ∧
      (c.levelOpen true = true ↔ c.level < 3 ∨ (c.getCsr 0x100).testBit 1 = true) ∧
      (c.levelOpen false = true ↔ c.level < 1 ∨ (c.level = 1 ∧ (c.getCsr 0x100).testBit 0 = true))) ∧
    (d.coreActs n = true →
      (∀ code toM, c.deferredNow = none → c.interrupt = some (code, toM) → ∃ v : Nat, does (.interruptTaken n)
        ((d.fresh.2.ntDrainAll n).setCore n (fun c' => c'.enter toM c.pc.toNat (2 ^ 63 + code) v 0))) ∧
      (c.interrupt = none ∨ c.deferredNow ≠ none → exec (.interruptTaken n) s = .next s) ∧
      (∀ e toM, c.deferredNow = some (e, toM) → does (.deferredError n)
        (((d.setCore n (fun c => { c with deferred := none })).ntDrainAll n).setCore n
          (fun c' => c'.enter toM c.pc.toNat 0x18 e.addr (e.status * 2 ^ 48 + min e.merged 65535 * 2 ^ 32)))) ∧
      (c.getCsr 0x30A ≤ d.time → does (.timerExpiry n true) (d.setCore n (fun c => { c with timM := true }))) ∧
      (c.getCsr 0x10A ≤ d.time → does (.timerExpiry n false) (d.setCore n (fun c => { c with timS := true }))) ∧
      (d.dirtyLines (10 + n) = [] → does (.coreFailed n)
        ((at_ ((d.setCache (10 + n) (fun _ => {})).coreLost n) 4).error 0x10 (slotCulm (n / 48)) (n % 48)))) ∧
    (∀ ev, ev < 2048 → let r := rCrownEvroute ev
      d.bit r 31 = true → d.bit r 30 = true → d.fld r 6 0 = n → d.coreActs n = true → d.evQueued ev = false →
      (d.bit r 29 = true → c.evqM.length < 32 → does (.eventDelivery ev) (d.setCore n (fun c => { c with evqM := c.evqM ++ [ev] }))) ∧
      (d.bit r 29 = false → c.evqS.length < 32 → does (.eventDelivery ev) (d.setCore n (fun c => { c with evqS := c.evqS ++ [ev] })))) ∧
    (∀ ev, ev < 2048 → d.evQueued ev = true ∨ d.bit (rCrownEvroute ev) 30 = false → exec (.eventDelivery ev) s = .next s) ∧
    (d.coreState n = 0 → d.coreOffline n = at_ d 1) ∧
    (d.coreState n = 2 ∨ d.coreState n = 4 → d.bit (rCorestat n) 7 = false → d.coreOnline n = at_ (d.setCache (10 + n) (fun _ => {})) 3) ∧
    (d.dieActive (slotCulm (n / 48)) = true →
      (d.coreState n = 1 → c.nt = [] → d.cache (10 + n) = {} → does (.coreOfflineDone n) ((at_ (d.coreLost n) 2).addSat (rCorestat n) 15 8 1)) ∧
      (d.coreState n = 3 → ∃ t, exec (.coreSelftestDone n true) s = .next t ∧ t.dev.coreState n = 0 ∧ t.dev.fld (rCorestat n) 31 24 = 0 ∧
        (let v := d.reg (rCulmRstvec (n / 48)) / 256 * 256 % 2 ^ 56
         t.dev.core n = { pc := BitVec.ofNat 64 v, csr := [(0x304, BitVec.ofNat 64 v)] }) ∧
        KeepsMemory s t (fun _ => False)) ∧
      (d.coreState n = 3 → does (.coreSelftestDone n false) (let e := (at_ d 4).addSat (rCorestat n) 31 24 1
        if 3 ≤ e.fld (rCorestat n) 31 24 then e.setBit (rCorestat n) 7 true else e)))

/-- R146 to R153: the events of the stacks. -/
def Obligations.GlumeStacks : Prop :=
  ∀ (s : Machine.State) (g : Nat), g < 12 →
    let d := s.dev
    let does := fun (i : Instr) (e : Dev) => exec i s = .next (leaves s e)
    (∀ (ctx line errs : Nat) (row : DramRow), ctx < 4096 → row.wf = true → line < 0x18000000 →
      let h := Home.hbm (hbmInter g (line * 128))
      let ln := hbmInter g (line * 128) / 128
      let loc := line * 128
      (d.verdict h ctx false ≠ .pass → exec (.glumeRead g ctx line errs row) s = .next s) ∧
      (d.verdict h ctx false = .pass → d.bankHeld g row = false → d.lineBad ln = false →
        (errs = 0 → does (.glumeRead g ctx line errs row) { d with out := d.readHome h 128 }) ∧
        (0 < errs → errs ≤ 3 → does (.glumeRead g ctx line errs row) (let e := ((d.addSat (rGlmEcccnt g) 31 0 1).glumeRecord g 0 errs loc row).rowError g row (loc / 256 * 256) false
          { e with out := e.readHome h 128 })) ∧
        (3 < errs → ∃ t, exec (.glumeRead g ctx line errs row) s = .next t ∧ t.dev.lineBad ln = true ∧
          t.dev.fld (rGlmEcccnt g) 63 32 = min (d.fld (rGlmEcccnt g) 63 32 + 1) (2 ^ 32 - 1) ∧ KeepsMemory s t (fun _ => False))) ∧
      (d.verdict h ctx false = .pass → d.bankHeld g row = false → d.lineBad ln = true →
        does (.glumeRead g ctx line errs row) (let e := d.glumeRecord g 2 0 loc row
          { e with out := e.readHome h 128 })) ∧
      (d.bit (rGlmScrub g) 31 = true → d.setOnline (g / 3) = true → d.bankHeld g row = false → d.lineBad ln = false →
        does (.scrubRead g line errs row) (d.stackError g line errs row true)) ∧
      (d.lineBad ln = true → exec (.scrubRead g line errs row) s = .next s) ∧
      (∀ l : List (BitVec 8), 0 < l.length → l.length ≤ 128 →
        (d.verdict h ctx true ≠ .pass → exec (.glumeWrite g ctx line l.length l) s = .next s) ∧
        (d.verdict h ctx true = .pass → ∃ t, exec (.glumeWrite g ctx line l.length l) s = .next t ∧
          t.dev.ms.mem.readN (hbmInter g loc) l.length = l ∧
          KeepsMemory s t (fun a => hbmInter g loc ≤ a ∧ a < hbmInter g loc + l.length) ∧
          (l.length = 128 → t.dev.lineBad ln = false)))) ∧
    (d.dieActive (slotGlm g) = true → ∀ temp : Int, ∃ t, exec (.stackTempRead g temp) s = .next t ∧
      t.dev.fld (rGlmStat g) 31 24 = min 255 temp.toNat ∧ t.dev.bit (rGlmStat g) 17 = decide (95 < temp) ∧
      (85 < temp → t.dev.fld (rGlmStat g) 19 18 = 1)) ∧
    (∀ ch, ch < 16 → exec (.channelRecal g ch) s = .next s) ∧
    (∀ (q : Repair) (hard : Bool), (d.glume g).busy = some q → q.hard = hard → q.started = false → q.row.wf = true → d.dieActive (slotGlm g) = true →
      let cmd := if hard then Instr.hardRepair g q.row else .softRepair g q.row
      ((d.glume g).usedIn q.row < Config.spareRows ∨ (hard = true ∧ q.row ∈ (d.glume g).soft) →
        does cmd (d.setGlume g (fun x => { x with busy := some { q with started := true } }))) ∧
      ((Config.spareRows ≤ (d.glume g).usedIn q.row ∧ (hard = true → q.row ∉ (d.glume g).soft)) → does cmd (d.repairFailed g q true))) ∧
    (∀ q : Repair, (d.glume g).busy = some q → q.started = true → d.dieActive (slotGlm g) = true →
      does (.hbmRepairComplete g true) (d.repairFailed g q false) ∧
      (d.bit (rGlmRepctl g) 30 = false → (d.glume g).queue = [] → ∃ t, exec (.hbmRepairComplete g false) s = .next t ∧
        (t.dev.glume g).busy = none ∧ t.dev.bit (rGlmRepstat g) 0 = false ∧ KeepsMemory s t (fun _ => False) ∧
        (q.hard = true → q.row ∈ t.dev.nv.hard.get [] g ∧ q.row ∉ (t.dev.glume g).soft) ∧
        (q.hard = false → q.row ∈ t.dev.nv.soft.get [] g ∧ q.row ∈ (t.dev.glume g).soft)))

/-- R157 to R176: the near-memory units. The arithmetic of a strip and of a query is stripAcc's and attendFinish's. -/
def Obligations.NearMemoryCommands : Prop :=
  ∀ (s : Machine.State) (r : Nat) (v : Run),
    let d := s.dev
    let g := v.cmd.f 2 27 24
    let does := fun (i : Instr) (e : Dev) => exec i s = .next (leaves s e)
    d.run? r = some v →
      (v.done = true ∨ v.cmd.op ≠ 0x40 → exec (.nearmemGemv r) s = .next s) ∧
      (v.done = true ∨ v.cmd.op ≠ 0x41 → exec (.nearmemAttend r) s = .next s) ∧
      (∀ e ∈ ([(.nearmemGemv r, 0x40, gemvBad), (.nearmemAttend r, 0x41, attendBad)] : List (Instr × Nat × (Cmd → Chk))),
        v.cmd.op = e.2.1 → v.done = false → d.faultHeld (.cmd r) = false → v.began = false →
          (e.2.2 v.cmd = none → d.bit (rGlmNmvctl g) 31 = true → d.setOnline (g / 3) = true → d.nmvTurn r g = true →
            does e.1 ((d.beginRun r g).setGlume g (fun x => { x with stage := [] }))) ∧
          (∀ st i, e.2.2 v.cmd = some (st, i) → does e.1 (d.failAt r (if 11 < g then 0 else g) st i)) ∧
          (e.2.2 v.cmd = none → d.bit (rGlmNmvctl g) 31 = false → does e.1 (d.failAt r (if 11 < g then 0 else g) .busy 0))) ∧
      (v.done = false → v.began = true → d.faultHeld (.cmd r) = false → d.setOnline (g / 3) = true → d.atSafePoint r v = false →
        let w := d.whoNmv r g
        (v.cmd.op = 0x40 → let x := gemvOf v.cmd.words
          (∀ l e, v.step = 0 → d.readPieces w (cut 128 x.xbase x.vecBytes ++ cut 128 x.xsbase x.sclBytes) = (.ok, l, false, e) →
            does (.nearmemGemv r) (((e.fabDone w.waiter).setGlume g (fun y => { y with stage := l })).nextStep r)) ∧
          (∀ k pages e, v.step = k + 1 → x.cont = false →
            d.stream w g (if x.smode = 0 then [(x.tileAddr k 0, x.kt * tileBytes x.cls)] else
              [(x.tileAddr k 0, x.kt * tileBytes x.cls), (x.scaleTileAddr k 0, x.kt * x.scaleTile)]) = (.ok pages false, e) →
            let y := e.fabDone w.waiter
            let acc := fun vec col => stripAcc (y.nmvRead pages ((y.glume g).stage ++ [])) x k col vec
            let flags := ((List.range x.b).flatMap (fun vec => (List.range 128).map (fun col =>
              stripFlag (acc vec col) (stripOut x (acc vec col))))).foldl (· ||| ·) 0
            does (.nearmemGemv r) (y.gemvWrite r w x k flags false
              (gemvRows x k (fun vec col => (stripOut x (acc vec col)).bits))))) ∧
        (v.cmd.op = 0x41 → let x := attendOf v.cmd.words
          (∀ l e, v.step = 0 → d.readPieces w (cut 128 x.qbase x.queryBytes ++ x.entries.flatMap (fun i => cut 128 (x.entryAddr i) 32)) = (.ok, l, false, e) →
            does (.nearmemAttend r) (((e.fabDone w.waiter).setGlume g (fun y => { y with stage := l })).nextStep r)) ∧
          (∀ pages e, x.entries.length < v.step →
            d.stream w g ((List.range x.entries.length).flatMap (fun k => attendRanges x (x.entries.getD k 0) (attendPage x (d.glume g).stage k))) =
              (.ok pages false, e) → does (.nearmemAttend r) (e.attendFinish r w x pages))))

/-- R194 to R198, R520: what a record write does, and the fault table's events. -/
def Obligations.RecordsAndFaults : Prop :=
  (∀ (s : Machine.State) (n : Nat) (l : List (BitVec 8)), n < 20 → l.length = (ringRegs n).bytes →
      let d := s.dev
      let pa := d.ringBase n + (ringRegs n).bytes * d.ringProd n
      (d.ringOn n = false → d.ringWrite n l = (.off, d)) ∧
      (d.ringOn n = true → d.ringFull n = true → (d.ringWrite n l).1 = .full ∧ KeepsMemory s (leaves s (d.ringWrite n l).2) (fun _ => False)) ∧
      (d.ringOn n = true → d.ringFull n = false → d.rangeVerdict 0 pa l.length true = .pass → ringTier n (d.home pa) = true →
        ∀ a, d.home pa = .hbm a ∨ (∃ p, d.home pa = .core a p) → n ≠ 18 ∧ n ≠ 19 →
          let e := (d.ringWrite n l).2
          (d.ringWrite n l).1 = .written ∧
          e.ms.mem.read (d.place a + 3) = BitVec.ofNat 8 ((l.getD 3 0).toNat % 128 + 128 * d.ringPhase n) ∧
          (∀ k, k < 32 → k ≠ 3 → e.ms.mem.read (d.place a + k) = l.getD k 0) ∧
          KeepsMemory s (leaves s e) (fun x => d.place a ≤ x ∧ x < d.place a + 32) ∧
          (d.ringProd n + 1 < d.ringSize n → e.ringProd n = d.ringProd n + 1 ∧ e.ringPhase n = d.ringPhase n) ∧
          (d.ringProd n + 1 = d.ringSize n → e.ringProd n = 0 ∧ e.ringPhase n = 1 - d.ringPhase n)) ∧
      (d.ringOn n = true → d.ringFull n = false → ringTier n (d.home pa) = false →
        (d.ringWrite n l).1 = .refused ∧ (d.ringWrite n l).2.ringOn n = false ∧ KeepsMemory s (leaves s (d.ringWrite n l).2) (fun _ => False))) ∧
  (∀ (s : Machine.State) (i : Nat) (f : PageFault), i < 65536 → s.dev.flt.table.find i = some f → f.ctx < 4096 →
      let d := s.dev
      let does := fun (i : Instr) (e : Dev) => exec i s = .next (leaves s e)
      let q := d.fld (rCrownCtxxlt f.ctx) 63 60
      let w := d.ringWrite q (wordBytes (faultWords (f.gen % 256 * 65536 + i) f.cause f.level f.access f.cls f.inst f.qid f.ctx f.tag f.va f.opened))
      let full := fun (e : Dev) => e.setBit (rCrownFqctl q) 30 (e.ringOn q && e.ringFull q)
      (f.recorded = true → does (.faultRecordWrite i) (full d)) ∧
      (f.recorded = false → w.1 = .written → does (.faultRecordWrite i)
        (full { w.2 with flt := { w.2.flt with table := w.2.flt.table.set i { f with recorded := true } } })) ∧
      (f.recorded = false → w.1 ≠ .written → does (.faultRecordWrite i) (full w.2)) ∧
      does (.faultTimeout i) (f.waiters.foldl (fun d w => d.waiterFail w .faultUnserviced) (d.faultFree i)) ∧
      (∀ r v, f.waiters = [.cmd r] → d.flt.overflow = [] → d.run? r = some v → v.done = false → v.status = none →
        ∃ t, exec (.faultTimeout i) s = .next t ∧ t.dev.fld rCrownFaultstat 16 0 = (d.flt.table.del i).length % 131072 ∧
          (∃ u, t.dev.run? r = some u ∧ u.done = true ∧ u.status = some Status.faultUnserviced.code) ∧ KeepsMemory s t (fun _ => False)) ∧
      (∀ id, id % 65536 = i →
        (id / 65536 % 256 = f.gen % 256 → d.faultResume 1 id = d.faultFree i ∧ does (.faultTimeout i) (d.faultResume 2 id)) ∧
        (id / 65536 % 256 ≠ f.gen % 256 → ∀ a ∈ [1, 2], d.faultResume a id = d.addSat rCrownFaultstat 63 48 1))) ∧
  (∀ (s : Machine.State) (i : Nat), i < 65536 → s.dev.flt.table.find i = none →
      exec (.faultRecordWrite i) s = .next s ∧ exec (.faultTimeout i) s = .next s ∧
      ∀ a ∈ [1, 2], s.dev.faultResume a i = s.dev.addSat rCrownFaultstat 63 48 1)

/-- R185, R199 to R201. -/
def Obligations.LendingAndInvalidation : Prop :=
  (∀ (s : Machine.State) (n : Nat), n < 1152 →
      let d := s.dev
      let r := rCrownFadmit n
      let does := fun (i : Instr) (e : Dev) => exec i s = .next (leaves s e)
      let revoked := ((d.setFld r 31 30 0).setBit r 29 false).setBit r 28 false
      (∀ v, let mode := if bitsOf v 31 30 = 3 then 0 else bitsOf v 31 30
        (d.bit r 29 = true → mode = 0 → d.fadmitWrite n v = revoked) ∧
        (d.bit r 29 = true → mode ≠ 0 → d.fadmitWrite n v = d) ∧
        (d.bit r 29 = false → v.testBit 29 = false → (d.fadmitWrite n v).fld r 31 30 = mode ∧ (d.fadmitWrite n v).fld r 14 0 = v % 32768 ∧
          ∀ m, m ≠ r → (d.fadmitWrite n v).reg m = d.reg m) ∧
        (d.bit r 29 = false → v.testBit 29 = true →
          (d.fld r 31 30 = 1 → (d.routed (d.fld r 14 0) = true ∨ d.ownId = some (d.fld r 14 0)) →
            (d.fadmitWrite n v).bit r 29 = true ∧ (d.fadmitWrite n v).fe.tx = d.fe.tx ++ [.reclaim (d.fld r 14 0) n (d.fld rCrownLendcfg 15 0)]) ∧
          (d.fld r 31 30 = 1 → d.routed (d.fld r 14 0) = false → d.ownId ≠ some (d.fld r 14 0) → d.fadmitWrite n v = revoked) ∧
          (d.fld r 31 30 = 2 → d.fadmitWrite n v = d.setBit r 29 true) ∧
          (d.fld r 31 30 = 0 → d.fadmitWrite n v = d))) ∧
      (d.bit r 29 = true → does (.lendNoticeExpiry n) revoked) ∧
      (d.bit r 29 = false → exec (.lendNoticeExpiry n) s = .next s) ∧
      (∀ dev, dev < 32768 →
        (d.fld r 31 30 = 1 ∧ d.fld r 14 0 = dev → does (.lendReleaseReceived dev n) revoked) ∧
        (¬ (d.fld r 31 30 = 1 ∧ d.fld r 14 0 = dev) → exec (.lendReleaseReceived dev n) s = .next s) ∧
        d.lendRelease (2 ^ 55 + dev * 2 ^ 40 + n * 2 ^ 29) = { d with fe := { d.fe with tx := d.fe.tx ++ [.release dev n] } } ∧
        (∀ notice, notice < 65536 →
          let q := d.fld rCrownLendcfg 31 28
          let words := faultWords 0 3 0 0 0 0 0 0 0 (2 ^ 55 + dev * 2 ^ 40 + n * 2 ^ 29) ((d.time + notice * 1000000) % 2 ^ 64)
          let w := d.ringWrite q (wordBytes words)
          (w.1 = .written → does (.reclaimNotice dev n notice) w.2) ∧
          (w.1 ≠ .written → does (.reclaimNotice dev n notice) { w.2 with flt := { w.2.flt with notices := w.2.flt.notices ++ [(q, words)] } })))) ∧
  (∀ (s : Machine.State) (r : Nat) (v : Run), s.dev.run? r = some v →
      let d := s.dev
      let does := fun (i : Instr) (e : Dev) => exec i s = .next (leaves s e)
      (v.cmd.op = 0x18 → v.began = false → d.cp.inval = none → d.cpRuns = true →
        (invalidateBad v.cmd = none → ∃ t, exec (.invalidate r) s = .next t ∧ t.dev.cp.inval = some r ∧
          t.dev.run? r = some { v with began := true, inst := 0, start := d.time, step := d.fe.nextId } ∧
          (∀ k key, SMap.find (t.dev.ms.tlb.get [] k) key = if invalidateHits v.cmd key then none else SMap.find (d.ms.tlb.get [] k) key) ∧
          KeepsMemory s t (fun _ => False)) ∧
        (∀ st i, invalidateBad v.cmd = some (st, i) → does (.invalidate r) ((d.runStatus r st i).endRun r))) ∧
      (v.cmd.op ≠ 0x18 ∨ v.began = true ∨ d.cp.inval ≠ none → exec (.invalidate r) s = .next s) ∧
      (d.cp.inval = some r → v.began = true → v.done = false → d.drained v.step = true →
        ∃ t, exec (.invalidateComplete r) s = .next t ∧ t.dev.cp.inval = none ∧
          (∃ u, t.dev.run? r = some u ∧ u.done = true ∧ u.fin = d.time ∧ u.status = v.status) ∧ KeepsMemory s t (fun _ => False)) ∧
      (d.cp.inval ≠ some r ∨ v.began = false ∨ v.done = true ∨ d.drained v.step = false → exec (.invalidateComplete r) s = .next s))

/-- R189, R190, R192, R210 to R221, R235, R250: events between the caches, the tables and the fabric. -/
def Obligations.CachesAndWalks : Prop :=
  (∀ (s : Machine.State) (k line : Nat), k < 106 → s.dev.cacheActs k = true →
      let d := s.dev
      let does := fun (i : Instr) (e : Dev) => exec i s = .next (leaves s e)
      (k < 10 →
        (d.bit (rScstat k) 30 = true → does (.sccmdDone k) ((d.setCache k (fun c => { c with sweep := 0 })).setBit (rScstat k) 30 false)) ∧
        (d.bit (rScstat k) 30 = false → exec (.sccmdDone k) s = .next s) ∧
        (d.bit (rScstat k) 31 = false → does (.cacheInitDone k) ((d.setCache k (fun _ => {})).setBit (rScstat k) 31 true)) ∧
        (d.bit (rScstat k) 31 = true → exec (.cacheInitDone k) s = .next s) ∧
        (∀ (str : Bool) vic, d.cached k line ≠ none ∨ (d.cache k).fills.find line ≠ none → exec (.cacheMiss k line str vic) s = .next s) ∧
        (∀ (str : Bool) vic, d.cached k line = none → (d.cache k).fills.find line = none → d.fillWays k ≠ [] → (∀ e ∈ (d.cache k).lines, e.2.age ≤ 3) →
          ∃ t, exec (.cacheMiss k line str vic) s = .next t ∧ t.dev.fld (rScmiss k) 63 0 = (d.fld (rScmiss k) 63 0 + 1) % 2 ^ 64 ∧
            (∃ f, (t.dev.cache k).fills.find line = some f ∧ f.streaming = str ∧ f.way ∈ d.fillWays k) ∧ t.dev.cached k line = none ∧
            KeepsMemory s t (fun _ => False)) ∧
        (∀ f, (d.cache k).fills.find line = some f → ∃ t, exec (.cacheFillReturn k line none) s = .next t ∧ (t.dev.cache k).fills.find line = none ∧
          t.dev.cached k line = some { way := f.way, age := if f.streaming then 3 else 2 } ∧ KeepsMemory s t (fun _ => False)) ∧
        ((d.cache k).fills.find line = none → exec (.cacheFillReturn k line none) s = .next s)) ∧
      (∀ l, (d.cache k).fills.find line = none ∨ 10 ≤ k → ∃ t, exec (.cacheFillReturn k line (some l)) s = .next t ∧ (∀ j, t.dev.cached j l = none) ∧
        t.dev.ms.stale.find l = none ∧ t.dev.fld rCrownDirstat 63 0 = (d.fld rCrownDirstat 63 0 + 1) % 2 ^ 64 ∧ KeepsMemory s t (fun _ => False)) ∧
      (∀ region, does (.seqdetTimeout k region) (d.setCache k (fun c => { c with seq := c.seq.filter (·.region != region) }))) ∧
      (∀ (str : Bool) v, 10 ≤ k →
        (d.cached k v = none → exec (.cacheMiss k line str (some v)) s = .next s) ∧
        (∀ e, d.cached k v = some e → e.dirty = false → does (.cacheMiss k line str (some v)) (d.setCache k (fun c => { c with lines := c.lines.del v }))) ∧
        (∀ e, d.cached k v = some e → e.dirty = true → e.na = true →
          does (.cacheMiss k line str (some v)) ((d.setCache k (fun c => { c with lines := c.lines.del v })).writeHome v)))) ∧
  (∀ (s : Machine.State) (n : Nat) (e : NtEntry), n < 96 → s.dev.dieActive (slotCulm (n / 48)) = true →
      ((s.dev.core n).nt = [] → exec (.ntbufIdleDrain n) s = .next s) ∧
      (∀ a, (s.dev.core n).nt = [e] → e.mask = BitVec.allOnes 128 → s.dev.home (e.line * 128) = .hbm a → s.dev.verdict (.hbm a) e.ctx true = .pass →
        ∃ t, exec (.ntbufIdleDrain n) s = .next t ∧ (t.dev.core n).nt = [] ∧ t.dev.ms.mem.readN (s.dev.place a) 128 = leBytes 128 e.data.toNat ∧
          KeepsMemory s t (fun x => s.dev.place a ≤ x ∧ x < s.dev.place a + 128))) ∧
  (∀ (s : Machine.State) (cache ctx va : Nat) (w : Waiter) (o : Who) (wr : Bool), cache < 128 → ctx < 4096 → va < 2 ^ 56 →
      s.dev.walkWho w = some o → o.tlb = cache → o.ctx = ctx → s.dev.tlbFind cache ctx va = none →
      let d := s.dev
      let a := if wr then Acc3.write else .read
      let does := fun (e : Dev) => exec (.pageWalk cache ctx va wr w) s = .next (leaves s e)
      (∀ e l, d.walk ctx va = .leaf e l →
        let f : Dev := { d with ms := { d.ms with tlb := d.ms.tlb.upd [] cache (fun t => SMap.set t (tlbKey ctx (l == 2) va) { pte := BitVec.ofNat 64 e, huge := l == 2 }) } }
        (ptePermits e a = true → does f) ∧ (ptePermits e a = false → does (f.hold o 1 l va a))) ∧
      (∀ c l, d.walk ctx va = .fault c l → does (d.hold o c l va a)) ∧
      (∀ st, d.walk ctx va = .status st → does (d.waiterFail o.waiter st)) ∧
      (d.walk ctx va = .wait → does d)) ∧
  (∀ (d : Dev) (ctx va : Nat),
      let at1 := d.fld (rCrownCtxxlt ctx) 55 17 * 2 ^ 17 + 8 * bitsOf va 55 42
      (d.bit (rCrownCtxxlt ctx) 0 = false → d.walk ctx va = .fault 0 1) ∧
      (d.bit (rCrownCtxxlt ctx) 0 = true →
        (∀ w, d.walkRead ctx at1 1 = .inr w → d.walk ctx va = w) ∧
        (∀ e, d.walkRead ctx at1 1 = .inl e →
          (e.testBit 0 = false → d.walk ctx va = .fault 0 1) ∧
          (e.testBit 0 = true → pteMalformed e 1 = true → d.walk ctx va = .fault 2 1) ∧
          (e.testBit 0 = true → pteMalformed e 1 = false → ∀ e2, d.walkRead ctx (pteFrame e + 8 * bitsOf va 41 29) 2 = .inl e2 →
            (e2.testBit 0 = false → d.walk ctx va = .fault 0 2) ∧
            (e2.testBit 0 = true → pteMalformed e2 2 = true → d.walk ctx va = .fault 2 2) ∧
            (e2.testBit 0 = true → pteMalformed e2 2 = false → e2.testBit 1 = true → d.walk ctx va = .leaf e2 2) ∧
            (e2.testBit 0 = true → pteMalformed e2 2 = false → e2.testBit 1 = false →
              ∀ e3, d.walkRead ctx (pteFrame e2 + 8 * bitsOf va 28 16) 3 = .inl e3 →
                d.walk ctx va = if e3.testBit 0 = false then .fault 0 3 else if pteMalformed e3 3 then .fault 2 3 else .leaf e3 3))))) ∧
  (∀ (s : Machine.State) (id : Nat),
      let d := s.dev
      (d.fe.reqs.find id = none → exec (.fabricLoadTimeout id) s = .next s ∧ exec (.fabricStoreTimeout id) s = .next s) ∧
      (∀ r, d.fe.reqs.find id = some r → r.load = true →
        exec (.fabricStoreTimeout id) s = .next s ∧
        exec (.fabricLoadTimeout id) s = .next (leaves s { d with fe := { d.fe with reqs := d.fe.reqs.del id, answers := d.fe.answers ++ [⟨r.origin, windowAddr r.dev r.off, Status.remoteDead.code, []⟩] } })) ∧
      (∀ r n, d.fe.reqs.find id = some r → r.load = false → r.origin = .core n →
        let same := fun (e : FabReq) => !e.load && e.dev == r.dev && e.origin.thread == .core n
        exec (.fabricLoadTimeout id) s = .next s ∧
        ∃ t, exec (.fabricStoreTimeout id) s = .next t ∧ (∀ e ∈ t.dev.fe.reqs, same e.2 = false) ∧
          t.dev.fld rCrownSlstat 31 0 = min (d.fld rCrownSlstat 31 0 + d.fe.reqs.countP (fun _ e => same e)) (2 ^ 32 - 1) ∧
          (∃ x, (t.dev.core n).deferred = some x)))

/-- R417 to R422, R426, R437 to R441: the events of the fabric ports. -/
def Obligations.FabricLinks : Prop :=
  (∀ (s : Machine.State) (p : Nat), p < 16 →
      let d := s.dev
      let does := fun (i : Instr) (e : Dev) => exec i s = .next (leaves s e)
      let retrains := fun (i : Instr) => ∃ t, exec i s = .next t ∧ t.dev.fpState p = 3 ∧ t.dev.fld (rFePortstat p) 59 56 = 0 ∧ (t.dev.fport p).lanes = 0 ∧
        (∀ own, d.ownId = some own → (own, p) ∈ t.dev.fe.fails ∧ (d.feSpeaks = true → .linkState own p false ∈ t.dev.fe.tx)) ∧ KeepsMemory s t (fun _ => False)
      let lanes := fun (i : Instr) (v : BitVec 8) =>
        (6 ≤ lanesOf v → does i ((d.setFport p (fun f => { f with lanes := v })).setFld (rFePortstat p) 59 56 (lanesOf v))) ∧ (lanesOf v < 6 → retrains i)
      (d.trained p = false → ∀ i ∈ ([.linkFailure p, .helloMissTimeout p, .laneFailure p 7, .fabricLaneRetrained p 0] : List Instr), exec i s = .next s) ∧
      (d.trained p = true → retrains (.linkFailure p) ∧ retrains (.helloMissTimeout p) ∧ ∀ l, l < 8 →
        lanes (.laneFailure p l) ((d.fport p).lanes &&& ~~~((1 : BitVec 8) <<< l)) ∧ lanes (.fabricLaneRetrained p l) ((d.fport p).lanes ||| ((1 : BitVec 8) <<< l))) ∧
      does (.flitCrcFailure p) (d.setFld (rFePortstat p) 31 0 (min (d.fld (rFePortstat p) 31 0 + 1) (2 ^ 32 - 1))) ∧
      (∀ v, d.feRuns = true → d.fpState p = 3 ∨ d.fpState p = 5 → 6 ≤ lanesOf v → ∃ t, exec (.linkTrained p v) s = .next t ∧ t.dev.fpState p = 4 ∧
        t.dev.fld (rFePortstat p) 59 56 = lanesOf v ∧ (t.dev.fport p).lanes = v ∧ (∀ own, d.ownId = some own → t.dev.fe.fails = d.fe.fails.erase (own, p))) ∧
      (∀ v, d.feRuns = false ∨ (d.fpState p ≠ 3 ∧ d.fpState p ≠ 5) ∨ lanesOf v < 6 → exec (.linkTrained p v) s = .next s) ∧
      (d.fpState p = 2 ∨ d.fpState p = 3 → ∃ t, exec (.portDownDeclare p) s = .next t ∧ t.dev.fpState p = 5 ∧ t.dev.fe = d.fe) ∧
      (d.fpState p ≠ 2 → d.fpState p ≠ 3 → exec (.portDownDeclare p) s = .next s) ∧
      (d.fpState p = 2 → does (.moduleReady p) (d.setFld (rFePortstat p) 63 60 3)) ∧ (d.fpState p ≠ 2 → exec (.moduleReady p) s = .next s) ∧
      (∀ kind oui sn,
        (d.feRuns = true → d.bit (rFePortctl p) 31 = true → kind = 1 ∨ kind = 2 → ∃ t, exec (.moduleInsertion p kind oui sn) s = .next t ∧
          t.dev.fpState p = (if kind = 1 then 3 else 2) ∧ t.dev.reg (rFeModid p) = kind * 2 ^ 62 + oui % 2 ^ 24 * 2 ^ 32 + sn % 2 ^ 32 ∧
          (t.dev.fport p).present = some (kind, oui, sn % 2 ^ 32) ∧ (t.dev.wearOf (sn % 2 ^ 32)).inserts = (d.wearOf (sn % 2 ^ 32)).inserts + 1) ∧
        (d.feRuns = true → d.bit (rFePortctl p) 31 = true → ∃ t, exec (.moduleInsertion p 0 oui sn) s = .next t ∧ t.dev.fpState p = 1 ∧ t.dev.reg (rFeModid p) = 0) ∧
        (d.feRuns = false ∨ d.bit (rFePortctl p) 31 = false →
          does (.moduleInsertion p kind oui sn) (d.setFport p (fun f => { f with present := if kind = 0 then none else some (kind % 4, oui, sn % 2 ^ 32) })))) ∧
      (∃ t, exec (.moduleRemoval p) s = .next t ∧ (t.dev.fport p).present = none ∧ t.dev.fpState p = (if d.bit (rFePortctl p) 31 && d.feRuns then 1 else 0) ∧
        t.dev.reg (rFeModid p) = 0 ∧ t.dev.reg (rFeModwear p) = 0 ∧ (t.dev.fport p).lanes = 0) ∧
      (∀ days bias, ((d.fport p).present = none → exec (.moduleWearUpdate p days bias) s = .next s) ∧
        (∀ k o sn, (d.fport p).present = some (k, o, sn) → ∃ t, exec (.moduleWearUpdate p days bias) s = .next t ∧
          t.dev.wearOf sn = { d.wearOf sn with days := min 65535 (max (d.wearOf sn).days days), bias := max (d.wearOf sn).bias bias } ∧
          t.dev.fld (rFeModwear p) 47 32 = min 65535 (d.wearOf sn).inserts))) ∧
  (∀ (s : Machine.State),
      let d := s.dev
      let does := fun (i : Instr) (e : Dev) => exec i s = .next (leaves s e)
      let b := d.fe.best.getD d.feKey
      (d.feSpeaks = false → ∀ i ∈ ([.helloTimer, .electionSettle, .fabricReadyReceive, .readyReportReceive 32767, .assignReceive 0 0] : List Instr), exec i s = .next s) ∧
      (d.feSpeaks = true → does .helloTimer { d with fe := { d.fe with tx := d.fe.tx ++ ((List.range 16).filter d.trained).map (fun p =>
        .hello p ⟨d.feKey.1, d.feKey.2, d.ownId, p, b.1, b.2, BitVec.ofNat 32 (d.reg rFeTopo), d.bit rFeStat 30⟩) } }) ∧
      (∀ p (h : Hello), p < 16 → d.feSpeaks = true → d.trained p = true → ∃ t, exec (.helloReceive p h) s = .next t ∧ (t.dev.fport p).hello = some h ∧
        t.dev.fld (rFePortstat p) 55 52 = h.port % 16 ∧ t.dev.fpState p = (if d.helloWrong p h then 6 else 4) ∧
        (d.helloWrong p h = false → d.fpState p = 4 → (h.bestPrio, h.bestSerial) = (h.prio, h.serial) → ∀ k, d.fe.best = some k →
          (t.dev.fe.best = if keyLt (h.prio, h.serial) k = true ∧ h.serial ∉ d.fe.gone then some (h.prio, h.serial) else some k))) ∧
      (∀ p (h : Hello), p < 16 → d.feSpeaks = false ∨ d.trained p = false → exec (.helloReceive p h) s = .next s) ∧
      (d.feSpeaks = true → d.fe.settled = false → d.portsResolved = true → d.bit rFeId 31 = false →
        (d.fe.best = some d.feKey → ∃ t, exec .electionSettle s = .next t ∧ t.dev.fe.settled = true ∧ t.dev.bit rFeStat 29 = true ∧ t.dev.reg rFeTopo = d.reg rFeTopo ∧
          (d.pins.posEn = false → t.dev.ownId = some 0 ∧ .assign 0 ∈ t.dev.fe.tx) ∧
          (d.pins.posEn = true → (topoOf (d.reg rFeTopo)).holds d.pins.pos.toNat = true → d.pins.pos.toNat < 32768 → t.dev.ownId = some d.pins.pos.toNat)) ∧
        (∀ k, d.fe.best = some k → k ≠ d.feKey → d.pins.posEn = false → ∃ t, exec .electionSettle s = .next t ∧ t.dev.fe.settled = true ∧
          t.dev.bit rFeStat 29 = false ∧ t.dev.fld rFeStat 19 16 = 3 ∧ t.dev.ownId = none)) ∧
      (d.fe.settled = true ∨ d.portsResolved = false → exec .electionSettle s = .next s) ∧
      (∀ p snd, p < 16 → snd < 32768 → d.feSpeaks = true → d.trained p = true →
        let c := (topoOf (d.reg rFeTopo)).fromSender p snd
        (∀ own, d.ownId = some own → (c = some own → exec (.assignReceive p snd) s = .next s) ∧
          (c ≠ some own → d.fpState p = 4 → ∃ t, exec (.assignReceive p snd) s = .next t ∧ t.dev.fpState p = 6 ∧ t.dev.ownId = some own)) ∧
        (∀ v, d.ownId = none → c = some v → d.pins.posEn = false → (topoOf (d.reg rFeTopo)).holds v = true →
          ∃ t, exec (.assignReceive p snd) s = .next t ∧ t.dev.ownId = some v ∧ .assign v ∈ t.dev.fe.tx)) ∧
      (∀ dev q, d.feSpeaks = true → dev < 32768 → q < 16 →
        (if (dev, q) ∈ d.fe.fails then exec (.linkStateReceive (.linkState dev q false)) s = .next s ∧
            ∃ t, exec (.linkStateReceive (.linkState dev q true)) s = .next t ∧ t.dev.fe.fails = d.fe.fails.erase (dev, q) ∧ .linkState dev q true ∈ t.dev.fe.tx
          else exec (.linkStateReceive (.linkState dev q true)) s = .next s ∧
            ∃ t, exec (.linkStateReceive (.linkState dev q false)) s = .next t ∧ t.dev.fe.fails = d.fe.fails ++ [(dev, q)] ∧ .linkState dev q false ∈ t.dev.fe.tx) ∧
        (∀ sn, (d.ownId ≠ some dev → d.fe.devs.find dev ≠ some sn → ∃ t, exec (.linkStateReceive (.presence dev sn)) s = .next t ∧
            t.dev.fe.devs.find dev = some sn ∧ .presence dev sn ∈ t.dev.fe.tx) ∧
          (d.ownId ≠ some dev → d.fe.devs.find dev = some sn → exec (.linkStateReceive (.presence dev sn)) s = .next s) ∧
          (d.ownId = some dev → sn < d.fld rCrownPkgid 31 0 → does (.linkStateReceive (.presence dev sn)) ((d.setBit rFeStat 28 true).setFld rFeStat 27 26 1)))) ∧
      (∀ dev, dev < 32768 →
        (d.feSpeaks = true → d.bit rFeStat 29 = true → ∃ t, exec (.readyReportReceive dev) s = .next t ∧ dev ∈ t.dev.fe.ready ∧ (∀ x ∈ d.fe.ready, x ∈ t.dev.fe.ready)) ∧
        (d.bit rFeStat 29 = false → exec (.readyReportReceive dev) s = .next s)) ∧
      (d.feSpeaks = true → d.bit rFeId 31 = true →
        (d.bit rFeStat 30 = false → does .fabricReadyReceive (((d.setBit rFeStat 30 true).setReg rFeReadytime (d.time % 2 ^ 64)).setFld rFeStat 19 16 5)) ∧
        (d.bit rFeStat 30 = true → exec .fabricReadyReceive s = .next s)) ∧
      (∀ dst n (b : Bool), n < 5 → let k := max n (if b then 1 else 0)
        ∀ own, d.ownId = some own →
          (own = dst ∨ d.bit rFeStat 28 = true ∨ d.net.route own dst = none → exec (.fabricTransitPacket dst n b) s = .next s) ∧
          (∀ r, own ≠ dst → d.feSpeaks = true → d.net.route own dst = some r → d.fpState r.port = 4 →
            does (.fabricTransitPacket dst n b) { d with fe := { d.fe with tx := d.fe.tx ++ [.forward r.port dst k] } }) ∧
          (∀ r, own ≠ dst → d.bit rFeStat 28 = false → d.net.route own dst = some r → (∀ q, q < 16 → d.portUp q = false) → r.port < 16 →
            exec (.fabricTransitPacket dst n b) s = .next s)))

/-- R182, R427, R428, R430: requests at the destination and answers at the source. -/
def Obligations.FabricRequests : Prop :=
  (∀ (s : Machine.State) (dev seq base off : Nat) (l : List (BitVec 8)), dev < 32768 → 1 ≤ l.length → off % 128 + l.length ≤ 128 → off < 2 ^ 64 →
      let d := s.dev
      let st := Instr.fabricInboundAccess dev seq base true off l.length l
      let ld := Instr.fabricInboundAccess dev seq base false off l.length l
      let turn := d.feSpeaks = true ∧ SMap.get 0 d.fe.expect dev = seq ∧ base ≤ seq ∧ SMap.get [] d.fe.held dev = []
      let answers := fun (i : Instr) (code : Nat) (b : List (BitVec 8)) (p : Nat → Prop) => ∃ t, exec i s = .next t ∧
        t.dev.fe.tx = d.fe.tx ++ [.answer dev seq code b] ∧ SMap.get 0 t.dev.fe.expect dev = seq + 1 ∧ KeepsMemory s t p
      (∀ wr, d.inboundBad dev off l.length wr = none ↔ (off + l.length ≤ 0x9000000000 ∧
        (d.fld (rCrownFadmit (off / 0x20000000)) 31 30 = 2 ∨ (d.fld (rCrownFadmit (off / 0x20000000)) 31 30 = 1 ∧ d.fld (rCrownFadmit (off / 0x20000000)) 14 0 = dev)) ∧
        d.verdict (.hbm off) 0 wr true = .pass)) ∧
      (turn → ∀ e, (d.inboundBad dev off l.length true = some e → answers st e.code [] (fun _ => False)) ∧
        (d.inboundBad dev off l.length false = some e → answers ld e.code [] (fun _ => False))) ∧
      (turn → d.inboundBad dev off l.length true = none → answers st 0 [] (fun a => off ≤ a ∧ a < off + l.length) ∧
        ∀ t, exec st s = .next t → t.dev.ms.mem.readN off l.length = l) ∧
      (turn → d.inboundBad dev off l.length false = none →
        (d.lineBad (off / 128) = false → answers ld 0 (d.ms.mem.readN off l.length) (fun _ => False)) ∧
        (d.lineBad (off / 128) = true → answers ld Status.poison.code [] (fun _ => False))) ∧
      (d.feSpeaks = false ∨ seq < SMap.get 0 d.fe.expect dev ∨ seq < base → exec st s = .next s ∧ exec ld s = .next s) ∧
      (d.feSpeaks = true → SMap.get 0 d.fe.expect dev < seq → base ≤ SMap.get 0 d.fe.expect dev → SMap.get [] d.fe.held dev = [] →
        ∃ t, exec st s = .next t ∧ t.dev.fe.tx = d.fe.tx ∧ SMap.get [] t.dev.fe.held dev = [⟨seq, false, off, l.length, l, false⟩] ∧
          SMap.get 0 t.dev.fe.expect dev = SMap.get 0 d.fe.expect dev ∧ KeepsMemory s t (fun _ => False)) ∧
      (d.feSpeaks = true → SMap.get 0 d.fe.expect (dev + 0x8000) = seq → base ≤ seq → SMap.get [] d.fe.held (dev + 0x8000) = [] →
        ∀ own, d.ownId = some own → own ≠ dev → d.inboundBad dev off l.length true = none → d.treeChildren dev own = [] → d.fe.bcasts = [] →
          ∃ t, exec (.broadcastStoreReceive dev seq base off l none) s = .next t ∧ .answer dev seq 0 (leBytes 2 own) ∈ t.dev.fe.tx ∧
            t.dev.ms.mem.readN off l.length = l)) ∧
  (∀ (s : Machine.State) (id st : Nat) (l : List (BitVec 8)),
      let d := s.dev
      let does := fun (i : Instr) (e : Dev) => exec i s = .next (leaves s e)
      (d.fe.reqs.find id = none → exec (.fabricResponseReceive id st l) s = .next s ∧ exec (.fabricResendTimer id) s = .next s) ∧
      (∀ r, d.fe.reqs.find id = some r →
        (r.load = true → does (.fabricResponseReceive id st l) ({ d with fe := { d.fe with reqs := d.fe.reqs.del id, answers := d.fe.answers ++ [⟨r.origin, windowAddr r.dev r.off, st, l⟩] } } : Dev).destroyTick) ∧
        (r.load = false → st = 0 → does (.fabricResponseReceive id st l) ((({ d with fe := { d.fe with reqs := d.fe.reqs.del id } } : Dev).storesSettle d r.origin).destroyTick)) ∧
        (r.load = false → st = Status.protection.code → r.dev ≠ 0x7FFF → does (.fabricResponseReceive id st l) (d.dropStores r .protection).destroyTick) ∧
        (d.feSpeaks = true → ∃ t, exec (.fabricResendTimer id) s = .next t ∧ t.dev.fe.tx = d.fe.tx ++ [.request { r with base := d.fabBase r.dev r.seq }] ∧
          t.dev.fe.reqs.find id = some { r with resent := d.time, base := d.fabBase r.dev r.seq } ∧ KeepsMemory s t (fun _ => False) ∧
          d.fabBase r.dev r.seq ≤ r.seq))) ∧
  (∀ (s : Machine.State) (src seq child code : Nat) (b : Bcast), src < 32768 →
      let d := s.dev
      let i := Instr.broadcastStoreReceive src seq 0 0 [] (some (child, code))
      (d.feSpeaks = false → exec i s = .next s) ∧
      (d.feSpeaks = true → d.fe.bcasts = [b] → b.src = src → b.seq = seq → b.waits = [child] → b.status = 0 → d.ownId ≠ some src →
        ∃ t, exec i s = .next t ∧ t.dev.fe.bcasts = [] ∧
          t.dev.fe.tx = d.fe.tx ++ [.answer src seq code (leBytes 2 (if code = 0 then b.failed else child))] ∧ KeepsMemory s t (fun _ => False)))

/-- R431 to R436: collectives on this device. Where a chunk goes is collOut's. -/
def Obligations.Collectives : Prop :=
  (∀ (s : Machine.State) (r : Nat) (v : Run), s.dev.run? r = some v →
      ∀ p ∈ ([(.allreduce r, 0x70), (.allgather r, 0x71), (.reduceScatter r, 0x72)] : List (Instr × Nat)),
      let d := s.dev
      let w := d.whoRun r
      let does := fun (e : Dev) => exec p.1 s = .next (leaves s e)
      (v.cmd.op ≠ p.2 ∨ v.done = true ∨ d.faultHeld (.cmd r) = true → exec p.1 s = .next s) ∧
      (v.cmd.op = p.2 → v.done = false → d.faultHeld (.cmd r) = false →
        (v.began = false →
          (∀ st i, collBad v.cmd = some (st, i) → does (d.failAt r 0 st i)) ∧
          (collBad v.cmd = none → d.bit rFeStat 30 = false → does (d.failAt r 0 .busy)) ∧
          (collBad v.cmd = none → d.bit rFeStat 30 = true → 64 ≤ d.fe.colls.length → exec p.1 s = .next s) ∧
          (∀ l l2 e e2, collBad v.cmd = none → d.bit rFeStat 30 = true → d.fe.colls.length < 64 → d.readV w (v.cmd.dw 4) 8 = (.ok, l, false, e) →
            0 < word (bytesWords l) 0 → word (bytesWords l) 0 ≤ 20480 → e.readV w (v.cmd.dw 4) (8 + 4 * ((word (bytesWords l) 0 + 1) / 2)) = (.ok, l2, false, e2) →
            let x := e2.fabDone w.waiter
            let ws := bytesWords l2
            let m := groupMembers ws
            let rank := (m.findIdx? (fun y => some y == x.ownId)).getD 0
            let f := [v.cmd.op, v.cmd.collType, v.cmd.collRop, v.cmd.collCount, m.length]
            (∀ st i, groupBad x v.cmd ws = some (st, i) → does (x.failAt r 0 st i)) ∧
            (groupBad x v.cmd ws = none → x.fe.colls.any (fun c => c.2.tag == word ws 1 && c.2.seq == v.cmd.w 3) = true → does (x.failAt r 0 .busy)) ∧
            (groupBad x v.cmd ws = none → x.fe.colls.any (fun c => c.2.tag == word ws 1 && c.2.seq == v.cmd.w 3) = false →
              let y := x.beginRun r 0
              does (({ y with fe := { y.fe with colls := y.fe.colls.set r { tag := word ws 1, seq := v.cmd.w 3, members := m, rank := rank, fields := [(rank, f)] } } } : Dev).fabTx (.collFields (word ws 1) (v.cmd.w 3) rank f))))) ∧
        (v.began = true → ∀ c, d.coll? r = some c →
          let got := SMap.get [] c.data v.step
          (c.fields.length ≠ c.members.length → exec p.1 s = .next s) ∧
          (c.fields.length = c.members.length → v.cmd.chunks = 0 → ∃ t, exec p.1 s = .next t ∧ t.dev.coll? r = none ∧ KeepsMemory s t (fun _ => False) ∧
            ∃ u, t.dev.run? r = some u ∧ u.done = true ∧ u.status = v.status) ∧
          (c.fields.length = c.members.length → 0 < v.cmd.chunks → SMap.find got c.rank = none → 1 < c.members.length →
            ∀ l e, d.readV w (v.cmd.dw 6 + v.step * 65536) (v.cmd.chunkLen v.step) = (.ok, l, false, e) →
              does (((e.fabDone w.waiter).setColl r (fun x => { x with data := x.data.upd [] v.step (fun m => SMap.set m c.rank (l, [])) })).fabTx (.collData c.tag c.seq c.rank v.step l []))) ∧
          (c.fields.length = c.members.length → 0 < v.cmd.chunks → SMap.find got c.rank ≠ none → got.length = c.members.length → does (d.collWrite r v c)) ∧
          (c.fields.length = c.members.length → 0 < v.cmd.chunks → SMap.find got c.rank ≠ none → got.length ≠ c.members.length → exec p.1 s = .next s)))) ∧
  (∀ (s : Machine.State) (r : Nat) (c : Coll), s.dev.coll? r = some c →
      let d := s.dev
      let does := fun (i : Instr) (e : Dev) => exec i s = .next (leaves s e)
      (∀ k f, d.feSpeaks = true → k < c.members.length → k ≠ c.rank → 1 < f.length →
        (f = SMap.get [] c.fields c.rank → does (.collectiveFieldsExchange r k f) (d.setColl r (fun c => { c with fields := c.fields.set k f }))) ∧
        (f ≠ SMap.get [] c.fields c.rank → ∃ t, exec (.collectiveFieldsExchange r k f) s = .next t ∧ t.dev.coll? r = none)) ∧
      (∀ k f, d.feSpeaks = false ∨ c.members.length ≤ k ∨ k = c.rank → exec (.collectiveFieldsExchange r k f) s = .next s) ∧
      (c.met = true → exec (.collTimeout r) s = .next s) ∧
      (c.met = false → ∃ t, exec (.collTimeout r) s = .next t ∧ t.dev.coll? r = none) ∧
      (∀ v k j (l : List (BitVec 8)) bad, d.run? r = some v →
        (d.feSpeaks = true → v.step ≤ j → l.length = v.cmd.chunkLen j → k < c.members.length → k ≠ c.rank →
          ∃ t x, exec (.collectiveChunkReceive r k j l bad) s = .next t ∧ t.dev.coll? r = some x ∧ SMap.find (SMap.get [] x.data j) k = some (l, bad) ∧
            KeepsMemory s t (fun _ => False)) ∧
        (d.feSpeaks = false ∨ j < v.step ∨ l.length ≠ v.cmd.chunkLen j → exec (.collectiveChunkReceive r k j l bad) s = .next s))) ∧
  (∀ (f : Nat → Nat → Nat) (a b c e : Nat), treeFold f 15 [a] = some a ∧ treeFold f 15 [a, b, c] = some (f (f a b) c) ∧
      treeFold f 15 [a, b, c, e] = some (f (f a b) (f c e))) ∧
  (∀ x y : BitVec 32,
      collCombine 3 0 (leBytes 4 x.toNat) (leBytes 4 y.toNat) = leBytes 4 (x + y).toNat ∧
      collCombine 3 1 (leBytes 4 x.toNat) (leBytes 4 y.toNat) = leBytes 4 (BitVec.ofInt 32 (max x.toInt y.toInt)).toNat ∧
      collCombine 3 2 (leBytes 4 x.toNat) (leBytes 4 y.toNat) = leBytes 4 (BitVec.ofInt 32 (min x.toInt y.toInt)).toNat)

/-- R206, R275 to R279, R282, R286, R295, R309, R335, R338: the queues. -/
def Obligations.QueuesAndFences : Prop :=
  (∀ (s : Machine.State) (ctx page idx val : Nat), ctx < 4096 → page < 4096 → idx < 256 → val < 2 ^ 64 →
      let d := s.dev
      let does := fun (i : Instr) (e : Dev) => exec i s = .next (leaves s e)
      let q := 256 * page + idx
      let bad := d.addSat rCpDbstat 31 0 1
      let prod := val % 2 ^ 32
      (ctx ≠ 0 → ctx ≠ page → does (.submissionDoorbell ctx page idx val) (d.ctrlError (0x10000000 + (4096 * page + 16 * idx))) ∧
        does (.cqConsumerDoorbell ctx page idx val) (d.ctrlError (0x10000000 + (4096 * page + 16 * idx + 8)))) ∧
      (ctx = 0 ∨ ctx = page →
        (d.cp.queues.find q = none → does (.submissionDoorbell ctx page idx val) bad) ∧
        (∀ y, d.cp.queues.find q = some y →
          let ok := bitsOf val 47 40 = idx ∧ bitsOf val 39 32 = 0 ∧ bitsOf val 63 48 = (prod + 65535) % 65536 ∧
            (prod + (2 ^ 32 - y.p)) % 2 ^ 32 < 2 ^ 31 ∧ (prod + (2 ^ 32 - y.n)) % 2 ^ 32 ≤ 2 ^ y.log2 ∧ y.st ≠ .draining
          (¬ ok → does (.submissionDoorbell ctx page idx val) bad) ∧
          (ok → ∃ t, exec (.submissionDoorbell ctx page idx val) s = .next t ∧ KeepsMemory s t (fun _ => False) ∧
            t.dev.cp.queues.find q = some { y with p := prod, st := if y.st = .parked then .active else y.st })) ∧
        (d.cqOf page idx = none → does (.cqConsumerDoorbell ctx page idx val) bad) ∧
        (∀ k, d.cqOf page idx = some k →
          let c := d.cp.cqs.get {} k
          let old := c.cons % 2 ^ 32
          let ok := val < 2 ^ 32 ∧ (prod + (2 ^ 32 - old)) % 2 ^ 32 ≤ (c.written + (2 ^ 32 - old)) % 2 ^ 32
          (¬ ok → does (.cqConsumerDoorbell ctx page idx val) bad) ∧
          (ok → does (.cqConsumerDoorbell ctx page idx val) ({ d with cp := { d.cp with cqs := d.cp.cqs.adj k (fun c => { c with cons := prod }) } } : Dev).noticeFlush)))) ∧
  (∀ (s : Machine.State) (q : Nat), q < 2 ^ 20 →
      let d := s.dev
      let x := d.queue q
      let does := fun (i : Instr) (e : Dev) => exec i s = .next (leaves s e)
      (d.fetches q = false → exec (.slotFetch q) s = .next s ∧ exec (.slotRefetch q) s = .next s) ∧
      (x.retry = none → x.n = x.p → exec (.slotFetch q) s = .next s) ∧
      (d.fetches q = true → x.stale = none → x.retry = none → x.fetched = [] → x.skip = 0 → x.p = (x.n + 1) % 2 ^ 32 → x.n < 2 ^ 32 →
        ∀ ws e, d.readSlot q (x.ring + 64 * (x.n % 2 ^ x.log2)) = (some ws, e) → e.queue q = x →
          let cur := (ws.getD 0 0).toNat / 2 ^ 31 % 2 = 1 - x.n / 2 ^ x.log2 % 2 ∧ (ws.getD 0 0).toNat % 65536 = x.n % 65536
          (cur → ∃ t, exec (.slotFetch q) s = .next t ∧ (t.dev.queue q).fetched = [{ words := ws, seq := x.n % 65536, place := .ring, num := x.n }] ∧ (t.dev.queue q).n = x.p) ∧
          (¬ cur → does (.slotFetch q) (e.setQueue q (fun y => { y with stale := some 0 })))) ∧
      (∀ k n old ws e, d.fetches q = true → x.stale = some k → x.nextSlot = some (n, old) → d.readSlot q (x.slotVa n) = (some ws, e) →
        (slotCurrent x.log2 n (ws.getD 0 0).toNat = true → does (.slotRefetch q) (e.setQueue q (fun y => y.fetchedSlot n ws old))) ∧
        (slotCurrent x.log2 n (ws.getD 0 0).toNat = false →
          (k < 6 → does (.slotRefetch q) (e.setQueue q (fun y => { y with stale := some (k + 1) }))) ∧
          (6 ≤ k → ∃ t, exec (.slotRefetch q) s = .next t ∧ t.dev.fld rCpDbstat 47 32 = min (e.fld rCpDbstat 47 32 + 1) 65535 ∧
            (e.queueUsed q = true → (t.dev.queue q).st = .parked)))) ∧
      (d.mayDispatch q = false → exec (.commandDispatch q) s = .next s) ∧
      (∀ c rest, d.mayDispatch q = true → x.retry = none → x.place = .ring → x.fetched = c :: rest → c.rid = 0 → x.patch = none →
        d.startHeld q { cmd := c, next := { x with fetched := rest } } = false →
        let n := d.cp.nextRun
        let c' := { c with rid := n }
        (opKind c.op = .flow → c.f 0 18 16 = 0 → x.misplaced c.op = false → ∃ t, exec (.commandDispatch q) s = .next t ∧ (t.dev.queue q).cur = some c' ∧
          (t.dev.queue q).fetched = rest ∧ t.dev.reg rCpDispcnt = (d.reg rCpDispcnt + 1) % 2 ^ 64) ∧
        (opKind c.op = .engine x.cls → c.f 0 18 16 = 0 → ∃ t, exec (.commandDispatch q) s = .next t ∧
          t.dev.run? n = some { qid := q, cmd := c', cls := x.cls, start := d.time } ∧ (t.dev.queue q).fetched = rest) ∧
        (opKind c.op = .undefined → ∃ t u, exec (.commandDispatch q) s = .next t ∧ t.dev.run? n = some u ∧ u.status = some Status.badOpcode.code ∧ u.done = true ∧
          (t.dev.queue q).st = .halted)) ∧
      (x.wait = none → exec (.fenceReevaluate q) s = .next s ∧ exec (.fencePoll q) s = .next s) ∧
      (∀ w v h e, x.wait = some w → w.watched = true → d.cpRuns = true → d.faultHeld (.cmd w.cmd.rid) = false → d.fenceRead q w.cmd false = (.value v, h, e) →
        let cmd := match d.resolve (whoFlow q w.cmd) (w.cmd.dw 4) .read with | (.ok, .host _ _, _, _) => Instr.fencePoll q | _ => .fenceReevaluate q
        (v.testBit 63 = true → (w.cmd.w 2).testBit 31 = false → does cmd (e.waitError q .fenceError)) ∧
        (v.testBit 63 = false ∨ (w.cmd.w 2).testBit 31 = true →
          (w.cmd.dw 6 ≤ v % 2 ^ 63 → does cmd ((e.setQueue q (fun y => { y with wait := none })).uncover q w.cmd.rid false)) ∧
          (v % 2 ^ 63 < w.cmd.dw 6 → does cmd e)))) ∧
  (∀ (s : Machine.State) (q : Nat) (w : WaitSt),
      let d := s.dev
      let does := fun (i : Instr) (e : Dev) => exec i s = .next (leaves s e)
      let waits := d.cp.queues.keysP (fun _ y => y.wait.isSome)
      let swept := d.cp.queues.keysP (fun _ y => match y.wait with | some w => !w.watched | none => false)
      (swept = [] → exec .fenceSweep s = .next s) ∧
      (swept = [q] → let e := d.fenceEval q
        does .fenceSweep (if e.watched < 65536 then e.setQueue q (fun y => { y with wait := y.wait.map (fun w => { w with watched := true }) }) else e)) ∧
      (d.cpRuns = false ∨ waits = [] → exec .fenceWatchdogTick s = .next s) ∧
      (d.cpRuns = true → waits = [q] → (d.queue q).wait = some w → (d.queue q).st = .active → d.ctxState (q / 256) = 1 →
        let e := d.setQueue q (fun y => { y with wait := some { w with ms := w.ms + 1 } })
        (w.ms + 1 < max 10 (d.fld rCpFencecfg 15 0) → does .fenceWatchdogTick e) ∧
        (max 10 (d.fld rCpFencecfg 15 0) ≤ w.ms + 1 → ((e.fenceEval q).queue q).wait.isSome = true → does .fenceWatchdogTick ((e.fenceEval q).waitError q .fenceTimeout)) ∧
        (max 10 (d.fld rCpFencecfg 15 0) ≤ w.ms + 1 → ((e.fenceEval q).queue q).wait = none → does .fenceWatchdogTick (e.fenceEval q))) ∧
      (∀ r, (d.run? r = none → exec (.engineAbort r) s = .next s) ∧ (∀ v, d.run? r = some v →
        (v.aborting = false ∨ v.done = true → exec (.engineAbort r) s = .next s) ∧
        (v.aborting = true → v.done = false → v.cls = 1 ∨ v.cls = 2 ∨ v.cls = 5 ∨ v.cls = 6 → v.cmd.op ≠ 0x52 →
          (d.midUnit r v = true → d.faultHeld (.cmd r) = false → exec (.engineAbort r) s = .next s) ∧
          (d.midUnit r v = false ∨ d.faultHeld (.cmd r) = true → ∃ t u, exec (.engineAbort r) s = .next t ∧ t.dev.run? r = some u ∧ u.done = true ∧
            (v.status = none → u.status = some Status.aborted.code) ∧ t.dev.faultHeld (.cmd r) = false)))))

/-- R286 to R296: the flow commands. -/
def Obligations.FlowCommands : Prop :=
  (∀ (s : Machine.State) (q : Nat) (c : Cmd), q < 2 ^ 20 → (s.dev.queue q).cur = some c → s.dev.cpRuns = true → s.dev.faultHeld (.cmd c.rid) = false →
      let d := s.dev
      let x := d.queue q
      let does := fun (i : Instr) (e : Dev) => exec i s = .next (leaves s e)
      let over_ := fun (e : Dev) => (e.setQueue q (fun y => { y with cur := none })).uncover q c.rid false
      let w := whoFlow q c
      (∀ p ∈ ([(.nop q, 0), (.fenceWait q, 1), (.fenceSignal q, 2), (.cond q, 3), (.loop q, 4), (.jump q, 5), (.call q, 6), (.retCmd q, 7), (.paramSet q, 8),
        (.paramLoad q, 8), (.paramAdd q, 8), (.patch q, 9)] : List (Instr × Nat)), c.op ≠ p.2 → exec p.1 s = .next s) ∧
      (∀ p ∈ ([(.nop q, 0, c.zeros 2 16), (.fenceWait q, 1, fenceWaitBad c), (.fenceSignal q, 2, fenceSignalBad c), (.cond q, 3, condBad c), (.loop q, 4, loopBad x c),
        (.jump q, 5, bufBad c), (.call q, 6, firstBad [bufBad c, badIf (decide (8 ≤ x.stack.length)) 0xFFFF]), (.retCmd q, 7, c.zeros 2 16), (.paramSet q, 8, paramBad c),
        (.paramLoad q, 8, paramBad c), (.paramAdd q, 8, paramBad c), (.patch q, 9, patchBad c)] : List (Instr × Nat × Chk)),
        ∀ st i, c.op = p.2.1 → p.2.2 = some (st, i) → does p.1 (d.flowError q c st i)) ∧
      (c.op = 0 → c.zeros 2 16 = none → does (.nop q) (over_ d)) ∧
      (c.op = 3 → condBad c = none → let n := if (c.w 2).testBit 28 then 8 else 4
        ∀ l e, d.readV w (c.dw 4) n = (.ok, l, false, e) → let f := over_ (e.fabDone w.waiter)
          let a := ofLe l &&& (c.dw 8 % 2 ^ (8 * n))
          let b := c.dw 6 % 2 ^ (8 * n)
          let o := c.f 2 31 29
          ((o = 0 ∧ a = b) ∨ (o = 1 ∧ a ≠ b) ∨ (o = 2 ∧ b ≤ a) ∨ (o = 3 ∧ a < b) ∨ (o = 4 ∧ b < a) ∨ (o = 5 ∧ a ≤ b) → does (.cond q) f) ∧
          (¬ ((o = 0 ∧ a = b) ∨ (o = 1 ∧ a ≠ b) ∨ (o = 2 ∧ b ≤ a) ∨ (o = 3 ∧ a < b) ∨ (o = 4 ∧ b < a) ∨ (o = 5 ∧ a ≤ b)) →
            does (.cond q) (f.setQueue q (fun y => y.skipSlots (c.f 2 15 0))))) ∧
      (∀ t len i, c.op = 4 → loopBad x c = none → x.place = .buf t len i →
        (c.w 3 = 0 → ∃ u, exec (.loop q) s = .next u ∧ (u.dev.queue q).place = .buf t len (i + c.f 2 15 0) ∧ (u.dev.queue q).loops = x.loops ∧ (u.dev.queue q).cur = none) ∧
        (0 < c.w 3 → ∃ u, exec (.loop q) s = .next u ∧ (u.dev.queue q).place = x.place ∧ (u.dev.queue q).cur = none ∧
          (u.dev.queue q).loops = { depth := x.stack.length, first := i, body := c.f 2 15 0, preg := c.f 2 30 28, count := c.w 3, i := 0, start := c.dw 4, step := c.dw 6 } :: x.loops ∧
          (u.dev.queue q).param (c.f 2 30 28) = c.dw 4 % 2 ^ 64)) ∧
      (c.op = 5 → bufBad c = none → does (.jump q) ((over_ d).setQueue q (fun y => { y with place := .buf (c.dw 4) (c.w 3) 0 }))) ∧
      (c.op = 6 → bufBad c = none → x.stack.length < 8 → ∃ u, exec (.call q) s = .next u ∧ (u.dev.queue q).place = .buf (c.dw 4) (c.w 3) 0 ∧
        (u.dev.queue q).stack = x.place :: x.stack ∧ (u.dev.queue q).outerSeq = (if x.place = .ring then c.seq else x.outerSeq) ∧ (u.dev.queue q).cur = none) ∧
      (∀ p rest, c.op = 7 → c.zeros 2 16 = none → x.stack = p :: rest → ∃ u, exec (.retCmd q) s = .next u ∧ (u.dev.queue q).place = p ∧ (u.dev.queue q).stack = rest ∧
        (u.dev.queue q).loops = x.loops.filter (fun l => decide (l.depth ≤ rest.length)) ∧ (u.dev.queue q).cur = none) ∧
      (c.op = 7 → c.zeros 2 16 = none → x.stack = [] → ∃ u, exec (.retCmd q) s = .next u ∧ (u.dev.queue q).place = .ring ∧ (u.dev.queue q).cur = none) ∧
      (c.op = 8 → paramBad c = none → let i := c.f 2 29 27
        let holds := fun (cmd : Instr) (v : Nat) => ∃ u, exec cmd s = .next u ∧ (u.dev.queue q).param i = v % 2 ^ 64 ∧ (∀ k, k < 8 → k ≠ i → (u.dev.queue q).param k = x.param k) ∧
          (u.dev.queue q).cur = none ∧ KeepsMemory s u (fun _ => False)
        (c.f 2 31 30 = 0 → holds (.paramSet q) (c.dw 6)) ∧ (c.f 2 31 30 = 2 → holds (.paramAdd q) (x.param i + c.dw 6)) ∧
        (c.f 2 31 30 = 1 → ∀ l e, d.readV w (c.dw 4) 8 = (.ok, l, false, e) → does (.paramLoad q) ((over_ (e.fabDone w.waiter)).setQueue q (fun y => y.setParam i (ofLe l))))) ∧
      (c.op = 9 → patchBad c = none → does (.patch q) (d.setQueue q (fun y => { y with cur := none, patch := some c }))) ∧
      (c.op = 1 → fenceWaitBad c = none →
        let e := d.setQueue q (fun y => { y with cur := none, wait := some { cmd := c, watched := decide (d.watched < 65536) } })
        ∀ v h f, e.fenceRead q c false = (.value v, h, f) →
          (v.testBit 63 = true → (c.w 2).testBit 31 = false → does (.fenceWait q) (f.waitError q .fenceError)) ∧
          (v.testBit 63 = false ∨ (c.w 2).testBit 31 = true →
            (c.dw 6 ≤ v % 2 ^ 63 → does (.fenceWait q) ((f.setQueue q (fun y => { y with wait := none })).uncover q c.rid false)) ∧
            (v % 2 ^ 63 < c.dw 6 → does (.fenceWait q) (if f.deadlocked q then f.waitError q .deadlock else f)))) ∧
      (c.op = 2 → fenceSignalBad c = none → ∃ u, exec (.fenceSignal q) s = .next u ∧ KeepsMemory s u (fun _ => False) ∧ (u.dev.queue q).cur = none ∧
        (if (c.w 2).testBit 29 then (u.dev.queue q).sigs = x.sigs ++ [{ cmd := c, covers := [], errs := [], nowait := true }] ∧ (u.dev.queue q).span = x.span
          else (u.dev.queue q).sigs = x.sigs ++ [{ cmd := c, covers := x.span.filter (· != c.rid), errs := x.spanErrs, nowait := false }] ∧ (u.dev.queue q).span = []))) ∧
  (∀ (x : Queue) (p ws : List (BitVec 32)) (t r : Nat), 2 ≤ t → t < 16 → r < 8 → ws.length = 16 → bitsOf (p.getD 2 0).toNat 3 0 = 1 →
      ((p.getD 3 0).toNat = t * 2 ^ 28 + r * 2 ^ 24 → applyPatch x p ws = ws.set t (BitVec.ofNat 32 (x.param r))) ∧
      ((p.getD 3 0).toNat = t * 2 ^ 28 + 2 ^ 27 + r * 2 ^ 24 → applyPatch x p ws = (ws.set t (BitVec.ofNat 32 (x.param r))).set (t + 1) (BitVec.ofNat 32 (x.param r / 2 ^ 32))))

/-- R285, R297, R300 to R303, R306 to R311, R335, R401. -/
def Obligations.QueueManagement : Prop :=
  (∀ (s : Machine.State) (r : Nat) (v : Run), s.dev.run? r = some v → s.dev.cpRuns = true → v.status = none →
      let d := s.dev
      let c := v.cmd
      let does := fun (i : Instr) (e : Dev) => exec i s = .next (leaves s e)
      let fin := fun (t : Machine.State) (st : Option Nat) => KeepsMemory s t (fun _ => False) ∧ ∃ u, t.dev.run? r = some u ∧ u.done = true ∧ u.status = st ∧ u.fin = d.time
      let q := c.f 2 31 12
      (∀ p ∈ ([(.createQueue r, 0x10), (.createCq r, 0x13), (.destroyCq r, 0x14), (.queueHalt r, 0x12), (.queueResume r, 0x12), (.queueResumeRetry r, 0x12), (.queueSetprio r, 0x12)] : List (Instr × Nat)),
        c.op ≠ p.2 ∨ v.began = true → exec p.1 s = .next s) ∧
      (c.op ≠ 0x11 ∨ v.done = true → exec (.destroyQueue r) s = .next s ∧ exec (.destroyQueueTimeout r) s = .next s) ∧
      (∀ p ∈ ([(.createQueue r, 0x10, createQueueBad d c), (.createCq r, 0x13, createCqBad d c), (.destroyCq r, 0x14, destroyCqBad d c), (.destroyQueue r, 0x11, destroyQueueBad d v.qid c)] : List (Instr × Nat × Chk)),
        ∀ st i, c.op = p.2.1 → v.began = false → v.done = false → p.2.2 = some (st, i) → does p.1 (d.failRun r st i)) ∧
      (v.began = false → v.done = false →
        (c.op = 0x10 → createQueueBad d c = none → ∃ t, exec (.createQueue r) s = .next t ∧ fin t none ∧
          t.dev.cp.queues.find q = some { cls := c.f 2 11 9, prio := c.f 2 8 7, log2 := c.f 2 4 0, ring := c.dw 4, cqid := c.f 3 17 0 }) ∧
        (c.op = 0x13 → createCqBad d c = none → ∃ t, exec (.createCq r) s = .next t ∧ fin t none ∧
          t.dev.cp.cqs.find (c.f 3 17 0) = some { ctx := c.f 2 31 20, cqx := c.f 2 19 12, dest := c.f 2 11 10, log2 := c.f 2 4 0, vec := c.f 3 31 21, base := c.dw 4 }) ∧
        (c.op = 0x14 → destroyCqBad d c = none → ∃ t, exec (.destroyCq r) s = .next t ∧ fin t none ∧ t.dev.cp.cqs.find (c.f 3 17 0) = none) ∧
        (c.op = 0x12 → queueCtlBad d c = none → ∀ x, d.cp.queues.find q = some x →
          let becomes := fun (i : Instr) (y : Queue) => ∃ t, exec i s = .next t ∧ fin t none ∧ t.dev.cp.queues.find q = some y
          (c.f 2 2 0 = 1 → (x.st = .active ∨ x.st = .parked → becomes (.queueHalt r) { x with st := .halted, halt := .none }) ∧ (x.st = .halted → becomes (.queueHalt r) x)) ∧
          (c.f 2 2 0 = 2 → (x.st = .active → becomes (.queueResume r) x) ∧ (x.st = .parked → becomes (.queueResume r) { x with st := .active }) ∧
            (x.st = .halted → (∀ k, x.halt = .none ∨ x.halt = .cmd k → becomes (.queueResume r) { x with st := .active, halt := .none, sigs := x.sigs.filter (fun g => !g.failed) }) ∧
              (x.halt = .fetch → x.place = .ring → becomes (.queueResume r) { x with st := .active, halt := .none, n := (x.n + 1) % 2 ^ 32, sigs := x.sigs.filter (fun g => !g.failed) }))) ∧
          (c.f 2 2 0 = 3 → x.st = .halted → ∀ k, x.halt = .cmd k → becomes (.queueResumeRetry r) { x with st := .active, halt := .none, retry := some k, sigs := x.sigs.map (fun g => { g with failed := false }) }) ∧
          (c.f 2 2 0 = 3 → x.st = .active → becomes (.queueResumeRetry r) x) ∧
          (c.f 2 2 0 = 4 → becomes (.queueSetprio r) { x with prio := c.f 2 4 3 })) ∧
        (c.op = 0x11 → destroyQueueBad d v.qid c = none → (d.queue q).destroying = false → ∃ t, exec (.destroyQueue r) s = .next t ∧ KeepsMemory s t (fun _ => False) ∧
          (t.dev.queue q).st = .draining ∧ (t.dev.queue q).fetched = [] ∧ (t.dev.queue q).wait = none ∧ (t.dev.queue q).destroying = true)) ∧
      (c.op = 0x11 → v.began = true → v.done = false →
        (d.queueUsed q = false → ∃ t, exec (.destroyQueue r) s = .next t ∧ fin t none) ∧
        (d.queueUsed q = true → d.queueQuiet q = true → ∃ t, exec (.destroyQueue r) s = .next t ∧ fin t none ∧ t.dev.queueUsed q = false) ∧
        (d.queueUsed q = true → d.queueQuiet q = false → exec (.destroyQueue r) s = .next s) ∧
        (∃ t, exec (.destroyQueueTimeout r) s = .next t ∧ fin t (some Status.busy.code) ∧ (d.queueUsed q = true → (t.dev.queue q).st = .halted)))) ∧
  (∀ (s : Machine.State) (r : Nat) (v : Run), s.dev.run? r = some v → s.dev.cpRuns = true →
      let d := s.dev
      let does := fun (i : Instr) (e : Dev) => exec i s = .next (leaves s e)
      let st := v.status.getD 0
      (v.done = false → does (.completionEntryWrite r) d.destroyTick) ∧
      (v.done = true → d.storesOut r = false → d.flushPorts v = [] → d.entryTurn v = true →
        (st = 0 → v.cmd.nocqe = true → does (.completionEntryWrite r) (d.dropRun r).destroyTick) ∧
        (st = 0 → v.cmd.nocqe = false → v.reserved = true → does (.completionEntryWrite r)
          (((d.writeEntry (d.queue v.qid).cqid (fun ph => entryWords ph v.cls v.inst 0 v.qid v.cmd.tag v.cmd.seq v.info v.start v.fin) v.cmd.irq true).setRun r
            (fun v => { v with reserved := false })).dropRun r).destroyTick) ∧
        (st ≠ 0 → v.reserved = true → does (.completionEntryWrite r)
          ((((d.writeEntry (d.queue v.qid).cqid (fun ph => entryWords ph v.cls v.inst st v.qid v.cmd.tag v.cmd.seq v.info v.start v.fin) true true).setQueue v.qid
            (fun x => { x with lastStatus := st })).setRun r (fun v => { v with reserved := false })).dropRun r).destroyTick)) ∧
      (∀ p, p < 6 → (v.done = true ∧ p ∈ d.flushPorts v → does (.flushingRead r p) (d.setRun r (fun v => { v with ports := v.ports.filter (· != p) }))) ∧
        (¬ (v.done = true ∧ p ∈ d.flushPorts v) → exec (.flushingRead r p) s = .next s))) ∧
  (∀ (s : Machine.State) (k a : Nat) (c : Cq) (words : Nat → List Nat) (irq : Bool), s.dev.cp.cqs.find k = some c → c.base % 4096 = 0 → (∀ ph, (words ph).length = 8) →
      let d := s.dev
      let e := d.writeEntry k words irq true
      (d.home c.nextAddr = .hbm a → d.verdict (.hbm a) c.ctx true = .pass →
        e.ms.mem.readN (d.place a) 32 = wordBytes (words (1 - c.written / 2 ^ c.log2 % 2)) ∧ KeepsMemory s (leaves s e) (fun x => d.place a ≤ x ∧ x < d.place a + 32) ∧
        e.cp.cqs.find k = some { c with reserved := c.reserved - 1, written := (c.written + 1) % 2 ^ 32 }) ∧
      (∀ st, d.verdict (d.home c.nextAddr) c.ctx true = .refuse st → KeepsMemory s (leaves s e) (fun _ => False) ∧
        e.fld rCpDbstat 63 48 = min (d.fld rCpDbstat 63 48 + 1) 65535 ∧ e.cp.cqs.find k = some { c with reserved := c.reserved - 1 })) ∧
  (∀ (s : Machine.State) (q : Nat), q < 2 ^ 20 →
      let d := s.dev
      let does := fun (e : Dev) => exec (.fenceSignalPerform q) s = .next (leaves s e.destroyTick)
      ((d.queue q).nextSig = none → does d) ∧
      (∀ g, (d.queue q).nextSig = some g →
        (d.cpRuns = false ∨ g.covers ≠ [] ∨ d.faultHeld (.cmd g.cmd.rid) = true → does d) ∧
        (∀ old h e, d.cpRuns = true → g.covers = [] → d.faultHeld (.cmd g.cmd.rid) = false → d.fenceRead q g.cmd true = (.value old, h, e) →
          let b := if g.aborted = true ∨ g.errs ≠ [] then 2 ^ 63 else 0
          let x := if g.cmd.f 2 31 30 = 0 then max old (g.cmd.dw 6 ||| b) else (old + g.cmd.dw 6) % 2 ^ 64 ||| b
          let f := match h.line with | some l => e.recall l false | none => e
          does (((f.storeLine .engine h (leBytes 8 x)).setQueue q (fun y => { y with sigs := y.sigs.filter (fun z => z.cmd.rid != g.cmd.rid) })).uncover q g.cmd.rid false))))

/-- R313 to R318: contexts. -/
def Obligations.ContextManagement : Prop :=
  ∀ (s : Machine.State) (r : Nat) (v : Run), s.dev.run? r = some v → s.dev.cpRuns = true → v.status = none → v.done = false →
    let d := s.dev
    let c := v.cmd
    let does := fun (i : Instr) (e : Dev) => exec i s = .next (leaves s e)
    let fin := fun (t : Machine.State) (st : Option Nat) => KeepsMemory s t (fun _ => False) ∧ ∃ u, t.dev.run? r = some u ∧ u.done = true ∧ u.status = st ∧ u.fin = d.time
    let x := c.f 2 31 20
    (∀ p ∈ ([(.createContext r, 0x20), (.destroyContext r, 0x21), (.destroyContextTimeout r, 0x21), (.contextSuspend r, 0x22), (.suspendTimeout r, 0x22), (.contextResume r, 0x22)] : List (Instr × Nat)),
      c.op ≠ p.2 → exec p.1 s = .next s) ∧
    (v.began = false → ∀ st i,
      (c.op = 0x20 → createContextBad d c = some (st, i) → does (.createContext r) (d.failRun r st i)) ∧
      (c.op = 0x21 → destroyContextBad d c = some (st, i) → does (.destroyContext r) (d.failRun r st i)) ∧
      (c.op = 0x22 → contextCtlBad d c = some (st, i) → (c.f 2 2 0 ≠ 2 → does (.contextSuspend r) (d.failRun r st i)) ∧ (c.f 2 2 0 ≠ 1 → does (.contextResume r) (d.failRun r st i)))) ∧
    (v.began = false →
      (c.op = 0x20 → createContextBad d c = none → ∃ t, exec (.createContext r) s = .next t ∧ fin t none ∧ t.dev.cp.ctxs.find x = none ∧
        t.dev.reg (rCpCtxdesc x) = 2 ^ 61 + 2 ^ 60 + c.f 2 12 11 * 2 ^ 58 + c.f 2 19 13 * 2 ^ 50 ∧ t.dev.ctxState x = 1) ∧
      (c.op = 0x21 → destroyContextBad d c = none → ∃ t, exec (.destroyContext r) s = .next t ∧ t.dev.ctxState x = 3 ∧ KeepsMemory s t (fun _ => False)) ∧
      (c.op = 0x22 → contextCtlBad d c = none → c.f 2 2 0 = 1 →
        (d.ctxState x = 2 → does (.contextSuspend r) (d.setRun r (fun v => { v with began := true, inst := 0, start := d.time }))) ∧
        (d.ctxState x = 1 → (d.ctxSt x).groups = [] → ∃ t, exec (.contextSuspend r) s = .next t ∧ t.dev.ctxState x = 2 ∧ (t.dev.ctxSt x).suspending = true ∧ KeepsMemory s t (fun _ => False)) ∧
        (d.ctxState x = 1 → (d.ctxSt x).groups ≠ [] → d.ctxLive x = [] → ∃ t, exec (.contextSuspend r) s = .next t ∧ t.dev.ctxState x = 2 ∧ (t.dev.ctxSt x).groups = [])) ∧
      (c.op = 0x22 → contextCtlBad d c = none → c.f 2 2 0 = 2 →
        (d.ctxState x = 1 → ∃ t, exec (.contextResume r) s = .next t ∧ fin t none) ∧
        (d.ctxState x = 2 → ∃ t, exec (.contextResume r) s = .next t ∧ t.dev.ctxState x = 1 ∧ (t.dev.ctxSt x).suspending = false ∧ KeepsMemory s t (fun _ => False)))) ∧
    (v.began = true →
      (c.op = 0x21 → d.ctxState x = 3 →
        ((∃ q ∈ d.ctxQueues x, d.queueQuiet q = false) → exec (.destroyContext r) s = .next s) ∧
        ((∀ q ∈ d.ctxQueues x, d.queueQuiet q = true) → d.suspendRuns x r = [] → (∀ e ∈ d.fe.reqs, e.2.ctx ≠ x) → (∀ e ∈ d.cores, ∀ n ∈ e.2.nt, n.ctx ≠ x) →
          ∃ t, exec (.destroyContext r) s = .next t ∧ fin t none ∧ t.dev.ctxState x = 0 ∧ t.dev.ctxQueues x = [] ∧ t.dev.bit (rCrownCtxxlt x) 0 = false ∧
            (∀ k key, key / 2 ^ 41 = x → SMap.find (t.dev.ms.tlb.get [] k) key = none) ∧ t.dev.granted x = [])) ∧
      (c.op = 0x21 → ∃ t, exec (.destroyContextTimeout r) s = .next t ∧ fin t (some Status.busy.code)) ∧
      (c.op = 0x22 → c.f 2 2 0 = 1 →
        (d.suspendQuiet x = true → ∃ t, exec (.contextSuspend r) s = .next t ∧ fin t none ∧ (t.dev.ctxSt x).suspending = false) ∧
        (d.suspendQuiet x = false → (d.ctxSt x).suspending = true → exec (.contextSuspend r) s = .next s) ∧
        (∃ t, exec (.suspendTimeout r) s = .next t ∧ fin t (some Status.busy.code))) ∧
      (c.op = 0x22 → c.f 2 2 0 = 2 →
        (d.suspendRuns x r = [] → ∃ t, exec (.contextResume r) s = .next t ∧ fin t none) ∧
        (d.suspendRuns x r ≠ [] → exec (.contextResume r) s = .next s)))

/-- R304, R305, R319 to R330: kernels. -/
def Obligations.KernelsAndGroups : Prop :=
  (∀ (s : Machine.State) (r : Nat) (v : Run), s.dev.run? r = some v →
      let d := s.dev
      let c := v.cmd
      let x := v.qid / 256
      let does := fun (i : Instr) (e : Dev) => exec i s = .next (leaves s e)
      let e := d.refreshWaits
      (c.op ≠ 0x30 ∨ v.done = true ∨ d.cpRuns = false ∨ d.faultHeld (.cmd r) = true → exec (.kernel r) s = .next s) ∧
      (c.op = 0x30 → v.done = false → d.cpRuns = true → d.faultHeld (.cmd r) = false → d.cp.kernels.find r = none →
        (∀ st i, kernelBad c = some (st, i) → does (.kernel r) (d.failRun r st i)) ∧
        (kernelBad c = none → e.ctxState x ≠ 1 ∨ (e.ctxSt x).groups = [] ∨ (e.ctxSt x).preempting = true ∨ 255 ≤ (e.ctxLive x).length → does (.kernel r) e) ∧
        (kernelBad c = none → e.ctxState x = 1 → (e.ctxSt x).groups ≠ [] → (e.ctxSt x).preempting = false → (e.ctxLive x).length < 255 →
          (e.kernelClusters x c = none → does (.kernel r) (e.failRun r .noResource)) ∧
          (∀ cls, e.kernelClusters x c = some cls → e.slotsBusy c cls = true → does (.kernel r) e) ∧
          (∀ cls ks f, e.kernelClusters x c = some cls → e.slotsBusy c cls = false → e.readKargs r = (some ks, f) →
            let g := f.beginRun r (128 * (cls.headD 0 / 84) + cls.headD 0 % 84)
            does (.kernel r) (cls.foldl (fun d k => d.launchCluster r k 0 0 cls.length)
              { g with cp := { g.cp with kernels := g.cp.kernels.set r { clusters := cls, kargs := ks } } })) ∧
          (∀ cls, e.kernelClusters x c = some cls → e.slotsBusy c cls = false → c.dw 6 = 0 → ∃ t, exec (.kernel r) s = .next t ∧ t.dev.runLive r = true ∧
            KeepsMemory s t (fun _ => False) ∧ ∀ k ∈ cls, ∀ j ∈ c.kSheaves k, (t.dev.sheaf j).st = .running ∧ (t.dev.sheaf j).cmd = some r ∧
              (t.dev.sheaf j).pc = BitVec.ofNat 64 (c.dw 4) ∧ (t.dev.sheaf j).stack = [] ∧
              ∀ l, l < 256 → ((t.dev.sheaf j).mask.getLsbD l = decide (c.f 3 23 16 ≤ l ∧ l ≤ c.f 3 23 16 + c.f 3 15 8))))) ∧
      (∀ k, d.cp.kernels.find r = some k →
        (v.done = true ∨ k.saved = true ∨ d.kernelHit r = true ∨ k.mid ≠ [] ∨ (∃ q ∈ k.clusters, d.clusterQuiet r q = false) → exec (.kernelComplete r) s = .next s) ∧
        (v.done = false → k.saved = false → d.kernelHit r = false → k.mid = [] → k.yielded = [] → (∀ q ∈ k.clusters, d.clusterQuiet r q = true) → v.status = none →
          ∃ t u, exec (.kernelComplete r) s = .next t ∧ t.dev.run? r = some u ∧ u.done = true ∧ t.dev.cp.kernels.find r = none ∧ KeepsMemory s t (fun _ => False) ∧
            (∀ st i, k.lane = some (st, i) → u.status = some st ∧ u.info = i) ∧
            (k.lane = none → u.status = if v.aborting then some Status.aborted.code else none))) ∧
      (v.done = false → v.status = none →
        (c.kRestart = true → d.cp.kernels.find r ≠ none → ∃ k, (d.kernelLost r).cp.kernels.find r = some k ∧ k.saved = true ∧ k.replay = true ∧ k.lane = none) ∧
        (c.kRestart = false → (d.kernelLost r).cp.kernels.find r = none ∧ ∃ u, (d.kernelLost r).run? r = some u ∧ u.done = true ∧ u.status = some Status.dieLost.code))) ∧
  (∀ (s : Machine.State),
      let d := s.dev
      let does := fun (i : Instr) (e : Dev) => exec i s = .next (leaves s e)
      let e := d.refreshWaits
      (d.cpRuns = false → does .groupGrant e ∧ does .sliceEnd e) ∧
      (d.cpRuns = true → e.headWaiter = none → does .groupGrant e ∧ does .sliceEnd e) ∧
      (∀ x, d.cpRuns = true → e.headWaiter = some x →
        (e.chooseGroups x e.freeGroups = none → does .groupGrant e) ∧
        (∀ l, e.chooseGroups x e.freeGroups = some l → l.length = e.grantSize x ∧ (e.ctxSaved x = [] → ∃ t, exec .groupGrant s = .next t ∧ (t.dev.ctxSt x).groups = l ∧
          (t.dev.ctxSt x).grantAt = d.time ∧ x ∉ t.dev.cp.waits ∧ KeepsMemory s t (fun _ => False))) ∧
        does .sliceEnd ((e.cp.waits.foldl (fun d y => d.setCtx y (fun c => { c with waited := c.waited + 1 })) e).preemptFor x
          (e.preemptable (e.waitPrio x)))) ∧
      (d.cp.geom = false ∨ d.cpRuns = false → exec .geometryChangedHandling s = .next s) ∧
      (d.cp.geom = true → d.cpRuns = true → d.cp.kernels = [] → (∀ c ∈ d.cp.ctxs, c.2.groups = []) → ∃ t, exec .geometryChangedHandling s = .next t ∧ t.dev.cp.geom = false) ∧
      (∀ x, x < 4096 →
        (d.cpRuns = false ∨ d.runnable x = true ∨ (d.ctxSt x).groups = [] ∨ d.ctxLive x ≠ [] → exec (.idleRelease x) s = .next s) ∧
        (d.cpRuns = true → d.runnable x = false → (d.ctxSt x).groups ≠ [] → d.ctxLive x = [] → ∃ t, exec (.idleRelease x) s = .next t ∧ (t.dev.ctxSt x).groups = [] ∧
          KeepsMemory s t (fun _ => False)) ∧
        ((d.ctxSt x).preempting = false ∨ d.cpRuns = false → exec (.yieldwaitExpiry x) s = .next s ∧ exec (.saveComplete x) s = .next s) ∧
        (∀ r, (d.ctxSt x).preempting = true → d.cpRuns = true → d.ctxLive x = [r] →
          let late := (d.kern r).late
          let total := fun l => (d.kern r).clusters.length * d.imageSize r l
          ((∀ q ∈ (d.kern r).clusters, d.clusterQuiet r q = true) → exec (.yieldwaitExpiry x) s = .next s) ∧
          ((d.kern r).lane = none → (∃ q ∈ (d.kern r).clusters, d.clusterQuiet r q = false) → late.foldl Dev.clusterYielded d = d → late ≠ [] →
            (d.saveFits x (total (late ++ (d.kern r).mid)) = false → does (.yieldwaitExpiry x) (d.addSat (rCpCtxstat x) 47 40 1)) ∧
            (d.saveFits x (total (late ++ (d.kern r).mid)) = true → does (.yieldwaitExpiry x) (late.foldl (fun d q => d.midSave x r q) d))) ∧
          (late ≠ [] → exec (.saveComplete x) s = .next s) ∧
          (late = [] → d.saveFits x (total (d.kern r).mid) = false → ∃ t, exec (.saveComplete x) s = .next t ∧ (t.dev.ctxSt x).groups = [] ∧
            (t.dev.ctxSt x).preempting = false ∧ (d.cp.kernels.find r ≠ none → (t.dev.kern r).saved = true) ∧
            t.dev.fld (rCpCtxstat x) 47 40 = min (d.fld (rCpCtxstat x) 47 40 + 1) 255 ∧ KeepsMemory s t (fun _ => False)) ∧
          (late = [] → d.saveFits x (total (d.kern r).mid) = true →
            let f := (d.writeSave x [r]).freeSheaves r
            let g := (f.setKern r (fun k => { k with saved := true, yielding := false })).setCtx x (fun c => { c with preempting := false, savedGroups := c.groups })
            does (.saveComplete x) (g.releaseGroups x).refreshWaits)) ∧
        ((d.ctxSt x).preempting = true → d.cpRuns = true → d.ctxLive x = [] → ∃ t, exec (.saveComplete x) s = .next t ∧ (t.dev.ctxSt x).groups = [] ∧
          (t.dev.ctxSt x).preempting = false ∧ KeepsMemory s t (fun _ => False))) ∧
      (∀ t c, t < 8 → c < 84 →
        let cls := 84 * t + c
        let asked := d.cp.kernels.keysP (fun _ k => k.yielding && !k.saved && k.clusters.contains cls && !k.yielded.contains cls && !k.mid.contains cls)
        (asked = [] → exec (.clusterYielded t c) s = .next s) ∧
        (∀ r, asked = [r] →
          let quiet := (d.kern r).lane = none ∧ d.clusterQuiet r cls = true ∧ ∀ k ∈ (d.runCmd r).kSheaves cls, (d.sheaf k).st = .halted
          (quiet → does (.clusterYielded t c) (d.setKern r (fun k => { k with yielded := k.yielded ++ [cls] }))) ∧
          (¬ quiet → exec (.clusterYielded t c) s = .next s))))

/-- R19 to R23, R56, R408 to R413: copies. -/
def Obligations.CopyAndMulticast : Prop :=
  (∀ (s : Machine.State) (r : Nat) (v : Run), s.dev.run? r = some v →
      let d := s.dev
      let c := v.cmd
      let does := fun (i : Instr) (e : Dev) => exec i s = .next (leaves s e)
      let w := d.whoRun r
      (∀ p ∈ ([(.copy r, 0x50), (.copyDescriptor r, 0x50), (.rangeWb r, 0x51), (.mcastLoad r, 0x52), (.mcastLineRead r, 0x52)] : List (Instr × Nat)),
        c.op ≠ p.2 ∨ v.done = true ∨ d.faultHeld (.cmd r) = true → exec p.1 s = .next s) ∧
      (∀ p ∈ ([(.copy r, 0x50, copyBad c, copyInsts (c.f 2 31 24)), (.rangeWb r, 0x51, rangeWbBad c, (List.range 8).map (· + 32)),
          (.mcastLoad r, 0x52, mcastBad c, (List.range 16).map (· + 40))] : List (Instr × Nat × Chk × List Nat)),
        c.op = p.2.1 → v.done = false → d.faultHeld (.cmd r) = false → v.began = false →
          (∀ st i, p.2.2.1 = some (st, i) → does p.1 (d.failAt r (p.2.2.2.headD 0) st i)) ∧
          (p.2.2.1 = none → (∀ i ∈ p.2.2.2, d.instBusy 2 i = true) → exec p.1 s = .next s)) ∧
      (c.op = 0x50 → v.done = false → d.faultHeld (.cmd r) = false →
        (∀ i, v.began = false → copyBad c = none → (copyInsts (c.f 2 31 24)).find? (fun i => !d.instBusy 2 i) = some i →
          does (.copy r) (d.setRun r (fun v => { v with began := true, inst := i, start := d.time })) ∧ i < 40) ∧
        (v.began = true → exec (.copy r) s = .next s) ∧ (v.began = false → exec (.copyDescriptor r) s = .next s) ∧
        (∀ l e, v.began = true → d.atSafePoint r v = false → d.readV w (c.dw 4 + 64 * v.step) 64 = (.ok, l, false, e) →
          let ws := bytesWords l
          let x := descOf ws
          (∀ st i, descBad ws = some (st, i) → does (.copyDescriptor r) (e.failRun r st i)) ∧
          (∀ ps f g, descBad ws = none → e.gather w v.inst (x.srcRanges.flatMap (fun p => cut 128 p.1 p.2)) [] = (.ok, ps, f) →
            let ds := x.dstRanges.flatMap (fun p => cut 128 (x.dst + p.1) p.2)
            f.overlaps w ps ds = false → ps.any (·.bad) = false →
            f.fresh.2.scatter r w v.inst ((ds.drop v.pos).map (fun p => (p.1, (List.range p.2).map (fun i => x.dstByte ps f.fresh.1.toNat (p.1 + i - x.dst))))) = (.ok, g) →
              let h := (g.fabDone w.waiter).setRun r (fun v => { v with pos := 0 })
              does (.copyDescriptor r) (if v.step + 1 = c.f 2 15 0 then h.endRun r else h.nextStep r)))) ∧
      (c.op = 0x51 → v.done = false → d.faultHeld (.cmd r) = false →
        (∀ i, v.began = false → rangeWbBad c = none → ((List.range 8).map (· + 32)).find? (fun i => !d.instBusy 2 i) = some i →
          (0 < c.dw 6 → does (.rangeWb r) (d.beginRun r i)) ∧ (c.dw 6 = 0 → does (.rangeWb r) ((d.beginRun r i).endRun r))) ∧
        (∀ va n e a p na, v.began = true → (cut 65536 (c.dw 4) (c.dw 6))[v.step]? = some (va, n) → d.resolve w va .read = (.ok, .core a p, na, e) →
          (∀ l ∈ cut 128 va n, e.verdict (.core (a + (l.1 - va)) p) w.ctx false = .pass) →
            let f := ((cut 128 va n).map (fun l => l.1 - va)).foldl (fun d o => d.wbLine r (.core (a + o) p) (c.f 2 31 30 == 2)) e
            does (.rangeWb r) (if v.step + 1 = (cut 65536 (c.dw 4) (c.dw 6)).length then f.endRun r else f.nextStep r))) ∧
      (c.op = 0x52 → v.done = false → d.faultHeld (.cmd r) = false →
        let tils := (List.range 8).filter (fun t => (c.w 2).testBit (24 + t))
        (∀ i l e, v.began = false → mcastBad c = none → ((List.range 16).map (· + 40)).find? (fun i => !d.instBusy 2 i) = some i →
          d.readPieces { w with inst := i } (tils.flatMap (fun t => cut 128 (c.dw 8 + 16 * t) 16)) = (.ok, l, false, e) →
            let x := v.qid / 256
            let f := e.fabDone w.waiter
            let ws := (List.range 32).map (fun k => match tils.idxOf? (k / 4) with | some j => word (bytesWords l) (4 * j + k % 4) | none => 0)
            let mask := fun t => word ws (4 * t) + 2 ^ 32 * word ws (4 * t + 1) + 2 ^ 64 * (word ws (4 * t + 2) % 2 ^ 20)
            (∀ st n, f.mcastMaskBad x tils ws = some (st, n) → does (.mcastLoad r) (f.failAt r i st n)) ∧
            (f.mcastMaskBad x tils ws = none → ∀ t, tils = [t] → does (.mcastLoad r) ((f.setMcast r (fun _ => { masks := [(t, mask t)], group := none })).beginRun r i))) ∧
        (∀ a na e l f, v.began = true → d.mcastLive r ≠ [] → (∀ t ∈ d.mcastLive r, (SMap.get [] (d.mcast r).buf t).length < 64) → v.aborting = false → v.pos ≠ 1 →
          v.step * 128 ≠ c.dw 6 → d.resolve w (c.dw 4 + 128 * v.step) .read = (.ok, .hbm a, na, e) → e.readPiece w (.hbm a) 128 = (.ok, l, false, f) →
            does (.mcastLineRead r) ((f.setMcast r (fun m => { m with buf := (d.mcastLive r).foldl (fun b t => b.upd [] t (· ++ [(128 * v.step, BitVec.ofNat 1024 (ofLe l), false)])) m.buf })).nextStep r)) ∧
        (∀ t, v.began = true → t ∈ d.mcastLive r → 64 ≤ (SMap.get [] (d.mcast r).buf t).length → exec (.mcastLineRead r) s = .next s) ∧
        (∀ t o data bad rest, t < 8 → d.dieActive (slotTil t) = true → SMap.get [] (d.mcast r).buf t = (o, data, bad) :: rest →
          ∃ u, exec (.mcastLineDeliver r t) s = .next u ∧ KeepsMemory s u (fun _ => False) ∧
            ∀ k, k < 84 → (SMap.get 0 (d.mcast r).masks t).testBit k = true → d.clsEnabled t k = true →
              u.dev.sramRead (84 * t + k) (c.f 3 20 0 + o) 128 = leBytes 128 data.toNat))) ∧
  (∀ (x : Desc) (r c i : Nat), x.dlay = 1 → x.fmt ≤ 9 → packedLen x.fmt x.dims.2 ≤ x.dpitch → r < x.dims.1 → c < x.dims.2 → i < packedBits x.fmt →
      x.dstBit (r * x.dpitch * 8 + c * packedBits x.fmt + i) = some (r, c, i)) ∧
  (∀ (x : Desc) ps pad o, x.dlay = 0 → x.dstByte ps pad o = pieceByte ps (x.src + o))

/-- R342 to R349, R353, R362 to R367: the stream engine. What a packet changes in its session is Session.rtp's. -/
def Obligations.StreamSessions : Prop :=
  (∀ (s : Machine.State) (r : Nat) (v : Run), s.dev.run? r = some v →
      let d := s.dev
      let c := v.cmd
      let w := d.whoRun r
      let does := fun (i : Instr) (e : Dev) => exec i s = .next (leaves s e)
      (∀ p ∈ ([(.sessionOpen r, 0x60, openBad c), (.sessionModify r, 0x61, openBad c), (.sessionClose r, 0x62, closeBad c), (.pktSend r, 0x63, pktBad d c),
          (.dtmfSend r, 0x64, dtmfBad c)] : List (Instr × Nat × Chk)),
        (c.op ≠ p.2.1 ∨ v.began = true → exec p.1 s = .next s) ∧
        (∀ st i, c.op = p.2.1 → v.began = false → p.2.2 = some (st, i) → does p.1 (d.failAt r 0 st i))) ∧
      (c.op = 0x60 → v.began = false → openBad c = none →
        (d.bit rSeStat 31 = false → does (.sessionOpen r) (d.failAt r 0 .busy)) ∧
        (∀ l e, d.bit rSeStat 31 = true → d.readV w (c.dw 4) 256 = (.ok, l, false, e) →
          let f := e.fabDone w.waiter
          let desc := (bytesWords l).map (BitVec.ofNat 32)
          let chk := firstBad [sesFieldBad desc, f.openTurned c (v.qid / 256) desc]
          (∀ st i, chk = some (st, i) → does (.sessionOpen r) (f.failAt r 0 st i)) ∧
          (chk = none → let g := f.beginRun r 0
            let x : Session := { run := r, ctx := v.qid / 256, desc := desc, t0 := firstBoundary c.sid g.time, target := sf desc 16 22 14 * 1000000 }
            does (.sessionOpen r) (({ g with se := { g.se with sessions := g.se.sessions.set c.sid x } } : Dev).sesCount.progressWrite c.sid 1)))) ∧
      (c.op = 0x61 → v.began = false → openBad c = none →
        (∀ st i, d.sesTurned v = some (st, i) → does (.sessionModify r) (d.failAt r 0 st i)) ∧
        (∀ x l e, d.sesTurned v = none → d.session? c.sid = some x → d.readV w (c.dw 4) 256 = (.ok, l, false, e) →
          let f := e.fabDone w.waiter
          let desc := (bytesWords l).map (BitVec.ofNat 32)
          let chk := firstBad [sesFieldBad desc, modifyBad x.desc desc]
          (∀ st i, chk = some (st, i) → does (.sessionModify r) (f.failAt r 0 st i)) ∧
          (chk = none → let g := f.beginRun r 0
            does (.sessionModify r) (g.setSession c.sid (fun y => { y with changes := y.changes ++ [⟨r, false, g.time + 1000000, desc⟩] }))))) ∧
      (c.op = 0x62 → v.began = false → closeBad c = none →
        (∀ st i, d.sesTurned v = some (st, i) → does (.sessionClose r) (d.failAt r 0 st i)) ∧
        (d.sesTurned v = none → ∃ t x y, exec (.sessionClose r) s = .next t ∧ d.session? c.sid = some x ∧ t.dev.session? c.sid = some y ∧
          y.changes = x.changes ++ [⟨r, true, d.time + 1000000, []⟩] ∧ t.dev.runLive r = !v.done ∧ KeepsMemory s t (fun _ => False))) ∧
      (c.op = 0x63 → v.began = false → pktBad d c = none → ∀ l e, d.readV w (c.dw 4) (c.f 2 13 0) = (.ok, l, false, e) →
        let f := (e.fabDone w.waiter).beginRun r 0
        does (.pktSend r) { f with se := { f.se with txq := f.se.txq.upd [] (c.f 2 31 31) (· ++ [.raw r l]) } }) ∧
      (c.op = 0x64 → v.began = false → dtmfBad c = none →
        (∀ st i, d.sesTurned v = some (st, i) → does (.dtmfSend r) (d.failAt r 0 st i)) ∧
        (∀ x, d.sesTurned v = none → d.session? c.sid = some x →
          (x.event ≠ none ∨ sb x.desc 13 30 = false → does (.dtmfSend r) (d.failAt r 0 .busy)) ∧
          (x.event = none → sb x.desc 13 30 = true → does (.dtmfSend r) ((d.beginRun r 0).setSession c.sid (fun y =>
            { y with event := some ⟨r, c.f 2 7 4, none, 0, (c.f 3 15 0 + 19) / 20, 3⟩ })))))) ∧
  (∀ (s : Machine.State) (sid : Nat), sid < 131072 →
      let d := s.dev
      let does := fun (i : Instr) (e : Dev) => exec i s = .next (leaves s e)
      (d.session? sid = none → exec (.frameBoundary sid) s = .next s ∧ exec (.outprodRead sid) s = .next s ∧ exec (.progressBlockWrite sid) s = .next s) ∧
      (d.bit rSeStat 31 = false → exec (.frameBoundary sid) s = .next s ∧ exec (.outprodRead sid) s = .next s) ∧
      (∀ x, d.session? sid = some x →
        let w := d.whoRun x.run
        (∀ b, d.bit rSeStat 31 = true → x.out = some b → x.changes = [] → x.aborted = false → x.failRow < 250 → x.event = none → x.k % 250 ≠ 0 →
          ∃ t y, exec (.frameBoundary sid) s = .next t ∧ t.dev.session? sid = some y ∧ y.k = x.k + 1 ∧ y.out = none ∧ KeepsMemory s t (fun _ => False) ∧
            t.dev.time = max d.time (x.t0 + 20000000 * x.k) ∧ ∃ f ∈ y.held, f.k = x.k ∧ f.samples.length = 320 ∧ f.record.length = 8) ∧
        (x.out ≠ none → exec (.outprodRead sid) s = .next s) ∧
        (∀ l e, d.bit rSeStat 31 = true → x.out = none → d.readV w (sdw x.desc 44 + 32) 8 = (.ok, l, false, e) →
          (ofLe l < x.outcons + 320 → does (.outprodRead sid) ((e.fabDone w.waiter).setSession sid (fun y => { y with out := some false, underrun := y.underrun + 1 }))) ∧
          (∀ b f, x.outcons + 320 ≤ ofLe l → e.readPieces w ((audioPieces (sdw x.desc 38) (sf x.desc 46 27 24) x.outcons (List.replicate 320 0)).map (fun p => (p.1, p.2.length))) =
              (.ok, b, false, f) →
            does (.outprodRead sid) ((f.fabDone w.waiter).setSession sid (fun y => { y with out := some true, outcons := y.outcons + 320 })))) ∧
        (x.held = [] → exec (.progressBlockWrite sid) s = .next s) ∧
        (∀ f rest e, x.held = f :: rest → d.writeAll w (f.pieces x.desc) = (.ok, e) → e.se = d.se →
          does (.progressBlockWrite sid) (((e.fabDone w.waiter).setSession sid (fun y => { y with held := rest, frames := f.k + 1, failRow := 0 })).progressWrite sid 1)) ∧
        (∀ f rest e, x.held = f :: rest → d.writeAll w (f.pieces x.desc) = (.wait, e) → e.se = d.se → does (.progressBlockWrite sid) e))) ∧
  (∀ (s : Machine.State) (p : Nat) (up fcs auth : Bool) (f plain : List (BitVec 8)), p < 2 →
      let d := s.dev
      let does := fun (i : Instr) (e : Dev) => exec i s = .next (leaves s e)
      let on := d.bit rSeStat 31 = true ∧ d.bit (rSePortcfg p) 31 = true ∧ d.bit (rSePortcfg p) 30 = true
      let q := SMap.get [] d.se.txq p
      let rx := Instr.mediaFrameReceive p fcs auth f plain
      does (.mediaLinkChange p up) (d.setBit (rSePortcfg p) 30 up) ∧
      (¬ on → exec (.mediaFrameTransmitted p) s = .next s ∧ exec rx s = .next s) ∧
      (on → q = [] → exec (.mediaFrameTransmitted p) s = .next s) ∧
      (∀ a x b, on → q = a ++ x :: b → (∀ y ∈ a, ∃ k l, y = .raw k l) → (∀ k l, x ≠ .raw k l) →
        does (.mediaFrameTransmitted p) { d with se := { d.se with txq := d.se.txq.set p (a ++ b) } }) ∧
      (∀ k l b, on → q = .raw k l :: b → (∀ y ∈ b, ∃ j m, y = .raw j m) → let e : Dev := { d with se := { d.se with txq := d.se.txq.set p b } }
        does (.mediaFrameTransmitted p) (if d.runAborting k then e.failRun k .aborted else e.endRun k)) ∧
      (on → fcs = false ∨ f.length < 60 ∨ d.maxFrame p < f.length + 4 → does rx (d.addSat (rSePorterr p) 63 32 1)) ∧
      (on → fcs = true → 60 ≤ f.length → f.length + 4 ≤ d.maxFrame p → (frameType f).1 ≠ 0x8808 →
        let ip := carriedIp f (frameType f).1 (frameType f).2
        (ip = .bad → does rx (d.addSat (rSePorterr p) 63 32 1)) ∧
        (ip ≠ .bad → (f.headD 0).getLsbD 0 = true → does rx (d.exception p 1 0 f)) ∧
        (ip ≠ .bad → (f.headD 0).getLsbD 0 = false → be f 0 6 ≠ d.fld (rSePortmac p) 47 0 → exec rx s = .next s) ∧
        (∀ why, ip = .other why → (f.headD 0).getLsbD 0 = false → be f 0 6 = d.fld (rSePortmac p) 47 0 → does rx (d.exception p why 0 f)) ∧
        (∀ v6 src dst sport dport u len, ip = .udp v6 src dst sport dport u len → (f.headD 0).getLsbD 0 = false → be f 0 6 = d.fld (rSePortmac p) 47 0 →
          let raw := (f.drop (u + 8)).take (len - 8)
          (d.sesMatch p (frameVid f) v6 dst dport (be raw 1 1) = none → does rx (d.exception p 0 0 f)) ∧
          (∀ sid x, d.sesMatch p (frameVid f) v6 dst dport (be raw 1 1) = some (sid, false) → d.session? sid = some x →
            x.source.getD (sesAddr x.desc 6, sf x.desc 1 15 0) = (src, sport) → sf x.desc 16 13 12 = 0 → be raw 0 1 / 64 = 2 → sb x.desc 13 23 = false →
            be raw 8 4 = sw x.desc 15 → ∃ t, exec rx s = .next t ∧ t.dev.session? sid = some (x.rtp d.time raw) ∧ KeepsMemory s t (fun _ => False)))))

/-- R381 to R387: the samplers. The words of a record are smpRecord's. -/
def Obligations.Sampling : Prop :=
  (∀ (s : Machine.State) (r : Nat) (v : Run), s.dev.run? r = some v →
      let d := s.dev
      let c := v.cmd
      let t := v.inst
      let w := d.whoTil r t
      let does := fun (i : Instr) (e : Dev) => exec i s = .next (leaves s e)
      let inst := if c.smpTil < 8 then c.smpTil else 0
      (c.op ≠ 0x80 ∨ v.began = true → exec (.sample r) s = .next s) ∧
      (c.op = 0x80 → v.began = false →
        (∀ st i, sampleBad c = some (st, i) → does (.sample r) (d.failAt r inst st i)) ∧
        (sampleBad c = none → (∀ k, k < 8 → d.dieActive (slotTil k) = true → c.smpTil ≠ 15 ∧ c.smpTil ≠ k) → does (.sample r) (d.failAt r inst .dieLost)) ∧
        (∀ k, sampleBad c = none → c.smpTil = k → k < 8 → d.dieActive (slotTil k) = true →
          (d.instBusy 5 k = true → exec (.sample r) s = .next s) ∧
          (d.instBusy 5 k = false → does (.sample r) (d.setRun r (fun v => { v with began := true, inst := k, start := d.time }))))) ∧
      (c.op ≠ 0x80 ∨ v.began = false ∨ v.done = true ∨ d.faultHeld (.cmd r) = true ∨ d.atSafePoint r v = true → exec (.sampleVector r) s = .next s) ∧
      (c.op = 0x80 → v.began = true → v.done = false → d.faultHeld (.cmd r) = false → d.atSafePoint r v = false →
        (d.dieActive (slotTil t) = false → c.smpTil ≠ 15 → does (.sampleVector r) (d.failRun r .dieLost)) ∧
        (∀ k, d.dieActive (slotTil t) = false → c.smpTil = 15 → d.smpTiller c = some (some k) → does (.sampleVector r) (d.setRun r (fun v => { v with inst := k }))) ∧
        (d.dieActive (slotTil t) = true → (c.w 2).testBit 25 = false → (c.w 2).testBit 24 = false → ∀ l e f,
          let n := c.smpV * c.smpElem
          let at_ := c.dw 11 + 32 * v.step
          d.readPieces w (cut 128 at_ 8 ++ cut 128 (c.dw 4 + v.step * c.w 6) n ++ cut 128 (c.dw 13) 0 ++ cut 128 (c.dw 13) 0) = (.ok, l, false, e) →
          e.writeV w (at_ + 8) (wordBytes (smpRecord c (smpLogit (c.f 2 27 26) (l.drop 8)) none (fun _ => false) (ofLe (l.take 4) % 2 ^ 23) (ofLe ((l.drop 4).take 4) % 2 ^ 24))) = (.ok, f) →
            let g := (((f.fabDone w.waiter).notePorts r (at_ + 8) 24).addWrap (rTilSmpvec t) 63 0 1).nextStep r
            does (.sampleVector r) (if v.step + 1 = c.smpVecs then g.endRun r else g)))) ∧
  (∀ (c : Cmd) (logit : Nat → FVal) (mask : Nat → Bool) (seq step : Nat),
      ((∀ i, i < c.smpV → mask i = true ∨ (logit i).isNaN = true) → (f32.unpack (c.w 7)).isZero = true →
        (smpRecord c logit none mask seq step).take 3 = [0xFFFFFFFF, 2 ^ 31 + (if (List.range c.smpV).any (fun i => logit i == .inf false) then 2 ^ 30 else 0) +
          (if (List.range c.smpV).any (fun i => (logit i).isNaN) then 2 ^ 29 else 0) + 2 ^ 28, 0]) ∧
      ((f32.unpack (c.w 7)).isZero = true → c.smpV = 1 → mask 0 = false → (logit 0).isNaN = false →
        smpRecord c logit none mask seq step = [0, (if logit 0 == .inf false then 2 ^ 30 else 0) + 2 ^ 28 + 1, 0x3F800000, 0, 0, 0]))

/-- R390, R393 to R395, R398, R405 to R407, R467: the host ports. -/
def Obligations.HostPorts : Prop :=
  (∀ (d : Dev) (p : Nat), (d.configReg p 0).toNat / 2 ^ 16 = 0x7200 ∧ (d.configReg p 8).toNat / 2 ^ 8 = 0x120000 ∧
    (d.configReg p 4).getLsbD 1 = (d.port p).fn.mse ∧ (d.configReg p 4).getLsbD 2 = (d.port p).fn.bme) ∧
  (∀ (s : Machine.State) (p : Nat), p < 6 →
    let d := s.dev
    let does := fun (i : Instr) (e : Dev) => exec i s = .next (leaves s e)
    (∀ off size val, off < 2 ^ 64 → val < 2 ^ 64 → size = 1 ∨ size = 2 ∨ size = 4 ∨ size = 8 →
      (d.hostReaches p = false → exec (.hwbDoorbellWrite p off size val) s = .next s) ∧
      (d.hostReaches p = true → d.sup.stopped = true ∨ d.owned p (off / 4096) = false →
        does (.hwbDoorbellWrite p off size val) (d.addSat (rHpPortcnt p) 31 16 1)) ∧
      (d.hostReaches p = true → d.sup.stopped = false → d.owned p (off / 4096) = true →
        does (.hwbDoorbellWrite p off size val) (d.doorbellWrite (off / 4096) off size val).2)) ∧
    (∀ write off len data, off < 2 ^ 64 → 1 ≤ len → len ≤ 4096 → data.length = len →
      let a := rHpAper p (off / 2 ^ 30)
      let x := d.fld a 11 0
      let w := whoHost p x
      let refused := fun (e : Dev) => { e.addSat (rHpPortcnt p) 63 48 1 with out := if write = true then e.out else List.replicate len 0xFF }
      (d.hostReaches p = false → exec (.apertureAccess p write off len data) s = .next s) ∧
      (d.hostReaches p = true → d.sup.stopped = true ∨ d.bit a 63 = false ∨ d.owned p x = false →
        does (.apertureAccess p write off len data) (refused d)) ∧
      (d.hostReaches p = true → d.sup.stopped = false → d.bit a 63 = true → d.owned p x = true →
        let ps := cut 128 (d.fld a 55 30 * 2 ^ 30 + off % 2 ^ 30) len
        (∀ l b e, d.aperturePieces w write ps [] = (some l, b, e) →
          (write = true → does (.apertureAccess p write off len data) (e.writeHomes l data)) ∧
          (write = false → does (.apertureAccess p write off len data)
            { l.foldl (fun d x => d.poisonRead .engine x.1 x.2) e with out := (e.readHomes l).1, outBad := (e.readHomes l).2 })) ∧
        (∀ e, d.aperturePieces w write ps [] = (none, true, e) → does (.apertureAccess p write off len data) e) ∧
        (∀ e, d.aperturePieces w write ps [] = (none, false, e) → does (.apertureAccess p write off len data) (refused e)) ∧
        (∀ va n c h k e, ps = [(va, n)] → d.resolve w va (if write = true then .write else .read) = (.ok, .hbm h, k, e) → e.verdict (.hbm h) x write = .pass →
          c = (e.readHome (.hbm h) n, e.badHome (.hbm h) n) →
          ∃ t, exec (.apertureAccess p write off len data) s = .next t ∧ (write = false → (t.dev.out, t.dev.outBad) = c)))) ∧
    (∀ q, let cfg := Instr.configRequest p q
      (d.hostHears p = false → exec cfg s = .next s) ∧
      (d.hostHears p = true → d.hostReady = false → does cfg { d with out := [] }) ∧
      (d.hostHears p = true → d.hostReady = true →
        (∀ r, q = .read r → does cfg { d with out := leBytes 4 (d.configReg p (r % 4096 / 4 * 4)).toNat }) ∧
        (∀ m b, q = .memoryMaster m b → does cfg (d.setPort p (fun h => { h with fn := { h.fn with mse := m, bme := b } }))) ∧
        (∀ on, q = .relaxed on → does cfg (d.setPort p (fun h => { h with fn := { h.fn with relaxed := on } }))) ∧
        (∀ on m, q = .msix on m → does cfg ((d.setPort p (fun h => { h with fn := { h.fn with msixOn := on, msixMask := m } })).msixPending p)) ∧
        (∀ r v, q = .other r v → does cfg (d.setPort p (fun h => { h with fn := { h.fn with other := h.fn.other.set (r % 4096 / 4 * 4) v } }))))) ∧
    (∀ write addr len data, addr < 2 ^ 64 → 1 ≤ len → len ≤ 4096 → data.length = len →
      let root := Instr.rootInboundRequest p write addr len data
      let x := d.fld (rHpRpctx p) 11 0
      let unsupported := if write = true then d else { d with out := [] }
      let l := (cut 128 addr len).map (fun e => (d.home e.1, e.2))
      (d.isRoot p = false ∨ d.linkUp p = false → exec root s = .next s) ∧
      (d.isRoot p = true → d.linkUp p = true → d.bit (rHpRpctx p) 31 = false → does root unsupported) ∧
      (d.isRoot p = true → d.linkUp p = true → d.bit (rHpRpctx p) 31 = true →
        (write = true → addr = 0xF00000000000 + rCrownEvraise →
          does root (if len = 4 ∧ ofLe data < 2048 then d.raiseEvent (ofLe data) else d)) ∧
        (write = false ∨ addr ≠ 0xF00000000000 + rCrownEvraise →
          (∀ e ∈ l, (∃ a, e.1 = .hbm a) ∨ ∃ a q, e.1 = .core a q) →
          ((∀ e ∈ l, d.verdict e.1 x write = .pass) → write = true → does root (d.writeHomes l data)) ∧
          ((∀ e ∈ l, d.verdict e.1 x write = .pass) → write = false → does root { d with out := (d.readHomes l).1, outBad := (d.readHomes l).2 }) ∧
          (∀ a e b st, l = a ++ e :: b → (∀ f ∈ a, d.verdict f.1 x write = .pass) →
            (d.verdict e.1 x write = .wait → exec root s = .next s) ∧ (d.verdict e.1 x write = .refuse st → does root unsupported))) ∧
        (write = false ∨ addr ≠ 0xF00000000000 + rCrownEvraise → (∀ e ∈ l, d.verdict e.1 x write = .pass) →
          (∃ e ∈ l, (∀ a, e.1 ≠ .hbm a) ∧ ∀ a q, e.1 ≠ .core a q) → does root unsupported))) ∧
    ((d.port p).lossAt ≠ none → exec (.linkLossStart p) s = .next s) ∧
    ((d.port p).lossAt = none → does (.linkLossStart p)
      (((d.setBit (rHpPortstat p) 62 false).setFld (rHpPortstat p) 60 51 0).setPort p (fun h => { h with lossAt := some d.time }))) ∧
    (∀ speed width,
      let e := (((d.setBit (rHpPortstat p) 62 true).setFld (rHpPortstat p) 60 56 speed).setFld (rHpPortstat p) 55 51 width).setPort p (fun h => { h with lossAt := none })
      (d.portLost p = false → does (.hostLinkUp p speed width) e) ∧
      (d.portLost p = true → does (.hostLinkUp p speed width) (e.setPort p (fun h => { h with fn := {}, msix := [], pba := [], flr := false })))) ∧
    ((d.port p).flr = false → exec (.functionResetDone p) s = .next s) ∧
    ((d.port p).flr = true → does (.functionResetDone p) (d.setPort p (fun h => { h with fn := {}, msix := [], pba := [], flr := false }))) ∧
    ((d.port p).lossAt = none ∨ d.portLost p = true → exec (.linkLossGraceExpiry p) s = .next s) ∧
    ((d.port p).lossAt ≠ none → d.portLost p = false →
      (d.isRoot p = false → d.pins.hostloss = true → does (.linkLossGraceExpiry p) (d.warmRequest 4 p)) ∧
      (d.isRoot p = true → does (.linkLossGraceExpiry p) (((d.setBit (rHpPortstat p) 61 true).addSat (rHpPortstat p) 47 32 1).lossDiscard p)) ∧
      (d.isRoot p = false → d.pins.hostloss = false → does (.linkLossGraceExpiry p)
        ((((d.setBit (rHpPortstat p) 61 true).addSat (rHpPortstat p) 47 32 1).lossDiscard p).lossContexts p))) ∧
    (d.hostHears p = false → exec (.functionLevelReset p) s = .next s) ∧
    (d.hostHears p = true → d.pins.hostloss = true → does (.functionLevelReset p) (d.warmRequest 4 p)) ∧
    (d.hostHears p = true → d.pins.hostloss = false → does (.functionLevelReset p) ((d.setPort p (fun h => { h with flr := true })).linkLost p)))

/-- R23, R26, R27, R154, R463, R469 to R471, R487: dies and clusters. What a lost die takes with it is Dev.dieGone's. -/
def Obligations.DiesAndClusters : Prop :=
  (∀ (s : Machine.State) (n : Nat), n < 23 →
    let d := s.dev
    let does := fun (i : Instr) (e : Dev) => exec i s = .next (leaves s e)
    let recent := (d.die n).losses.filter (fun t => decide (d.time - t < 3600000000000))
    let gone := (d.dieGone n).setDie n (fun x => { x with drain := none, losses := d.time :: recent })
    (∀ i ∈ [Instr.dieLoss n, .heartbeatMiss n],
      (d.powered = false ∨ d.sup.bootStep < 5 ∨ 2 ≤ d.dieState n → exec i s = .next s) ∧
      (d.powered = true → 5 ≤ d.sup.bootStep → d.dieState n < 2 →
        (n = 0 → does i { d.dark with pm := { pwrlim := d.pm.pwrlim, input := .lost }, pins := { d.dark.pins with caterr := true } }) ∧
        (n ≠ 0 → gone.bit (rCrownDiectl n) 31 = false ∨ 4 ≤ (gone.recentLosses n).length → does i gone) ∧
        (n ≠ 0 → gone.bit (rCrownDiectl n) 31 = true → (gone.recentLosses n).length < 4 → does i (gone.setDieState n 1)))) ∧
    (∀ fuse link test bad,
      let e := (d.setDie n (fun x => { x with drain := none })).setBit (rCrownDiestat n) 4 fuse
      let rejoin := Instr.dieRejoin n fuse link test bad
      (d.powered = false ∨ n = 0 ∨ d.sup.bootStep < 5 ∨ d.dieState n ≠ 1 → exec rejoin s = .next s) ∧
      (d.powered = true → n ≠ 0 → 5 ≤ d.sup.bootStep → d.dieState n = 1 →
        ((d.die n).drain = some .offline → does rejoin ((d.setDieState n 3).setDie n (fun x => { x with drain := none }))) ∧
        ((d.die n).drain ≠ some .offline →
          (fuse = false → does rejoin ((e.setDieState n 2).error 0x09 n 0)) ∧
          (fuse = true → link = false → does rejoin ((e.setDieState n 2).error 0x0A n 0 0 0 0 (some 1))) ∧
          (fuse = true → link = true → test = false → does rejoin ((e.setDieState n 2).error 0x28 n 0)) ∧
          (fuse = true → link = true → test = true →
            let f := (e.setDieState n 0).addSat (rCrownDiestat n) 31 24 1
            (n < 9 → bad = [] → does rejoin ((f.setBit (rTilScstat (n - 1)) 31 true).dieChanged n)) ∧
            (n < 9 → let g := f.dropSpares (n - 1) bad
              let h := (bad.filter (g.clsEnabled (n - 1))).foldl (fun d c => d.clusterSwap (n - 1) c bad) g
              does rejoin ((h.setBit (rTilScstat (n - 1)) 31 true).dieChanged n)) ∧
            (9 ≤ n → n < 11 → does rejoin ((f.setBit (rCulmScstat (n - 9)) 31 true).dieChanged n)) ∧
            (11 ≤ n → does rejoin ((f.setReturn ((n - 11) / 3)).dieChanged n)))))) ∧
    (d.powered = false ∨ d.dieActive n = false ∨ (d.die n).drain = none → exec (.dieDrainDone n) s = .next s) ∧
    (d.powered = true → d.dieActive n = true → (d.die n).drain ≠ none →
      let a := if 9 ≤ n ∧ n < 11 then (List.range 48).foldl (fun d k => (d.coreOffline (48 * (n - 9) + k)).coreOfflineDone (48 * (n - 9) + k)) d else d
      let b := ((a.ms.caches.keysP (fun k _ => cacheSlot k == n)).flatMap a.dirtyLines).foldl Dev.writeHome a
      let e := if 11 ≤ n then b.setDie n (fun x => { x with refreshed := true }) else b
      does (.dieDrainDone n) (((((e.discardRequests (fun w => w.die == some n)).clearDie n).setDieState n 1).destroyTick).dieChanged n))) ∧
  (∀ (s : Machine.State) (t c : Nat) (bad : List Nat), t < 8 → c < 84 →
    let d := s.dev
    let does := fun (i : Instr) (e : Dev) => exec i s = .next (leaves s e)
    let k := 84 * t + c
    let e := (d.discardRequests (fun w => match w with | .sheaf x => keyCls x == k | .lane x _ => keyCls x == k | _ => false)).clearClusters (· == k)
    let m := (e.repairRecord t).1
    let without := m &&& ~~~(BitVec.ofNat 84 (2 ^ c))
    (d.powered = false ∨ d.dieActive (slotTil t) = false ∨ d.clsEnabled t c = false → exec (.clusterFailure t c bad) s = .next s) ∧
    (d.powered = true → d.dieActive (slotTil t) = true → d.clsEnabled t c = true →
      ((e.repairRecord t).2 = [] → does (.clusterFailure t c bad)
        (((e.setRepair t without []).tilChanged t).error 0x12 (slotTil t) c).geometryChanged) ∧
      (∀ x rest, (e.repairRecord t).2 = x :: rest → x ∉ bad → does (.clusterFailure t c bad)
        (((e.setRepair t (without ||| BitVec.ofNat 84 (2 ^ x)) rest).tilChanged t).error 0x11 (slotTil t) c).geometryChanged) ∧
      (∀ sp, (e.repairRecord t).2 = sp → (∀ x ∈ sp, x ∈ bad) → sp ≠ [] → ∃ u, exec (.clusterFailure t c bad) s = .next u ∧
        u.dev.repairRecord t = (without, [])))) ∧
  (∀ (d : Dev) (t : Nat) (m : BitVec 84) (sp : List Nat), t < 8 → sp.length < 8 →
    (d.setRepair t m sp).repairRecord t = (m, sp) ∧ (d.setRepair t m sp).fld (rTilClsen t) 18 16 = sp.length ∧
    (d.setRepair t m sp).reg (rTilClsmapl t) % 2 ^ 64 = m.toNat % 2 ^ 64)

/-- R407, R464 to R468, R475, R476, R481, R505, R509: warm reset and boot. -/
def Obligations.WarmResetAndBoot : Prop :=
  (∀ (s : Machine.State),
    let d := s.dev
    let does := fun (i : Instr) (e : Dev) => exec i s = .next (leaves s e)
    (∀ cause p, d.powered = false ∨ d.pins.warm ≠ none → d.warmRequest cause p = d) ∧
    (∀ cause p, d.powered = true → d.pins.warm = none →
      let e := ({ d with pins := { d.pins with warm := some (cause, p) } }.setBit rCpStat 31 false).setBit rFeStat 28 true
      d.warmRequest cause p = (List.range 2).foldl (fun d q => d.setBit (rSePortcfg q) 31 false) (d.endpoints.foldl (fun d q => d.setFld (rHpPortstat q) 62 51 0) e)) ∧
    (∀ cause p failed discarded, 1 ≤ cause → cause ≤ 4 → p < 6 →
      (d.powered = false → exec (.warmReset cause p failed discarded) s = .next s) ∧
      (d.powered = true →
        let a := d.warmRequest cause p
        let c := d.pins.warm.getD (cause, p)
        let b := (a.cores.keysP (fun n _ => a.dieActive (slotCulm (n / 48)))).foldl Dev.ntDrainAll a
        let lost := (List.range 4).filter (fun n => (setSlots n).any (fun s => !(b.dieActive s && !failed.contains (s - 11)) && !((b.die s).refreshed && !(b.die s).contLost)))
        let e := lost.foldl Dev.contentLost b.warmCleared
        does (.warmReset cause p failed discarded)
          (((((e.setFld rCrownRstrec 63 60 c.1).setFld rCrownRstrec 59 56 c.2).setFld rCrownRstrec 55 52 ((lost.map (2 ^ ·)).sum)).setFld rCrownRstrec 47 32
            (min 65535 discarded)).addSat rCrownRstrec 31 0 1))) ∧
    (d.warmCleared.time = d.time ∧ d.warmCleared.nv = d.nv ∧ d.warmCleared.sheaves = [] ∧ d.warmCleared.cores = [] ∧ d.warmCleared.cp = {} ∧
      d.warmCleared.sup = {} ∧ d.warmCleared.pins.warm = none ∧ d.warmCleared.ms.mem = d.cachesLost.ms.mem ∧
      d.warmCleared.ms.poison = d.ms.poison ∧ d.warmCleared.reg rCrownRstrec % 2 ^ 64 = d.reg rCrownRstrec % 2 ^ 64) ∧
    does .warmrstAssert ({ d with pins := { d.pins with warmrst := true } }.warmRequest 3 0) ∧
    (d.pins.pkgclk = true ∨ d.pins.thermtrip = true ∨ d.pm.input ≠ .good → does .warmrstRelease { d with pins := { d.pins with warmrst := false } }) ∧
    (d.pins.pkgclk = false → d.pins.thermtrip = false → d.pm.input = .good →
      does .warmrstRelease { d with pins := { d.pins with warmrst := false, pkgclk := true, warm := some (3, 0) } }) ∧
    (d.powered = false → exec .pkgclkLoss s = .next s) ∧
    (d.powered = true →
      let e := (List.range 4).foldl (fun e n => e.loseSet n) d.warmCleared
      does .pkgclkLoss { e with pins := { e.pins with pkgclk := false, caterr := true } })) ∧
  (∀ (s : Machine.State) (bi : List (Nat × Nat)) (bd bf bc : List Nat),
    let d := s.dev
    let boot := Instr.bootStep bi bd bf bc
    let does := fun (e : Dev) => exec boot s = .next (leaves s e)
    let e := { d with sup := { d.sup with bootStep := d.sup.bootStep + 1 } }
    let stop := fun (d : Dev) => { d.setFld rSpBootstat 27 24 7 with sup := { d.sup with stopped := true }, pins := { d.pins with caterr := true } }
    let on := d.powered = true ∧ d.pins.warmrst = false ∧ d.pins.warm = none ∧ d.sup.stopped = false
    (¬ on ∨ 8 ≤ d.sup.bootStep → exec boot s = .next s) ∧
    (on → d.sup.bootStep = 0 → does e) ∧
    (on → d.sup.bootStep = 1 → does (if (e.bootImage 0 bi).1 = true then (e.bootImage 0 bi).2 else stop (e.bootImage 0 bi).2)) ∧
    (on → d.sup.bootStep = 2 → does (e.bootFuses bi bf)) ∧
    (on → d.sup.bootStep = 2 → 0 ∈ bf → ∃ t, exec boot s = .next t ∧ t.dev.sup.stopped = true ∧ t.dev.pins.caterr = true ∧ t.dev.fld rSpBootstat 27 24 = 7 ∧
      KeepsMemory s t (fun _ => False)) ∧
    (on → d.sup.bootStep = 3 → does (e.setFld rSpBootstat 27 24 2)) ∧
    (on → d.sup.bootStep = 4 → ∃ t, exec boot s = .next t ∧ t.dev = e.bootDies bd ∧ t.dev.fld rSpBootstat 27 24 = 3) ∧
    (on → d.sup.bootStep = 5 → ∃ t, exec boot s = .next t ∧ t.dev = e.bootMemory bi ∧ t.dev.fld rSpBootstat 27 24 = 4) ∧
    (on → d.sup.bootStep = 6 → does (e.bootFirmware bi)) ∧
    (on → d.sup.bootStep = 6 → (e.bootRegs.bootImage 1 bi).1 = true → ∃ t, exec boot s = .next t ∧ t.dev.fld rSpBootstat 27 24 = 5) ∧
    (on → d.sup.bootStep = 6 → (e.bootRegs.bootImage 1 bi).1 = false → does (stop (e.bootRegs.bootImage 1 bi).2)) ∧
    (on → d.sup.bootStep = 7 → ∃ t, exec boot s = .next t ∧ t.dev = e.bootCores bi bc ∧ t.dev.fld rSpBootstat 27 24 = 6 ∧ t.dev.bit rSpBootstat 31 = true)) ∧
  (∀ (d : Dev) (cls : Nat) (bad : List (Nat × Nat)), cls < 7 →
    let a := d.nv.slotB.getLsbD cls
    (∀ img, d.slotCheck cls a bad = .inr img → d.bootImage cls bad = (true, (d.measure cls img).setBit rSpBootstat cls a)) ∧
    (∀ c img, d.slotCheck cls a bad = .inl c → d.slotCheck cls (!a) bad = .inr img →
      d.bootImage cls bad = (true, (d.measure cls img).setBit rSpBootstat cls (!a))) ∧
    (∀ c f, d.slotCheck cls a bad = .inl c → d.slotCheck cls (!a) bad = .inl f →
      d.bootImage cls bad = (false, (d.setFld rSpBootstat 23 21 cls).setFld rSpBootstat 15 8 f)) ∧
    (∀ b, bad = [] → (d.flashImage cls b).svn < d.arb cls → d.slotCheck cls b bad = .inl 5) ∧
    (∀ b, bad = [] → d.arb cls ≤ (d.flashImage cls b).svn → d.slotCheck cls b bad = .inr (d.flashImage cls b)) ∧
    (∀ img, ((d.measure cls img).firmware cls).chain = sha384 (hashBytes (d.firmware cls).chain ++ hashBytes img.hash)))

/-- R442 to R457: the power manager. -/
def Obligations.PowerManager : Prop :=
  (∀ (s : Machine.State) (est : List Nat), est.length = 23 →
    let d := s.dev
    let run := Instr.pmUpdate est
    let p := d.pEst est
    let limit := d.effectiveCap
    let b : Rat := 99 * (limit : Rat) / 100
    let e := (d.setFld rPmPower 31 0 (min (2 ^ 32 - 1) p.floor.toNat)).setFld rPmStat 23 12 (limit / 1000)
    let m := if d.pm.pwrlim = true ∨ d.pm.inlim = true then 8 else min 16 (d.pm.m + 1)
    let fin := fun (x : Dev) =>
      let now := x.pm.droops.foldl (fun a y => min a y.2) m
      ((x.setPm (fun q => { q with m := m })).setFld rPmIssue 4 0 (min x.pm.low now)).setPm (fun q => { q with low := now })
    let told := fun (x : Dev) => exec run s = .next (leaves s (d.pmDo (fun _ => fin x)))
    (d.pmRuns = false ∨ d.pmHeld = true → exec run s = .next s) ∧
    (d.pmRuns = true → d.pmHeld = false →
      (d.fixedRate = true → d.pm.capLimit = [] → told (e.setFld rPmIssue 24 16 (nearest 16 256 (d.fld rPmCtl 24 16)))) ∧
      (d.fixedRate = true → d.pm.capLimit ≠ [] → told ((e.setFld rPmIssue 24 16 (nearest 16 256 (d.fld rPmCtl 24 16))).capReturn)) ∧
      (d.fixedRate = false → p = b → told e) ∧
      (d.fixedRate = false → b < p →
        (16 < d.bubble → told (e.setFld rPmIssue 24 16 (max 16 (d.bubble - roundCap (128 * (p - b) / b))))) ∧
        (d.bubble ≤ 16 → d.culmGrant 0 = 12 → d.culmGrant 1 = 12 → told e.capMiss) ∧
        (d.bubble ≤ 16 → d.culmGrant 0 ≠ 12 ∨ d.culmGrant 1 ≠ 12 → told (e.capStep (fun u => some (max 12 (d.culmGrant u - 1)))))) ∧
      (d.fixedRate = false → p < b →
        (d.pm.capLimit = [] → told (e.setFld rPmIssue 24 16 (min 256 (d.bubble + min 8 (roundCap (128 * (b - p) / b)))))) ∧
        (d.pm.capLimit ≠ [] → told e.capReturn)))) ∧
  (∀ (d : Dev), 1200000 ≤ d.effectiveCap ∧ d.effectiveCap ≤ 3600000) ∧
  (∀ (g : Rat) (est meas : Nat), newGain g 0 meas = g ∧ (est ≠ 0 → 17 / 20 ≤ newGain g est meas ∧ newGain g est meas ≤ 23 / 20)) ∧
  (∀ (s : Machine.State) (est meas : List Nat) (power mv ma : Nat), est.length = 23 → meas.length = 23 →
    let d := s.dev
    let run := Instr.pmCalibration est meas power mv ma
    let e := (((d.setFld rPmPower 63 32 (min (2 ^ 32 - 1) power)).setFld rPmInput 63 32 (min (2 ^ 32 - 1) mv)).setFld rPmInput 31 0 (min (2 ^ 32 - 1) ma)).setBit rPmStat 27 (decide (mv < 40000))
    let kept := d.pm.cal.filter (fun x => decide (3 ≤ x.1))
    (d.pmRuns = false ∨ d.pmHeld = true → exec run s = .next s) ∧
    (d.pmRuns = true → d.pmHeld = false →
      (d.pm.calDue = false → exec run s = .next (leaves s (d.pmDo (fun _ => (e.calibrate est meas power).hardLimit power)))) ∧
      (d.pm.calDue = true → exec run s = .next (leaves s (d.pmDo (fun _ =>
        ((e.setPm (fun q => { q with calDue := false, cal := kept ++ d.nv.cal.filter (fun x => decide (x.1 < 3)) })).calibrate est meas power).hardLimit power)))))) ∧
  (∀ (d : Dev) (est meas : List Nat) (power n : Nat), n < 23 →
    (d.calibrate est meas power).pm.loss = (power : Rat) - (meas.sum : Nat) ∧
    (d.calibrate est meas power).pmGain n = newGain (d.pmGain n) (est.getD n 0) (meas.getD n 0)) ∧
  (∀ (s : Machine.State) (temps : List Int), temps.length = 184 →
    let d := s.dev
    let run := Instr.sensorScan temps
    let read := fun (i : Nat) => temps.getD i 0 + d.calDelta 0 i 16
    (d.pmRuns = false → exec run s = .next s) ∧
    (d.pmRuns = true → ∀ i, i < 184 → d.dieActive (sensorSlot i) = true → i ∈ d.pm.above → 920 ≤ read i →
      (∀ j, j < i → j ∈ d.pm.above → d.dieActive (sensorSlot j) = true → read j < 920) → exec run s = .next (leaves s (d.trip i (tempWord (read i))))) ∧
    (d.pmRuns = true → (∀ j, j < 184 → j ∈ d.pm.above → d.dieActive (sensorSlot j) = true → read j < 920) →
      ∃ t f, exec run s = .next t ∧ t.dev = d.pmDo f ∧ ∀ i, i < 184 → (f d).fld (rPmTemp i) 15 0 = if d.dieActive (sensorSlot i) = true then tempWord (read i) else 0x8000)) ∧
  (∀ (d : Dev) (i x : Nat), let e := d.trip i x
    e.pins.thermtrip = true ∧ e.pins.caterr = true ∧ e.nv = d.nv ∧ e.time = d.time ∧ e.powered = false ∧ e.cores = [] ∧ e.sheaves = [] ∧ e.cp = {} ∧
    (i < 256 → x < 65536 → e.reg rPmTriprec = 2 ^ 63 + i * 2 ^ 48 + x * 2 ^ 32)) ∧
  (∀ (s : Machine.State) (t c : Nat), t < 8 → c < 84 →
    let d := s.dev
    let does := fun (i : Instr) (e : Dev) => exec i s = .next (leaves s e)
    let k := 84 * t + c
    (d.dieActive (slotTil t) = false ∨ d.clsEnabled t c = false → exec (.droopTrip t c) s = .next s) ∧
    (d.dieActive (slotTil t) = true → d.clsEnabled t c = true →
      does (.droopTrip t c) ((d.setPm (fun p => { p with droops := p.droops.set k 4, low := min p.low 4 })).addSat rPmCount 63 32 1)) ∧
    (d.pm.droops.find k = none → exec (.droopRecoveryStep t c) s = .next s) ∧
    (∀ m, d.pm.droops.find k = some m →
      (m + 1 < d.pm.m → does (.droopRecoveryStep t c) (d.setPm (fun p => { p with droops := p.droops.set k (m + 1) }))) ∧
      (d.pm.m ≤ m + 1 → does (.droopRecoveryStep t c) (d.setPm (fun p => { p with droops := p.droops.del k }))))) ∧
  (∀ (s : Machine.State),
    let d := s.dev
    let does := fun (i : Instr) (e : Dev) => exec i s = .next (leaves s e)
    let held := fun (on : Bool) => d.pmDo (fun x => ((x.setPm (fun p => { p with inlim := on })).setBit rPmStat 28 on).fastUpdate)
    (∀ p ∈ [(Instr.pwrlimAssert, true), (.pwrlimRelease, false)],
      let e := d.setPm (fun q => { q with pwrlim := p.2 })
      (d.pmRuns = false → does p.1 e) ∧ (d.pmRuns = true → does p.1 (e.pmDo Dev.fastUpdate))) ∧
    (∀ on, (d.pmRuns = false → exec (.inputCurrentLimit on) s = .next s) ∧ (d.pmRuns = true → does (.inputCurrentLimit on) (held on))) ∧
    (d.pm.inlim = true ∨ d.pmRuns = false → exec .inputDip s = .next s) ∧
    (d.pm.inlim = false → d.pmRuns = true → does .inputDip ((held true).currentLimit false)) ∧
    (d.fastUpdate.bit rPmStat 29 = (d.pm.pwrlim || d.pm.inlim)) ∧
    (d.pm.pwrlim = true ∨ d.pm.inlim = true → d.pmHeld = false → d.fastUpdate.pm.m = 8) ∧
    (∀ v, v < 2 ^ 64 → (d.powered = false → exec (.bmcCapWrite v) s = .next s) ∧ (d.powered = true → does (.bmcCapWrite v) (d.setFld rPmCap 27 16 (v / 2 ^ 16 % 2 ^ 12)))) ∧
    (d.pm.input ≠ .off → exec .inputSoftStart s = .next s) ∧
    (d.pm.input = .off → does .inputSoftStart (d.setPm (fun p => { p with input := .soft }))) ∧
    (∀ v, (d.pm.input ≠ .soft → exec (.inputGood v) s = .next s) ∧
      (d.pm.input = .soft → let e := d.dark
        does (.inputGood v) { e with pm := { e.pm with input := .good }, pins := { e.pins with pkgclk := true, hpmode := v.hpmode, hostloss := v.hostloss, posEn := v.posEn, pos := v.pos, mbaddr := v.mbaddr } })) ∧
    does .powerLoss d.dark ∧
    (d.dark.nv = d.nv ∧ d.dark.regs = [] ∧ d.dark.cores = [] ∧ d.dark.sheaves = [] ∧ d.dark.cp = {} ∧ d.dark.sup = {} ∧ d.dark.ms.caches = []))

/-- R476, R477, R485, R487 to R490, R492: activation, error records, self-test, the CP watchdog. -/
def Obligations.SecurityAndSelfTest : Prop :=
  (∀ (s : Machine.State) (cls : Nat), cls < 7 →
    let d := s.dev
    let does := fun (i : Instr) (e : Dev) => exec i s = .next (leaves s e)
    let ended := fun (x : Dev) (res : Nat) => ({ x with sp := { x.sp with swapping := none, staged := none } }.setBit rSpCmdstat 31 false).setFld rSpCmdstat 27 24 res
    ((∀ old, d.sp.swapping ≠ some (cls, old)) → exec (.imageReadyReport cls) s = .next s ∧ exec (.activateTimeout cls) s = .next s) ∧
    (∀ old, d.sp.swapping = some (cls, old) →
      ∀ p ∈ [(Instr.imageReadyReport cls, ended (d.flashNew cls) 0), (.activateTimeout cls, ended (d.setFirmware cls (fun f => { f with image := old.image })) 6)],
        (cls = 1 → does p.1 (p.2.setBit rCpStat 30 false)) ∧
        (cls = 2 → does p.1 ((p.2.pmDo Dev.fastUpdate).setGrants.setSteps)) ∧
        (cls ≠ 1 → cls ≠ 2 → does p.1 p.2)) ∧
    (∀ b, b = !d.nv.slotB.getLsbD cls →
      (d.flashNew cls).flashImage cls b = (d.firmware cls).image ∧ (d.flashNew cls).flashImage cls (!b) = d.flashImage cls (!b) ∧
      (d.flashNew cls).nv.slotB.getLsbD cls = b ∧ (d.flashNew cls).bit rSpBootstat cls = b ∧ (d.flashNew cls).nv.arb = d.nv.arb)) ∧
  (∀ (s : Machine.State),
    let d := s.dev
    let does := fun (i : Instr) (e : Dev) => exec i s = .next (leaves s e)
    (d.sup.errs = [] → exec .errorRecordWrite s = .next s) ∧
    (∀ r rest, d.sup.errs = r :: rest → let w := { d with sup := { d.sup with errs := rest } }.ringWrite 17 (wordBytes r.words)
      (w.1 = .written → does .errorRecordWrite w.2) ∧ (w.1 ≠ .written → does .errorRecordWrite (w.2.addSat rCrownErrstat 63 48 1))) ∧
    (d.cpRuns = false ∨ d.bit rCrownStcfg 31 = false ∨ d.sup.test ≠ none → exec .sweepTimer s = .next s) ∧
    (d.cpRuns = true → d.bit rCrownStcfg 31 = true → d.sup.test = none →
      let e := (d.setFld rCrownStstat 30 27 6).setBit rCrownStstat 26 false
      ((∃ g ∈ d.allGroups, d.clusterCount < 50 * g.clusters.length) → does .sweepTimer (e.setFld rCrownStstat 15 0 Status.busy.code)) ∧
      ((∀ g ∈ d.allGroups, 50 * g.clusters.length ≤ d.clusterCount) →
        (d.allGroups = [] → does .sweepTimer (e.testEnd .success false)) ∧
        (∀ g rest, d.allGroups = g :: rest → does .sweepTimer
          ((({ e.setBit rCrownStstat 31 true with sup := { e.sup with test := some { kind := 6, target := 0, cur := some (g.til, g.idx), groups := rest.map (fun (h : Group) => (h.til, h.idx)) } } }).drainGroup
            (g.til, g.idx)).setFld rCrownStstat 23 16 0)))) ∧
    (d.cpRuns = false → exec .cpHeartbeatMiss s = .next s) ∧
    (d.cpRuns = true →
      let recent := d.time :: d.sup.restarts.filter (fun t => decide (d.time - t < 3600000000000))
      let e := (({ d with sup := { d.sup with restarts := recent } }).addSat rCpStat 23 16 1).error 0x20 0 0
      (recent.length < 3 → does .cpHeartbeatMiss (e.setBit rCpStat 30 true)) ∧
      (3 ≤ recent.length → let f := (e.setBit rCpStat 31 false).error 0x21 0 0
        does .cpHeartbeatMiss { f with pins := { f.pins with caterr := true } })) ∧
    ((∃ old, d.sp.swapping = some (1, old)) → exec .cpFirmwareRestartDone s = .next s) ∧
    ((∀ old, d.sp.swapping ≠ some (1, old)) → does .cpFirmwareRestartDone (d.setBit rCpStat 30 false))) ∧
  (∀ (s : Machine.State) (found : List (Nat × Nat)) (bad : List Nat),
    let d := s.dev
    let done := Instr.selftestDone found bad
    let does := fun (e : Dev) => exec done s = .next (leaves s e)
    (d.sup.test = none ∨ d.cpRuns = false → exec done s = .next s) ∧
    (∀ t, d.sup.test = some t → d.testReady t = false → exec done s = .next s) ∧
    (∀ t, d.sup.test = some t → d.cpRuns = true → d.testReady t = true →
      let any := t.found || !found.isEmpty
      let finish := fun (e : Dev) => { ((e.setBit rCrownStstat 31 false).setBit rCrownStstat 26 any).setFld rCrownStstat 15 0 Status.success.code with sup := { e.sup with test := none } }
      (t.kind = 2 → does (finish d)) ∧
      (t.kind = 3 → does (finish (d.mapWires t.target found.length))) ∧
      (t.kind = 4 → does (finish ((((found.filter (fun e => decide (e.1 < 12))).foldl (fun d e => d.error 0x28 (slotGlm e.1) 0) d).memTested).setBit rFeStat 28 false))) ∧
      (t.kind = 5 → does (finish (((d.resetClusters (fun k => d.dieActive (slotTil (k / 84)))).testFound found bad).setBit rFeStat 28 false))) ∧
      (t.kind = 1 ∨ t.kind = 6 → t.cur = none → does (finish d)) ∧
      (∀ g, t.kind = 1 ∨ t.kind = 6 → t.cur = some g →
        let c := match d.groupAt g with | some x => x.clusters | none => []
        let e := (d.resetClusters (fun x => c.contains x)).testFound (found.filter (fun y => c.contains (84 * y.1 + y.2))) bad
        let f := if t.kind = 6 then e.addWrap rCrownStstat 23 16 1 else e
        (t.groups = [] → does (finish f).refreshWaits) ∧
        (∀ h rest, t.groups = h :: rest → does
          ({ f with sup := { f.sup with test := some { t with cur := some h, groups := rest, found := any } } }.drainGroup h))))) ∧
  (∀ (d : Dev) (n : Nat), (d.mapWires n 0 = d) ∧
    ((d.die n).wires < Config.linkSpares n → ((d.mapWires n 1).die n).wires = (d.die n).wires + 1) ∧
    (Config.linkSpares n ≤ (d.die n).wires → ((d.mapWires n 1).die n).wires = (d.die n).wires))
end

