-- ==== Sys2Proof/Laws/Map.lean ====
section
/-! SUPPORT. Laws of keyed lists and of bit fields: reading back what was put, and what a put leaves. -/

namespace Sys2Proof.Machine

variable {α : Type}

@[simp] theorem SMap.find_set_same (m : SMap α) (k : Nat) (v : α) : SMap.find (SMap.set m k v) k = some v := by
  induction m with
  | nil => simp [SMap.set, SMap.find]
  | cons e r ih =>
    obtain ⟨k', v'⟩ := e
    rw [SMap.set]
    split_ifs with h1 h2
    · simp [SMap.find, Nat.ne_of_lt h1, ih]
    · simp [SMap.find]
    · simp [SMap.find]

theorem SMap.find_set_other (m : SMap α) {k k' : Nat} (v : α) (h : k ≠ k') :
    SMap.find (SMap.set m k v) k' = SMap.find m k' := by
  induction m with
  | nil => simp [SMap.set, SMap.find, h]
  | cons e r ih =>
    obtain ⟨a, v'⟩ := e
    rw [SMap.set]
    split_ifs with h1 h2
    · simp only [SMap.find]; split <;> simp_all
    · subst h2; simp [SMap.find, h]
    · simp [SMap.find, h]

@[simp] theorem SMap.get_set_same (d : α) (m : SMap α) (k : Nat) (v : α) : SMap.get d (SMap.set m k v) k = v := by
  simp [SMap.get]

theorem SMap.get_set_other (d : α) (m : SMap α) {k k' : Nat} (v : α) (h : k ≠ k') :
    SMap.get d (SMap.set m k v) k' = SMap.get d m k' := by
  simp [SMap.get, SMap.find_set_other m v h]

@[simp] theorem SMap.get_upd_same (d : α) (m : SMap α) (k : Nat) (f : α → α) :
    SMap.get d (SMap.upd d m k f) k = f (SMap.get d m k) := by
  simp [SMap.upd]

theorem SMap.get_upd_other (d : α) (m : SMap α) {k k' : Nat} (f : α → α) (h : k ≠ k') :
    SMap.get d (SMap.upd d m k f) k' = SMap.get d m k' := by
  simp [SMap.upd, SMap.get_set_other d m _ h]

/-- Two puts at one key: the second stands. -/
@[simp] theorem SMap.set_set (m : SMap α) (k : Nat) (v w : α) : SMap.set (SMap.set m k v) k w = SMap.set m k w := by
  induction m with
  | nil => simp [SMap.set]
  | cons e r ih =>
    obtain ⟨a, v'⟩ := e
    by_cases h1 : a < k
    · simp [SMap.set, h1, ih]
    · by_cases h2 : a = k
      · simp [SMap.set, h2]
      · simp [SMap.set, h1, h2]

@[simp] theorem SMap.upd_upd (d : α) (m : SMap α) (k : Nat) (f g : α → α) :
    SMap.upd d (SMap.upd d m k f) k g = SMap.upd d m k (fun x => g (f x)) := by
  simp [SMap.upd]

/-- The keys of a list kept in order stay in order when one is put. -/
theorem SMap.wf_set (m : SMap α) (k : Nat) (v : α) (h : m.wf = true) : (SMap.set m k v).wf = true := by
  induction m with
  | nil => rfl
  | cons e r ih =>
    obtain ⟨a, v'⟩ := e
    have hr : SMap.wf r = true := by
      cases r with
      | nil => rfl
      | cons e' r' => simp only [SMap.wf, Bool.and_eq_true] at h; exact h.2
    by_cases h1 : a < k
    · have hk := ih hr
      simp only [SMap.set, h1, if_true]
      cases r with
      | nil => simp [SMap.set, SMap.wf, h1]
      | cons e' r' =>
        obtain ⟨b, w⟩ := e'
        have hab : a < b := by simp only [SMap.wf, Bool.and_eq_true, decide_eq_true_eq] at h; exact h.1
        simp only [SMap.set] at hk ⊢
        split_ifs at hk ⊢ <;> simp_all [SMap.wf]
    · by_cases h2 : a = k
      · subst h2
        simp only [SMap.set, h1, if_false, if_true]
        cases r with
        | nil => rfl
        | cons e' r' => simpa [SMap.wf] using h
      · simp only [SMap.set, h1, h2, if_false, SMap.wf, Bool.and_eq_true, decide_eq_true_eq]
        exact ⟨by omega, h⟩

theorem SMap.find_adj_same (m : SMap α) (k : Nat) (f : α → α) :
    SMap.find (SMap.adj m k f) k = (SMap.find m k).map f := by
  induction m with
  | nil => rfl
  | cons e r ih =>
    obtain ⟨a, v⟩ := e
    by_cases h : a = k
    · simp [SMap.adj, SMap.find, h]
    · simpa [SMap.adj, SMap.find, h] using ih

theorem SMap.find_adj_other (m : SMap α) {k k' : Nat} (f : α → α) (h : k ≠ k') :
    SMap.find (SMap.adj m k f) k' = SMap.find m k' := by
  induction m with
  | nil => rfl
  | cons e r ih =>
    obtain ⟨a, v⟩ := e
    have e1 : SMap.adj ((a, v) :: r) k f = (if a = k then (a, f v) else (a, v)) :: SMap.adj r k f := by simp [SMap.adj]
    rw [e1]
    by_cases h2 : a = k
    · subst h2; simp [SMap.find, h, ih]
    · simp only [if_neg h2, SMap.find, ih]

/-! ## Bit fields -/

theorem bitsOf_lt (x hi lo : Nat) : bitsOf x hi lo < 2 ^ (hi + 1 - lo) := Nat.mod_lt _ (by positivity)

/-- A number split at a field: what stands above it, the field, what stands below. -/
theorem field_split (x lo n : Nat) :
    x = 2 ^ lo * (2 ^ n * (x / 2 ^ lo / 2 ^ n) + x / 2 ^ lo % 2 ^ n) + x % 2 ^ lo := by
  rw [Nat.div_add_mod, Nat.div_add_mod]

/-- What a replaced field leaves, in the same form. -/
theorem putBits_eq (x hi lo v : Nat) :
    putBits x hi lo v = 2 ^ lo * (2 ^ (hi + 1 - lo) * (x / 2 ^ lo / 2 ^ (hi + 1 - lo)) + v % 2 ^ (hi + 1 - lo)) + x % 2 ^ lo := by
  have h := field_split x lo (hi + 1 - lo)
  unfold putBits bitsOf
  simp only [Nat.shiftRight_eq_div_pow, Nat.shiftLeft_eq]
  rw [Nat.mul_add] at h ⊢
  have h1 := Nat.mul_comm (x / 2 ^ lo % 2 ^ (hi + 1 - lo)) (2 ^ lo)
  have h2 := Nat.mul_comm (v % 2 ^ (hi + 1 - lo)) (2 ^ lo)
  omega

/-- A field whose bits are replaced reads as what was put there. -/
@[simp] theorem bitsOf_putBits (x hi lo v : Nat) : bitsOf (putBits x hi lo v) hi lo = v % 2 ^ (hi + 1 - lo) := by
  rw [putBits_eq, bitsOf, Nat.shiftRight_eq_div_pow, Nat.mul_add_div (by positivity),
    Nat.div_eq_of_lt (Nat.mod_lt x (by positivity)), Nat.add_zero, Nat.mul_add_mod, Nat.mod_mod]

/-- A bit of a number with a field replaced. -/
theorem testBit_putBits (x hi lo v i : Nat) :
    (putBits x hi lo v).testBit i = if lo ≤ i ∧ i < lo + (hi + 1 - lo) then v.testBit (i - lo) else x.testBit i := by
  rw [putBits_eq, Nat.testBit_two_pow_mul_add _ (Nat.mod_lt x (by positivity))]
  by_cases h1 : i < lo
  · simp [h1, Nat.not_le.mpr h1, Nat.testBit_mod_two_pow]
  · rw [if_neg h1, Nat.testBit_two_pow_mul_add _ (Nat.mod_lt v (by positivity))]
    by_cases h2 : i - lo < hi + 1 - lo
    · have h3 : lo ≤ i ∧ i < lo + (hi + 1 - lo) := by omega
      rw [if_pos h2, if_pos h3]
      simp [Nat.testBit_mod_two_pow, h2]
    · have h3 : ¬ (lo ≤ i ∧ i < lo + (hi + 1 - lo)) := by omega
      rw [if_neg h2, if_neg h3, Nat.testBit_div_two_pow, Nat.testBit_div_two_pow]
      congr 1
      omega

/-- A number below 2 to the n keeps below it when a field under n is replaced. -/
theorem putBits_lt {x hi lo v n : Nat} (hx : x < 2 ^ n) (hn : hi < n) : putBits x hi lo v < 2 ^ n := by
  refine Nat.lt_pow_two_of_testBit _ (fun i hi' => ?_)
  rw [testBit_putBits]
  split_ifs with h
  · omega
  · exact Nat.testBit_lt_two_pow (lt_of_lt_of_le hx (Nat.pow_le_pow_right (by norm_num) hi'))

/-- A bit of a field. -/
theorem testBit_bitsOf (x hi lo i : Nat) : (bitsOf x hi lo).testBit i = (decide (i < hi + 1 - lo) && x.testBit (lo + i)) := by
  simp [bitsOf, Nat.testBit_mod_two_pow, Nat.testBit_shiftRight]

/-- A field apart from the one replaced reads as before. -/
theorem bitsOf_putBits_other {x hi lo v a b : Nat} (h : a < lo ∨ lo + (hi + 1 - lo) ≤ b) :
    bitsOf (putBits x hi lo v) a b = bitsOf x a b := by
  refine Nat.eq_of_testBit_eq (fun i => ?_)
  rw [testBit_bitsOf, testBit_bitsOf, testBit_putBits]
  by_cases hi' : i < a + 1 - b
  · have : ¬ (lo ≤ b + i ∧ b + i < lo + (hi + 1 - lo)) := by omega
    simp [this]
  · simp [hi']

end Sys2Proof.Machine
end

