-- ==== Sys2Proof/Laws/State.lean ====
section
/-! SUPPORT. Which fields of the part the shared updates leave as they are, one lemma per update and field. -/

namespace Sys2Proof.Machine

open Sys2Proof

variable (d : Dev)

@[simp] theorem Dev.setReg_time (off v : Nat) : (d.setReg off v).time = d.time := rfl
@[simp] theorem Dev.setReg_svcLatch (off v : Nat) : (d.setReg off v).svcLatch = d.svcLatch := rfl
@[simp] theorem Dev.setReg_mbLatch (off v : Nat) : (d.setReg off v).mbLatch = d.mbLatch := rfl
@[simp] theorem Dev.setReg_out (off v : Nat) : (d.setReg off v).out = d.out := rfl
@[simp] theorem Dev.setReg_outBad (off v : Nat) : (d.setReg off v).outBad = d.outBad := rfl
@[simp] theorem Dev.setReg_free (off v : Nat) : (d.setReg off v).free = d.free := rfl
@[simp] theorem Dev.setReg_ms (off v : Nat) : (d.setReg off v).ms = d.ms := rfl
@[simp] theorem Dev.setReg_cores (off v : Nat) : (d.setReg off v).cores = d.cores := rfl
@[simp] theorem Dev.setReg_rows (off v : Nat) : (d.setReg off v).rows = d.rows := rfl
@[simp] theorem Dev.setReg_sheaves (off v : Nat) : (d.setReg off v).sheaves = d.sheaves := rfl
@[simp] theorem Dev.setReg_flt (off v : Nat) : (d.setReg off v).flt = d.flt := rfl
@[simp] theorem Dev.setReg_glm (off v : Nat) : (d.setReg off v).glm = d.glm := rfl
@[simp] theorem Dev.setReg_cp (off v : Nat) : (d.setReg off v).cp = d.cp := rfl
@[simp] theorem Dev.setReg_mcasts (off v : Nat) : (d.setReg off v).mcasts = d.mcasts := rfl
@[simp] theorem Dev.setReg_se (off v : Nat) : (d.setReg off v).se = d.se := rfl
@[simp] theorem Dev.setReg_hp (off v : Nat) : (d.setReg off v).hp = d.hp := rfl
@[simp] theorem Dev.setReg_hostTx (off v : Nat) : (d.setReg off v).hostTx = d.hostTx := rfl
@[simp] theorem Dev.setReg_fe (off v : Nat) : (d.setReg off v).fe = d.fe := rfl
@[simp] theorem Dev.setReg_ringPass (off v : Nat) : (d.setReg off v).ringPass = d.ringPass := rfl
@[simp] theorem Dev.setReg_pm (off v : Nat) : (d.setReg off v).pm = d.pm := rfl
@[simp] theorem Dev.setReg_dies (off v : Nat) : (d.setReg off v).dies = d.dies := rfl
@[simp] theorem Dev.setReg_sp (off v : Nat) : (d.setReg off v).sp = d.sp := rfl
@[simp] theorem Dev.setReg_nv (off v : Nat) : (d.setReg off v).nv = d.nv := rfl
@[simp] theorem Dev.setReg_pins (off v : Nat) : (d.setReg off v).pins = d.pins := rfl
@[simp] theorem Dev.setReg_sup (off v : Nat) : (d.setReg off v).sup = d.sup := rfl

@[simp] theorem Dev.setFld_time (off hi lo v : Nat) : (d.setFld off hi lo v).time = d.time := rfl
@[simp] theorem Dev.setFld_svcLatch (off hi lo v : Nat) : (d.setFld off hi lo v).svcLatch = d.svcLatch := rfl
@[simp] theorem Dev.setFld_mbLatch (off hi lo v : Nat) : (d.setFld off hi lo v).mbLatch = d.mbLatch := rfl
@[simp] theorem Dev.setFld_out (off hi lo v : Nat) : (d.setFld off hi lo v).out = d.out := rfl
@[simp] theorem Dev.setFld_outBad (off hi lo v : Nat) : (d.setFld off hi lo v).outBad = d.outBad := rfl
@[simp] theorem Dev.setFld_free (off hi lo v : Nat) : (d.setFld off hi lo v).free = d.free := rfl
@[simp] theorem Dev.setFld_ms (off hi lo v : Nat) : (d.setFld off hi lo v).ms = d.ms := rfl
@[simp] theorem Dev.setFld_cores (off hi lo v : Nat) : (d.setFld off hi lo v).cores = d.cores := rfl
@[simp] theorem Dev.setFld_rows (off hi lo v : Nat) : (d.setFld off hi lo v).rows = d.rows := rfl
@[simp] theorem Dev.setFld_sheaves (off hi lo v : Nat) : (d.setFld off hi lo v).sheaves = d.sheaves := rfl
@[simp] theorem Dev.setFld_flt (off hi lo v : Nat) : (d.setFld off hi lo v).flt = d.flt := rfl
@[simp] theorem Dev.setFld_glm (off hi lo v : Nat) : (d.setFld off hi lo v).glm = d.glm := rfl
@[simp] theorem Dev.setFld_cp (off hi lo v : Nat) : (d.setFld off hi lo v).cp = d.cp := rfl
@[simp] theorem Dev.setFld_mcasts (off hi lo v : Nat) : (d.setFld off hi lo v).mcasts = d.mcasts := rfl
@[simp] theorem Dev.setFld_se (off hi lo v : Nat) : (d.setFld off hi lo v).se = d.se := rfl
@[simp] theorem Dev.setFld_hp (off hi lo v : Nat) : (d.setFld off hi lo v).hp = d.hp := rfl
@[simp] theorem Dev.setFld_hostTx (off hi lo v : Nat) : (d.setFld off hi lo v).hostTx = d.hostTx := rfl
@[simp] theorem Dev.setFld_fe (off hi lo v : Nat) : (d.setFld off hi lo v).fe = d.fe := rfl
@[simp] theorem Dev.setFld_ringPass (off hi lo v : Nat) : (d.setFld off hi lo v).ringPass = d.ringPass := rfl
@[simp] theorem Dev.setFld_pm (off hi lo v : Nat) : (d.setFld off hi lo v).pm = d.pm := rfl
@[simp] theorem Dev.setFld_dies (off hi lo v : Nat) : (d.setFld off hi lo v).dies = d.dies := rfl
@[simp] theorem Dev.setFld_sp (off hi lo v : Nat) : (d.setFld off hi lo v).sp = d.sp := rfl
@[simp] theorem Dev.setFld_nv (off hi lo v : Nat) : (d.setFld off hi lo v).nv = d.nv := rfl
@[simp] theorem Dev.setFld_pins (off hi lo v : Nat) : (d.setFld off hi lo v).pins = d.pins := rfl
@[simp] theorem Dev.setFld_sup (off hi lo v : Nat) : (d.setFld off hi lo v).sup = d.sup := rfl

@[simp] theorem Dev.setBit_time (off i : Nat) (b : Bool) : (d.setBit off i b).time = d.time := rfl
@[simp] theorem Dev.setBit_svcLatch (off i : Nat) (b : Bool) : (d.setBit off i b).svcLatch = d.svcLatch := rfl
@[simp] theorem Dev.setBit_mbLatch (off i : Nat) (b : Bool) : (d.setBit off i b).mbLatch = d.mbLatch := rfl
@[simp] theorem Dev.setBit_out (off i : Nat) (b : Bool) : (d.setBit off i b).out = d.out := rfl
@[simp] theorem Dev.setBit_outBad (off i : Nat) (b : Bool) : (d.setBit off i b).outBad = d.outBad := rfl
@[simp] theorem Dev.setBit_free (off i : Nat) (b : Bool) : (d.setBit off i b).free = d.free := rfl
@[simp] theorem Dev.setBit_ms (off i : Nat) (b : Bool) : (d.setBit off i b).ms = d.ms := rfl
@[simp] theorem Dev.setBit_cores (off i : Nat) (b : Bool) : (d.setBit off i b).cores = d.cores := rfl
@[simp] theorem Dev.setBit_rows (off i : Nat) (b : Bool) : (d.setBit off i b).rows = d.rows := rfl
@[simp] theorem Dev.setBit_sheaves (off i : Nat) (b : Bool) : (d.setBit off i b).sheaves = d.sheaves := rfl
@[simp] theorem Dev.setBit_flt (off i : Nat) (b : Bool) : (d.setBit off i b).flt = d.flt := rfl
@[simp] theorem Dev.setBit_glm (off i : Nat) (b : Bool) : (d.setBit off i b).glm = d.glm := rfl
@[simp] theorem Dev.setBit_cp (off i : Nat) (b : Bool) : (d.setBit off i b).cp = d.cp := rfl
@[simp] theorem Dev.setBit_mcasts (off i : Nat) (b : Bool) : (d.setBit off i b).mcasts = d.mcasts := rfl
@[simp] theorem Dev.setBit_se (off i : Nat) (b : Bool) : (d.setBit off i b).se = d.se := rfl
@[simp] theorem Dev.setBit_hp (off i : Nat) (b : Bool) : (d.setBit off i b).hp = d.hp := rfl
@[simp] theorem Dev.setBit_hostTx (off i : Nat) (b : Bool) : (d.setBit off i b).hostTx = d.hostTx := rfl
@[simp] theorem Dev.setBit_fe (off i : Nat) (b : Bool) : (d.setBit off i b).fe = d.fe := rfl
@[simp] theorem Dev.setBit_ringPass (off i : Nat) (b : Bool) : (d.setBit off i b).ringPass = d.ringPass := rfl
@[simp] theorem Dev.setBit_pm (off i : Nat) (b : Bool) : (d.setBit off i b).pm = d.pm := rfl
@[simp] theorem Dev.setBit_dies (off i : Nat) (b : Bool) : (d.setBit off i b).dies = d.dies := rfl
@[simp] theorem Dev.setBit_sp (off i : Nat) (b : Bool) : (d.setBit off i b).sp = d.sp := rfl
@[simp] theorem Dev.setBit_nv (off i : Nat) (b : Bool) : (d.setBit off i b).nv = d.nv := rfl
@[simp] theorem Dev.setBit_pins (off i : Nat) (b : Bool) : (d.setBit off i b).pins = d.pins := rfl
@[simp] theorem Dev.setBit_sup (off i : Nat) (b : Bool) : (d.setBit off i b).sup = d.sup := rfl

@[simp] theorem Dev.addSat_time (off hi lo n : Nat) : (d.addSat off hi lo n).time = d.time := rfl
@[simp] theorem Dev.addSat_svcLatch (off hi lo n : Nat) : (d.addSat off hi lo n).svcLatch = d.svcLatch := rfl
@[simp] theorem Dev.addSat_mbLatch (off hi lo n : Nat) : (d.addSat off hi lo n).mbLatch = d.mbLatch := rfl
@[simp] theorem Dev.addSat_out (off hi lo n : Nat) : (d.addSat off hi lo n).out = d.out := rfl
@[simp] theorem Dev.addSat_outBad (off hi lo n : Nat) : (d.addSat off hi lo n).outBad = d.outBad := rfl
@[simp] theorem Dev.addSat_free (off hi lo n : Nat) : (d.addSat off hi lo n).free = d.free := rfl
@[simp] theorem Dev.addSat_ms (off hi lo n : Nat) : (d.addSat off hi lo n).ms = d.ms := rfl
@[simp] theorem Dev.addSat_cores (off hi lo n : Nat) : (d.addSat off hi lo n).cores = d.cores := rfl
@[simp] theorem Dev.addSat_rows (off hi lo n : Nat) : (d.addSat off hi lo n).rows = d.rows := rfl
@[simp] theorem Dev.addSat_sheaves (off hi lo n : Nat) : (d.addSat off hi lo n).sheaves = d.sheaves := rfl
@[simp] theorem Dev.addSat_flt (off hi lo n : Nat) : (d.addSat off hi lo n).flt = d.flt := rfl
@[simp] theorem Dev.addSat_glm (off hi lo n : Nat) : (d.addSat off hi lo n).glm = d.glm := rfl
@[simp] theorem Dev.addSat_cp (off hi lo n : Nat) : (d.addSat off hi lo n).cp = d.cp := rfl
@[simp] theorem Dev.addSat_mcasts (off hi lo n : Nat) : (d.addSat off hi lo n).mcasts = d.mcasts := rfl
@[simp] theorem Dev.addSat_se (off hi lo n : Nat) : (d.addSat off hi lo n).se = d.se := rfl
@[simp] theorem Dev.addSat_hp (off hi lo n : Nat) : (d.addSat off hi lo n).hp = d.hp := rfl
@[simp] theorem Dev.addSat_hostTx (off hi lo n : Nat) : (d.addSat off hi lo n).hostTx = d.hostTx := rfl
@[simp] theorem Dev.addSat_fe (off hi lo n : Nat) : (d.addSat off hi lo n).fe = d.fe := rfl
@[simp] theorem Dev.addSat_ringPass (off hi lo n : Nat) : (d.addSat off hi lo n).ringPass = d.ringPass := rfl
@[simp] theorem Dev.addSat_pm (off hi lo n : Nat) : (d.addSat off hi lo n).pm = d.pm := rfl
@[simp] theorem Dev.addSat_dies (off hi lo n : Nat) : (d.addSat off hi lo n).dies = d.dies := rfl
@[simp] theorem Dev.addSat_sp (off hi lo n : Nat) : (d.addSat off hi lo n).sp = d.sp := rfl
@[simp] theorem Dev.addSat_nv (off hi lo n : Nat) : (d.addSat off hi lo n).nv = d.nv := rfl
@[simp] theorem Dev.addSat_pins (off hi lo n : Nat) : (d.addSat off hi lo n).pins = d.pins := rfl
@[simp] theorem Dev.addSat_sup (off hi lo n : Nat) : (d.addSat off hi lo n).sup = d.sup := rfl

@[simp] theorem Dev.addWrap_time (off hi lo n : Nat) : (d.addWrap off hi lo n).time = d.time := rfl
@[simp] theorem Dev.addWrap_svcLatch (off hi lo n : Nat) : (d.addWrap off hi lo n).svcLatch = d.svcLatch := rfl
@[simp] theorem Dev.addWrap_mbLatch (off hi lo n : Nat) : (d.addWrap off hi lo n).mbLatch = d.mbLatch := rfl
@[simp] theorem Dev.addWrap_out (off hi lo n : Nat) : (d.addWrap off hi lo n).out = d.out := rfl
@[simp] theorem Dev.addWrap_outBad (off hi lo n : Nat) : (d.addWrap off hi lo n).outBad = d.outBad := rfl
@[simp] theorem Dev.addWrap_free (off hi lo n : Nat) : (d.addWrap off hi lo n).free = d.free := rfl
@[simp] theorem Dev.addWrap_ms (off hi lo n : Nat) : (d.addWrap off hi lo n).ms = d.ms := rfl
@[simp] theorem Dev.addWrap_cores (off hi lo n : Nat) : (d.addWrap off hi lo n).cores = d.cores := rfl
@[simp] theorem Dev.addWrap_rows (off hi lo n : Nat) : (d.addWrap off hi lo n).rows = d.rows := rfl
@[simp] theorem Dev.addWrap_sheaves (off hi lo n : Nat) : (d.addWrap off hi lo n).sheaves = d.sheaves := rfl
@[simp] theorem Dev.addWrap_flt (off hi lo n : Nat) : (d.addWrap off hi lo n).flt = d.flt := rfl
@[simp] theorem Dev.addWrap_glm (off hi lo n : Nat) : (d.addWrap off hi lo n).glm = d.glm := rfl
@[simp] theorem Dev.addWrap_cp (off hi lo n : Nat) : (d.addWrap off hi lo n).cp = d.cp := rfl
@[simp] theorem Dev.addWrap_mcasts (off hi lo n : Nat) : (d.addWrap off hi lo n).mcasts = d.mcasts := rfl
@[simp] theorem Dev.addWrap_se (off hi lo n : Nat) : (d.addWrap off hi lo n).se = d.se := rfl
@[simp] theorem Dev.addWrap_hp (off hi lo n : Nat) : (d.addWrap off hi lo n).hp = d.hp := rfl
@[simp] theorem Dev.addWrap_hostTx (off hi lo n : Nat) : (d.addWrap off hi lo n).hostTx = d.hostTx := rfl
@[simp] theorem Dev.addWrap_fe (off hi lo n : Nat) : (d.addWrap off hi lo n).fe = d.fe := rfl
@[simp] theorem Dev.addWrap_ringPass (off hi lo n : Nat) : (d.addWrap off hi lo n).ringPass = d.ringPass := rfl
@[simp] theorem Dev.addWrap_pm (off hi lo n : Nat) : (d.addWrap off hi lo n).pm = d.pm := rfl
@[simp] theorem Dev.addWrap_dies (off hi lo n : Nat) : (d.addWrap off hi lo n).dies = d.dies := rfl
@[simp] theorem Dev.addWrap_sp (off hi lo n : Nat) : (d.addWrap off hi lo n).sp = d.sp := rfl
@[simp] theorem Dev.addWrap_nv (off hi lo n : Nat) : (d.addWrap off hi lo n).nv = d.nv := rfl
@[simp] theorem Dev.addWrap_pins (off hi lo n : Nat) : (d.addWrap off hi lo n).pins = d.pins := rfl
@[simp] theorem Dev.addWrap_sup (off hi lo n : Nat) : (d.addWrap off hi lo n).sup = d.sup := rfl

@[simp] theorem Dev.resetRegs_time (p : Nat → Bool) : (d.resetRegs p).time = d.time := rfl
@[simp] theorem Dev.resetRegs_svcLatch (p : Nat → Bool) : (d.resetRegs p).svcLatch = d.svcLatch := rfl
@[simp] theorem Dev.resetRegs_mbLatch (p : Nat → Bool) : (d.resetRegs p).mbLatch = d.mbLatch := rfl
@[simp] theorem Dev.resetRegs_out (p : Nat → Bool) : (d.resetRegs p).out = d.out := rfl
@[simp] theorem Dev.resetRegs_outBad (p : Nat → Bool) : (d.resetRegs p).outBad = d.outBad := rfl
@[simp] theorem Dev.resetRegs_free (p : Nat → Bool) : (d.resetRegs p).free = d.free := rfl
@[simp] theorem Dev.resetRegs_ms (p : Nat → Bool) : (d.resetRegs p).ms = d.ms := rfl
@[simp] theorem Dev.resetRegs_cores (p : Nat → Bool) : (d.resetRegs p).cores = d.cores := rfl
@[simp] theorem Dev.resetRegs_rows (p : Nat → Bool) : (d.resetRegs p).rows = d.rows := rfl
@[simp] theorem Dev.resetRegs_sheaves (p : Nat → Bool) : (d.resetRegs p).sheaves = d.sheaves := rfl
@[simp] theorem Dev.resetRegs_flt (p : Nat → Bool) : (d.resetRegs p).flt = d.flt := rfl
@[simp] theorem Dev.resetRegs_glm (p : Nat → Bool) : (d.resetRegs p).glm = d.glm := rfl
@[simp] theorem Dev.resetRegs_cp (p : Nat → Bool) : (d.resetRegs p).cp = d.cp := rfl
@[simp] theorem Dev.resetRegs_mcasts (p : Nat → Bool) : (d.resetRegs p).mcasts = d.mcasts := rfl
@[simp] theorem Dev.resetRegs_se (p : Nat → Bool) : (d.resetRegs p).se = d.se := rfl
@[simp] theorem Dev.resetRegs_hp (p : Nat → Bool) : (d.resetRegs p).hp = d.hp := rfl
@[simp] theorem Dev.resetRegs_hostTx (p : Nat → Bool) : (d.resetRegs p).hostTx = d.hostTx := rfl
@[simp] theorem Dev.resetRegs_fe (p : Nat → Bool) : (d.resetRegs p).fe = d.fe := rfl
@[simp] theorem Dev.resetRegs_ringPass (p : Nat → Bool) : (d.resetRegs p).ringPass = d.ringPass := rfl
@[simp] theorem Dev.resetRegs_pm (p : Nat → Bool) : (d.resetRegs p).pm = d.pm := rfl
@[simp] theorem Dev.resetRegs_dies (p : Nat → Bool) : (d.resetRegs p).dies = d.dies := rfl
@[simp] theorem Dev.resetRegs_sp (p : Nat → Bool) : (d.resetRegs p).sp = d.sp := rfl
@[simp] theorem Dev.resetRegs_nv (p : Nat → Bool) : (d.resetRegs p).nv = d.nv := rfl
@[simp] theorem Dev.resetRegs_pins (p : Nat → Bool) : (d.resetRegs p).pins = d.pins := rfl
@[simp] theorem Dev.resetRegs_sup (p : Nat → Bool) : (d.resetRegs p).sup = d.sup := rfl

@[simp] theorem Dev.setCore_time (n : Nat) (f : CoreSt → CoreSt) : (d.setCore n f).time = d.time := rfl
@[simp] theorem Dev.setCore_regs (n : Nat) (f : CoreSt → CoreSt) : (d.setCore n f).regs = d.regs := rfl
@[simp] theorem Dev.setCore_svcLatch (n : Nat) (f : CoreSt → CoreSt) : (d.setCore n f).svcLatch = d.svcLatch := rfl
@[simp] theorem Dev.setCore_mbLatch (n : Nat) (f : CoreSt → CoreSt) : (d.setCore n f).mbLatch = d.mbLatch := rfl
@[simp] theorem Dev.setCore_out (n : Nat) (f : CoreSt → CoreSt) : (d.setCore n f).out = d.out := rfl
@[simp] theorem Dev.setCore_outBad (n : Nat) (f : CoreSt → CoreSt) : (d.setCore n f).outBad = d.outBad := rfl
@[simp] theorem Dev.setCore_free (n : Nat) (f : CoreSt → CoreSt) : (d.setCore n f).free = d.free := rfl
@[simp] theorem Dev.setCore_ms (n : Nat) (f : CoreSt → CoreSt) : (d.setCore n f).ms = d.ms := rfl
@[simp] theorem Dev.setCore_rows (n : Nat) (f : CoreSt → CoreSt) : (d.setCore n f).rows = d.rows := rfl
@[simp] theorem Dev.setCore_sheaves (n : Nat) (f : CoreSt → CoreSt) : (d.setCore n f).sheaves = d.sheaves := rfl
@[simp] theorem Dev.setCore_flt (n : Nat) (f : CoreSt → CoreSt) : (d.setCore n f).flt = d.flt := rfl
@[simp] theorem Dev.setCore_glm (n : Nat) (f : CoreSt → CoreSt) : (d.setCore n f).glm = d.glm := rfl
@[simp] theorem Dev.setCore_cp (n : Nat) (f : CoreSt → CoreSt) : (d.setCore n f).cp = d.cp := rfl
@[simp] theorem Dev.setCore_mcasts (n : Nat) (f : CoreSt → CoreSt) : (d.setCore n f).mcasts = d.mcasts := rfl
@[simp] theorem Dev.setCore_se (n : Nat) (f : CoreSt → CoreSt) : (d.setCore n f).se = d.se := rfl
@[simp] theorem Dev.setCore_hp (n : Nat) (f : CoreSt → CoreSt) : (d.setCore n f).hp = d.hp := rfl
@[simp] theorem Dev.setCore_hostTx (n : Nat) (f : CoreSt → CoreSt) : (d.setCore n f).hostTx = d.hostTx := rfl
@[simp] theorem Dev.setCore_fe (n : Nat) (f : CoreSt → CoreSt) : (d.setCore n f).fe = d.fe := rfl
@[simp] theorem Dev.setCore_ringPass (n : Nat) (f : CoreSt → CoreSt) : (d.setCore n f).ringPass = d.ringPass := rfl
@[simp] theorem Dev.setCore_pm (n : Nat) (f : CoreSt → CoreSt) : (d.setCore n f).pm = d.pm := rfl
@[simp] theorem Dev.setCore_dies (n : Nat) (f : CoreSt → CoreSt) : (d.setCore n f).dies = d.dies := rfl
@[simp] theorem Dev.setCore_sp (n : Nat) (f : CoreSt → CoreSt) : (d.setCore n f).sp = d.sp := rfl
@[simp] theorem Dev.setCore_nv (n : Nat) (f : CoreSt → CoreSt) : (d.setCore n f).nv = d.nv := rfl
@[simp] theorem Dev.setCore_pins (n : Nat) (f : CoreSt → CoreSt) : (d.setCore n f).pins = d.pins := rfl
@[simp] theorem Dev.setCore_sup (n : Nat) (f : CoreSt → CoreSt) : (d.setCore n f).sup = d.sup := rfl

@[simp] theorem Dev.setSheaf_time (k : Nat) (f : Sheaf → Sheaf) : (d.setSheaf k f).time = d.time := rfl
@[simp] theorem Dev.setSheaf_regs (k : Nat) (f : Sheaf → Sheaf) : (d.setSheaf k f).regs = d.regs := rfl
@[simp] theorem Dev.setSheaf_svcLatch (k : Nat) (f : Sheaf → Sheaf) : (d.setSheaf k f).svcLatch = d.svcLatch := rfl
@[simp] theorem Dev.setSheaf_mbLatch (k : Nat) (f : Sheaf → Sheaf) : (d.setSheaf k f).mbLatch = d.mbLatch := rfl
@[simp] theorem Dev.setSheaf_out (k : Nat) (f : Sheaf → Sheaf) : (d.setSheaf k f).out = d.out := rfl
@[simp] theorem Dev.setSheaf_outBad (k : Nat) (f : Sheaf → Sheaf) : (d.setSheaf k f).outBad = d.outBad := rfl
@[simp] theorem Dev.setSheaf_free (k : Nat) (f : Sheaf → Sheaf) : (d.setSheaf k f).free = d.free := rfl
@[simp] theorem Dev.setSheaf_ms (k : Nat) (f : Sheaf → Sheaf) : (d.setSheaf k f).ms = d.ms := rfl
@[simp] theorem Dev.setSheaf_cores (k : Nat) (f : Sheaf → Sheaf) : (d.setSheaf k f).cores = d.cores := rfl
@[simp] theorem Dev.setSheaf_rows (k : Nat) (f : Sheaf → Sheaf) : (d.setSheaf k f).rows = d.rows := rfl
@[simp] theorem Dev.setSheaf_flt (k : Nat) (f : Sheaf → Sheaf) : (d.setSheaf k f).flt = d.flt := rfl
@[simp] theorem Dev.setSheaf_glm (k : Nat) (f : Sheaf → Sheaf) : (d.setSheaf k f).glm = d.glm := rfl
@[simp] theorem Dev.setSheaf_cp (k : Nat) (f : Sheaf → Sheaf) : (d.setSheaf k f).cp = d.cp := rfl
@[simp] theorem Dev.setSheaf_mcasts (k : Nat) (f : Sheaf → Sheaf) : (d.setSheaf k f).mcasts = d.mcasts := rfl
@[simp] theorem Dev.setSheaf_se (k : Nat) (f : Sheaf → Sheaf) : (d.setSheaf k f).se = d.se := rfl
@[simp] theorem Dev.setSheaf_hp (k : Nat) (f : Sheaf → Sheaf) : (d.setSheaf k f).hp = d.hp := rfl
@[simp] theorem Dev.setSheaf_hostTx (k : Nat) (f : Sheaf → Sheaf) : (d.setSheaf k f).hostTx = d.hostTx := rfl
@[simp] theorem Dev.setSheaf_fe (k : Nat) (f : Sheaf → Sheaf) : (d.setSheaf k f).fe = d.fe := rfl
@[simp] theorem Dev.setSheaf_ringPass (k : Nat) (f : Sheaf → Sheaf) : (d.setSheaf k f).ringPass = d.ringPass := rfl
@[simp] theorem Dev.setSheaf_pm (k : Nat) (f : Sheaf → Sheaf) : (d.setSheaf k f).pm = d.pm := rfl
@[simp] theorem Dev.setSheaf_dies (k : Nat) (f : Sheaf → Sheaf) : (d.setSheaf k f).dies = d.dies := rfl
@[simp] theorem Dev.setSheaf_sp (k : Nat) (f : Sheaf → Sheaf) : (d.setSheaf k f).sp = d.sp := rfl
@[simp] theorem Dev.setSheaf_nv (k : Nat) (f : Sheaf → Sheaf) : (d.setSheaf k f).nv = d.nv := rfl
@[simp] theorem Dev.setSheaf_pins (k : Nat) (f : Sheaf → Sheaf) : (d.setSheaf k f).pins = d.pins := rfl
@[simp] theorem Dev.setSheaf_sup (k : Nat) (f : Sheaf → Sheaf) : (d.setSheaf k f).sup = d.sup := rfl

@[simp] theorem Dev.setRow_time (k : Nat) (f : Row → Row) : (d.setRow k f).time = d.time := rfl
@[simp] theorem Dev.setRow_regs (k : Nat) (f : Row → Row) : (d.setRow k f).regs = d.regs := rfl
@[simp] theorem Dev.setRow_svcLatch (k : Nat) (f : Row → Row) : (d.setRow k f).svcLatch = d.svcLatch := rfl
@[simp] theorem Dev.setRow_mbLatch (k : Nat) (f : Row → Row) : (d.setRow k f).mbLatch = d.mbLatch := rfl
@[simp] theorem Dev.setRow_out (k : Nat) (f : Row → Row) : (d.setRow k f).out = d.out := rfl
@[simp] theorem Dev.setRow_outBad (k : Nat) (f : Row → Row) : (d.setRow k f).outBad = d.outBad := rfl
@[simp] theorem Dev.setRow_free (k : Nat) (f : Row → Row) : (d.setRow k f).free = d.free := rfl
@[simp] theorem Dev.setRow_ms (k : Nat) (f : Row → Row) : (d.setRow k f).ms = d.ms := rfl
@[simp] theorem Dev.setRow_cores (k : Nat) (f : Row → Row) : (d.setRow k f).cores = d.cores := rfl
@[simp] theorem Dev.setRow_sheaves (k : Nat) (f : Row → Row) : (d.setRow k f).sheaves = d.sheaves := rfl
@[simp] theorem Dev.setRow_flt (k : Nat) (f : Row → Row) : (d.setRow k f).flt = d.flt := rfl
@[simp] theorem Dev.setRow_glm (k : Nat) (f : Row → Row) : (d.setRow k f).glm = d.glm := rfl
@[simp] theorem Dev.setRow_cp (k : Nat) (f : Row → Row) : (d.setRow k f).cp = d.cp := rfl
@[simp] theorem Dev.setRow_mcasts (k : Nat) (f : Row → Row) : (d.setRow k f).mcasts = d.mcasts := rfl
@[simp] theorem Dev.setRow_se (k : Nat) (f : Row → Row) : (d.setRow k f).se = d.se := rfl
@[simp] theorem Dev.setRow_hp (k : Nat) (f : Row → Row) : (d.setRow k f).hp = d.hp := rfl
@[simp] theorem Dev.setRow_hostTx (k : Nat) (f : Row → Row) : (d.setRow k f).hostTx = d.hostTx := rfl
@[simp] theorem Dev.setRow_fe (k : Nat) (f : Row → Row) : (d.setRow k f).fe = d.fe := rfl
@[simp] theorem Dev.setRow_ringPass (k : Nat) (f : Row → Row) : (d.setRow k f).ringPass = d.ringPass := rfl
@[simp] theorem Dev.setRow_pm (k : Nat) (f : Row → Row) : (d.setRow k f).pm = d.pm := rfl
@[simp] theorem Dev.setRow_dies (k : Nat) (f : Row → Row) : (d.setRow k f).dies = d.dies := rfl
@[simp] theorem Dev.setRow_sp (k : Nat) (f : Row → Row) : (d.setRow k f).sp = d.sp := rfl
@[simp] theorem Dev.setRow_nv (k : Nat) (f : Row → Row) : (d.setRow k f).nv = d.nv := rfl
@[simp] theorem Dev.setRow_pins (k : Nat) (f : Row → Row) : (d.setRow k f).pins = d.pins := rfl
@[simp] theorem Dev.setRow_sup (k : Nat) (f : Row → Row) : (d.setRow k f).sup = d.sup := rfl

@[simp] theorem Dev.putX_time (n r : Nat) (v : BitVec 64) : (d.putX n r v).time = d.time := rfl
@[simp] theorem Dev.putX_regs (n r : Nat) (v : BitVec 64) : (d.putX n r v).regs = d.regs := rfl
@[simp] theorem Dev.putX_svcLatch (n r : Nat) (v : BitVec 64) : (d.putX n r v).svcLatch = d.svcLatch := rfl
@[simp] theorem Dev.putX_mbLatch (n r : Nat) (v : BitVec 64) : (d.putX n r v).mbLatch = d.mbLatch := rfl
@[simp] theorem Dev.putX_out (n r : Nat) (v : BitVec 64) : (d.putX n r v).out = d.out := rfl
@[simp] theorem Dev.putX_outBad (n r : Nat) (v : BitVec 64) : (d.putX n r v).outBad = d.outBad := rfl
@[simp] theorem Dev.putX_free (n r : Nat) (v : BitVec 64) : (d.putX n r v).free = d.free := rfl
@[simp] theorem Dev.putX_ms (n r : Nat) (v : BitVec 64) : (d.putX n r v).ms = d.ms := rfl
@[simp] theorem Dev.putX_rows (n r : Nat) (v : BitVec 64) : (d.putX n r v).rows = d.rows := rfl
@[simp] theorem Dev.putX_sheaves (n r : Nat) (v : BitVec 64) : (d.putX n r v).sheaves = d.sheaves := rfl
@[simp] theorem Dev.putX_flt (n r : Nat) (v : BitVec 64) : (d.putX n r v).flt = d.flt := rfl
@[simp] theorem Dev.putX_glm (n r : Nat) (v : BitVec 64) : (d.putX n r v).glm = d.glm := rfl
@[simp] theorem Dev.putX_cp (n r : Nat) (v : BitVec 64) : (d.putX n r v).cp = d.cp := rfl
@[simp] theorem Dev.putX_mcasts (n r : Nat) (v : BitVec 64) : (d.putX n r v).mcasts = d.mcasts := rfl
@[simp] theorem Dev.putX_se (n r : Nat) (v : BitVec 64) : (d.putX n r v).se = d.se := rfl
@[simp] theorem Dev.putX_hp (n r : Nat) (v : BitVec 64) : (d.putX n r v).hp = d.hp := rfl
@[simp] theorem Dev.putX_hostTx (n r : Nat) (v : BitVec 64) : (d.putX n r v).hostTx = d.hostTx := rfl
@[simp] theorem Dev.putX_fe (n r : Nat) (v : BitVec 64) : (d.putX n r v).fe = d.fe := rfl
@[simp] theorem Dev.putX_ringPass (n r : Nat) (v : BitVec 64) : (d.putX n r v).ringPass = d.ringPass := rfl
@[simp] theorem Dev.putX_pm (n r : Nat) (v : BitVec 64) : (d.putX n r v).pm = d.pm := rfl
@[simp] theorem Dev.putX_dies (n r : Nat) (v : BitVec 64) : (d.putX n r v).dies = d.dies := rfl
@[simp] theorem Dev.putX_sp (n r : Nat) (v : BitVec 64) : (d.putX n r v).sp = d.sp := rfl
@[simp] theorem Dev.putX_nv (n r : Nat) (v : BitVec 64) : (d.putX n r v).nv = d.nv := rfl
@[simp] theorem Dev.putX_pins (n r : Nat) (v : BitVec 64) : (d.putX n r v).pins = d.pins := rfl
@[simp] theorem Dev.putX_sup (n r : Nat) (v : BitVec 64) : (d.putX n r v).sup = d.sup := rfl

@[simp] theorem Dev.putF_time (n r : Nat) (v : BitVec 64) : (d.putF n r v).time = d.time := rfl
@[simp] theorem Dev.putF_regs (n r : Nat) (v : BitVec 64) : (d.putF n r v).regs = d.regs := rfl
@[simp] theorem Dev.putF_svcLatch (n r : Nat) (v : BitVec 64) : (d.putF n r v).svcLatch = d.svcLatch := rfl
@[simp] theorem Dev.putF_mbLatch (n r : Nat) (v : BitVec 64) : (d.putF n r v).mbLatch = d.mbLatch := rfl
@[simp] theorem Dev.putF_out (n r : Nat) (v : BitVec 64) : (d.putF n r v).out = d.out := rfl
@[simp] theorem Dev.putF_outBad (n r : Nat) (v : BitVec 64) : (d.putF n r v).outBad = d.outBad := rfl
@[simp] theorem Dev.putF_free (n r : Nat) (v : BitVec 64) : (d.putF n r v).free = d.free := rfl
@[simp] theorem Dev.putF_ms (n r : Nat) (v : BitVec 64) : (d.putF n r v).ms = d.ms := rfl
@[simp] theorem Dev.putF_rows (n r : Nat) (v : BitVec 64) : (d.putF n r v).rows = d.rows := rfl
@[simp] theorem Dev.putF_sheaves (n r : Nat) (v : BitVec 64) : (d.putF n r v).sheaves = d.sheaves := rfl
@[simp] theorem Dev.putF_flt (n r : Nat) (v : BitVec 64) : (d.putF n r v).flt = d.flt := rfl
@[simp] theorem Dev.putF_glm (n r : Nat) (v : BitVec 64) : (d.putF n r v).glm = d.glm := rfl
@[simp] theorem Dev.putF_cp (n r : Nat) (v : BitVec 64) : (d.putF n r v).cp = d.cp := rfl
@[simp] theorem Dev.putF_mcasts (n r : Nat) (v : BitVec 64) : (d.putF n r v).mcasts = d.mcasts := rfl
@[simp] theorem Dev.putF_se (n r : Nat) (v : BitVec 64) : (d.putF n r v).se = d.se := rfl
@[simp] theorem Dev.putF_hp (n r : Nat) (v : BitVec 64) : (d.putF n r v).hp = d.hp := rfl
@[simp] theorem Dev.putF_hostTx (n r : Nat) (v : BitVec 64) : (d.putF n r v).hostTx = d.hostTx := rfl
@[simp] theorem Dev.putF_fe (n r : Nat) (v : BitVec 64) : (d.putF n r v).fe = d.fe := rfl
@[simp] theorem Dev.putF_ringPass (n r : Nat) (v : BitVec 64) : (d.putF n r v).ringPass = d.ringPass := rfl
@[simp] theorem Dev.putF_pm (n r : Nat) (v : BitVec 64) : (d.putF n r v).pm = d.pm := rfl
@[simp] theorem Dev.putF_dies (n r : Nat) (v : BitVec 64) : (d.putF n r v).dies = d.dies := rfl
@[simp] theorem Dev.putF_sp (n r : Nat) (v : BitVec 64) : (d.putF n r v).sp = d.sp := rfl
@[simp] theorem Dev.putF_nv (n r : Nat) (v : BitVec 64) : (d.putF n r v).nv = d.nv := rfl
@[simp] theorem Dev.putF_pins (n r : Nat) (v : BitVec 64) : (d.putF n r v).pins = d.pins := rfl
@[simp] theorem Dev.putF_sup (n r : Nat) (v : BitVec 64) : (d.putF n r v).sup = d.sup := rfl

@[simp] theorem Dev.coreRetire_time (n t : Nat) : (d.coreRetire n t).time = d.time := rfl
@[simp] theorem Dev.coreRetire_regs (n t : Nat) : (d.coreRetire n t).regs = d.regs := rfl
@[simp] theorem Dev.coreRetire_svcLatch (n t : Nat) : (d.coreRetire n t).svcLatch = d.svcLatch := rfl
@[simp] theorem Dev.coreRetire_mbLatch (n t : Nat) : (d.coreRetire n t).mbLatch = d.mbLatch := rfl
@[simp] theorem Dev.coreRetire_out (n t : Nat) : (d.coreRetire n t).out = d.out := rfl
@[simp] theorem Dev.coreRetire_outBad (n t : Nat) : (d.coreRetire n t).outBad = d.outBad := rfl
@[simp] theorem Dev.coreRetire_free (n t : Nat) : (d.coreRetire n t).free = d.free := rfl
@[simp] theorem Dev.coreRetire_ms (n t : Nat) : (d.coreRetire n t).ms = d.ms := rfl
@[simp] theorem Dev.coreRetire_rows (n t : Nat) : (d.coreRetire n t).rows = d.rows := rfl
@[simp] theorem Dev.coreRetire_sheaves (n t : Nat) : (d.coreRetire n t).sheaves = d.sheaves := rfl
@[simp] theorem Dev.coreRetire_flt (n t : Nat) : (d.coreRetire n t).flt = d.flt := rfl
@[simp] theorem Dev.coreRetire_glm (n t : Nat) : (d.coreRetire n t).glm = d.glm := rfl
@[simp] theorem Dev.coreRetire_cp (n t : Nat) : (d.coreRetire n t).cp = d.cp := rfl
@[simp] theorem Dev.coreRetire_mcasts (n t : Nat) : (d.coreRetire n t).mcasts = d.mcasts := rfl
@[simp] theorem Dev.coreRetire_se (n t : Nat) : (d.coreRetire n t).se = d.se := rfl
@[simp] theorem Dev.coreRetire_hp (n t : Nat) : (d.coreRetire n t).hp = d.hp := rfl
@[simp] theorem Dev.coreRetire_hostTx (n t : Nat) : (d.coreRetire n t).hostTx = d.hostTx := rfl
@[simp] theorem Dev.coreRetire_fe (n t : Nat) : (d.coreRetire n t).fe = d.fe := rfl
@[simp] theorem Dev.coreRetire_ringPass (n t : Nat) : (d.coreRetire n t).ringPass = d.ringPass := rfl
@[simp] theorem Dev.coreRetire_pm (n t : Nat) : (d.coreRetire n t).pm = d.pm := rfl
@[simp] theorem Dev.coreRetire_dies (n t : Nat) : (d.coreRetire n t).dies = d.dies := rfl
@[simp] theorem Dev.coreRetire_sp (n t : Nat) : (d.coreRetire n t).sp = d.sp := rfl
@[simp] theorem Dev.coreRetire_nv (n t : Nat) : (d.coreRetire n t).nv = d.nv := rfl
@[simp] theorem Dev.coreRetire_pins (n t : Nat) : (d.coreRetire n t).pins = d.pins := rfl
@[simp] theorem Dev.coreRetire_sup (n t : Nat) : (d.coreRetire n t).sup = d.sup := rfl

@[simp] theorem Dev.sheafGo_time (k t : Nat) : (d.sheafGo k t).time = d.time := rfl
@[simp] theorem Dev.sheafGo_regs (k t : Nat) : (d.sheafGo k t).regs = d.regs := rfl
@[simp] theorem Dev.sheafGo_svcLatch (k t : Nat) : (d.sheafGo k t).svcLatch = d.svcLatch := rfl
@[simp] theorem Dev.sheafGo_mbLatch (k t : Nat) : (d.sheafGo k t).mbLatch = d.mbLatch := rfl
@[simp] theorem Dev.sheafGo_out (k t : Nat) : (d.sheafGo k t).out = d.out := rfl
@[simp] theorem Dev.sheafGo_outBad (k t : Nat) : (d.sheafGo k t).outBad = d.outBad := rfl
@[simp] theorem Dev.sheafGo_free (k t : Nat) : (d.sheafGo k t).free = d.free := rfl
@[simp] theorem Dev.sheafGo_ms (k t : Nat) : (d.sheafGo k t).ms = d.ms := rfl
@[simp] theorem Dev.sheafGo_cores (k t : Nat) : (d.sheafGo k t).cores = d.cores := rfl
@[simp] theorem Dev.sheafGo_rows (k t : Nat) : (d.sheafGo k t).rows = d.rows := rfl
@[simp] theorem Dev.sheafGo_flt (k t : Nat) : (d.sheafGo k t).flt = d.flt := rfl
@[simp] theorem Dev.sheafGo_glm (k t : Nat) : (d.sheafGo k t).glm = d.glm := rfl
@[simp] theorem Dev.sheafGo_cp (k t : Nat) : (d.sheafGo k t).cp = d.cp := rfl
@[simp] theorem Dev.sheafGo_mcasts (k t : Nat) : (d.sheafGo k t).mcasts = d.mcasts := rfl
@[simp] theorem Dev.sheafGo_se (k t : Nat) : (d.sheafGo k t).se = d.se := rfl
@[simp] theorem Dev.sheafGo_hp (k t : Nat) : (d.sheafGo k t).hp = d.hp := rfl
@[simp] theorem Dev.sheafGo_hostTx (k t : Nat) : (d.sheafGo k t).hostTx = d.hostTx := rfl
@[simp] theorem Dev.sheafGo_fe (k t : Nat) : (d.sheafGo k t).fe = d.fe := rfl
@[simp] theorem Dev.sheafGo_ringPass (k t : Nat) : (d.sheafGo k t).ringPass = d.ringPass := rfl
@[simp] theorem Dev.sheafGo_pm (k t : Nat) : (d.sheafGo k t).pm = d.pm := rfl
@[simp] theorem Dev.sheafGo_dies (k t : Nat) : (d.sheafGo k t).dies = d.dies := rfl
@[simp] theorem Dev.sheafGo_sp (k t : Nat) : (d.sheafGo k t).sp = d.sp := rfl
@[simp] theorem Dev.sheafGo_nv (k t : Nat) : (d.sheafGo k t).nv = d.nv := rfl
@[simp] theorem Dev.sheafGo_pins (k t : Nat) : (d.sheafGo k t).pins = d.pins := rfl
@[simp] theorem Dev.sheafGo_sup (k t : Nat) : (d.sheafGo k t).sup = d.sup := rfl

@[simp] theorem Dev.setPort_time (p : Nat) (f : HostPort → HostPort) : (d.setPort p f).time = d.time := rfl
@[simp] theorem Dev.setPort_regs (p : Nat) (f : HostPort → HostPort) : (d.setPort p f).regs = d.regs := rfl
@[simp] theorem Dev.setPort_svcLatch (p : Nat) (f : HostPort → HostPort) : (d.setPort p f).svcLatch = d.svcLatch := rfl
@[simp] theorem Dev.setPort_mbLatch (p : Nat) (f : HostPort → HostPort) : (d.setPort p f).mbLatch = d.mbLatch := rfl
@[simp] theorem Dev.setPort_out (p : Nat) (f : HostPort → HostPort) : (d.setPort p f).out = d.out := rfl
@[simp] theorem Dev.setPort_outBad (p : Nat) (f : HostPort → HostPort) : (d.setPort p f).outBad = d.outBad := rfl
@[simp] theorem Dev.setPort_free (p : Nat) (f : HostPort → HostPort) : (d.setPort p f).free = d.free := rfl
@[simp] theorem Dev.setPort_ms (p : Nat) (f : HostPort → HostPort) : (d.setPort p f).ms = d.ms := rfl
@[simp] theorem Dev.setPort_cores (p : Nat) (f : HostPort → HostPort) : (d.setPort p f).cores = d.cores := rfl
@[simp] theorem Dev.setPort_rows (p : Nat) (f : HostPort → HostPort) : (d.setPort p f).rows = d.rows := rfl
@[simp] theorem Dev.setPort_sheaves (p : Nat) (f : HostPort → HostPort) : (d.setPort p f).sheaves = d.sheaves := rfl
@[simp] theorem Dev.setPort_flt (p : Nat) (f : HostPort → HostPort) : (d.setPort p f).flt = d.flt := rfl
@[simp] theorem Dev.setPort_glm (p : Nat) (f : HostPort → HostPort) : (d.setPort p f).glm = d.glm := rfl
@[simp] theorem Dev.setPort_cp (p : Nat) (f : HostPort → HostPort) : (d.setPort p f).cp = d.cp := rfl
@[simp] theorem Dev.setPort_mcasts (p : Nat) (f : HostPort → HostPort) : (d.setPort p f).mcasts = d.mcasts := rfl
@[simp] theorem Dev.setPort_se (p : Nat) (f : HostPort → HostPort) : (d.setPort p f).se = d.se := rfl
@[simp] theorem Dev.setPort_hostTx (p : Nat) (f : HostPort → HostPort) : (d.setPort p f).hostTx = d.hostTx := rfl
@[simp] theorem Dev.setPort_fe (p : Nat) (f : HostPort → HostPort) : (d.setPort p f).fe = d.fe := rfl
@[simp] theorem Dev.setPort_ringPass (p : Nat) (f : HostPort → HostPort) : (d.setPort p f).ringPass = d.ringPass := rfl
@[simp] theorem Dev.setPort_pm (p : Nat) (f : HostPort → HostPort) : (d.setPort p f).pm = d.pm := rfl
@[simp] theorem Dev.setPort_dies (p : Nat) (f : HostPort → HostPort) : (d.setPort p f).dies = d.dies := rfl
@[simp] theorem Dev.setPort_sp (p : Nat) (f : HostPort → HostPort) : (d.setPort p f).sp = d.sp := rfl
@[simp] theorem Dev.setPort_nv (p : Nat) (f : HostPort → HostPort) : (d.setPort p f).nv = d.nv := rfl
@[simp] theorem Dev.setPort_pins (p : Nat) (f : HostPort → HostPort) : (d.setPort p f).pins = d.pins := rfl
@[simp] theorem Dev.setPort_sup (p : Nat) (f : HostPort → HostPort) : (d.setPort p f).sup = d.sup := rfl

@[simp] theorem Dev.setPm_time (f : Pm → Pm) : (d.setPm f).time = d.time := rfl
@[simp] theorem Dev.setPm_regs (f : Pm → Pm) : (d.setPm f).regs = d.regs := rfl
@[simp] theorem Dev.setPm_svcLatch (f : Pm → Pm) : (d.setPm f).svcLatch = d.svcLatch := rfl
@[simp] theorem Dev.setPm_mbLatch (f : Pm → Pm) : (d.setPm f).mbLatch = d.mbLatch := rfl
@[simp] theorem Dev.setPm_out (f : Pm → Pm) : (d.setPm f).out = d.out := rfl
@[simp] theorem Dev.setPm_outBad (f : Pm → Pm) : (d.setPm f).outBad = d.outBad := rfl
@[simp] theorem Dev.setPm_free (f : Pm → Pm) : (d.setPm f).free = d.free := rfl
@[simp] theorem Dev.setPm_ms (f : Pm → Pm) : (d.setPm f).ms = d.ms := rfl
@[simp] theorem Dev.setPm_cores (f : Pm → Pm) : (d.setPm f).cores = d.cores := rfl
@[simp] theorem Dev.setPm_rows (f : Pm → Pm) : (d.setPm f).rows = d.rows := rfl
@[simp] theorem Dev.setPm_sheaves (f : Pm → Pm) : (d.setPm f).sheaves = d.sheaves := rfl
@[simp] theorem Dev.setPm_flt (f : Pm → Pm) : (d.setPm f).flt = d.flt := rfl
@[simp] theorem Dev.setPm_glm (f : Pm → Pm) : (d.setPm f).glm = d.glm := rfl
@[simp] theorem Dev.setPm_cp (f : Pm → Pm) : (d.setPm f).cp = d.cp := rfl
@[simp] theorem Dev.setPm_mcasts (f : Pm → Pm) : (d.setPm f).mcasts = d.mcasts := rfl
@[simp] theorem Dev.setPm_se (f : Pm → Pm) : (d.setPm f).se = d.se := rfl
@[simp] theorem Dev.setPm_hp (f : Pm → Pm) : (d.setPm f).hp = d.hp := rfl
@[simp] theorem Dev.setPm_hostTx (f : Pm → Pm) : (d.setPm f).hostTx = d.hostTx := rfl
@[simp] theorem Dev.setPm_fe (f : Pm → Pm) : (d.setPm f).fe = d.fe := rfl
@[simp] theorem Dev.setPm_ringPass (f : Pm → Pm) : (d.setPm f).ringPass = d.ringPass := rfl
@[simp] theorem Dev.setPm_dies (f : Pm → Pm) : (d.setPm f).dies = d.dies := rfl
@[simp] theorem Dev.setPm_sp (f : Pm → Pm) : (d.setPm f).sp = d.sp := rfl
@[simp] theorem Dev.setPm_nv (f : Pm → Pm) : (d.setPm f).nv = d.nv := rfl
@[simp] theorem Dev.setPm_pins (f : Pm → Pm) : (d.setPm f).pins = d.pins := rfl
@[simp] theorem Dev.setPm_sup (f : Pm → Pm) : (d.setPm f).sup = d.sup := rfl

@[simp] theorem Dev.setDie_time (s : Nat) (f : Die → Die) : (d.setDie s f).time = d.time := rfl
@[simp] theorem Dev.setDie_regs (s : Nat) (f : Die → Die) : (d.setDie s f).regs = d.regs := rfl
@[simp] theorem Dev.setDie_svcLatch (s : Nat) (f : Die → Die) : (d.setDie s f).svcLatch = d.svcLatch := rfl
@[simp] theorem Dev.setDie_mbLatch (s : Nat) (f : Die → Die) : (d.setDie s f).mbLatch = d.mbLatch := rfl
@[simp] theorem Dev.setDie_out (s : Nat) (f : Die → Die) : (d.setDie s f).out = d.out := rfl
@[simp] theorem Dev.setDie_outBad (s : Nat) (f : Die → Die) : (d.setDie s f).outBad = d.outBad := rfl
@[simp] theorem Dev.setDie_free (s : Nat) (f : Die → Die) : (d.setDie s f).free = d.free := rfl
@[simp] theorem Dev.setDie_ms (s : Nat) (f : Die → Die) : (d.setDie s f).ms = d.ms := rfl
@[simp] theorem Dev.setDie_cores (s : Nat) (f : Die → Die) : (d.setDie s f).cores = d.cores := rfl
@[simp] theorem Dev.setDie_rows (s : Nat) (f : Die → Die) : (d.setDie s f).rows = d.rows := rfl
@[simp] theorem Dev.setDie_sheaves (s : Nat) (f : Die → Die) : (d.setDie s f).sheaves = d.sheaves := rfl
@[simp] theorem Dev.setDie_flt (s : Nat) (f : Die → Die) : (d.setDie s f).flt = d.flt := rfl
@[simp] theorem Dev.setDie_glm (s : Nat) (f : Die → Die) : (d.setDie s f).glm = d.glm := rfl
@[simp] theorem Dev.setDie_cp (s : Nat) (f : Die → Die) : (d.setDie s f).cp = d.cp := rfl
@[simp] theorem Dev.setDie_mcasts (s : Nat) (f : Die → Die) : (d.setDie s f).mcasts = d.mcasts := rfl
@[simp] theorem Dev.setDie_se (s : Nat) (f : Die → Die) : (d.setDie s f).se = d.se := rfl
@[simp] theorem Dev.setDie_hp (s : Nat) (f : Die → Die) : (d.setDie s f).hp = d.hp := rfl
@[simp] theorem Dev.setDie_hostTx (s : Nat) (f : Die → Die) : (d.setDie s f).hostTx = d.hostTx := rfl
@[simp] theorem Dev.setDie_fe (s : Nat) (f : Die → Die) : (d.setDie s f).fe = d.fe := rfl
@[simp] theorem Dev.setDie_ringPass (s : Nat) (f : Die → Die) : (d.setDie s f).ringPass = d.ringPass := rfl
@[simp] theorem Dev.setDie_pm (s : Nat) (f : Die → Die) : (d.setDie s f).pm = d.pm := rfl
@[simp] theorem Dev.setDie_sp (s : Nat) (f : Die → Die) : (d.setDie s f).sp = d.sp := rfl
@[simp] theorem Dev.setDie_nv (s : Nat) (f : Die → Die) : (d.setDie s f).nv = d.nv := rfl
@[simp] theorem Dev.setDie_pins (s : Nat) (f : Die → Die) : (d.setDie s f).pins = d.pins := rfl
@[simp] theorem Dev.setDie_sup (s : Nat) (f : Die → Die) : (d.setDie s f).sup = d.sup := rfl

@[simp] theorem Dev.setDieState_time (s v : Nat) : (d.setDieState s v).time = d.time := rfl
@[simp] theorem Dev.setDieState_svcLatch (s v : Nat) : (d.setDieState s v).svcLatch = d.svcLatch := rfl
@[simp] theorem Dev.setDieState_mbLatch (s v : Nat) : (d.setDieState s v).mbLatch = d.mbLatch := rfl
@[simp] theorem Dev.setDieState_out (s v : Nat) : (d.setDieState s v).out = d.out := rfl
@[simp] theorem Dev.setDieState_outBad (s v : Nat) : (d.setDieState s v).outBad = d.outBad := rfl
@[simp] theorem Dev.setDieState_free (s v : Nat) : (d.setDieState s v).free = d.free := rfl
@[simp] theorem Dev.setDieState_ms (s v : Nat) : (d.setDieState s v).ms = d.ms := rfl
@[simp] theorem Dev.setDieState_cores (s v : Nat) : (d.setDieState s v).cores = d.cores := rfl
@[simp] theorem Dev.setDieState_rows (s v : Nat) : (d.setDieState s v).rows = d.rows := rfl
@[simp] theorem Dev.setDieState_sheaves (s v : Nat) : (d.setDieState s v).sheaves = d.sheaves := rfl
@[simp] theorem Dev.setDieState_flt (s v : Nat) : (d.setDieState s v).flt = d.flt := rfl
@[simp] theorem Dev.setDieState_glm (s v : Nat) : (d.setDieState s v).glm = d.glm := rfl
@[simp] theorem Dev.setDieState_cp (s v : Nat) : (d.setDieState s v).cp = d.cp := rfl
@[simp] theorem Dev.setDieState_mcasts (s v : Nat) : (d.setDieState s v).mcasts = d.mcasts := rfl
@[simp] theorem Dev.setDieState_se (s v : Nat) : (d.setDieState s v).se = d.se := rfl
@[simp] theorem Dev.setDieState_hp (s v : Nat) : (d.setDieState s v).hp = d.hp := rfl
@[simp] theorem Dev.setDieState_hostTx (s v : Nat) : (d.setDieState s v).hostTx = d.hostTx := rfl
@[simp] theorem Dev.setDieState_fe (s v : Nat) : (d.setDieState s v).fe = d.fe := rfl
@[simp] theorem Dev.setDieState_ringPass (s v : Nat) : (d.setDieState s v).ringPass = d.ringPass := rfl
@[simp] theorem Dev.setDieState_pm (s v : Nat) : (d.setDieState s v).pm = d.pm := rfl
@[simp] theorem Dev.setDieState_dies (s v : Nat) : (d.setDieState s v).dies = d.dies := rfl
@[simp] theorem Dev.setDieState_sp (s v : Nat) : (d.setDieState s v).sp = d.sp := rfl
@[simp] theorem Dev.setDieState_nv (s v : Nat) : (d.setDieState s v).nv = d.nv := rfl
@[simp] theorem Dev.setDieState_pins (s v : Nat) : (d.setDieState s v).pins = d.pins := rfl
@[simp] theorem Dev.setDieState_sup (s v : Nat) : (d.setDieState s v).sup = d.sup := rfl

@[simp] theorem Dev.setGlume_time (g : Nat) (f : Glume → Glume) : (d.setGlume g f).time = d.time := rfl
@[simp] theorem Dev.setGlume_regs (g : Nat) (f : Glume → Glume) : (d.setGlume g f).regs = d.regs := rfl
@[simp] theorem Dev.setGlume_svcLatch (g : Nat) (f : Glume → Glume) : (d.setGlume g f).svcLatch = d.svcLatch := rfl
@[simp] theorem Dev.setGlume_mbLatch (g : Nat) (f : Glume → Glume) : (d.setGlume g f).mbLatch = d.mbLatch := rfl
@[simp] theorem Dev.setGlume_out (g : Nat) (f : Glume → Glume) : (d.setGlume g f).out = d.out := rfl
@[simp] theorem Dev.setGlume_outBad (g : Nat) (f : Glume → Glume) : (d.setGlume g f).outBad = d.outBad := rfl
@[simp] theorem Dev.setGlume_free (g : Nat) (f : Glume → Glume) : (d.setGlume g f).free = d.free := rfl
@[simp] theorem Dev.setGlume_ms (g : Nat) (f : Glume → Glume) : (d.setGlume g f).ms = d.ms := rfl
@[simp] theorem Dev.setGlume_cores (g : Nat) (f : Glume → Glume) : (d.setGlume g f).cores = d.cores := rfl
@[simp] theorem Dev.setGlume_rows (g : Nat) (f : Glume → Glume) : (d.setGlume g f).rows = d.rows := rfl
@[simp] theorem Dev.setGlume_sheaves (g : Nat) (f : Glume → Glume) : (d.setGlume g f).sheaves = d.sheaves := rfl
@[simp] theorem Dev.setGlume_flt (g : Nat) (f : Glume → Glume) : (d.setGlume g f).flt = d.flt := rfl
@[simp] theorem Dev.setGlume_cp (g : Nat) (f : Glume → Glume) : (d.setGlume g f).cp = d.cp := rfl
@[simp] theorem Dev.setGlume_mcasts (g : Nat) (f : Glume → Glume) : (d.setGlume g f).mcasts = d.mcasts := rfl
@[simp] theorem Dev.setGlume_se (g : Nat) (f : Glume → Glume) : (d.setGlume g f).se = d.se := rfl
@[simp] theorem Dev.setGlume_hp (g : Nat) (f : Glume → Glume) : (d.setGlume g f).hp = d.hp := rfl
@[simp] theorem Dev.setGlume_hostTx (g : Nat) (f : Glume → Glume) : (d.setGlume g f).hostTx = d.hostTx := rfl
@[simp] theorem Dev.setGlume_fe (g : Nat) (f : Glume → Glume) : (d.setGlume g f).fe = d.fe := rfl
@[simp] theorem Dev.setGlume_ringPass (g : Nat) (f : Glume → Glume) : (d.setGlume g f).ringPass = d.ringPass := rfl
@[simp] theorem Dev.setGlume_pm (g : Nat) (f : Glume → Glume) : (d.setGlume g f).pm = d.pm := rfl
@[simp] theorem Dev.setGlume_dies (g : Nat) (f : Glume → Glume) : (d.setGlume g f).dies = d.dies := rfl
@[simp] theorem Dev.setGlume_sp (g : Nat) (f : Glume → Glume) : (d.setGlume g f).sp = d.sp := rfl
@[simp] theorem Dev.setGlume_nv (g : Nat) (f : Glume → Glume) : (d.setGlume g f).nv = d.nv := rfl
@[simp] theorem Dev.setGlume_pins (g : Nat) (f : Glume → Glume) : (d.setGlume g f).pins = d.pins := rfl
@[simp] theorem Dev.setGlume_sup (g : Nat) (f : Glume → Glume) : (d.setGlume g f).sup = d.sup := rfl

@[simp] theorem Dev.setRun_time (r : Nat) (f : Run → Run) : (d.setRun r f).time = d.time := rfl
@[simp] theorem Dev.setRun_regs (r : Nat) (f : Run → Run) : (d.setRun r f).regs = d.regs := rfl
@[simp] theorem Dev.setRun_svcLatch (r : Nat) (f : Run → Run) : (d.setRun r f).svcLatch = d.svcLatch := rfl
@[simp] theorem Dev.setRun_mbLatch (r : Nat) (f : Run → Run) : (d.setRun r f).mbLatch = d.mbLatch := rfl
@[simp] theorem Dev.setRun_out (r : Nat) (f : Run → Run) : (d.setRun r f).out = d.out := rfl
@[simp] theorem Dev.setRun_outBad (r : Nat) (f : Run → Run) : (d.setRun r f).outBad = d.outBad := rfl
@[simp] theorem Dev.setRun_free (r : Nat) (f : Run → Run) : (d.setRun r f).free = d.free := rfl
@[simp] theorem Dev.setRun_ms (r : Nat) (f : Run → Run) : (d.setRun r f).ms = d.ms := rfl
@[simp] theorem Dev.setRun_cores (r : Nat) (f : Run → Run) : (d.setRun r f).cores = d.cores := rfl
@[simp] theorem Dev.setRun_rows (r : Nat) (f : Run → Run) : (d.setRun r f).rows = d.rows := rfl
@[simp] theorem Dev.setRun_sheaves (r : Nat) (f : Run → Run) : (d.setRun r f).sheaves = d.sheaves := rfl
@[simp] theorem Dev.setRun_flt (r : Nat) (f : Run → Run) : (d.setRun r f).flt = d.flt := rfl
@[simp] theorem Dev.setRun_glm (r : Nat) (f : Run → Run) : (d.setRun r f).glm = d.glm := rfl
@[simp] theorem Dev.setRun_mcasts (r : Nat) (f : Run → Run) : (d.setRun r f).mcasts = d.mcasts := rfl
@[simp] theorem Dev.setRun_se (r : Nat) (f : Run → Run) : (d.setRun r f).se = d.se := rfl
@[simp] theorem Dev.setRun_hp (r : Nat) (f : Run → Run) : (d.setRun r f).hp = d.hp := rfl
@[simp] theorem Dev.setRun_hostTx (r : Nat) (f : Run → Run) : (d.setRun r f).hostTx = d.hostTx := rfl
@[simp] theorem Dev.setRun_fe (r : Nat) (f : Run → Run) : (d.setRun r f).fe = d.fe := rfl
@[simp] theorem Dev.setRun_ringPass (r : Nat) (f : Run → Run) : (d.setRun r f).ringPass = d.ringPass := rfl
@[simp] theorem Dev.setRun_pm (r : Nat) (f : Run → Run) : (d.setRun r f).pm = d.pm := rfl
@[simp] theorem Dev.setRun_dies (r : Nat) (f : Run → Run) : (d.setRun r f).dies = d.dies := rfl
@[simp] theorem Dev.setRun_sp (r : Nat) (f : Run → Run) : (d.setRun r f).sp = d.sp := rfl
@[simp] theorem Dev.setRun_nv (r : Nat) (f : Run → Run) : (d.setRun r f).nv = d.nv := rfl
@[simp] theorem Dev.setRun_pins (r : Nat) (f : Run → Run) : (d.setRun r f).pins = d.pins := rfl
@[simp] theorem Dev.setRun_sup (r : Nat) (f : Run → Run) : (d.setRun r f).sup = d.sup := rfl

@[simp] theorem Dev.setCtx_time (x : Nat) (f : CtxSt → CtxSt) : (d.setCtx x f).time = d.time := rfl
@[simp] theorem Dev.setCtx_regs (x : Nat) (f : CtxSt → CtxSt) : (d.setCtx x f).regs = d.regs := rfl
@[simp] theorem Dev.setCtx_svcLatch (x : Nat) (f : CtxSt → CtxSt) : (d.setCtx x f).svcLatch = d.svcLatch := rfl
@[simp] theorem Dev.setCtx_mbLatch (x : Nat) (f : CtxSt → CtxSt) : (d.setCtx x f).mbLatch = d.mbLatch := rfl
@[simp] theorem Dev.setCtx_out (x : Nat) (f : CtxSt → CtxSt) : (d.setCtx x f).out = d.out := rfl
@[simp] theorem Dev.setCtx_outBad (x : Nat) (f : CtxSt → CtxSt) : (d.setCtx x f).outBad = d.outBad := rfl
@[simp] theorem Dev.setCtx_free (x : Nat) (f : CtxSt → CtxSt) : (d.setCtx x f).free = d.free := rfl
@[simp] theorem Dev.setCtx_ms (x : Nat) (f : CtxSt → CtxSt) : (d.setCtx x f).ms = d.ms := rfl
@[simp] theorem Dev.setCtx_cores (x : Nat) (f : CtxSt → CtxSt) : (d.setCtx x f).cores = d.cores := rfl
@[simp] theorem Dev.setCtx_rows (x : Nat) (f : CtxSt → CtxSt) : (d.setCtx x f).rows = d.rows := rfl
@[simp] theorem Dev.setCtx_sheaves (x : Nat) (f : CtxSt → CtxSt) : (d.setCtx x f).sheaves = d.sheaves := rfl
@[simp] theorem Dev.setCtx_flt (x : Nat) (f : CtxSt → CtxSt) : (d.setCtx x f).flt = d.flt := rfl
@[simp] theorem Dev.setCtx_glm (x : Nat) (f : CtxSt → CtxSt) : (d.setCtx x f).glm = d.glm := rfl
@[simp] theorem Dev.setCtx_mcasts (x : Nat) (f : CtxSt → CtxSt) : (d.setCtx x f).mcasts = d.mcasts := rfl
@[simp] theorem Dev.setCtx_se (x : Nat) (f : CtxSt → CtxSt) : (d.setCtx x f).se = d.se := rfl
@[simp] theorem Dev.setCtx_hp (x : Nat) (f : CtxSt → CtxSt) : (d.setCtx x f).hp = d.hp := rfl
@[simp] theorem Dev.setCtx_hostTx (x : Nat) (f : CtxSt → CtxSt) : (d.setCtx x f).hostTx = d.hostTx := rfl
@[simp] theorem Dev.setCtx_fe (x : Nat) (f : CtxSt → CtxSt) : (d.setCtx x f).fe = d.fe := rfl
@[simp] theorem Dev.setCtx_ringPass (x : Nat) (f : CtxSt → CtxSt) : (d.setCtx x f).ringPass = d.ringPass := rfl
@[simp] theorem Dev.setCtx_pm (x : Nat) (f : CtxSt → CtxSt) : (d.setCtx x f).pm = d.pm := rfl
@[simp] theorem Dev.setCtx_dies (x : Nat) (f : CtxSt → CtxSt) : (d.setCtx x f).dies = d.dies := rfl
@[simp] theorem Dev.setCtx_sp (x : Nat) (f : CtxSt → CtxSt) : (d.setCtx x f).sp = d.sp := rfl
@[simp] theorem Dev.setCtx_nv (x : Nat) (f : CtxSt → CtxSt) : (d.setCtx x f).nv = d.nv := rfl
@[simp] theorem Dev.setCtx_pins (x : Nat) (f : CtxSt → CtxSt) : (d.setCtx x f).pins = d.pins := rfl
@[simp] theorem Dev.setCtx_sup (x : Nat) (f : CtxSt → CtxSt) : (d.setCtx x f).sup = d.sup := rfl

@[simp] theorem Dev.setQueue_time (q : Nat) (f : Queue → Queue) : (d.setQueue q f).time = d.time := rfl
@[simp] theorem Dev.setQueue_regs (q : Nat) (f : Queue → Queue) : (d.setQueue q f).regs = d.regs := rfl
@[simp] theorem Dev.setQueue_svcLatch (q : Nat) (f : Queue → Queue) : (d.setQueue q f).svcLatch = d.svcLatch := rfl
@[simp] theorem Dev.setQueue_mbLatch (q : Nat) (f : Queue → Queue) : (d.setQueue q f).mbLatch = d.mbLatch := rfl
@[simp] theorem Dev.setQueue_out (q : Nat) (f : Queue → Queue) : (d.setQueue q f).out = d.out := rfl
@[simp] theorem Dev.setQueue_outBad (q : Nat) (f : Queue → Queue) : (d.setQueue q f).outBad = d.outBad := rfl
@[simp] theorem Dev.setQueue_free (q : Nat) (f : Queue → Queue) : (d.setQueue q f).free = d.free := rfl
@[simp] theorem Dev.setQueue_ms (q : Nat) (f : Queue → Queue) : (d.setQueue q f).ms = d.ms := rfl
@[simp] theorem Dev.setQueue_cores (q : Nat) (f : Queue → Queue) : (d.setQueue q f).cores = d.cores := rfl
@[simp] theorem Dev.setQueue_rows (q : Nat) (f : Queue → Queue) : (d.setQueue q f).rows = d.rows := rfl
@[simp] theorem Dev.setQueue_sheaves (q : Nat) (f : Queue → Queue) : (d.setQueue q f).sheaves = d.sheaves := rfl
@[simp] theorem Dev.setQueue_flt (q : Nat) (f : Queue → Queue) : (d.setQueue q f).flt = d.flt := rfl
@[simp] theorem Dev.setQueue_glm (q : Nat) (f : Queue → Queue) : (d.setQueue q f).glm = d.glm := rfl
@[simp] theorem Dev.setQueue_mcasts (q : Nat) (f : Queue → Queue) : (d.setQueue q f).mcasts = d.mcasts := rfl
@[simp] theorem Dev.setQueue_se (q : Nat) (f : Queue → Queue) : (d.setQueue q f).se = d.se := rfl
@[simp] theorem Dev.setQueue_hp (q : Nat) (f : Queue → Queue) : (d.setQueue q f).hp = d.hp := rfl
@[simp] theorem Dev.setQueue_hostTx (q : Nat) (f : Queue → Queue) : (d.setQueue q f).hostTx = d.hostTx := rfl
@[simp] theorem Dev.setQueue_fe (q : Nat) (f : Queue → Queue) : (d.setQueue q f).fe = d.fe := rfl
@[simp] theorem Dev.setQueue_ringPass (q : Nat) (f : Queue → Queue) : (d.setQueue q f).ringPass = d.ringPass := rfl
@[simp] theorem Dev.setQueue_pm (q : Nat) (f : Queue → Queue) : (d.setQueue q f).pm = d.pm := rfl
@[simp] theorem Dev.setQueue_dies (q : Nat) (f : Queue → Queue) : (d.setQueue q f).dies = d.dies := rfl
@[simp] theorem Dev.setQueue_sp (q : Nat) (f : Queue → Queue) : (d.setQueue q f).sp = d.sp := rfl
@[simp] theorem Dev.setQueue_nv (q : Nat) (f : Queue → Queue) : (d.setQueue q f).nv = d.nv := rfl
@[simp] theorem Dev.setQueue_pins (q : Nat) (f : Queue → Queue) : (d.setQueue q f).pins = d.pins := rfl
@[simp] theorem Dev.setQueue_sup (q : Nat) (f : Queue → Queue) : (d.setQueue q f).sup = d.sup := rfl

@[simp] theorem Dev.setFport_time (p : Nat) (f : FabPort → FabPort) : (d.setFport p f).time = d.time := rfl
@[simp] theorem Dev.setFport_regs (p : Nat) (f : FabPort → FabPort) : (d.setFport p f).regs = d.regs := rfl
@[simp] theorem Dev.setFport_svcLatch (p : Nat) (f : FabPort → FabPort) : (d.setFport p f).svcLatch = d.svcLatch := rfl
@[simp] theorem Dev.setFport_mbLatch (p : Nat) (f : FabPort → FabPort) : (d.setFport p f).mbLatch = d.mbLatch := rfl
@[simp] theorem Dev.setFport_out (p : Nat) (f : FabPort → FabPort) : (d.setFport p f).out = d.out := rfl
@[simp] theorem Dev.setFport_outBad (p : Nat) (f : FabPort → FabPort) : (d.setFport p f).outBad = d.outBad := rfl
@[simp] theorem Dev.setFport_free (p : Nat) (f : FabPort → FabPort) : (d.setFport p f).free = d.free := rfl
@[simp] theorem Dev.setFport_ms (p : Nat) (f : FabPort → FabPort) : (d.setFport p f).ms = d.ms := rfl
@[simp] theorem Dev.setFport_cores (p : Nat) (f : FabPort → FabPort) : (d.setFport p f).cores = d.cores := rfl
@[simp] theorem Dev.setFport_rows (p : Nat) (f : FabPort → FabPort) : (d.setFport p f).rows = d.rows := rfl
@[simp] theorem Dev.setFport_sheaves (p : Nat) (f : FabPort → FabPort) : (d.setFport p f).sheaves = d.sheaves := rfl
@[simp] theorem Dev.setFport_flt (p : Nat) (f : FabPort → FabPort) : (d.setFport p f).flt = d.flt := rfl
@[simp] theorem Dev.setFport_glm (p : Nat) (f : FabPort → FabPort) : (d.setFport p f).glm = d.glm := rfl
@[simp] theorem Dev.setFport_cp (p : Nat) (f : FabPort → FabPort) : (d.setFport p f).cp = d.cp := rfl
@[simp] theorem Dev.setFport_mcasts (p : Nat) (f : FabPort → FabPort) : (d.setFport p f).mcasts = d.mcasts := rfl
@[simp] theorem Dev.setFport_se (p : Nat) (f : FabPort → FabPort) : (d.setFport p f).se = d.se := rfl
@[simp] theorem Dev.setFport_hp (p : Nat) (f : FabPort → FabPort) : (d.setFport p f).hp = d.hp := rfl
@[simp] theorem Dev.setFport_hostTx (p : Nat) (f : FabPort → FabPort) : (d.setFport p f).hostTx = d.hostTx := rfl
@[simp] theorem Dev.setFport_ringPass (p : Nat) (f : FabPort → FabPort) : (d.setFport p f).ringPass = d.ringPass := rfl
@[simp] theorem Dev.setFport_pm (p : Nat) (f : FabPort → FabPort) : (d.setFport p f).pm = d.pm := rfl
@[simp] theorem Dev.setFport_dies (p : Nat) (f : FabPort → FabPort) : (d.setFport p f).dies = d.dies := rfl
@[simp] theorem Dev.setFport_sp (p : Nat) (f : FabPort → FabPort) : (d.setFport p f).sp = d.sp := rfl
@[simp] theorem Dev.setFport_nv (p : Nat) (f : FabPort → FabPort) : (d.setFport p f).nv = d.nv := rfl
@[simp] theorem Dev.setFport_pins (p : Nat) (f : FabPort → FabPort) : (d.setFport p f).pins = d.pins := rfl
@[simp] theorem Dev.setFport_sup (p : Nat) (f : FabPort → FabPort) : (d.setFport p f).sup = d.sup := rfl

@[simp] theorem Dev.setCache_time (k : Nat) (f : Cache → Cache) : (d.setCache k f).time = d.time := rfl
@[simp] theorem Dev.setCache_regs (k : Nat) (f : Cache → Cache) : (d.setCache k f).regs = d.regs := rfl
@[simp] theorem Dev.setCache_svcLatch (k : Nat) (f : Cache → Cache) : (d.setCache k f).svcLatch = d.svcLatch := rfl
@[simp] theorem Dev.setCache_mbLatch (k : Nat) (f : Cache → Cache) : (d.setCache k f).mbLatch = d.mbLatch := rfl
@[simp] theorem Dev.setCache_out (k : Nat) (f : Cache → Cache) : (d.setCache k f).out = d.out := rfl
@[simp] theorem Dev.setCache_outBad (k : Nat) (f : Cache → Cache) : (d.setCache k f).outBad = d.outBad := rfl
@[simp] theorem Dev.setCache_free (k : Nat) (f : Cache → Cache) : (d.setCache k f).free = d.free := rfl
@[simp] theorem Dev.setCache_cores (k : Nat) (f : Cache → Cache) : (d.setCache k f).cores = d.cores := rfl
@[simp] theorem Dev.setCache_rows (k : Nat) (f : Cache → Cache) : (d.setCache k f).rows = d.rows := rfl
@[simp] theorem Dev.setCache_sheaves (k : Nat) (f : Cache → Cache) : (d.setCache k f).sheaves = d.sheaves := rfl
@[simp] theorem Dev.setCache_flt (k : Nat) (f : Cache → Cache) : (d.setCache k f).flt = d.flt := rfl
@[simp] theorem Dev.setCache_glm (k : Nat) (f : Cache → Cache) : (d.setCache k f).glm = d.glm := rfl
@[simp] theorem Dev.setCache_cp (k : Nat) (f : Cache → Cache) : (d.setCache k f).cp = d.cp := rfl
@[simp] theorem Dev.setCache_mcasts (k : Nat) (f : Cache → Cache) : (d.setCache k f).mcasts = d.mcasts := rfl
@[simp] theorem Dev.setCache_se (k : Nat) (f : Cache → Cache) : (d.setCache k f).se = d.se := rfl
@[simp] theorem Dev.setCache_hp (k : Nat) (f : Cache → Cache) : (d.setCache k f).hp = d.hp := rfl
@[simp] theorem Dev.setCache_hostTx (k : Nat) (f : Cache → Cache) : (d.setCache k f).hostTx = d.hostTx := rfl
@[simp] theorem Dev.setCache_fe (k : Nat) (f : Cache → Cache) : (d.setCache k f).fe = d.fe := rfl
@[simp] theorem Dev.setCache_ringPass (k : Nat) (f : Cache → Cache) : (d.setCache k f).ringPass = d.ringPass := rfl
@[simp] theorem Dev.setCache_pm (k : Nat) (f : Cache → Cache) : (d.setCache k f).pm = d.pm := rfl
@[simp] theorem Dev.setCache_dies (k : Nat) (f : Cache → Cache) : (d.setCache k f).dies = d.dies := rfl
@[simp] theorem Dev.setCache_sp (k : Nat) (f : Cache → Cache) : (d.setCache k f).sp = d.sp := rfl
@[simp] theorem Dev.setCache_nv (k : Nat) (f : Cache → Cache) : (d.setCache k f).nv = d.nv := rfl
@[simp] theorem Dev.setCache_pins (k : Nat) (f : Cache → Cache) : (d.setCache k f).pins = d.pins := rfl
@[simp] theorem Dev.setCache_sup (k : Nat) (f : Cache → Cache) : (d.setCache k f).sup = d.sup := rfl

@[simp] theorem Dev.raiseEvent_time (e : Nat) : (d.raiseEvent e).time = d.time := rfl
@[simp] theorem Dev.raiseEvent_svcLatch (e : Nat) : (d.raiseEvent e).svcLatch = d.svcLatch := rfl
@[simp] theorem Dev.raiseEvent_mbLatch (e : Nat) : (d.raiseEvent e).mbLatch = d.mbLatch := rfl
@[simp] theorem Dev.raiseEvent_out (e : Nat) : (d.raiseEvent e).out = d.out := rfl
@[simp] theorem Dev.raiseEvent_outBad (e : Nat) : (d.raiseEvent e).outBad = d.outBad := rfl
@[simp] theorem Dev.raiseEvent_free (e : Nat) : (d.raiseEvent e).free = d.free := rfl
@[simp] theorem Dev.raiseEvent_ms (e : Nat) : (d.raiseEvent e).ms = d.ms := rfl
@[simp] theorem Dev.raiseEvent_cores (e : Nat) : (d.raiseEvent e).cores = d.cores := rfl
@[simp] theorem Dev.raiseEvent_rows (e : Nat) : (d.raiseEvent e).rows = d.rows := rfl
@[simp] theorem Dev.raiseEvent_sheaves (e : Nat) : (d.raiseEvent e).sheaves = d.sheaves := rfl
@[simp] theorem Dev.raiseEvent_flt (e : Nat) : (d.raiseEvent e).flt = d.flt := rfl
@[simp] theorem Dev.raiseEvent_glm (e : Nat) : (d.raiseEvent e).glm = d.glm := rfl
@[simp] theorem Dev.raiseEvent_cp (e : Nat) : (d.raiseEvent e).cp = d.cp := rfl
@[simp] theorem Dev.raiseEvent_mcasts (e : Nat) : (d.raiseEvent e).mcasts = d.mcasts := rfl
@[simp] theorem Dev.raiseEvent_se (e : Nat) : (d.raiseEvent e).se = d.se := rfl
@[simp] theorem Dev.raiseEvent_hp (e : Nat) : (d.raiseEvent e).hp = d.hp := rfl
@[simp] theorem Dev.raiseEvent_hostTx (e : Nat) : (d.raiseEvent e).hostTx = d.hostTx := rfl
@[simp] theorem Dev.raiseEvent_fe (e : Nat) : (d.raiseEvent e).fe = d.fe := rfl
@[simp] theorem Dev.raiseEvent_ringPass (e : Nat) : (d.raiseEvent e).ringPass = d.ringPass := rfl
@[simp] theorem Dev.raiseEvent_pm (e : Nat) : (d.raiseEvent e).pm = d.pm := rfl
@[simp] theorem Dev.raiseEvent_dies (e : Nat) : (d.raiseEvent e).dies = d.dies := rfl
@[simp] theorem Dev.raiseEvent_sp (e : Nat) : (d.raiseEvent e).sp = d.sp := rfl
@[simp] theorem Dev.raiseEvent_nv (e : Nat) : (d.raiseEvent e).nv = d.nv := rfl
@[simp] theorem Dev.raiseEvent_pins (e : Nat) : (d.raiseEvent e).pins = d.pins := rfl
@[simp] theorem Dev.raiseEvent_sup (e : Nat) : (d.raiseEvent e).sup = d.sup := rfl

end Sys2Proof.Machine
end

