-- ==== Sys2Proof/Laws/Ghety.lean ====
section
/-! SUPPORT. What running one Ghety instruction does: on a core, in a sheaf; registers of cores and lanes. -/

namespace Sys2Proof.Machine

open Sys2Proof

/-- An update depends only on what its function gives at the present value. -/
theorem SMap.upd_congr {α : Type} {d : α} {m : SMap α} {k : Nat} {f g : α → α}
    (h : f (SMap.get d m k) = g (SMap.get d m k)) : SMap.upd d m k f = SMap.upd d m k g := by
  simp [SMap.upd, h]

/-! ## Commands -/

theorem doCmd_ok {ok : Bool} (f : Dev → Dev) (s : State) (h : ok = true) : doCmd ok f s = .next { s with dev := f s.dev } := by
  simp [doCmd, h]

theorem doCmd_bad {ok : Bool} (f : Dev → Dev) (s : State) (h : ok = false) : doCmd ok f s = .fault .illFormed := by
  simp [doCmd, h]

/-- A meaning answers a next state exactly when its operands are in range; the queue is as it was. -/
theorem doCmd_next_iff {ok : Bool} {f : Dev → Dev} {s t : State} :
    doCmd ok f s = .next t ↔ ok = true ∧ t = { s with dev := f s.dev } := by
  cases ok <;> simp [doCmd, eq_comm]

/-! ## Cores -/

@[simp] theorem CoreSt.setX_pc (c : CoreSt) (r : Nat) (v : BitVec 64) : (c.setX r v).pc = c.pc := by
  unfold CoreSt.setX; split <;> rfl
@[simp] theorem CoreSt.setX_retired (c : CoreSt) (r : Nat) (v : BitVec 64) : (c.setX r v).retired = c.retired := by
  unfold CoreSt.setX; split <;> rfl
@[simp] theorem CoreSt.setX_level (c : CoreSt) (r : Nat) (v : BitVec 64) : (c.setX r v).level = c.level := by
  unfold CoreSt.setX; split <;> rfl
@[simp] theorem CoreSt.setX_f (c : CoreSt) (r : Nat) (v : BitVec 64) : (c.setX r v).f = c.f := by
  unfold CoreSt.setX; split <;> rfl
@[simp] theorem CoreSt.setX_csr (c : CoreSt) (r : Nat) (v : BitVec 64) : (c.setX r v).csr = c.csr := by
  unfold CoreSt.setX; split <;> rfl
@[simp] theorem CoreSt.setX_resv (c : CoreSt) (r : Nat) (v : BitVec 64) : (c.setX r v).resv = c.resv := by
  unfold CoreSt.setX; split <;> rfl
@[simp] theorem CoreSt.setX_nt (c : CoreSt) (r : Nat) (v : BitVec 64) : (c.setX r v).nt = c.nt := by
  unfold CoreSt.setX; split <;> rfl

/-- R79: x0 reads zero. -/
@[simp] theorem CoreSt.getX_zero (c : CoreSt) : c.getX 0 = 0 := rfl

/-- R79: a write of x0 is discarded. -/
@[simp] theorem CoreSt.setX_zero (c : CoreSt) (v : BitVec 64) : c.setX 0 v = c := rfl

theorem CoreSt.getX_setX_same (c : CoreSt) {r : Nat} (v : BitVec 64) (h : r ≠ 0) : (c.setX r v).getX r = v := by
  simp [CoreSt.getX, CoreSt.setX, h]

theorem CoreSt.getX_setX_other (c : CoreSt) {r r' : Nat} (v : BitVec 64) (h : r ≠ r') : (c.setX r v).getX r' = c.getX r' := by
  by_cases h0 : r = 0
  · simp [CoreSt.setX, h0]
  · by_cases h1 : r' = 0
    · simp [CoreSt.getX, h1]
    · simp [CoreSt.getX, CoreSt.setX, h0, h1, SMap.get_set_other _ _ _ h]

@[simp] theorem Dev.core_setCore_same (d : Dev) (n : Nat) (f : CoreSt → CoreSt) : (d.setCore n f).core n = f (d.core n) := by
  simp [Dev.core, Dev.setCore]

theorem Dev.core_setCore_other (d : Dev) {n m : Nat} (f : CoreSt → CoreSt) (h : n ≠ m) : (d.setCore n f).core m = d.core m := by
  simp [Dev.core, Dev.setCore, SMap.get_upd_other _ _ _ h]

@[simp] theorem Dev.setCore_setCore (d : Dev) (n : Nat) (f g : CoreSt → CoreSt) :
    (d.setCore n f).setCore n g = d.setCore n (fun c => g (f c)) := by
  simp [Dev.setCore]

theorem Dev.setCore_congr {d : Dev} {n : Nat} {f g : CoreSt → CoreSt} (h : f (d.core n) = g (d.core n)) :
    d.setCore n f = d.setCore n g := by
  unfold Dev.setCore
  rw [SMap.upd_congr h]

theorem ofNat_toNat_add (x : BitVec 64) (k : Nat) : BitVec.ofNat 64 (x.toNat + k) = x + BitVec.ofNat 64 k := by
  apply BitVec.eq_of_toNat_eq
  simp [BitVec.toNat_add]

/-- An instruction that may run, is legal and only changes its core: the core goes on at the next word. -/
theorem Dev.onCore_next {d : Dev} {n lvl : Nat} {f : Dev → CEnd × Dev} {g : CoreSt → CoreSt} (ha : d.coreActs n = true)
    (hl : lvl ≤ (d.core n).level) (hf : f d = (.next, d.setCore n g)) (hpc : (g (d.core n)).pc = (d.core n).pc)
    (hr : (g (d.core n)).retired = (d.core n).retired) :
    d.onCore n lvl false f = d.setCore n (fun c => { g c with pc := c.pc + 4, retired := c.retired + 1 }) := by
  have hl' : decide ((d.core n).level < lvl) = false := by simpa using hl
  simp only [Dev.onCore, ha, hl', hf, Bool.not_true, Bool.or_self, Bool.false_eq_true, if_false]
  unfold Dev.coreRetire
  rw [Dev.setCore_setCore, Dev.core_setCore_same, hpc, ofNat_toNat_add]
  exact Dev.setCore_congr (by simp [hr])

/-- An instruction that jumps to an aligned target and only changes its core. -/
theorem Dev.onCore_jump {d : Dev} {n lvl t : Nat} {f : Dev → CEnd × Dev} {g : CoreSt → CoreSt} (ha : d.coreActs n = true)
    (hl : lvl ≤ (d.core n).level) (hf : f d = (.jump t, d.setCore n g)) (ht : t % 4 = 0)
    (hr : (g (d.core n)).retired = (d.core n).retired) :
    d.onCore n lvl false f = d.setCore n (fun c => { g c with pc := BitVec.ofNat 64 t, retired := c.retired + 1 }) := by
  have hl' : decide ((d.core n).level < lvl) = false := by simpa using hl
  simp only [Dev.onCore, ha, hl', hf, Bool.not_true, Bool.or_self, Bool.false_eq_true, if_false, ht, if_true]
  unfold Dev.coreRetire
  rw [Dev.setCore_setCore]
  exact Dev.setCore_congr (by simp [hr])

/-- An illegal word, or an instruction of a higher level: the illegal-instruction exception (R261). -/
theorem Dev.onCore_illegal {d : Dev} {n lvl : Nat} {bad : Bool} {f : Dev → CEnd × Dev} (ha : d.coreActs n = true)
    (h : bad = true ∨ (d.core n).level < lvl) : d.onCore n lvl bad f = d.coreException n 1 0 0 := by
  have : (bad || decide ((d.core n).level < lvl)) = true := by simpa using h
  simp [Dev.onCore, ha, this]

/-- An instruction that raises an exception. -/
theorem Dev.onCore_exc {d d' : Dev} {n lvl c a i : Nat} {f : Dev → CEnd × Dev} (ha : d.coreActs n = true)
    (hl : lvl ≤ (d.core n).level) (hf : f d = (.exc c a i, d')) : d.onCore n lvl false f = d'.coreException n c a i := by
  have hl' : decide ((d.core n).level < lvl) = false := by simpa using hl
  simp [Dev.onCore, ha, hl', hf]

/-- A core that does not execute does nothing. -/
theorem Dev.onCore_idle {d : Dev} {n lvl : Nat} {bad : Bool} {f : Dev → CEnd × Dev} (ha : d.coreActs n = false) :
    d.onCore n lvl bad f = d := by
  simp [Dev.onCore, ha]

/-! ## Sheaves -/

@[simp] theorem Dev.sheaf_setSheaf_same (d : Dev) (k : Nat) (f : Sheaf → Sheaf) : (d.setSheaf k f).sheaf k = f (d.sheaf k) := by
  simp [Dev.sheaf, Dev.setSheaf]

theorem Dev.sheaf_setSheaf_other (d : Dev) {k m : Nat} (f : Sheaf → Sheaf) (h : k ≠ m) : (d.setSheaf k f).sheaf m = d.sheaf m := by
  simp [Dev.sheaf, Dev.setSheaf, SMap.get_upd_other _ _ _ h]

@[simp] theorem Dev.setSheaf_setSheaf (d : Dev) (k : Nat) (f g : Sheaf → Sheaf) :
    (d.setSheaf k f).setSheaf k g = d.setSheaf k (fun c => g (f c)) := by
  simp [Dev.setSheaf]

theorem Dev.setSheaf_congr {d : Dev} {k : Nat} {f g : Sheaf → Sheaf} (h : f (d.sheaf k) = g (d.sheaf k)) :
    d.setSheaf k f = d.setSheaf k g := by
  unfold Dev.setSheaf
  rw [SMap.upd_congr h]

@[simp] theorem Sheaf.putAll_pc (s : Sheaf) (r : Nat) (f : Nat → BitVec 32) : (s.putAll r f).pc = s.pc := by
  unfold Sheaf.putAll; split <;> rfl
@[simp] theorem Sheaf.putAll_mask (s : Sheaf) (r : Nat) (f : Nat → BitVec 32) : (s.putAll r f).mask = s.mask := by
  unfold Sheaf.putAll; split <;> rfl
@[simp] theorem Sheaf.putAll_p (s : Sheaf) (r : Nat) (f : Nat → BitVec 32) : (s.putAll r f).p = s.p := by
  unfold Sheaf.putAll; split <;> rfl
@[simp] theorem Sheaf.putAll_lflags (s : Sheaf) (r : Nat) (f : Nat → BitVec 32) : (s.putAll r f).lflags = s.lflags := by
  unfold Sheaf.putAll; split <;> rfl
@[simp] theorem Sheaf.putV_pc (s : Sheaf) (r : Nat) (f : Nat → BitVec 32) : (s.putV r f).pc = s.pc := Sheaf.putAll_pc s r _
@[simp] theorem Sheaf.putV_mask (s : Sheaf) (r : Nat) (f : Nat → BitVec 32) : (s.putV r f).mask = s.mask := Sheaf.putAll_mask s r _
@[simp] theorem Sheaf.putV_p (s : Sheaf) (r : Nat) (f : Nat → BitVec 32) : (s.putV r f).p = s.p := Sheaf.putAll_p s r _
@[simp] theorem Sheaf.putV_lflags (s : Sheaf) (r : Nat) (f : Nat → BitVec 32) : (s.putV r f).lflags = s.lflags := Sheaf.putAll_lflags s r _
@[simp] theorem Sheaf.putP_pc (s : Sheaf) (p : Nat) (f : Nat → Bool) : (s.putP p f).pc = s.pc := rfl
@[simp] theorem Sheaf.putP_mask (s : Sheaf) (p : Nat) (f : Nat → Bool) : (s.putP p f).mask = s.mask := rfl
@[simp] theorem Sheaf.putP_v (s : Sheaf) (p : Nat) (f : Nat → Bool) : (s.putP p f).v = s.v := rfl

/-- R79: v0 reads zero. -/
@[simp] theorem Sheaf.getV_zero (s : Sheaf) (l : Nat) : s.getV 0 l = 0 := rfl

theorem lane_map {α : Type} (z : α) (f : Nat → α) {l : Nat} (h : l < 256) : lane z ((List.range 256).map f) l = f l := by
  simp [lane, List.getD, h]

/-- R81: an active lane's register after it is written. -/
theorem Sheaf.getV_putV_on {s : Sheaf} {r l : Nat} (f : Nat → BitVec 32) (hr : r ≠ 0) (hl : l < 256) (ho : s.on l = true) :
    (s.putV r f).getV r l = f l := by
  simp [Sheaf.putV, Sheaf.putAll, Sheaf.getV, hr, lane_map _ _ hl, ho]

/-- R81: a lane that is not active writes no register. -/
theorem Sheaf.getV_putV_off {s : Sheaf} {r r' l : Nat} (f : Nat → BitVec 32) (hl : l < 256) (ho : s.on l = false) :
    (s.putV r f).getV r' l = s.getV r' l := by
  by_cases hr : r = 0
  · simp [Sheaf.putV, Sheaf.putAll, hr]
  · by_cases h' : r = r'
    · subst h'
      simp [Sheaf.putV, Sheaf.putAll, Sheaf.getV, hr, lane_map _ _ hl, ho]
    · simp [Sheaf.putV, Sheaf.putAll, Sheaf.getV, hr, SMap.get_set_other _ _ _ h']

/-- A write of a register leaves the others. -/
theorem Sheaf.getV_putV_other {s : Sheaf} {r r' l : Nat} (f : Nat → BitVec 32) (h : r ≠ r') :
    (s.putV r f).getV r' l = s.getV r' l := by
  by_cases hr : r = 0
  · simp [Sheaf.putV, Sheaf.putAll, hr]
  · simp [Sheaf.putV, Sheaf.putAll, Sheaf.getV, hr, SMap.get_set_other _ _ _ h]

/-- A legal instruction that only changes its sheaf: the sheaf goes on at the next word. -/
theorem Dev.onSheaf_next {d : Dev} {k : Nat} {i : Instr} {f : Dev → LEnd × Dev} {g : Sheaf → Sheaf} (ha : d.sheafActs k = true)
    (hf : f d = (.next, d.setSheaf k g)) :
    d.onSheaf k i none f = d.setSheaf k (fun s => { g s with pc := s.pc + 4 }) := by
  simp only [Dev.onSheaf, ha, hf, Bool.not_true, Bool.false_eq_true, if_false]
  unfold Dev.sheafGo
  rw [Dev.setSheaf_setSheaf, ofNat_toNat_add]
  exact Dev.setSheaf_congr rfl

/-- A legal instruction that jumps. -/
theorem Dev.onSheaf_jump {d : Dev} {k t : Nat} {i : Instr} {f : Dev → LEnd × Dev} {g : Sheaf → Sheaf} (ha : d.sheafActs k = true)
    (hf : f d = (.jump t, d.setSheaf k g)) :
    d.onSheaf k i none f = d.setSheaf k (fun s => { g s with pc := BitVec.ofNat 64 t }) := by
  simp only [Dev.onSheaf, ha, hf, Bool.not_true, Bool.false_eq_true, if_false]
  unfold Dev.sheafGo
  rw [Dev.setSheaf_setSheaf]

/-- An illegal word with an active lane: a lane exception of its lowest active lane (R106). -/
theorem Dev.onSheaf_illegal {d : Dev} {k c l : Nat} {i : Instr} {f : Dev → LEnd × Dev} (ha : d.sheafActs k = true)
    (hl : (d.sheaf k).first = some l) :
    d.onSheaf k i (some c) f = d.laneException k c (causeStatus c) l (wordNat i) := by
  simp [Dev.onSheaf, ha, hl]

/-- A sheaf that does not execute does nothing. -/
theorem Dev.onSheaf_idle {d : Dev} {k : Nat} {i : Instr} {bad : Option Nat} {f : Dev → LEnd × Dev} (ha : d.sheafActs k = false) :
    d.onSheaf k i bad f = d := by
  simp [Dev.onSheaf, ha]

/-! ## Registers of the register space -/

/-- A register reads what was put there, as 64 bits. -/
@[simp] theorem Dev.reg_setReg_same (d : Dev) (r v : Nat) : (d.setReg r v).reg r = v % 2 ^ 64 := by
  simp [Dev.reg, Dev.setReg]

theorem Dev.reg_setReg_other (d : Dev) {r r' : Nat} (v : Nat) (h : r ≠ r') : (d.setReg r v).reg r' = d.reg r' := by
  simp [Dev.reg, Dev.setReg, SMap.find_set_other _ _ h]

theorem Dev.reg_setFld_other (d : Dev) {r r' : Nat} (hi lo v : Nat) (h : r ≠ r') : (d.setFld r hi lo v).reg r' = d.reg r' :=
  Dev.reg_setReg_other d _ h

/-- Every register holds 64 bits. -/
theorem Dev.reg_lt (d : Dev) (r : Nat) : d.reg r < 2 ^ 64 := by
  unfold Dev.reg
  split
  · exact BitVec.isLt _
  · split
    · exact BitVec.isLt _
    · norm_num

/-- A field reads what was put there. -/
theorem Dev.fld_setFld_same (d : Dev) {r hi lo v : Nat} (h : hi < 64) :
    (d.setFld r hi lo v).fld r hi lo = v % 2 ^ (hi + 1 - lo) := by
  have : putBits (d.reg r) hi lo v < 2 ^ 64 := putBits_lt (Dev.reg_lt d r) h
  simp only [Dev.fld, Dev.setFld, Dev.reg_setReg_same, Nat.mod_eq_of_lt this, bitsOf_putBits]

end Sys2Proof.Machine
end

