-- ==== Sys2Proof/Laws/Memory.lean ====
section
/-! SUPPORT. Laws of memory: what a write leaves, what reads back, and that every operation keeps the canonical form. -/

namespace Sys2Proof.Machine

open Sys2Proof

/-- The head of a canonical memory: it is not 0, every later address lies above it, and the rest is canonical. -/
theorem Memory.wf_cons {k : Nat} {v : Byte} {r : Memory} (h : Memory.wf ((k, v) :: r) = true) :
    v ≠ 0 ∧ Memory.wf r = true ∧ ∀ c ∈ r, k < c.1 := by
  induction r generalizing k v with
  | nil => simpa [Memory.wf] using h
  | cons e r ih =>
    obtain ⟨a, w⟩ := e
    simp only [Memory.wf, Bool.and_eq_true, decide_eq_true_eq, bne_iff_ne, ne_eq] at h
    obtain ⟨⟨h1, h2⟩, h3⟩ := h
    refine ⟨h1, h3, fun c hc => ?_⟩
    rcases List.mem_cons.mp hc with rfl | hc
    · exact h2
    · exact lt_trans h2 ((ih h3).2.2 c hc)

/-- A canonical memory from its parts. -/
theorem Memory.wf_of {k : Nat} {v : Byte} {r : Memory} (hv : v ≠ 0) (hr : Memory.wf r = true) (h : ∀ c ∈ r, k < c.1) :
    Memory.wf ((k, v) :: r) = true := by
  cases r with
  | nil => simpa [Memory.wf] using hv
  | cons e r => simpa [Memory.wf, h e (by simp), hr] using hv

theorem Memory.mem_clear {m : Memory} {a : Nat} {c : Host.Cell} (h : c ∈ m.clear a) : c ∈ m := by
  induction m with
  | nil => exact h
  | cons e r ih =>
    obtain ⟨k, v⟩ := e
    simp only [Memory.clear] at h
    split at h
    · exact List.mem_cons_of_mem _ (ih h)
    · rcases List.mem_cons.mp h with rfl | h
      · simp
      · exact List.mem_cons_of_mem _ (ih h)

theorem Memory.mem_put {m : Memory} {a : Nat} {b : Byte} {c : Host.Cell} (h : c ∈ m.put a b) : c = (a, b) ∨ c ∈ m := by
  induction m with
  | nil => simpa [Memory.put] using h
  | cons e r ih =>
    obtain ⟨k, v⟩ := e
    simp only [Memory.put] at h
    split at h
    · rcases List.mem_cons.mp h with rfl | h
      · simp
      · rcases ih h with h | h <;> simp [h]
    · split at h
      · rename_i hk
        rcases List.mem_cons.mp h with rfl | h
        · simp [hk]
        · simp [h]
      · rcases List.mem_cons.mp h with rfl | h
        · simp
        · right; exact h

/-- Dropping an entry keeps the canonical form. -/
theorem Memory.wf_clear {m : Memory} {a : Nat} (h : m.wf = true) : (m.clear a).wf = true := by
  induction m with
  | nil => rfl
  | cons e r ih =>
    obtain ⟨k, v⟩ := e
    obtain ⟨h1, h2, h3⟩ := Memory.wf_cons h
    simp only [Memory.clear]
    split
    · exact ih h2
    · exact Memory.wf_of h1 (ih h2) (fun c hc => h3 c (Memory.mem_clear hc))

/-- Putting a byte that is not 0 keeps the canonical form. -/
theorem Memory.wf_put {m : Memory} {a : Nat} {b : Byte} (hb : b ≠ 0) (h : m.wf = true) : (m.put a b).wf = true := by
  induction m with
  | nil => simpa [Memory.put, Memory.wf] using hb
  | cons e r ih =>
    obtain ⟨k, v⟩ := e
    obtain ⟨h1, h2, h3⟩ := Memory.wf_cons h
    simp only [Memory.put]
    split
    · refine Memory.wf_of h1 (ih h2) (fun c hc => ?_)
      rcases Memory.mem_put hc with rfl | hc
      · assumption
      · exact h3 c hc
    · split
      · exact Memory.wf_of hb h2 h3
      · refine Memory.wf_of hb h (fun c hc => ?_)
        rcases List.mem_cons.mp hc with rfl | hc
        · show a < k
          omega
        · have := h3 c hc
          omega

/-- A write keeps the canonical form. -/
theorem Memory.wf_write {m : Memory} {a : Nat} {b : Byte} (h : m.wf = true) : (m.write a b).wf = true := by
  unfold Memory.write
  split
  · exact Memory.wf_clear h
  · exact Memory.wf_put (by assumption) h

/-- Writing bytes keeps the canonical form. -/
theorem Memory.wf_writeN {m : Memory} {a : Nat} {l : List Byte} (h : m.wf = true) : (m.writeN a l).wf = true := by
  induction l generalizing m a with
  | nil => exact h
  | cons b r ih => exact ih (Memory.wf_write h)

/-- Keeping some entries keeps the canonical form. -/
theorem Memory.wf_filter {m : Memory} (p : Host.Cell → Bool) (h : m.wf = true) : Memory.wf (m.filter p) = true := by
  induction m with
  | nil => rfl
  | cons e r ih =>
    obtain ⟨k, v⟩ := e
    obtain ⟨h1, h2, h3⟩ := Memory.wf_cons h
    rw [List.filter_cons]
    split
    · exact Memory.wf_of h1 (ih h2) (fun c hc => h3 c (List.mem_of_mem_filter hc))
    · exact ih h2

theorem Memory.read_lt {m : Memory} {a : Nat} (h : ∀ c ∈ m, a < c.1) : m.read a = 0 := by
  induction m with
  | nil => rfl
  | cons e r ih =>
    obtain ⟨k, v⟩ := e
    have : a < k := h (k, v) (by simp)
    simp [Memory.read, Nat.ne_of_gt this, ih (fun c hc => h c (by simp [hc]))]

theorem Memory.read_clear_same (m : Memory) (a : Nat) : (m.clear a).read a = 0 := by
  induction m with
  | nil => rfl
  | cons e r ih =>
    obtain ⟨k, v⟩ := e
    simp only [Memory.clear]
    split
    · exact ih
    · rename_i hk
      simp [Memory.read, hk, ih]

theorem Memory.read_clear_other {m : Memory} {a a' : Nat} (h : a ≠ a') : (m.clear a).read a' = m.read a' := by
  induction m with
  | nil => rfl
  | cons e r ih =>
    obtain ⟨k, v⟩ := e
    simp only [Memory.clear]
    split
    · rename_i hk
      simp [Memory.read, hk, h, ih]
    · simp [Memory.read, ih]

theorem Memory.read_put_same (m : Memory) (a : Nat) (b : Byte) : (m.put a b).read a = b := by
  induction m with
  | nil => simp [Memory.put, Memory.read]
  | cons e r ih =>
    obtain ⟨k, v⟩ := e
    simp only [Memory.put]
    split
    · rename_i hk
      simp [Memory.read, Nat.ne_of_lt hk, ih]
    · split
      · rename_i hk
        simp [Memory.read, hk]
      · simp [Memory.read]

theorem Memory.read_put_other {m : Memory} {a a' : Nat} {b : Byte} (h : a ≠ a') : (m.put a b).read a' = m.read a' := by
  induction m with
  | nil => simp [Memory.put, Memory.read, h]
  | cons e r ih =>
    obtain ⟨k, v⟩ := e
    simp only [Memory.put]
    split
    · simp [Memory.read, ih]
    · split
      · rename_i hk
        subst hk
        simp [Memory.read, h]
      · simp [Memory.read, h]

/-- A byte written reads back. -/
theorem Memory.read_write_same (m : Memory) (a : Nat) (b : Byte) : (m.write a b).read a = b := by
  unfold Memory.write
  split
  · rename_i hb
    rw [Memory.read_clear_same, hb]
  · exact Memory.read_put_same m a b

/-- A write leaves every other byte. -/
theorem Memory.read_write_other {m : Memory} {a a' : Nat} {b : Byte} (h : a ≠ a') : (m.write a b).read a' = m.read a' := by
  unfold Memory.write
  split
  · exact Memory.read_clear_other h
  · exact Memory.read_put_other h

/-- Bytes written leave every byte outside them. -/
theorem Memory.read_writeN_other {m : Memory} {a a' : Nat} {l : List Byte} (h : a' < a ∨ a + l.length ≤ a') :
    (m.writeN a l).read a' = m.read a' := by
  induction l generalizing m a with
  | nil => rfl
  | cons b r ih =>
    rw [Memory.writeN, ih (by simp at h; omega), Memory.read_write_other (by simp at h; omega)]

/-- Byte i of what was written reads back. -/
theorem Memory.read_writeN_same {m : Memory} {a i : Nat} {l : List Byte} (hi : i < l.length) :
    (m.writeN a l).read (a + i) = l[i] := by
  induction l generalizing m a i with
  | nil => simp at hi
  | cons b r ih =>
    cases i with
    | zero =>
      rw [Memory.writeN, Memory.read_writeN_other (by omega), Nat.add_zero, Memory.read_write_same]
      rfl
    | succ j =>
      have hj : j < r.length := by simpa using hi
      have e : a + (j + 1) = a + 1 + j := by omega
      rw [Memory.writeN, e, ih hj]
      rfl

/-- What was written reads back. -/
theorem Memory.readN_writeN (m : Memory) (a : Nat) (l : List Byte) :
    (m.writeN a l).readN a l.length = l := by
  apply List.ext_getElem
  · simp [Memory.readN]
  · intro i h1 h2
    simp [Memory.readN, Memory.read_writeN_same h2]

/-- Storing at a home keeps the canonical form of the coherent contents. -/
theorem Dev.wf_storeHome {d : Dev} {h : Home} {l : List Byte} (hd : d.ms.mem.wf = true) :
    (d.storeHome h l).ms.mem.wf = true := by
  have key : ∀ (x : Dev) (ln : Nat), (x.cleanLine ln).ms.mem = x.ms.mem := fun _ _ => rfl
  unfold Dev.storeHome
  cases h <;> simp only [Home.key, Home.line, Option.map] <;> (try split_ifs) <;>
    simp [key, Dev.sramWrite, Memory.wf_writeN hd, hd]

/-- Memory has its canonical form at reset. -/
theorem Memory.wf_reset : State.reset.dev.ms.mem.wf = true := rfl

/-- The homes that are not cluster SRAM keep their bytes in the coherent contents: what is stored there reads back. -/
theorem Dev.readHome_storeHome_hbm (d : Dev) (pa : Nat) (l : List Byte) :
    (d.storeHome (.hbm pa) l).readHome (.hbm pa) l.length = l := by
  have key : ∀ (x : Dev) (ln : Nat), (x.cleanLine ln).ms.mem = x.ms.mem := fun _ _ => rfl
  have place : ∀ (x : Dev) (m : MemSys) (a : Nat), Dev.place { x with ms := m } a = x.place a := fun _ _ _ => rfl
  unfold Dev.storeHome Dev.readHome
  simp only [Home.key, Home.line, Option.map]
  split_ifs
  · simp only [Dev.cleanLine, place]
    exact Memory.readN_writeN _ _ _
  · simp only [place]
    exact Memory.readN_writeN _ _ _

end Sys2Proof.Machine
end

