-- ==== Sys2Proof/Laws/Caches.lean ====
section
/-! SUPPORT. What the caches of R208 to R222 can change: their own lines, what homes still hold of modified lines, and
registers (their counters). The coherent contents of memory, cores, sheaves and all else stay. -/

namespace Sys2Proof.Machine

open Sys2Proof

/-- From d to e only cache lines, stale lines and registers may have changed. -/
def OnlyCaches (d e : Dev) : Prop :=
  ∃ r st cs, e = { d with regs := r, ms := { d.ms with stale := st, caches := cs } }

theorem OnlyCaches.refl (d : Dev) : OnlyCaches d d := ⟨d.regs, d.ms.stale, d.ms.caches, rfl⟩

theorem OnlyCaches.trans {a b c : Dev} (h : OnlyCaches a b) (h' : OnlyCaches b c) : OnlyCaches a c := by
  obtain ⟨r, st, cs, rfl⟩ := h
  obtain ⟨r', st', cs', rfl⟩ := h'
  exact ⟨r', st', cs', rfl⟩

theorem OnlyCaches.mem {d e : Dev} (h : OnlyCaches d e) : e.ms.mem = d.ms.mem := by
  obtain ⟨r, st, cs, rfl⟩ := h; rfl

theorem OnlyCaches.sram {d e : Dev} (h : OnlyCaches d e) : e.ms.sram = d.ms.sram := by
  obtain ⟨r, st, cs, rfl⟩ := h; rfl

theorem OnlyCaches.cores {d e : Dev} (h : OnlyCaches d e) : e.cores = d.cores := by
  obtain ⟨r, st, cs, rfl⟩ := h; rfl

theorem OnlyCaches.sheaves {d e : Dev} (h : OnlyCaches d e) : e.sheaves = d.sheaves := by
  obtain ⟨r, st, cs, rfl⟩ := h; rfl

theorem OnlyCaches.ite {d a b : Dev} {p : Prop} [Decidable p] (ha : OnlyCaches d a) (hb : OnlyCaches d b) :
    OnlyCaches d (if p then a else b) := by
  split
  · exact ha
  · exact hb

theorem Dev.only_setCache (d : Dev) (k : Nat) (f : Cache → Cache) : OnlyCaches d (d.setCache k f) :=
  ⟨d.regs, d.ms.stale, _, rfl⟩

theorem Dev.only_setReg (d : Dev) (r v : Nat) : OnlyCaches d (d.setReg r v) := ⟨_, d.ms.stale, d.ms.caches, rfl⟩

theorem Dev.only_addWrap (d : Dev) (r hi lo n : Nat) : OnlyCaches d (d.addWrap r hi lo n) := Dev.only_setReg d _ _

theorem Dev.only_dropCopies (d : Dev) (line : Nat) (p : Nat → Bool) : OnlyCaches d (d.dropCopies line p) :=
  ⟨d.regs, d.ms.stale, _, rfl⟩

theorem Dev.only_writeHome (d : Dev) (line : Nat) : OnlyCaches d (d.writeHome line) := ⟨d.regs, _, _, rfl⟩

theorem Dev.only_keepStale (d : Dev) (line : Nat) : OnlyCaches d (d.keepStale line) := by
  unfold Dev.keepStale
  split
  · exact OnlyCaches.refl d
  · exact ⟨d.regs, _, d.ms.caches, rfl⟩

theorem Dev.only_sharedMiss (d : Dev) (k line : Nat) (st : Bool) : OnlyCaches d (d.sharedMiss k line st) := by
  unfold Dev.sharedMiss
  refine OnlyCaches.trans (Dev.only_addWrap d (rScmiss k) 63 0 1) ?_
  generalize d.addWrap (rScmiss k) 63 0 1 = e
  dsimp only
  generalize (e.cache k).victim k (cacheSet k line) (e.fillWays k) = wc
  obtain ⟨w, c⟩ := wc
  refine OnlyCaches.trans (Dev.only_setCache e k (fun _ => c)) ?_
  generalize e.setCache k (fun _ => c) = e
  dsimp only
  cases w with
  | none => exact OnlyCaches.refl e
  | some w =>
    refine OnlyCaches.trans ?_ (Dev.only_setCache _ k _)
    cases c.inWay k (cacheSet k line) w with
    | none => exact OnlyCaches.refl e
    | some ve =>
      refine OnlyCaches.trans ?_ (Dev.only_setCache _ k _)
      exact OnlyCaches.ite (OnlyCaches.trans (Dev.only_writeHome e ve.1) (Dev.only_addWrap _ _ _ _ _)) (OnlyCaches.refl e)

theorem Dev.only_fillReturn (d : Dev) (k line : Nat) : OnlyCaches d (d.fillReturn k line) := by
  unfold Dev.fillReturn
  split
  · exact OnlyCaches.refl d
  · exact Dev.only_setCache d k _

theorem Dev.only_sharedLoad (d : Dev) (k line : Nat) (st : Bool) : OnlyCaches d (d.sharedLoad k line st) := by
  unfold Dev.sharedLoad
  split
  · exact OnlyCaches.trans (Dev.only_addWrap d _ _ _ _) (Dev.only_setCache _ k _)
  · exact OnlyCaches.trans (Dev.only_sharedMiss d k line st) (Dev.only_fillReturn _ k line)

theorem Dev.only_uncachedWrite (d : Dev) (line : Nat) (full : Bool) : OnlyCaches d (d.uncachedWrite line full) := by
  unfold Dev.uncachedWrite
  split
  · exact ⟨d.regs, _, _, rfl⟩
  · exact OnlyCaches.ite (OnlyCaches.refl d) (Dev.only_dropCopies d line _)

theorem Dev.only_coreLoad (d : Dev) (n line : Nat) (na : Bool) : OnlyCaches d (d.coreLoad n line na) := by
  unfold Dev.coreLoad
  dsimp only
  split
  · exact OnlyCaches.refl d
  · exact OnlyCaches.trans (Dev.only_sharedLoad d _ line na) (Dev.only_setCache _ _ _)

theorem Dev.only_coreStore (d : Dev) (n line : Nat) (na : Bool) : OnlyCaches d (d.coreStore n line na) := by
  unfold Dev.coreStore
  dsimp only
  refine OnlyCaches.trans (OnlyCaches.trans (OnlyCaches.trans (OnlyCaches.trans ?_ (Dev.only_setCache _ _ _))
    (Dev.only_dropCopies _ _ _)) (Dev.only_keepStale _ _)) (Dev.only_setCache _ _ _)
  split
  · exact OnlyCaches.refl d
  · exact Dev.only_sharedLoad d _ line na

theorem Dev.only_sharedStore (d : Dev) (k line source : Nat) (full stn st : Bool) :
    OnlyCaches d (d.sharedStore k line source full stn st) := by
  unfold Dev.sharedStore
  dsimp only
  generalize (if (full && d.bit (rScctl k) 31) = true then (d.cache k).seqStore k (line / 32) source
    else ((d.cache k).seqBreak (line / 32), false)) = cb
  obtain ⟨c, byp⟩ := cb
  refine OnlyCaches.trans (Dev.only_setCache d k (fun _ => c)) ?_
  generalize d.setCache k (fun _ => c) = e
  dsimp only
  split
  · exact OnlyCaches.trans (OnlyCaches.trans (OnlyCaches.trans (Dev.only_addWrap e _ _ _ _) (Dev.only_dropCopies _ _ _))
      (Dev.only_keepStale _ _)) (Dev.only_setCache _ _ _)
  · split
    · refine OnlyCaches.trans ?_ (Dev.only_uncachedWrite _ _ _)
      exact OnlyCaches.ite (OnlyCaches.trans (Dev.only_addWrap e _ _ _ _) (Dev.only_addWrap _ _ _ _ _)) (Dev.only_addWrap e _ _ _ _)
    · refine OnlyCaches.trans (OnlyCaches.trans (OnlyCaches.trans (Dev.only_sharedMiss e k line st) (Dev.only_fillReturn _ k line))
        (Dev.only_dropCopies _ line (· != k))) ?_
      split
      · exact OnlyCaches.trans (Dev.only_keepStale _ _) (Dev.only_setCache _ _ _)
      · exact Dev.only_uncachedWrite _ _ _

theorem Dev.only_recall (d : Dev) (line : Nat) (drop : Bool) : OnlyCaches d (d.recall line drop) := by
  unfold Dev.recall
  dsimp only
  have h1 : OnlyCaches d (if d.modified line = true then d.writeHome line else d) :=
    OnlyCaches.ite (Dev.only_writeHome d line) (OnlyCaches.refl d)
  exact OnlyCaches.ite (OnlyCaches.trans h1 (Dev.only_dropCopies _ _ _)) h1

/-- Losing reservations changes no memory. -/
@[simp] theorem Dev.clearResv_ms (d : Dev) (line : Nat) (a : Option Nat) (b : Option (Nat × Nat)) :
    (d.clearResv line a b).ms = d.ms := rfl

/-- What the caches do for a store of bytes of HBM: the coherent contents take exactly those bytes. -/
theorem Dev.storeLine_hbm_mem (d : Dev) (v : Via) (pa : Nat) (l : List Byte) (stn na : Bool) (hpa : pa < 0x9000000000) :
    (d.storeLine v (.hbm pa) l stn na).ms.mem = d.ms.mem.writeN pa l := by
  have hs : ∀ x : Dev, (x.storeHome (.hbm pa) l).ms.mem = x.ms.mem.writeN pa l := by
    intro x
    have hp : x.place pa = pa := by
      unfold Dev.place
      rw [if_neg (by omega)]
    unfold Dev.storeHome
    simp only [Home.key, Home.line, Option.map, hp]
    split_ifs <;> rfl
  have hk : ∃ e, OnlyCaches d e ∧ d.storeLine v (.hbm pa) l stn na = (e.clearResv ((Home.hbm pa).mark / 128)).storeHome (.hbm pa) l := by
    unfold Dev.storeLine
    simp only [Home.key]
    cases v with
    | engine => exact ⟨_, Dev.only_uncachedWrite d _ _, rfl⟩
    | til t src => exact ⟨_, Dev.only_sharedStore d _ _ _ _ _ _, rfl⟩
    | core n =>
      cases stn with
      | true => exact ⟨_, Dev.only_uncachedWrite d _ _, rfl⟩
      | false => exact ⟨_, Dev.only_coreStore d _ _ _, rfl⟩
  obtain ⟨e, he, h⟩ := hk
  rw [h, hs, Dev.clearResv_ms, he.mem]

end Sys2Proof.Machine
end

