-- ==== Sys2Proof/Laws/Commands.lean ====
section
/-! SUPPORT. What every command does to the part, in one place: exec of a command is the form doCmd of its well-formedness and
of its effect. -/

namespace Sys2Proof.Machine

open Sys2Proof

/-- The effect of a command on the part, as its meaning gives it. -/
def does (i : Instr) (d : Dev) : Dev :=
  match i with
  | .registerWrite ctx off size val => (d.ctrlWrite ctx off size (val % 2 ^ (8 * size))).2
  | .pathLowWordWrite path off val => d.onPathWrite path off (val % 2 ^ 32)
  | .pathHighWordWrite path off val => d.onPathWrite path (off + 4) (val % 2 ^ 32)
  | .pathLowWordRead path off => d.onPathRead path off
  | .pathHighWordRead path off => d.onPathRead path (off + 4)
  | .mcastLoad run => d.mcastLoad run
  | .mcastLineRead run => d.mcastRead run
  | .mcastLineDeliver run t => d.mcastDeliver run t
  | .dieLoss slot => d.dieLoss slot
  | .heartbeatMiss slot => d.dieLoss slot
  | .dieRejoin slot fuseOk linkOk testOk bad => d.dieRejoin slot fuseOk linkOk testOk bad
  | .dieResetReq ctx slot => d.write4 ctx (rCrownDiectl slot) (d.fld (rCrownDiectl slot) 31 31 * 2 ^ 31 + 1)
  | .dieOfflineReq ctx slot => d.write4 ctx (rCrownDiectl slot) (d.fld (rCrownDiectl slot) 31 31 * 2 ^ 31 + 2)
  | .dieOnlineReq ctx slot => d.write4 ctx (rCrownDiectl slot) (d.fld (rCrownDiectl slot) 31 31 * 2 ^ 31 + 3)
  | .dieDrainDone slot => d.drainDone slot
  | .clusterFailure t c badSpares => d.clusterFailure t c badSpares
  | .geometryChangedHandling => d.geometryHandle
  | .add a f => d.alu2 (.add a f) a .add f (f.fn2 != 0)
  | .sub a f => d.alu2 (.sub a f) a .sub f (f.fn2 != 0)
  | .and a f => d.alu2 (.and a f) a .and f (f.fn2 != 0)
  | .or a f => d.alu2 (.or a f) a .or f (f.fn2 != 0)
  | .xor a f => d.alu2 (.xor a f) a .xor f (f.fn2 != 0)
  | .andn a f => d.alu2 (.andn a f) a .andn f (f.fn2 != 0)
  | .sll a f => d.alu2 (.sll a f) a .sll f (f.fn2 != 0)
  | .srl a f => d.alu2 (.srl a f) a .srl f (f.fn2 != 0)
  | .sra a f => d.alu2 (.sra a f) a .sra f (f.fn2 != 0)
  | .ror a f => d.alu2 (.ror a f) a .ror f (f.fn2 != 0)
  | .slt a f => d.alu2 (.slt a f) a .slt f (f.fn2 != 0)
  | .sltu a f => d.alu2 (.sltu a f) a .sltu f (f.fn2 != 0)
  | .min a f => d.alu2 (.min a f) a .min f (f.fn2 != 0)
  | .max a f => d.alu2 (.max a f) a .max f (f.fn2 != 0)
  | .minu a f => d.alu2 (.minu a f) a .minu f (f.fn2 != 0)
  | .maxu a f => d.alu2 (.maxu a f) a .maxu f (f.fn2 != 0)
  | .addc a f => d.carry (.addc a f) a f false
  | .subc a f => d.carry (.subc a f) a f true
  | .clz a f => d.alu2 (.clz a f) a .clz f (f.fn2 != 0 || f.rb != 0)
  | .ctz a f => d.alu2 (.ctz a f) a .ctz f (f.fn2 != 0 || f.rb != 0)
  | .popc a f => d.alu2 (.popc a f) a .popc f (f.fn2 != 0 || f.rb != 0)
  | .sel a f => d.sel (.sel a f) a f
  | .addW a f => d.aluW (.addW a f) a .add f
  | .subW a f => d.aluW (.subW a f) a .sub f
  | .sllW a f => d.aluW (.sllW a f) a .sll f
  | .srlW a f => d.aluW (.srlW a f) a .srl f
  | .sraW a f => d.aluW (.sraW a f) a .sra f
  | .addi a f => d.aluI (.addi a f) a .add f true
  | .andi a f => d.aluI (.andi a f) a .and f false
  | .ori a f => d.aluI (.ori a f) a .or f false
  | .xori a f => d.aluI (.xori a f) a .xor f false
  | .slti a f => d.aluI (.slti a f) a .slt f true
  | .sltiu a f => d.aluI (.sltiu a f) a .sltu f true
  | .shi a f => d.shi (.shi a f) a f
  | .lui a f => d.upper (.lui a f) a f false
  | .auipc a f => d.upper (.auipc a f) a f true
  | .mul a f => d.alu2 (.mul a f) a .mul f (f.fn2 != 0)
  | .mulh a f => d.alu2 (.mulh a f) a .mulh f (f.fn2 != 0)
  | .mulhu a f => d.alu2 (.mulhu a f) a .mulhu f (f.fn2 != 0)
  | .mulhsu a f => d.alu2 (.mulhsu a f) a .mulhsu f (f.fn2 != 0)
  | .div a f => d.alu2 (.div a f) a .div f (f.fn2 != 0)
  | .divu a f => d.alu2 (.divu a f) a .divu f (f.fn2 != 0)
  | .rem a f => d.alu2 (.rem a f) a .rem f (f.fn2 != 0)
  | .remu a f => d.alu2 (.remu a f) a .remu f (f.fn2 != 0)
  | .mulW a f => d.aluW (.mulW a f) a .mul f
  | .divW a f => d.aluW (.divW a f) a .div f
  | .divuW a f => d.aluW (.divuW a f) a .divu f
  | .remW a f => d.aluW (.remW a f) a .rem f
  | .remuW a f => d.aluW (.remuW a f) a .remu f
  | .lb a f => d.loadI (.lb a f) a f 1 true
  | .lh a f => d.loadI (.lh a f) a f 2 true
  | .lw a f => d.loadI (.lw a f) a f 4 true
  | .ld a f => d.loadC (.ld a f) a f 8 true
  | .lbu a f => d.loadI (.lbu a f) a f 1 false
  | .lhu a f => d.loadI (.lhu a f) a f 2 false
  | .lwu a f => d.loadC (.lwu a f) a f 4 false
  | .sb a f => d.storeI (.sb a f) a f 1
  | .sh a f => d.storeI (.sh a f) a f 2
  | .sw a f => d.storeI (.sw a f) a f 4
  | .sd a f => d.onlyC (.sd a f) a 0 false (Dev.coreStI 8 f)
  | .llw a f => d.onlyL (.llw a f) a (quadRun 1 f) (Dev.localLd 1 f)
  | .slw a f => d.onlyL (.slw a f) a (quadRun 1 f) (Dev.localSt 1 f)
  | .llq a f => d.onlyL (.llq a f) a (quadRun 4 f) (Dev.localLd 4 f)
  | .slq a f => d.onlyL (.slq a f) a (quadRun 4 f) (Dev.localSt 4 f)
  | .beq a f => d.branch (.beq a f) a f (fun x y => x == y)
  | .bne a f => d.branch (.bne a f) a f (fun x y => x != y)
  | .blt a f => d.branch (.blt a f) a f (fun x y => x.slt y)
  | .bge a f => d.branch (.bge a f) a f (fun x y => !x.slt y)
  | .bltu a f => d.branch (.bltu a f) a f (fun x y => x.ult y)
  | .bgeu a f => d.branch (.bgeu a f) a f (fun x y => !x.ult y)
  | .jal a f => d.jal (.jal a f) a f
  | .jalr a f => d.jalr (.jalr a f) a f
  | .bany a f => d.branchP (.bany a f) a f true
  | .bnone a f => d.branchP (.bnone a f) a f false
  | .fadd a f => d.fp2 (.fadd a f) a f false (fun g rm x y => g.add rm (g.unpack x) (g.unpack y))
  | .fsub a f => d.fp2 (.fsub a f) a f false (fun g rm x y => g.sub rm (g.unpack x) (g.unpack y))
  | .fmul a f => d.fp2 (.fmul a f) a f false (fun g rm x y => g.mul rm (g.unpack x) (g.unpack y))
  | .fdiv a f => d.fpDiv (.fdiv a f) a f false (fun g rm x y => g.div rm (g.unpack x) (g.unpack y))
  | .fsqrt a f => d.fpDiv (.fsqrt a f) a f (f.rb != 0) (fun g rm x _ => g.sqrt rm (g.unpack x))
  | .fmin a f => d.fp2 (.fmin a f) a f false (fun g _ x y => g.minOp x y)
  | .fmax a f => d.fp2 (.fmax a f) a f false (fun g _ x y => g.maxOp x y)
  | .famax a f => d.fp2 (.famax a f) a f false (fun g _ x y => g.amaxOp x y)
  | .fsgnj a f => d.fp2 (.fsgnj a f) a f false (fun g _ x y => (g.sgnj false false x y, 0))
  | .fsgnjn a f => d.fp2 (.fsgnjn a f) a f false (fun g _ x y => (g.sgnj true false x y, 0))
  | .fsgnjx a f => d.fp2 (.fsgnjx a f) a f false (fun g _ x y => (g.sgnj false true x y, 0))
  | .feq a f => d.fpX (.feq a f) a f false (fun g x y => b01 (g.feq x y))
  | .flt a f => d.fpX (.flt a f) a f false (fun g x y => b01 (g.flt x y))
  | .fle a f => d.fpX (.fle a f) a f false (fun g x y => b01 (g.fle x y))
  | .fclass a f => d.fpX (.fclass a f) a f (f.rb != 0) (fun g x _ => (g.fclass x, 0))
  | .fmvXf a f => d.fpC (.fmvXf a f) a (decide (1 < f.fn2.toNat) || f.rb != 0) (fun c _ => c.setX f.rd.toNat (BitVec.ofNat 64 (c.fbits (f.fn2.getLsbD 0) f.ra.toNat)))
  | .fmvFx a f => d.fpC (.fmvFx a f) a (decide (1 < f.fn2.toNat) || f.rb != 0) (fun c _ => c.setF f.rd.toNat (BitVec.ofNat 64 ((c.getX f.ra.toNat).toNat % 2 ^ (fmtD (f.fn2.getLsbD 0)).width)))
  | .fmadd a f => d.fma (.fmadd a f) a f false false
  | .fmsub a f => d.fma (.fmsub a f) a f false true
  | .fnmadd a f => d.fma (.fnmadd a f) a f true true
  | .fnmsub a f => d.fma (.fnmsub a f) a f true false
  | .fcvtSW a f => d.cvtFromInt (.fcvtSW a f) a f true
  | .fcvtSWu a f => d.cvtFromInt (.fcvtSWu a f) a f false
  | .fcvtWS a f => d.cvtToInt (.fcvtWS a f) a f true
  | .fcvtWuS a f => d.cvtToInt (.fcvtWuS a f) a f false
  | .fcvtSD a f => d.fpC (.fcvtSD a f) a (f.fn2 != 0 || f.rb != 0) (fun c rm => (c.setF f.rd.toNat (BitVec.ofNat 64 (f32.convert rm (f64.unpack (c.fbits true f.ra.toNat))).1)).addFlags (f32.convert rm (f64.unpack (c.fbits true f.ra.toNat))).2)
  | .fcvtDS a f => d.fpC (.fcvtDS a f) a (f.fn2 != 0 || f.rb != 0) (fun c rm => (c.setF f.rd.toNat (BitVec.ofNat 64 (f64.convert rm (f32.unpack (c.fbits false f.ra.toNat))).1)).addFlags (f64.convert rm (f32.unpack (c.fbits false f.ra.toNat))).2)
  | .fcvtDL a f => d.fpC (.fcvtDL a f) a (f.fn2 != 0 || f.rb != 0) (fun c rm => (c.setF f.rd.toNat (BitVec.ofNat 64 (f64.ofInt rm (c.getX f.ra.toNat).toInt).1)).addFlags (f64.ofInt rm (c.getX f.ra.toNat).toInt).2)
  | .fcvtLD a f => d.fpC (.fcvtLD a f) a (f.fn2 != 0 || f.rb != 0) (fun c _ => (c.setX f.rd.toNat (BitVec.ofInt 64 ((f64.unpack (c.fbits true f.ra.toNat)).toIntSat .rtz (-(2 ^ 63)) (2 ^ 63 - 1)).1)).addFlags ((f64.unpack (c.fbits true f.ra.toNat)).toIntSat .rtz (-(2 ^ 63)) (2 ^ 63 - 1)).2)
  | .npack a pos f => d.npack (.npack a pos f) a pos.toNat f
  | .nunpk a f => d.nunpk (.nunpk a f) a f
  | .qscaleMx a f => d.quant (.qscaleMx a f) a f (f.fn2.getLsbD 4) (qscaleEmax (f.fn2.toNat % 16)).isNone (fun x => (Sys2Proof.Machine.qscaleMx (f.fn2.toNat % 16) x, 0))
  | .qscaleF16 a f => d.quant (.qscaleF16 a f) a f (f.fn2.getLsbD 4) (!qscaleF16Ok (f.fn2.toNat % 16)) (fun x => (Sys2Proof.Machine.qscaleF16 (f.fn2.toNat % 16) x, 0))
  | .qinv a f => d.quant (.qinv a f) a f (decide (1 < f.fn2.toNat)) false (fun x => Sys2Proof.Machine.qinv (f.fn2.getLsbD 0) x)
  | .sync a f => d.barrier (.sync a f) a f Dev.coreSync Dev.laneSync
  | .syncS a f => d.barrier (.syncS a f) a f Dev.coreSyncS Dev.laneSyncS
  | .syncL a f => d.barrier (.syncL a f) a f (fun _ d => (.next, d)) (fun _ d => (.next, d))
  | .syncD a f => d.barrier (.syncD a f) a f Dev.coreSync Dev.laneSync
  | .ldl a f => d.atomic (.ldl a f) a f (f.rb != 0) [f.rd] (Dev.coreLdl f) (Dev.laneLdl f)
  | .stc a f => d.atomic (.stc a f) a f false [f.rb] (Dev.coreStc f) (Dev.laneStc f)
  | .amoSwap a f => d.amo (.amoSwap a f) a .swap f
  | .amoAdd a f => d.amo (.amoAdd a f) a .add f
  | .amoAnd a f => d.amo (.amoAnd a f) a .band f
  | .amoOr a f => d.amo (.amoOr a f) a .bor f
  | .amoXor a f => d.amo (.amoXor a f) a .bxor f
  | .amoMin a f => d.amo (.amoMin a f) a .min f
  | .amoMax a f => d.amo (.amoMax a f) a .max f
  | .amoMinu a f => d.amo (.amoMinu a f) a .minu f
  | .amoMaxu a f => d.amo (.amoMaxu a f) a .maxu f
  | .amoCas a f => d.amo (.amoCas a f) a .cas f
  | .amoFadd a f => d.amo (.amoFadd a f) a .fadd f
  | .cwb a f => d.ghety (.cwb a f) a 0 false (Dev.coreCache .cwb f) (basePair f.ra) (Dev.laneCache .cwb f)
  | .cflush a f => d.ghety (.cflush a f) a 0 false (Dev.coreCache .cflush f) (basePair f.ra) (Dev.laneCache .cflush f)
  | .cinv a f => d.onlyC (.cinv a f) a 1 false (Dev.coreCache .cinv f)
  | .cpref a f => d.ghety (.cpref a f) a 0 false (Dev.corePref f) (basePair f.ra) (Dev.lanePref f)
  | .stn a f => d.ghety (.stn a f) a 0 false (Dev.coreStn f) (basePair f.ra) (Dev.laneSt 4 true f)
  | .ecall a f => d.onlyC (.ecall a f) a 0 (sysUsed f) (fun n d => (.exc (callCode (d.core n).level) 0 0, d))
  | .ebreak a f => d.ebreak (.ebreak a f) a f
  | .eret a f => d.eretC (.eret a f) a f
  | .wfi a f => d.onlyC (.wfi a f) a 1 (sysUsed f) (fun _ d => (.next, d))
  | .csrrw a f => d.csr (.csrrw a f) a .rw f
  | .csrrs a f => d.csr (.csrrs a f) a .rs f
  | .csrrc a f => d.csr (.csrrc a f) a .rc f
  | .tlbi a f => d.onlyC (.tlbi a f) a 1 (f.csr != 0 || f.rd != 0) (fun n d => (.next, d.tlbi n (if f.ra = 0 then none else some (d.x n f.ra.toNat).toNat)))
  | .halt a f => d.halt (.halt a f) a f
  | .evclaimRead a rd => d.evclaimRead (.evclaimRead a rd) a rd
  | .timeloRead a rd => d.csr (.timeloRead a rd) a .rs ⟨8, 0, rd⟩
  | .psetnz a f => d.laneOp (.psetnz a f) a (cause1 (f.fn2 != 0 || f.rb != 0 || pBad f.rd)) (fun s => s.putP f.rd.toNat (fun l => s.getV f.ra.toNat l != 0))
  | .pand a f => d.predOp (.pand a f) a f (fun x y => x && y)
  | .por a f => d.predOp (.por a f) a f (fun x y => x || y)
  | .pxor a f => d.predOp (.pxor a f) a f (fun x y => x != y)
  | .pnot a f => d.laneOp (.pnot a f) a (cause1 (f.fn2 != 0 || f.rb != 0 || pBad f.rd || pBad f.ra)) (fun s => s.putP f.rd.toNat (fun l => !s.getP f.ra.toNat l))
  | .pmov a f => d.laneOp (.pmov a f) a (cause1 (f.fn2 != 0 || f.rb != 0 || f.ra != 0)) (fun s => s.putV f.rd.toNat (fun l => BitVec.ofNat 32 ((List.range 8).map (fun i => if s.getP i l then 2 ^ i else 0)).sum))
  | .pload a f => d.laneOp (.pload a f) a (cause1 (f.fn2 != 0 || f.rb != 0 || f.rd != 0)) (fun s => (List.range 8).foldl (fun t i => t.putP i (fun l => (s.getV f.ra.toNat l).getLsbD i)) s)
  | .mpush a f => d.maskOp (.mpush a f) a (f.fn2 != 0 || f.rb != 0 || f.rd != 0 || pBad f.ra) (fun s => decide (16 ≤ s.stack.length)) (fun s => { s with stack := s.mask :: s.stack, mask := s.mask &&& s.p.get 0 f.ra.toNat })
  | .melse a f => d.maskOp (.melse a f) a (f.fn2 != 0 || f.rb != 0 || f.rd != 0 || pBad f.ra) (fun s => s.stack.isEmpty) (fun s => { s with mask := s.stack.headD 0 &&& ~~~(s.p.get 0 f.ra.toNat) })
  | .mpop a f => d.maskOp (.mpop a f) a (f.fn2 != 0 || f.rb != 0 || f.rd != 0 || f.ra != 0) (fun s => s.stack.isEmpty) (fun s => { s with mask := s.stack.headD 0, stack := s.stack.tail })
  | .sbar a f => d.sbar (.sbar a f) a f
  | .sbarComplete r => if d.dieActive (slotTil r.t) then d.sbarComplete (rowIdKey r) else d
  | .lshfl a f => d.lshfl (.lshfl a f) a f
  | .pcmpEq a f => d.pcmp (.pcmpEq a f) a f (fun x y => (x == y, 0))
  | .pcmpNe a f => d.pcmp (.pcmpNe a f) a f (fun x y => (x != y, 0))
  | .pcmpLt a f => d.pcmp (.pcmpLt a f) a f (fun x y => (x.slt y, 0))
  | .pcmpGe a f => d.pcmp (.pcmpGe a f) a f (fun x y => (!x.slt y, 0))
  | .pcmpLtu a f => d.pcmp (.pcmpLtu a f) a f (fun x y => (x.ult y, 0))
  | .pcmpGeu a f => d.pcmp (.pcmpGeu a f) a f (fun x y => (!x.ult y, 0))
  | .pfcmpEq a f => d.pcmp (.pfcmpEq a f) a f (fun x y => f32.feq x.toNat y.toNat)
  | .pfcmpLt a f => d.pcmp (.pfcmpLt a f) a f (fun x y => f32.flt x.toNat y.toNat)
  | .pfcmpLe a f => d.pcmp (.pfcmpLe a f) a f (fun x y => f32.fle x.toNat y.toNat)
  | .pfcmpUn a f => d.pcmp (.pfcmpUn a f) a f fcmpUn
  | .wfill a f => d.wfill (.wfill a f) a f
  | .wfillStart r => d.wfillStart (rowIdKey r)
  | .wfillDone r => d.wfillDone (rowIdKey r)
  | .bcast a f => d.bcast (.bcast a f) a f
  | .brd a f => d.brd (.brd a f) a f
  | .mstep a f => d.mstep (.mstep a f) a f
  | .mpass a f => d.mpass (.mpass a f) a f
  | .passStart r => d.passStart (rowIdKey r)
  | .chunkInjection r granted permitted => d.inject (rowIdKey r) granted permitted
  | .passComplete r => d.passComplete (rowIdKey r)
  | .accrd a f => d.accrd (.accrd a f) a f
  | .accrdDrain r => d.accrdDrain (rowIdKey r)
  | .accld a f => d.accld (.accld a f) a f
  | .tld a f => d.tld (.tld a f) a f
  | .rwait a f => d.rwait (.rwait a f) a f
  | .sfuExp2 a f => d.sfu (.sfuExp2 a f) a f .exp2
  | .sfuLog2 a f => d.sfu (.sfuLog2 a f) a f .log2
  | .sfuRcp a f => d.sfu (.sfuRcp a f) a f .rcp
  | .sfuRsq a f => d.sfu (.sfuRsq a f) a f .rsq
  | .sfuTanh a f => d.sfu (.sfuTanh a f) a f .tanh
  | .sfuSig a f => d.sfu (.sfuSig a f) a f .sig
  | .rngKey a f => d.laneOp (.rngKey a f) a (rngBad (f.fn2 != 0 || f.rd != 0) [(f.ra, 2), (f.rb, 2)]) (fun s => s.putRng (fun l => lcgKey (BitVec.ofNat 64 (s.getPair f.ra.toNat l)) (s.getPair f.rb.toNat l)))
  | .rngNext a f => d.laneOp (.rngNext a f) a (rngBad (f.fn2 != 0 || f.ra != 0 || f.rb != 0) [(f.rd, 2)]) (fun s => s.rngDraw (fun o s => (s.putV f.rd.toNat (fun l => (o l).setWidth 32)).putV (f.rd.toNat + 1) (fun l => ((o l) >>> (32 : Nat)).setWidth 32)))
  | .rngU32 a f => d.laneOp (.rngU32 a f) a (rngBad (f.fn2 != 0 || f.ra != 0 || f.rb != 0) []) (fun s => s.rngDraw (fun o s => s.putV f.rd.toNat (fun l => ((o l) >>> (32 : Nat)).setWidth 32)))
  | .rngUf a f => d.laneOp (.rngUf a f) a (rngBad (f.fn2 != 0 || f.ra != 0 || f.rb != 0) []) (fun s => s.rngDraw (fun o s => s.putV f.rd.toNat (fun l => lcgUniform (o l))))
  | .rngSkip a f => d.laneOp (.rngSkip a f) a (rngBad (f.fn2 != 0 || f.rd != 0 || f.rb != 0) []) (fun s => s.putRng (fun l => lcgSkip ((s.getV f.ra.toNat l).setWidth 128) (s.rngOf l)))
  | .rngSave a f => d.laneOp (.rngSave a f) a (rngBad (f.fn2 != 0 || f.ra != 0 || f.rb != 0) [(f.rd, 4)]) (fun s => (List.range 4).foldl (fun t i => t.putV (f.rd.toNat + i) (fun l => rngWord (s.rngOf l) i)) s)
  | .rngLoad a f => d.laneOp (.rngLoad a f) a (rngBad (f.fn2 != 0 || f.rd != 0 || f.rb != 0) [(f.ra, 4)]) (fun s => s.putRng (fun l => BitVec.ofNat 128 (s.getPair f.ra.toNat l + 2 ^ 64 * s.getPair (f.ra.toNat + 2) l)))
  | .interruptTaken n => d.interruptTaken n
  | .timerExpiry n machine => d.timerExpiry n machine
  | .deferredError n => d.deferredTaken n
  | .eventDelivery ev => d.eventDelivery ev
  | .evraise ctx ev => d.write4 ctx rCrownEvraise ev
  | .coreOffline ctx n => d.write4 ctx (rCulmCorectl (n / 48) (n % 48)) 1
  | .coreOnline ctx n => d.write4 ctx (rCulmCorectl (n / 48) (n % 48)) 2
  | .coreSelftestDone n ok => d.coreSelftestDone n ok
  | .coreFailed n => d.coreFailed n
  | .nearmemGemv run => d.gemv run
  | .nearmemAttend run => d.attend run
  | .glumeRead g ctx line errs row => d.glumeRead g ctx line errs row
  | .glumeWrite g ctx line size data => d.glumeWrite g ctx line size data
  | .stackTempRead g temp => d.stackTemp g temp
  | .channelRecal _ _ => d
  | .scrubRead g line errs row => d.scrubRead g line errs row
  | .softRepair g row => d.repairStart g row false
  | .hardRepair g row => d.repairStart g row true
  | .repcmdSoft ctx g row => d.write8 ctx (rGlmRepcmd g) (repWord 1 row)
  | .repcmdHard ctx g row => d.write8 ctx (rGlmRepcmd g) (repWord 2 row)
  | .repcmdHardall ctx g => d.write8 ctx (rGlmRepcmd g) (3 * 2 ^ 60)
  | .pageWalk cache ctx va write who => d.pageWalk cache ctx va write who
  | .faultRecordWrite fid => d.faultRecordWrite fid
  | .faultQueueConsWrite ctx n val => d.write4 ctx (rCrownFqcons n) val
  | .faultRetry ctx id => d.write8 ctx rCrownFresume (2 ^ 62 + id)
  | .faultFail ctx id => d.write8 ctx rCrownFresume (2 * 2 ^ 62 + id)
  | .faultTimeout fid => d.faultFailed fid
  | .faultcfgWrite ctx val => d.write4 ctx rCrownFaultcfg val
  | .ringEnable ctx ring val => d.write4 ctx (ringRegs ring).ctl (putBits val 31 31 1)
  | .ringDisable ctx ring val => d.write4 ctx (ringRegs ring).ctl (putBits val 31 31 0)
  | .fabricInboundAccess dev seq base store off len data => d.arrive dev base ⟨seq, !store, off, if store then data.length else len, data, false⟩
  | .fadmitWrite ctx unit val => d.write4 ctx (rCrownFadmit unit) val
  | .fadmitReclaim ctx unit val => d.write4 ctx (rCrownFadmit unit) (putBits val 29 29 1)
  | .fadmitRevoke ctx unit val => d.write4 ctx (rCrownFadmit unit) (putBits (putBits val 31 30 0) 29 29 0)
  | .reclaimNotice dev unit notice => d.reclaimNotice dev unit notice
  | .lendRelease ctx val => d.write8 ctx rCrownLendrel val
  | .lendReleaseReceived dev unit => d.lendReleased dev unit
  | .lendNoticeExpiry unit => d.lendExpired unit
  | .invalidate run => d.invalidate run
  | .invalidateComplete run => d.invalidateComplete run
  | .sccmdWball ctx k => d.write4 ctx (rSccmd k) 1
  | .sccmdFlushall ctx k => d.write4 ctx (rSccmd k) 2
  | .sccmdDone k => d.sweepDone k
  | .cacheInitDone k => d.cacheInitDone k
  | .cacheMiss k line streaming victim => d.cacheMiss k line streaming victim
  | .cacheFillReturn k line evict => d.cacheFill k line evict
  | .seqdetTimeout k region => d.seqTimeout k region
  | .ntbufIdleDrain n => d.ntIdle n
  | .fabricStoreTimeout id => d.fabStoreTimeout id
  | .fabricLoadTimeout id => d.fabLoadTimeout id
  | .submissionDoorbell ctx page idx val => d.doorbell ctx page idx val false
  | .cqConsumerDoorbell ctx page idx val => d.doorbell ctx page idx val true
  | .slotFetch q => d.slotFetch q
  | .slotRefetch q => d.slotRefetch q
  | .commandDispatch q => d.dispatch q
  | .nop q => d.flowNop q
  | .fenceWait q => d.flowFenceWait q
  | .fenceReevaluate q => d.fenceReevaluate q false
  | .fencePoll q => d.fenceReevaluate q true
  | .fenceSweep => d.fenceSweep
  | .fenceWatchdogTick => d.watchdogTick
  | .fenceSignal q => d.flowFenceSignal q
  | .fenceSignalPerform q => (d.signalPerform q).destroyTick
  | .cond q => d.flowCond q
  | .loop q => d.flowLoop q
  | .jump q => d.flowJump q
  | .call q => d.flowCall q
  | .retCmd q => d.flowReturn q
  | .paramSet q => d.flowParam q 0
  | .paramLoad q => d.flowParam q 1
  | .paramAdd q => d.flowParam q 2
  | .patch q => d.flowPatch q
  | .createQueue run => d.createQueue run
  | .destroyQueue run => d.destroyQueue run
  | .destroyQueueTimeout run => d.destroyQueueTimeout run
  | .engineAbort run => d.engineAbort run
  | .queueHalt run => d.queueCtl run 1
  | .queueResume run => d.queueCtl run 2
  | .queueResumeRetry run => d.queueCtl run 3
  | .queueSetprio run => d.queueCtl run 4
  | .createCq run => d.createCq run
  | .destroyCq run => d.destroyCq run
  | .kernel run => d.kernel run
  | .kernelComplete run => d.kernelComplete run
  | .completionEntryWrite run => (d.completionWrite run).destroyTick
  | .flushingRead run p => d.flushingRead run p
  | .qinfoRead ctx => d.readOut ctx rCpQinfo0 8
  | .cqinfoRead ctx => d.readOut ctx rCpCqinfo0 8
  | .createContext run => d.createContext run
  | .destroyContext run => d.destroyContext run
  | .destroyContextTimeout run => d.destroyContextTimeout run
  | .contextSuspend run => d.contextSuspend run
  | .contextResume run => d.contextResume run
  | .suspendTimeout run => d.suspendTimeout run
  | .groupGrant => d.groupGrant
  | .sliceEnd => d.sliceEnd
  | .idleRelease ctx => d.idleRelease ctx
  | .clusterYielded t c => d.clusterYielded (clsKey t c)
  | .yieldwaitExpiry ctx => d.yieldWaitExpiry ctx
  | .saveComplete ctx => d.saveComplete ctx
  | .sessionOpen run => d.sessionOpen run
  | .sessionModify run => d.sessionModify run
  | .sessionClose run => d.sessionClose run
  | .pktSend run => d.pktSend run
  | .dtmfSend run => d.dtmfSend run
  | .frameBoundary sid => d.frameBoundary sid
  | .outprodRead sid => d.outprodRead sid
  | .progressBlockWrite sid => d.progressBlock sid
  | .mediaFrameReceive p fcsOk authOk frame plain => d.mediaFrame p fcsOk authOk frame plain
  | .sample run => d.sample run
  | .sampleVector run => d.sampleVector run
  | .hwaAccess p write off size val => d.hwa p write off size val
  | .hwbDoorbellWrite p off size val => d.hwb p off size val
  | .apertureAccess p write off len data => d.apertureAccess p write off len data
  | .configRequest p req => d.configRequest p req
  | .rootInboundRequest p write addr len data => d.rootInbound p write addr len data
  | .linkLossStart p => d.linkDown p
  | .linkLossGraceExpiry p => d.lossGrace p
  | .functionLevelReset p => d.functionLevelReset p
  | .hostLinkUp p speed width => d.hostLinkUp p speed width
  | .portRearm ctx p => d.write4 ctx (rHpPortctl p) (putBits (d.reg (rHpPortctl p)) 0 0 1)
  | .copy run => d.copy run
  | .copyDescriptor run => d.copyDescriptor run
  | .rangeWb run => d.rangeWb run
  | .allreduce run => d.collective run 0x70
  | .allgather run => d.collective run 0x71
  | .reduceScatter run => d.collective run 0x72
  | .collectiveChunkReceive run rank chunk data poison => d.collChunk run rank chunk data poison
  | .collectiveFieldsExchange run rank fields => d.collMeet run rank fields
  | .collTimeout run => d.collTimeout run
  | .fabricResponseReceive id status data => d.response id status data
  | .fabricResendTimer id => d.resend id
  | .broadcastStoreReceive dev seq base off data answer => d.broadcast dev seq base off data answer
  | .linkFailure p => d.linkLoss p
  | .helloMissTimeout p => d.helloMissed p
  | .laneFailure p lane => d.setLanes p ((d.fport p).lanes &&& ~~~((1 : BitVec 8) <<< lane))
  | .linkStateReceive m => d.linkStateReceive m
  | .helloTimer => d.helloSend
  | .helloReceive p h => d.helloReceive p h
  | .portDownDeclare p => d.portDeclare p
  | .electionSettle => d.electionSettle
  | .assignReceive p coord => d.assignReceive p coord
  | .readyReportReceive dev => d.readyReport dev
  | .fabricReadyReceive => if d.feSpeaks && d.bit rFeId 31 then d.feReady else d
  | .moduleRemoval p => d.moduleOut p
  | .moduleInsertion p kind oui sncrc => d.moduleIn p kind oui sncrc
  | .linkTrained p lanes => d.linkTrained p lanes
  | .portRetrain ctx p => d.write4 ctx (rFePortctl p) (putBits (d.reg (rFePortctl p)) 30 30 1)
  | .routeqWrite ctx val => d.write4 ctx rFeRouteq val
  | .pmUpdate est => d.pmUpdate est
  | .pmCalibration est meas power mv ma => d.pmCalibration est meas power mv ma
  | .sensorScan temps => d.sensorScan temps
  | .droopTrip t c => d.droopTrip t c
  | .droopRecoveryStep t c => d.droopStep t c
  | .pwrlimAssert => d.pwrlim true
  | .pwrlimRelease => d.pwrlim false
  | .bmcCapWrite val => d.bmcCap val
  | .inputSoftStart => d.softStart
  | .inputGood straps => d.inputGood straps
  | .inputDip => d.inputDip
  | .powerLoss => d.powerLoss
  | .pkgclkLoss => d.pkgclkLoss
  | .warmReset cause p failed discarded => d.warmReset cause p failed discarded
  | .warmrstAssert => d.warmrstLow
  | .warmrstRelease => d.warmrstHigh
  | .bootStep badImages badDies badFuses badCores => d.boot badImages badDies badFuses badCores
  | .spStage ctx cls => d.write8 ctx rSpCmd (1 * 2 ^ 60 + cls * 2 ^ 57)
  | .spActivate ctx cls => d.write8 ctx rSpCmd (2 * 2 ^ 60 + cls * 2 ^ 57)
  | .imageReadyReport cls => d.imageReady cls
  | .activateTimeout cls => d.activateTimeout cls
  | .spCommit ctx cls => d.write8 ctx rSpCmd (3 * 2 ^ 60 + cls * 2 ^ 57)
  | .spAttest ctx => d.write8 ctx rSpCmd (4 * 2 ^ 60)
  | .spGetcert ctx => d.write8 ctx rSpCmd (5 * 2 ^ 60)
  | .spCalwrite ctx => d.write8 ctx rSpCmd (6 * 2 ^ 60)
  | .spCalapply ctx => d.write8 ctx rSpCmd (7 * 2 ^ 60)
  | .errorRecordWrite => d.errorWrite
  | .selftestCluster ctx t grp force => d.write8 ctx rCrownStcmd (testWord 1 force t grp)
  | .selftestHbmcal ctx => d.write8 ctx rCrownStcmd (testWord 2 false 0 0)
  | .selftestDielink ctx slot force => d.write8 ctx rCrownStcmd (testWord 3 force slot 0)
  | .selftestMemtest ctx force => d.write8 ctx rCrownStcmd (testWord 4 force 0 0)
  | .selftestArraytest ctx force => d.write8 ctx rCrownStcmd (testWord 5 force 0 0)
  | .selftestSweep ctx force => d.write8 ctx rCrownStcmd (testWord 6 force 0 0)
  | .selftestDone found badSpares => d.testDone found badSpares
  | .sweepTimer => d.sweepTimer
  | .cpHeartbeatMiss => d.cpMissed
  | .svcWreg off val => d.svcWreg off (val % 2 ^ 32)
  | .svcRreg off => d.svcRreg off
  | .svcWdata data => d.svcWdata data
  | .svcRdata len => d.svcRdata len
  | .svcFrameTimeout => d.svcRefused
  | .mbPrivateWrite off data => d.mbPrivateWrite off data
  | .mbPrivateRead => d.mbPrivateRead
  | .mbAddressAssign addr => if d.mbAnswers then { d with pins := { d.pins with dynaddr := some addr } } else d
  | .jtagBypass => d.jtag .bypass
  | .jtagIdcode => { (d.jtag .idcode) with out := leBytes 4 0x1720054F, outBad := false }
  | .jtagSamplePreload => d.jtag .samplePreload
  | .jtagExtest => d.jtag .extest
  | .jtagExtestPulse => d.jtag .extestPulse
  | .jtagExtestTrain => d.jtag .extestTrain
  | .jtagClamp => d.jtag .clamp
  | .jtagHighz => d.jtag .highz
  | .cpFirmwareRestartDone => d.cpRestarted
  | .coreOfflineDone n => d.coreOfflineDone n
  | .mediaLinkChange p up => d.mediaLink p up
  | .moduleReady p => d.moduleReady p
  | .fabricLaneRetrained p lane => d.setLanes p ((d.fport p).lanes ||| ((1 : BitVec 8) <<< lane))
  | .flitCrcFailure p => d.addSat (rFePortstat p) 31 0 1
  | .fabricTransitPacket dst detours detoured => d.transit dst (max detours (if detoured then 1 else 0))
  | .inputCurrentLimit on => d.currentLimit on
  | .hbmRepairComplete g failed => d.repairDone g failed
  | .functionResetDone p => d.functionDone p
  | .fePortEnWrite ctx p en => d.write4 ctx (rFePortctl p) (if en then 2 ^ 31 else 0)
  | .mediaFrameTransmitted p => d.mediaSent p
  | .moduleWearUpdate p days bias => d.moduleWear p days bias

/-- exec of a command: its effect when its operands are in range, the fault of ill-formed operands otherwise. -/
theorem exec_does (i : Instr) (s : State) : exec i s = doCmd i.wf (does i) s := by
  cases i <;> rfl

/-- A well-formed command answers its effect and leaves the queue. -/
theorem exec_next {i : Instr} (s : State) (h : i.wf = true) : exec i s = .next { s with dev := does i s.dev } := by
  rw [exec_does, doCmd_ok _ _ h]

/-- A command that is not well formed stops. -/
theorem exec_stop {i : Instr} (s : State) (h : i.wf = false) : exec i s = .fault .illFormed := by
  rw [exec_does, doCmd_bad _ _ h]

end Sys2Proof.Machine
end

