-- ==== Sys2Proof/Tests/Slice0.lean ====
section
/-! SUPPORT. Tests: a term that each check of WellFormed refuses, words of the encoding tables, and states that meet the
hypotheses of the statements. -/

namespace Sys2Proof.Tests

open Sys2Proof Sys2Proof.Machine

set_option Elab.async false

/-! ## States -/

/-- A device that has booted: input good, clock, boot step 8; the listed registers hold the listed values. -/
def up (regs : List (Nat × Nat)) : Dev :=
  let d := State.reset.dev
  let d := { d with pm := { d.pm with input := .good }, pins := { d.pins with pkgclk := true }, sup := { d.sup with bootStep := 8 } }
  regs.foldl (fun d e => d.setReg e.1 e.2) d

/-- A state with a device and an empty queue. -/
def st (d : Dev) : Machine.State := { State.reset with dev := d }

/-- Die slots that are ACTIVE. -/
def active (l : List Nat) : List (Nat × Nat) := l.map (fun i => (rCrownDiestat i, 0))

/-- Every interleave set is online. -/
def memory : List (Nat × Nat) := active ((List.range 12).map (fun g => 11 + g)) ++ (List.range 12).map (fun g => (rGlmStat g, 1))

/-- Core n executes at level `lvl`, from 0x1000, with x1 and x2. -/
def core (n lvl x1 x2 : Nat) : Machine.State :=
  st ((up (memory ++ active [9 + n / 48] ++ [(rCorestat n, 0)])).setCore n (fun c =>
    { c with pc := 0x1000, level := lvl, x := [(1, BitVec.ofNat 64 x1), (2, BitVec.ofNat 64 x2)] }))

/-- The same, with control registers. -/
def coreCsr (n lvl : Nat) (l : List (Nat × Nat)) : Machine.State :=
  st ((core n lvl 0 0).dev.setCore n (fun c => l.foldl (fun c e => c.setCsr e.1 e.2) c))

/-- Core 95 runs at M. -/
theorem test_core_runs : CoreRuns (core 95 3 0 0) 95 3 ∧ CoreRuns (core 0 0 0 0) 0 0 := by
  unfold CoreRuns; decide +kernel

/-- A sheaf of an ACTIVE Tiller runs on an enabled cluster, its first `n` lanes active. -/
def sheaf (t c r k n : Nat) : Machine.State :=
  st ((up (memory ++ active [slotTil t] ++ [(rTilClsmapl t, 2 ^ 64 - 1), (rTilClsmaph t, 2 ^ 20 - 1)])).setSheaf (sheafKey t c r k) (fun x =>
    { x with st := .running, pc := 0x1000, mask := BitVec.ofNat 256 (2 ^ n - 1) }))

/-- A command with opcode `op` and the listed words. -/
def cmd (op : Nat) (l : List (Nat × Nat)) : Cmd :=
  { words := l.foldl (fun w e => w.set e.1 (BitVec.ofNat 32 e.2)) ((List.replicate 16 0).set 0 (BitVec.ofNat 32 (op * 2 ^ 23))), seq := 0, place := .ring }

/-- A device whose CP runs, with run 7 of a command on queue 256 of context 1. -/
def running (op : Nat) (l : List (Nat × Nat)) (cls : Nat) (f : Run → Run) (regs : List (Nat × Nat)) : Dev :=
  let d := up (memory ++ [(rCpStat, 2 ^ 31), (rSeStat, 2 ^ 31)] ++ regs)
  { d with cp := { d.cp with runs := [(7, f { qid := 256, cmd := cmd op l, cls := cls })] } }

/-- Translation of an address whose leaf the cache holds as the tables have it changes nothing, whether or not it is kept. -/
theorem translate_stays {d : Dev} {k ctx va : Nat} {op : Acc3} {e : Nat} (hva : va < 2 ^ 56)
    (hs : SMap.find (d.ms.tlb.get [] k) (tlbKey ctx false va) = some { pte := BitVec.ofNat 64 e, huge := false })
    (hh : SMap.find (d.ms.tlb.get [] k) (tlbKey ctx true va) = none) (hw : d.walk ctx va = .leaf e 3) (he : (BitVec.ofNat 64 e).toNat = e)
    (hu : { d with ms := { d.ms with tlb := d.ms.tlb.upd [] k (fun t =>
      SMap.set t (tlbKey ctx false va) { pte := BitVec.ofNat 64 e, huge := false }) } } = d) (hp : ptePermits e op = true) :
    d.translate k ctx va op = (.ok e 3, d) := by
  unfold Dev.translate Dev.translateBy Dev.tlbFind
  rw [if_neg (by omega)]
  simp only [hh, hs, hw, Option.map_none, ite_self, if_false, Bool.false_eq_true, Option.map_some, he]
  split
  · next h => split at h <;> simp_all
  · next h => split at h <;> simp_all

/-! ## A page of context 1 that the engines' translation cache holds -/

/-- The device with `bytes` at address 0, which context 1 reaches by its first page, and the tables that map it. -/
def paged (d : Dev) (bytes : List (BitVec 8)) : Dev :=
  let d := [0, 1, 2].foldl (fun (d : Dev) g => d.setReg (rGlmGot g 0) (2 * 2 ^ 30)) (d.setReg (rCrownCtxxlt 1) 0x100001)
  let m := [(0x100000, 0x120001), (0x120000, 0x140001), (0x140000, 0xF)].foldl (fun m e => Memory.writeN m e.1 (leBytes 8 e.2)) ([] : Memory)
  { d with ms := { d.ms with mem := Memory.writeN m 0 bytes, tlb := [(20, [(tlbKey 1 false 0, { pte := 0xF, huge := false })])] } }

/-- What a read of bytes of one line of that page needs. -/
def readable (d : Dev) (va n : Nat) : Bool :=
  decide (va < 65536 ∧ SMap.find (d.ms.tlb.get [] 20) (tlbKey 1 false va) = some { pte := 0xF, huge := false } ∧
    SMap.find (d.ms.tlb.get [] 20) (tlbKey 1 true va) = none ∧ d.walk 1 va = .leaf 0xF 3 ∧
    d.ms.tlb.upd [] 20 (fun t => SMap.set t (tlbKey 1 false va) { pte := 0xF, huge := false }) = d.ms.tlb ∧
    d.leafHome 0xF 3 va = .hbm va ∧ d.verdict (.hbm va) 1 false = .pass ∧ d.badHome (.hbm va) n = false ∧
    (va % 128 + n + 127) / 128 = 1 ∧ d.lineBad (va / 128) = false)

/-- Reads of a readable page by an engine succeed and change nothing, whatever the cache keeps. -/
theorem readable_pieces {d : Dev} {w : Who} (hc : w.ctx = 1) (ht : w.tlb = 20) (hv : w.via = .engine) (ps : List (Nat × Nat))
    (h : ps.all (fun p => readable d p.1 p.2) = true) :
    d.readPieces w ps = (.ok, ps.flatMap (fun p => d.readHome (.hbm p.1) p.2), false, d) := by
  induction ps with
  | nil => rfl
  | cons p ps ih =>
    rw [List.all_cons, Bool.and_eq_true] at h
    obtain ⟨h, hs⟩ := h
    unfold readable at h
    obtain ⟨h0, h1, h2, h3, h4, h6, h7, h8, h9, h10⟩ := of_decide_eq_true h
    have ht' : d.translate w.tlb w.ctx p.1 .read = (.ok 0xF 3, d) := by
      rw [hc, ht]
      exact translate_stays (by omega) h1 h2 h3 (by decide) (congrArg (fun t => ({ d with ms := { d.ms with tlb := t } } : Dev)) h4) (by decide)
    have hr : d.resolve w p.1 .read = (.ok, .hbm p.1, false, d) := by
      unfold Dev.resolve; rw [ht']; simp only [h6]; rfl
    have hp : d.poisonRead .engine (.hbm p.1) p.2 = d := by
      simp [Dev.poisonRead, h9, h10]
    obtain ⟨va, n⟩ := p
    simp only at hr h7 h8 hp
    unfold Dev.readPieces
    simp only [hr, Dev.readPiece, hc, h7, h8, hv, hp]
    simp [Dev.loadLine, Home.key, ih hs]

/-- A device whose CP runs, with one queue of context 1, which may use the first granule. -/
def queued (x : Queue) (regs : List (Nat × Nat)) : Dev :=
  let d := up (memory ++ [(rCpStat, 2 ^ 31), (rCpCtxdesc 1, 2 ^ 61), (rGlmGot 0 0, 2 * 2 ^ 30)] ++ regs)
  { d with cp := { d.cp with queues := [(256, x)], cqs := [(3, { ctx := 1, cqx := 255 })] } }

/-! ## Ill-formed operands -/

/-- Each kind of operand one past its range, and the last value in it. -/
theorem test_wf_units :
    Agent.wf (.core 96) = false ∧ Agent.wf (.core 95) = true ∧
    Agent.wf (.sheaf 8 0 0 0) = false ∧ Agent.wf (.sheaf 0 84 0 0) = false ∧ Agent.wf (.sheaf 0 0 16 0) = false ∧
    Agent.wf (.sheaf 0 0 0 8) = false ∧ Agent.wf (.sheaf 7 83 15 7) = true ∧
    RowId.wf ⟨8, 0, 0⟩ = false ∧ RowId.wf ⟨0, 84, 0⟩ = false ∧ RowId.wf ⟨0, 0, 16⟩ = false ∧ RowId.wf ⟨7, 83, 15⟩ = true ∧
    DramRow.wf ⟨16, 0, 0, 0⟩ = false ∧ DramRow.wf ⟨0, 2, 0, 0⟩ = false ∧ DramRow.wf ⟨0, 0, 64, 0⟩ = false ∧
    DramRow.wf ⟨0, 0, 0, 131072⟩ = false ∧ DramRow.wf ⟨15, 1, 63, 131071⟩ = true ∧
    FabTx.flooded (.linkState 32768 0 true) = false ∧ FabTx.flooded (.linkState 0 16 true) = false ∧
    FabTx.flooded (.presence 32768 0) = false ∧ FabTx.flooded (.ready 0) = false ∧ FabTx.flooded (.linkState 32767 15 true) = true := by
  decide +kernel

/-! Commands with one operand out of its range. -/

theorem test_wf_refuses_1 :
    ∀ i ∈ [Instr.registerWrite 4096 0 4 0, .registerWrite 0 (2 ^ 64) 4 0, .registerWrite 0 0 3 0, .registerWrite 0 0 4 (2 ^ 64),
      .pathLowWordWrite .service (2 ^ 64) 0, .pathLowWordWrite .service 0 (2 ^ 64), .pathHighWordWrite .service (2 ^ 64) 0,
      .pathHighWordWrite .service 0 (2 ^ 64), .pathLowWordRead .service (2 ^ 64), .pathHighWordRead .service (2 ^ 64),
      .mcastLineDeliver 0 8, .dieLoss 23, .heartbeatMiss 23, .dieRejoin 23 true true true [], .dieResetReq 4096 0, .dieResetReq 0 23,
      .dieOfflineReq 4096 0, .dieOfflineReq 0 23, .dieOnlineReq 4096 0, .dieOnlineReq 0 23, .dieDrainDone 23, .clusterFailure 8 0 [],
      .clusterFailure 0 84 [], .add (.core 96) ⟨0, 0, 0, 0⟩, .sync (.core 96) ⟨0, 0, 0, 0⟩, .evclaimRead (.core 96) 0,
      .sbarComplete ⟨8, 0, 0⟩, .wfillStart ⟨8, 0, 0⟩, .wfillDone ⟨8, 0, 0⟩, .passStart ⟨8, 0, 0⟩, .chunkInjection ⟨8, 0, 0⟩ true true,
      .passComplete ⟨8, 0, 0⟩, .accrdDrain ⟨8, 0, 0⟩, .interruptTaken 96, .timerExpiry 96 true, .deferredError 96, .eventDelivery 2048,
      .evraise 4096 0, .evraise 0 2048, .coreOffline 4096 0, .coreOffline 0 96, .coreOnline 4096 0, .coreOnline 0 96,
      .coreSelftestDone 96 true, .coreFailed 96, .glumeRead 12 0 0 0 ⟨0, 0, 0, 0⟩, .glumeRead 0 4096 0 0 ⟨0, 0, 0, 0⟩,
      .glumeRead 0 0 0 0 ⟨16, 0, 0, 0⟩, .glumeWrite 12 0 0 1 [0], .glumeWrite 0 4096 0 1 [0], .glumeWrite 0 0 0 0 [],
      .glumeWrite 0 0 0 1 [], .stackTempRead 12 0, .channelRecal 12 0, .channelRecal 0 16, .scrubRead 12 0 0 ⟨0, 0, 0, 0⟩,
      .scrubRead 0 0 0 ⟨16, 0, 0, 0⟩, .softRepair 12 ⟨0, 0, 0, 0⟩, .softRepair 0 ⟨16, 0, 0, 0⟩, .hardRepair 12 ⟨0, 0, 0, 0⟩,
      .hardRepair 0 ⟨16, 0, 0, 0⟩, .repcmdSoft 4096 0 ⟨0, 0, 0, 0⟩, .repcmdSoft 0 12 ⟨0, 0, 0, 0⟩, .repcmdSoft 0 0 ⟨16, 0, 0, 0⟩,
      .repcmdHard 4096 0 ⟨0, 0, 0, 0⟩, .repcmdHard 0 12 ⟨0, 0, 0, 0⟩, .repcmdHard 0 0 ⟨16, 0, 0, 0⟩, .repcmdHardall 4096 0,
      .repcmdHardall 0 12, .pageWalk 128 0 0 true (.core 0)], i.wf = false := by
  decide +kernel

theorem test_wf_refuses_2 :
    ∀ i ∈ [Instr.pageWalk 0 4096 0 true (.core 0), .pageWalk 0 0 (2 ^ 64) true (.core 0), .faultRecordWrite 65536,
      .faultQueueConsWrite 4096 0 0, .faultQueueConsWrite 0 16 0, .faultQueueConsWrite 0 0 (2 ^ 64), .faultRetry 4096 0,
      .faultFail 4096 0, .faultTimeout 65536, .faultcfgWrite 4096 0, .faultcfgWrite 0 (2 ^ 64), .ringEnable 4096 0 0, .ringEnable 0 20 0,
      .ringEnable 0 0 (2 ^ 64), .ringDisable 4096 0 0, .ringDisable 0 20 0, .ringDisable 0 0 (2 ^ 64),
      .fabricInboundAccess 32768 0 0 true 0 1 [0], .fabricInboundAccess 0 0 0 true (2 ^ 64) 1 [0],
      .fabricInboundAccess 0 0 0 true 0 0 [], .fabricInboundAccess 0 0 0 true 0 1 [], .fadmitWrite 4096 0 0, .fadmitWrite 0 1152 0,
      .fadmitWrite 0 0 (2 ^ 64), .fadmitReclaim 4096 0 0, .fadmitReclaim 0 1152 0, .fadmitReclaim 0 0 (2 ^ 64), .fadmitRevoke 4096 0 0,
      .fadmitRevoke 0 1152 0, .fadmitRevoke 0 0 (2 ^ 64), .reclaimNotice 32768 0 0, .reclaimNotice 0 1152 0, .reclaimNotice 0 0 65536,
      .lendRelease 4096 0, .lendRelease 0 (2 ^ 64), .lendReleaseReceived 32768 0, .lendReleaseReceived 0 1152, .lendNoticeExpiry 1152,
      .sccmdWball 4096 0, .sccmdWball 0 10, .sccmdFlushall 4096 0, .sccmdFlushall 0 10, .sccmdDone 10, .cacheInitDone 10,
      .cacheMiss 106 0 true none, .cacheFillReturn 106 0 none, .seqdetTimeout 106 0, .ntbufIdleDrain 96, .submissionDoorbell 4096 0 0 0,
      .submissionDoorbell 0 4096 0 0, .submissionDoorbell 0 0 256 0, .submissionDoorbell 0 0 0 (2 ^ 64), .cqConsumerDoorbell 4096 0 0 0,
      .cqConsumerDoorbell 0 4096 0 0, .cqConsumerDoorbell 0 0 256 0, .cqConsumerDoorbell 0 0 0 (2 ^ 64), .slotFetch (2 ^ 20),
      .slotRefetch (2 ^ 20), .commandDispatch (2 ^ 20), .nop (2 ^ 20), .fenceWait (2 ^ 20), .fenceReevaluate (2 ^ 20),
      .fencePoll (2 ^ 20), .fenceSignal (2 ^ 20), .fenceSignalPerform (2 ^ 20), .cond (2 ^ 20), .loop (2 ^ 20), .jump (2 ^ 20),
      .call (2 ^ 20), .retCmd (2 ^ 20)], i.wf = false := by
  decide +kernel

theorem test_wf_refuses_3 :
    ∀ i ∈ [Instr.paramSet (2 ^ 20), .paramLoad (2 ^ 20), .paramAdd (2 ^ 20), .patch (2 ^ 20), .flushingRead 0 6, .qinfoRead 4096,
      .cqinfoRead 4096, .idleRelease 4096, .clusterYielded 8 0, .clusterYielded 0 84, .yieldwaitExpiry 4096, .saveComplete 4096,
      .frameBoundary 131072, .outprodRead 131072, .progressBlockWrite 131072, .mediaFrameReceive 2 true true [] [],
      .hwaAccess 6 true 0 4 0, .hwaAccess 0 true (2 ^ 64) 4 0, .hwaAccess 0 true 0 3 0, .hwaAccess 0 true 0 4 (2 ^ 64),
      .hwbDoorbellWrite 6 0 4 0, .hwbDoorbellWrite 0 (2 ^ 64) 4 0, .hwbDoorbellWrite 0 0 3 0, .hwbDoorbellWrite 0 0 4 (2 ^ 64),
      .apertureAccess 6 true 0 1 [0], .apertureAccess 0 true (2 ^ 64) 1 [0], .apertureAccess 0 true 0 0 [],
      .apertureAccess 0 true 0 1 [], .configRequest 6 (.read 0), .rootInboundRequest 6 true 0 1 [0],
      .rootInboundRequest 0 true (2 ^ 64) 1 [0], .rootInboundRequest 0 true 0 0 [], .rootInboundRequest 0 true 0 1 [], .linkLossStart 6,
      .linkLossGraceExpiry 6, .functionLevelReset 6, .hostLinkUp 6 0 0, .portRearm 4096 0, .portRearm 0 6,
      .broadcastStoreReceive 32768 0 0 0 [] none, .broadcastStoreReceive 0 0 0 (2 ^ 64) [] none,
      .broadcastStoreReceive 0 0 0 127 [0, 0] none, .linkFailure 16, .helloMissTimeout 16, .laneFailure 16 0, .laneFailure 0 8,
      .linkStateReceive .fabricReady, .helloReceive 16 ⟨0, 0, none, 0, 0, 0, 0, false⟩, .portDownDeclare 16, .assignReceive 16 0,
      .assignReceive 0 32768, .readyReportReceive 32768, .moduleRemoval 16, .moduleInsertion 16 0 0 0, .linkTrained 16 0,
      .portRetrain 4096 0, .portRetrain 0 16, .routeqWrite 4096 0, .routeqWrite 0 (2 ^ 64), .pmUpdate [], .pmCalibration [] [] 0 0 0,
      .pmCalibration [] [] 0 0 0, .sensorScan [], .droopTrip 8 0, .droopTrip 0 84, .droopRecoveryStep 8 0, .droopRecoveryStep 0 84,
      .bmcCapWrite (2 ^ 64), .warmReset 5 0 [] 0, .warmReset 1 6 [] 0], i.wf = false := by
  decide +kernel

theorem test_wf_refuses_4 :
    ∀ i ∈ [Instr.spStage 4096 0, .spStage 0 7, .spActivate 4096 0, .spActivate 0 7, .imageReadyReport 7, .activateTimeout 7,
      .spCommit 4096 0, .spCommit 0 7, .spAttest 4096, .spGetcert 4096, .spCalwrite 4096, .spCalapply 4096,
      .selftestCluster 4096 0 0 true, .selftestCluster 0 8 0 true, .selftestCluster 0 0 16 true, .selftestHbmcal 4096,
      .selftestDielink 4096 0 true, .selftestDielink 0 23 true, .selftestMemtest 4096 true, .selftestArraytest 4096 true,
      .selftestSweep 4096 true, .svcWreg (2 ^ 64) 0, .svcWreg 0 (2 ^ 64), .svcRreg (2 ^ 64), .svcWdata [], .svcRdata 4097,
      .mbPrivateWrite (2 ^ 64) none, .mbAddressAssign 128, .coreOfflineDone 96, .mediaLinkChange 2 true, .moduleReady 16,
      .fabricLaneRetrained 16 0, .fabricLaneRetrained 0 8, .flitCrcFailure 16, .fabricTransitPacket 0 5 true, .hbmRepairComplete 12 true,
      .functionResetDone 6, .fePortEnWrite 4096 0 true, .fePortEnWrite 0 16 true, .mediaFrameTransmitted 2, .moduleWearUpdate 16 0 0], i.wf = false := by
  decide +kernel
/-! ## Words of the encoding tables (R85 to R87), field by field: FN, FN2, RB, RA, RD, OP -/

/-- A word of each group, and reserved ones. -/
theorem test_decode_words :
    ∀ p ∈ ([((.core 7), 0b000000_00000_00010_00001_00011_000001, some (.add (.core 7) ⟨0, 2, 1, 3⟩)),
      ((.core 7), 0b000101_00000_11111_11110_11101_000001, some (.andn (.core 7) ⟨0, 31, 30, 29⟩)),
      ((.sheaf 1 2 3 4), 0b010000_00111_00010_00001_00011_000001, some (.addc (.sheaf 1 2 3 4) ⟨7, 2, 1, 3⟩)),
      ((.sheaf 1 2 3 4), 0b010101_00011_00010_00001_00011_000001, some (.sel (.sheaf 1 2 3 4) ⟨3, 2, 1, 3⟩)),
      ((.core 7), 0b011010_00000_00010_00001_00011_000001, some (.sraW (.core 7) ⟨0, 2, 1, 3⟩)),
      ((.core 7), 0b001100_00000_00010_00001_00011_001011, some (.remuW (.core 7) ⟨0, 2, 1, 3⟩)),
      ((.core 7), 0b1000000000000000_00001_00011_000010, some (.addi (.core 7) ⟨0x8000, 1, 3⟩)),
      ((.core 7), 0b0000000111111111_00001_00011_001000, some (.shi (.core 7) ⟨0x1FF, 1, 3⟩)),
      ((.core 7), 0b100000000000000000001_11111_001001, some (.lui (.core 7) ⟨0x100001, 31⟩)),
      ((.core 7), 0b1111111111111111_00001_00011_010110, some (.lwu (.core 7) ⟨0xFFFF, 1, 3⟩)),
      ((.core 7), 0b0000000000001000_00001_00011_011011, some (.sd (.core 7) ⟨8, 1, 3⟩)),
      ((.sheaf 1 2 3 4), 0b0000000000010000_00001_00011_011111, some (.slq (.sheaf 1 2 3 4) ⟨16, 1, 3⟩)),
      ((.core 7), 0b1111111111111110_00001_00010_100001, some (.bne (.core 7) ⟨0xFFFE, 1, 2⟩)),
      ((.core 7), 0b10000000000000000000000001_100110, some (.jal (.core 7) ⟨0x2000001⟩)),
      ((.core 7), 0b0000000000000100_00001_00011_100111, some (.jalr (.core 7) ⟨4, 1, 3⟩)),
      ((.core 7), 0b000100_00001_00000_00001_00011_101000, some (.fsqrt (.core 7) ⟨1, 0, 1, 3⟩)),
      ((.core 7), 0b000110_01001_00010_00001_00011_101001, some (.fnmadd (.core 7) ⟨1, 9, 2, 1, 3⟩)),
      ((.core 7), 0b000111_00000_00000_00001_00011_101010, some (.fcvtLD (.core 7) ⟨0, 0, 1, 3⟩)),
      ((.sheaf 1 2 3 4), 0b010010_10000_00010_00001_00011_101010, some (.npack (.sheaf 1 2 3 4) 2 ⟨0x10, 2, 1, 3⟩)),
      ((.core 7), 0b000011_00000_00000_00000_00000_101100, some (.syncD (.core 7) ⟨0, 0, 0, 0⟩)),
      ((.core 7), 0b001011_00111_00010_00001_00011_101101, some (.amoCas (.core 7) ⟨7, 2, 1, 3⟩)),
      ((.core 7), 0b0000000010000000_00001_00010_101110, some (.cinv (.core 7) ⟨128, 1⟩)),
      ((.core 7), 0b0000000000001000_00001_00011_101111, some (.stn (.core 7) ⟨8, 1, 3⟩)),
      ((.core 7), 0b0100000000000001_00001_00011_110000, some (.csrrw (.core 7) ⟨0x001, 1, 3⟩)),
      ((.sheaf 1 2 3 4), 0b1000000000000000_00000_00000_110000, some (.halt (.sheaf 1 2 3 4) ⟨0, 0, 0⟩)),
      ((.sheaf 1 2 3 4), 0b011011_00000_00010_00001_00111_110001, some (.pfcmpUn (.sheaf 1 2 3 4) ⟨0, 2, 1, 7⟩)),
      ((.sheaf 1 2 3 4), 0b0000000000000011_00101_00000_110011, some (.bnone (.sheaf 1 2 3 4) ⟨3, 5, 0⟩)),
      ((.sheaf 1 2 3 4), 0b000011_00101_00010_00001_00011_110100, some (.mpass (.sheaf 1 2 3 4) ⟨5, 2, 1, 3⟩)),
      ((.sheaf 1 2 3 4), 0b000101_00000_00000_00001_00011_110101, some (.sfuSig (.sheaf 1 2 3 4) ⟨0, 0, 1, 3⟩)),
      ((.sheaf 1 2 3 4), 0b000110_00000_00000_00001_00000_110110, some (.rngLoad (.sheaf 1 2 3 4) ⟨0, 0, 1, 0⟩)),
      ((.core 7), 0b000000_00000_00010_00001_00011_000000, none),
      ((.core 7), 0b011011_00000_00010_00001_00011_000001, none),
      ((.core 7), 0b000000_00000_00000_00000_00000_110111, none),
      ((.core 7), 0b000100_00000_00000_00000_00000_101100, none)] : List (Agent × BitVec 32 × Option Instr)),
      decodeGhety p.1 p.2.1 = p.2.2 ∧ (p.2.2.bind encode = p.2.2.map (fun _ => (p.1, p.2.1))) := by
  decide +kernel

/-- The table of commands gives no bits: no word spells a command, and the state to fetch from is the state. -/
theorem test_no_table_words : decodeTableWord 32 0b1 = none ∧ State.withFetchWord State.reset 32 0b1 = State.reset := by
  decide +kernel

/-! ## Hypotheses of the statements about cores -/

/-- CoreIntegerResults, CoreCountsAndImmediates: the bounds of SHI's amount and kind, and an illegal one. -/
theorem test_shi_forms :
    CoreRuns (core 5 0 1 2) 5 0 ∧
    (∀ p ∈ ([(0x003F, 63, 0, AluOp.sll), (0x00FF, 63, 3, .ror), (0x011F, 31, 0, .sll), (0x01DF, 31, 3, .ror), (0x01BF, 63, 2, .sra)] :
      List (BitVec 16 × Nat × Nat × AluOp)), (p.2.2.1, p.2.2.2) ∈ [(0, AluOp.sll), (1, .srl), (2, .sra), (3, .ror)] ∧ p.2.1 < 64 ∧
        (p.1.toNat = p.2.1 + 64 * p.2.2.1 ∨ p.1.toNat = p.2.1 + 64 * p.2.2.1 + 256)) ∧
    512 ≤ (0x0200 : BitVec 16).toNat := by
  unfold CoreRuns; decide +kernel

/-- ZeroRegisters: JAL at an aligned pc, on a core and in a sheaf with an active lane. -/
theorem test_zero_registers :
    CoreRuns (core 0 3 0 0) 0 0 ∧ ((core 0 3 0 0).dev.core 0).pc.toNat % 4 = 0 ∧
    SheafRuns (sheaf 7 83 15 7 1) 7 83 15 7 ∧ ((sheaf 7 83 15 7 1).dev.sheaf (sheafKey 7 83 15 7)).on 0 = true := by
  unfold CoreRuns SheafRuns; decide +kernel

/-- CoreTraps and ExceptionEntryAndReturns: each level. -/
theorem test_core_levels :
    (∀ l ∈ [0, 1, 3], CoreRuns (core 48 l 0 0) 48 0 ∧ ((core 48 l 0 0).dev.core 48).level = l) ∧
    ((core 48 3 0 0).dev.core 48).excToM 5 = true := by
  unfold CoreRuns; decide +kernel

/-- CoreSystemRegisters: an unknown number, a level too low, a register that is only read, one that is written, with ra 0 and not. -/
theorem test_system_registers :
    CoreRuns (core 5 0 0 0) 5 0 ∧ csrKind 0x7FF = none ∧ csrKind 0x300 = some (3, true) ∧ ((core 5 1 0 0).dev.core 5).level < 3 ∧
    csrKind 0x010 = some (0, false) ∧ csrKind 0x001 = some (0, true) ∧ 0 ≤ ((core 5 0 0 0).dev.core 5).level ∧
    (0x001 ≠ 0x10A ∧ 0x001 ≠ 0x30A) := by
  unfold CoreRuns; decide +kernel

/-- CoreEventsAndBarriers: event queues with and without an event; no store held; a line in HBM that passes; aligned addresses. -/
theorem test_events_and_barriers :
    (let s := core 5 3 0x8FFFFFFFF8 7
     let c := s.dev.core 5
     CoreRuns s 5 1 ∧ (c.level = 1 ∨ c.level = 3) ∧ c.evqM = [] ∧ c.nt = [] ∧ c.fence = [] ∧ s.dev.fabStores (· == .core 5) = [] ∧
     s.dev.coreXlt 5 0x8FFFFFFFF8 (.line true) = (.ok (.hbm 0x8FFFFFFFF8) 0x8FFFFFFFF8 0 false, s.dev) ∧
     s.dev.coreXlt 5 0x8FFFFFFFF8 .write = (.ok (.hbm 0x8FFFFFFFF8) 0x8FFFFFFFF8 0 false, s.dev) ∧ 0x8FFFFFFFF8 < 0x9000000000 ∧
     s.dev.ms.stale.find (0x8FFFFFFFF8 / 128) = none) ∧
    (let s := st ((core 5 1 0 0).dev.setCore 5 (fun c => { c with evqS := [7] }))
     CoreRuns s 5 1 ∧ (s.dev.core 5).evqS = [7] ∧ (s.dev.core 5).level = 1) := by
  unfold CoreRuns; decide +kernel

/-- CoreFpResults and CoreFpToIntegerAndSpecialValues: a rounding mode and none, NaNs, an overflow and an infinity. -/
theorem test_fp :
    CoreRuns (core 5 0 0 0) 5 0 ∧ ((core 5 0 0 0).dev.core 5).rm = some .rne ∧
    CoreRuns (coreCsr 5 0 [(0x001, 0x80)]) 5 0 ∧
    ((coreCsr 5 0 [(0x001, 0x80)]).dev.core 5).rm = none ∧
    (f32.unpack 0x7FC00000).isNaN = true ∧ (f64.unpack 0x7FF0000000000001).isNaN = true ∧ (f32.unpack 0).isNaN = false ∧
    f32.unpack 0xFF800000 = .inf true ∧ (toIntRound .rtz false 0xFFFFFF 104).1 > 2 ^ 31 - 1 ∧ (toIntRound .rtz true 0xFFFFFF 104).1 < -(2 ^ 31) := by
  unfold CoreRuns; decide +kernel

/-- CoreLoadsAndStores and CoreAtomicsAndReservations: the last aligned place of HBM, a misaligned one, a reservation held and none. -/
theorem test_core_memory :
    (let a := 0x8FFFFFFFF8
     let s := core 5 3 a 7
     let c := s.dev.core 5
     CoreRuns s 5 0 ∧ (c.getX 1 + BitVec.ofInt 64 (0 : BitVec 16).toInt).toNat = a ∧ a % 8 = 0 ∧ a < 0x9000000000 ∧
     (∀ op ∈ [Acc3.read, .write, .atomic], s.dev.coreXlt 5 a op = (.ok (.hbm a) a 0 false, s.dev)) ∧
     (∀ wr : Bool, s.dev.verdict (.hbm a) 0 wr = .pass) ∧ s.dev.badHome (.hbm a) 8 = false ∧ c.nt.all (fun x => x.line != a / 128) = true ∧
     c.nt = [] ∧ c.fence = [] ∧ s.dev.fabStores (· == .core 5) = [] ∧ c.resv ≠ some ⟨a, 8⟩) ∧
    (let s := st ((core 5 3 0x8FFFFFFFF8 7).dev.setCore 5 (fun c => { c with resv := some ⟨0x8FFFFFFFF8, 8⟩ }))
     CoreRuns s 5 0 ∧ (s.dev.core 5).resv = some ⟨0x8FFFFFFFF8, 8⟩) ∧
    (0x8FFFFFFFF9 % 8 ≠ 0 ∧ (7 : BitVec 5).toNat < 8) := by
  unfold CoreRuns; decide +kernel

/-! ## Hypotheses of the statements about sheaves -/

/-- LaneIntegersAndImmediates, LaneCarryAndSelect, LaneFloatResults, LaneGeneratorAndControl: operands at their bounds. -/
theorem test_lane_operands :
    SheafRuns (sheaf 0 0 0 0 256) 0 0 0 0 ∧ ((sheaf 0 0 0 0 256).dev.sheaf 0).on 255 = true ∧ ((sheaf 0 0 0 0 255).dev.sheaf 0).on 255 = false ∧
    ((sheaf 0 0 0 0 256).dev.sheaf 0).first = some 0 ∧ npackPosOk 9 0 = false ∧ npackPosOk 0 1 = true ∧ npackPosOk 4 3 = true ∧ npackPosOk 7 0 = true ∧
    (qscaleEmax 0).isSome = true ∧ qscaleF16Ok 4 = true ∧ (30 : BitVec 5).toNat ≤ 30 ∧ (28 : BitVec 5).toNat ≤ 28 := by
  unfold SheafRuns; decide +kernel

/-- LanePredicatesAndMasks: predicates set and clear, a stack that is empty, full and neither. -/
theorem test_lane_masks :
    (let s := sheaf 0 0 0 0 2
     let x := s.dev.sheaf 0
     SheafRuns s 0 0 0 0 ∧ x.stack = [] ∧ x.stack.length < 16 ∧ (∀ l < 256, x.on l = true → x.getP 7 l = false)) ∧
    (let s := st ((sheaf 0 0 0 0 2).dev.setSheaf 0 (fun x => { x with stack := List.replicate 16 1, p := [(7, 2)] }))
     let x := s.dev.sheaf 0
     SheafRuns s 0 0 0 0 ∧ 16 ≤ x.stack.length ∧ x.stack = 1 :: List.replicate 15 1 ∧ (∃ l < 256, x.on l = true ∧ x.getP 7 l = true)) := by
  unfold SheafRuns; decide +kernel

/-- LaneGeneratorAndControl: every sheaf of a row stands at the barrier. -/
theorem test_row_barrier :
    let u := st ((sheaf 7 83 15 7 1).dev.setSheaf (sheafKey 7 83 15 7) (fun x => { x with bar := true }))
    u.dev.dieActive (slotTil 7) = true ∧ u.dev.rowSheaves (rowKey 7 83 15) ≠ [] ∧
      ∀ j ∈ u.dev.rowSheaves (rowKey 7 83 15), (u.dev.sheaf j).bar = true := by
  decide +kernel

/-- LaneLocalAccesses: the last place of cluster SRAM, the first after it, a misaligned one. -/
theorem test_lane_local :
    let s := sheaf 0 0 0 0 1
    let at_ := fun (n : Nat) => (st (s.dev.setSheaf 0 (fun x => { x with v := [(2, [BitVec.ofNat 32 n])] }))).dev.sheaf 0
    SheafRuns s 0 0 0 0 ∧ (s.dev.sheaf 0).lanes = [0] ∧ ((at_ 0x1FFFF0).getV 2 0).toNat = 0x1FFFF0 ∧ 0x1FFFF0 % 16 = 0 ∧
    ((at_ 0x200000).getV 2 0).toNat = 0x200000 ∧ ((at_ 0x1FFFF1).getV 2 0).toNat % 4 ≠ 0 ∧
    s.dev.badHome (.sram 0 0 0x1FFFF0) 16 = false := by
  unfold SheafRuns; decide +kernel

/-- A sheaf that reaches HBM through one page of the tables of context 0, which the cache holds. -/
def mapped : Machine.State :=
  let d := (sheaf 1 0 0 0 1).dev.setReg (rCrownCtxxlt 0) 0x100001
  let m := [(0x100000, 0x120001), (0x120000, 0x140001), (0x140000, 0xF)].foldl (fun m e => Memory.writeN m e.1 (leBytes 8 e.2)) ([] : Memory)
  st ({ d with ms := { d.ms with mem := m, tlb := [(1, [(tlbKey 0 false 0x1000, { pte := 0xF, huge := false })])] } }.setSheaf (sheafKey 1 0 0 0)
    (fun x => { x with v := [(2, [0x1000])] }))

/-- LaneGlobalAccesses: a lane whose access is admitted; no lane active. -/
theorem test_lane_global :
    (∀ op ∈ [Acc3.read, .write, .atomic], mapped.dev.translate 1 0 0x1000 op = (.ok 0xF 3, mapped.dev)) ∧
    (let s := mapped
     let q := sheafKey 1 0 0 0
     let x := s.dev.sheaf q
     SheafRuns s 1 0 0 0 ∧ x.lanes = [0] ∧ x.getPair 2 0 = 0x1000 ∧ s.dev.leafHome 0xF 3 0x1000 = .hbm 0x1000 ∧ (s.dev.whoLane q 0).ctx = 0 ∧
     (∀ wr : Bool, s.dev.verdict (.hbm 0x1000) 0 wr = .pass) ∧ s.dev.badHome (.hbm 0x1000) 8 = false ∧ x.fence = [] ∧
     s.dev.fabStores (fun o => o.thread == .sheaf q) = []) ∧
    (SheafRuns (sheaf 1 0 0 0 0) 1 0 0 0 ∧ ((sheaf 1 0 0 0 0).dev.sheaf (sheafKey 1 0 0 0)).first = none) := by
  refine ⟨fun op h => ?_, by unfold SheafRuns; decide +kernel⟩
  exact translate_stays (by decide) (by decide +kernel) (by decide +kernel) (by decide +kernel) (by decide +kernel) (by decide +kernel)
    (by revert op; decide +kernel)

/-- A state whose first row is as given, beside a sheaf that runs on it. -/
def rowed (n : Nat) (f : Row → Row) : Machine.State := st ((sheaf 0 0 0 0 n).dev.setRow 0 f)

/-- RowIssue: no lane active; a word with a cause and one without; the queue with 7 and 8 entries; a fill behind a fill; BRD with a
chunk, and without one; RWAIT while a landing is due. -/
theorem test_row_issue :
    SheafRuns (rowed 0 id) 0 0 0 0 ∧ ((rowed 0 id).dev.sheaf 0).first = none ∧
    SheafRuns (rowed 1 id) 0 0 0 0 ∧ ((rowed 1 id).dev.sheaf 0).first = some 0 ∧
    orCause (some 2) (wfillCause 0 0 0 0 ⟨0, 0, 0⟩ false) = some 2 ∧ orCause none (wfillCause 0 0 8 0 ⟨0, 0, 0⟩ false) = none ∧
    orCause none (wfillCause 0 0 0 1 ⟨0, 0, 0⟩ false) = some 0x10 ∧
    (let e : RowEntry := ⟨0, .wfill 0 0 0 8 ⟨0, 0, 0⟩ false⟩
     8 ≤ ((rowed 1 (fun y => { y with queue := List.replicate 8 e })).dev.row 0).queue.length ∧ e.op.isFill = true ∧
     ¬ 8 ≤ ((rowed 1 (fun y => { y with queue := List.replicate 7 ⟨0, .tld 0 1 0 1 0⟩ })).dev.row 0).queue.length) ∧
    ((rowed 1 (fun y => { y with rx := [(1, 5), (0, 6)] })).dev.row 0).rx = [(1, 5)] ++ (0, 6) :: [] ∧
    ((rowed 1 id).dev.row 0).bcastPending 0 = false ∧
    ((rowed 1 (fun y => { y with queue := [⟨0, .tld 0 1 0 1 0⟩] })).dev.row 0).busyFor 0 = true := by
  unfold SheafRuns; decide +kernel

/-- RowCauses: the last accumulator of a pass and one past it; no fill; another fill; the last operand bank address and one past it. -/
theorem test_row_causes :
    (let p := fun (ab b addr : Nat) (reuse : Bool) => (⟨0, addr, 0, 0, 0, 0, ab, b, true, reuse, false, 0⟩ : PassArgs)
     pairLegal 0 0 = true ∧ smodeLegal 0 0 = true ∧ kindPairOk 0 0 0 = true ∧ pairLegal 0 4 = false ∧ pairLegal 8 8 = true ∧ pairLegal 9 9 = false ∧
     mpassCause {} (p 1 64 0 false) = some 0x11 ∧ mpassCause {} (p 0 64 0 false) = some 0x12 ∧
     mpassCause { issFill := some ⟨1, 0, 0⟩ } (p 0 64 0 false) = some 0x13 ∧
     mpassCause { issFill := some ⟨0, 0, 0⟩ } (p 0 64 0x1FC200 false) = none ∧
     mpassCause { issFill := some ⟨0, 0, 0⟩ } (p 0 64 0x1FC208 false) = some 0x14) ∧
    (let g := fun (acc n : Nat) => (⟨0, 1, 0, 0x3F800000, false, false, true, false, false, 4, n, acc⟩ : DrainArgs)
     accrdCause {} 0 (g 63 2) = some 0x11 ∧ accrdCause {} 0 (g 63 1) ≠ some 0x11) ∧
    wfillCause 0 0 8 0 ⟨3, 0, 0⟩ false = some 0x10 ∧ wfillCause 0 0 8 0 ⟨0, 0, 5⟩ false = some 0x10 := by
  decide +kernel

/-- RowPaths: a fill that waits, a bank being filled, a pass with and without a full shadow, REUSE, a broadcast at 31 chunks, a landing,
a drain behind a pass. -/
theorem test_row_paths :
    let f : RowOp := .wfill 0 0 0 8 ⟨0, 0, 0⟩ false
    let p := fun (reuse : Bool) => RowOp.mpass ⟨0, 0, 0, 0, 0, 0, 0, 1, true, reuse, false, 0⟩
    let b : RowOp := .bcast 0 0 1 false 0
    let g : DrainArgs := ⟨0, 1, 0, 0x3F800000, false, false, true, false, false, 4, 1, 0⟩
    (⟨0, 0, 0⟩ : RowId).wf = true ∧ rowIdKey ⟨7, 83, 15⟩ = rowKey 7 83 15 ∧ (rowed 1 id).dev.rowActs 0 = true ∧
    ((rowed 1 (fun y => { y with queue := [⟨0, p true⟩, ⟨1, f⟩] })).dev.row 0).queue = [⟨0, p true⟩] ++ ⟨1, f⟩ :: [] ∧ (p true).isFill = false ∧
    ((rowed 1 (fun y => { y with filling := some {} })).dev.row 0).filling = some {} ∧
    (∀ o ∈ [p true, p false, b], let y := (rowed 1 (fun y => { y with queue := [⟨0, f⟩, ⟨1, o⟩] })).dev.row 0
      y.run = none ∧ y.queue = [⟨0, f⟩] ++ ⟨1, o⟩ :: [] ∧ f.isRachis = false ∧ y.shadow.full = false) ∧
    ((rowed 1 (fun y => { y with shadow := { full := true } })).dev.row 0).shadow.full = true ∧
    (let y := (rowed 1 (fun y => { y with run := some ⟨0, b, 0, 0, 15⟩, rx := List.replicate 31 (0, 0) })).dev.row 0
     y.injects = true ∧ y.run = some ⟨0, b, 0, 0, 15⟩ ∧ y.rx.length < 32) ∧
    ((rowed 1 (fun y => { y with landing := [⟨0, 0, [0], true⟩] })).dev.row 0).landing = [⟨0, 0, [0], true⟩] ∧
    ((rowed 1 (fun y => { y with queue := [⟨0, p true⟩, ⟨1, .accrd g⟩] })).dev.row 0).queue = [⟨0, p true⟩] ++ ⟨1, .accrd g⟩ :: [] ∧
    (p true).isDrain = false := by
  decide +kernel

/-- AccumulatorRecords and SplitsDoNotMatter: values at the bounds of a record; a block on the anchor; a mismatch. -/
theorem test_accumulators :
    (let a : AccV := { info := { anchor := -512, pair := 255, smode := 3, f16 := true, val := 0 }, val := 2 ^ 192 - 1 }
     a.val < 2 ^ accWidth a.info.f16 ∧ -512 ≤ a.info.anchor ∧ a.info.anchor < 512 ∧ a.info.pair < 256 ∧ a.info.smode < 4) ∧
    ((0 : Nat) / 2 ^ accWidth true).testBit 5 ≠ true ∧ ((-18 : Int) ≤ -9 + -9 + 0 + 0) := by
  decide +kernel

/-- ProfilesAndIllegalWords: function bits that must be 0. -/
theorem test_illegal_words :
    CoreRuns (core 5 3 0 0) 5 0 ∧ SheafRuns (sheaf 0 0 0 0 1) 0 0 0 0 ∧ ((sheaf 0 0 0 0 1).dev.sheaf (sheafKey 0 0 0 0)).first = some 0 ∧
    ((sheaf 0 0 0 0 0).dev.sheaf (sheafKey 0 0 0 0)).first = none ∧ (1 : BitVec 5) ≠ 0 ∧ 8 ≤ (8 : BitVec 5).toNat := by
  unfold CoreRuns SheafRuns; decide +kernel

/-! ## Hypotheses of the statements about registers and the ways to them -/

/-- RegisterFields: every register of the map has fields that do not overlap; here those of CROWN_STCMD and FE_PORTCTL. -/
theorem test_fields_apart :
    ∀ o ∈ [rCrownStcmd, rFePortctl 15], ∃ r, regAt o = some r ∧ r.fields.Pairwise (fun f g => f.hi < g.lo ∨ g.hi < f.lo) ∧ ∀ f ∈ r.fields, f.lo ≤ f.hi := by
  intro o h
  simp only [List.mem_cons, List.not_mem_nil, or_false] at h
  rcases h with rfl | rfl
  · exact ⟨_, Option.eq_some_of_isSome (by decide +kernel : (regAt rCrownStcmd).isSome = true), by decide +kernel, by decide +kernel⟩
  · exact ⟨_, Option.eq_some_of_isSome (by decide +kernel : (regAt (rFePortctl 15)).isSome = true), by decide +kernel, by decide +kernel⟩

/-- ControlSpaceErrors: a register that answers, one with another width, an offset with none, a space that does not answer yet. -/
theorem test_control_space :
    (up []).regsAnswer 0x3FFFFF8 = true ∧ ((up []).regHere rCrownStcmd).map (·.bytes) = some 8 ∧ (up []).regHere 0x0FFFF8 = none ∧
    portBlock 0x0FFFF8 = none ∧ State.reset.dev.regsAnswer 0 = false := by
  decide +kernel

/-- RegisterCommands: each register that a command writes answers, the last of its array. -/
theorem test_registers_answer :
    let s := st (up (memory ++ active [0, 1, 9, 10]))
    (∀ e ∈ [(rCrownRchkb 255, 8), (rCrownDiectl 22, 4), (rCrownEvraise, 4), (rCulmCorectl 1 47, 4), (rGlmRepcmd 11, 8), (rCrownFqcons 15, 4),
      (rCrownFresume, 8), (rCrownFaultcfg, 4), ((ringRegs 19).ctl, 4), (rCrownFadmit 1151, 4), (rCrownLendrel, 8), (rSccmd 9, 4), (rCpQinfo0, 8),
      (rCpCqinfo0, 8), (rHpPortctl 5, 4), (rFePortctl 15, 4), (rFeRouteq, 4), (rSpCmd, 8), (rCrownStcmd, 8)],
      s.dev.regsAnswer e.1 = true ∧ (s.dev.regHere e.1).map (·.bytes) = some e.2) := by
  decide +kernel

/-- PathHalvesAndServicePaths: a 64-bit register and its other half; a latch; ports that hear, a privileged one and none; memory that passes;
the management bus. -/
theorem test_paths :
    (let d := up []
     d.regsAnswer rCrownStcmd = true ∧ d.regsAnswer (rCrownStcmd + 4) = true ∧ (d.regHere rCrownStcmd).map (·.bytes) = some 8 ∧
     d.regHere (rCrownStcmd + 4) = none ∧ rCrownStcmd % 8 = 0) ∧
    (let d := (up (memory ++ [(rHpPortstat 1, 2 ^ 62), (rHpPortctl 1, 2 ^ 31)])).setPort 1 (fun h => { h with fn := { h.fn with mse := true } })
     d.hostReaches 1 = true ∧ d.sup.stopped = false ∧ d.bit (rHpPortctl 1) 31 = true ∧ d.hostHears 5 = false ∧ d.powered = true ∧
     d.home 0x8FFFFFFFF8 = .hbm 0x8FFFFFFFF8 ∧ 0x8FFFFFFFF8 % 4096 + 8 ≤ 4096 ∧ (∀ w : Bool, d.rangeVerdict 0 0x8FFFFFFFF8 8 w = .pass)) ∧
    (up [(rHpPortstat 0, 2 ^ 62)]).bit (rHpPortctl 0) 31 = false ∧ (up []).mbAnswers = true ∧ State.reset.dev.mbAnswers = false ∧
    mbReads 0x123 = false ∧ State.reset.dev.pins.warmrst = false := by
  decide +kernel

/-! ## Hypotheses of the statements about what acts without an instruction -/

/-- InterruptsAndCoreStates: each interrupt alone and open; a deferred error; a timer that is due; an event for a core with room; a core in
each state. -/
theorem test_core_events :
    (let c : CoreSt := { level := 0, timM := true, timS := true, csr := [(0x101, 0xF)] }
     c.ipend.testBit 2 ≠ c.ipend.testBit 3 ∧ c.levelOpen true = true ∧ c.levelOpen false = true) ∧
    (let d := (up (active [9, 10] ++ [(rCorestat 95, 0), (rCrownEvroute 2047, 2 ^ 31 + 2 ^ 30 + 95)])).setCore 95 (fun c => { c with level := 0, csr := [(0x101, 0xF)] })
     d.coreActs 95 = true ∧ (d.core 95).interrupt = none ∧ (d.core 95).deferredNow = none ∧ (d.core 95).getCsr 0x30A = 0 ∧
     d.bit (rCrownEvroute 2047) 31 = true ∧ d.bit (rCrownEvroute 2047) 30 = true ∧ d.fld (rCrownEvroute 2047) 6 0 = 95 ∧ d.evQueued 2047 = false ∧
     (d.core 95).evqS.length < 32 ∧ d.dirtyLines 105 = [] ∧ d.coreState 95 = 0) ∧
    (∀ k ∈ [1, 2, 3, 4], (up (active [10] ++ [(rCorestat 95, k)])).coreState 95 = k ∧ (up (active [10] ++ [(rCorestat 95, k)])).bit (rCorestat 95) 7 = false ∧
      (up (active [10])).dieActive (slotCulm (95 / 48)) = true) := by
  decide +kernel

/-- GlumeStacks: a line that passes, one that does not, a poisoned one; a repair asked for and one started. -/
theorem test_glume :
    (let d := up (memory ++ [(rGlmScrub 11, 2 ^ 31)])
     let h := Home.hbm (hbmInter 11 (0x17FFFFFF * 128))
     DramRow.wf ⟨15, 1, 63, 131071⟩ = true ∧ (∀ w : Bool, d.verdict h 0 w = .pass) ∧ d.lineBad (hbmInter 11 (0x17FFFFFF * 128) / 128) = false ∧
     d.bankHeld 11 ⟨0, 0, 0, 0⟩ = false ∧ d.bit (rGlmScrub 11) 31 = true ∧ d.setOnline (11 / 3) = true ∧ d.dieActive (slotGlm 11) = true) ∧
    (up []).verdict (.hbm 0) 0 false = .refuse .memOffline ∧
    (let q : Repair := { row := ⟨0, 0, 0, 0⟩, hard := true }
     let d := (up memory).setGlume 11 (fun x => { x with busy := some { q with started := true } })
     ((up memory).setGlume 11 (fun x => { x with busy := some q })).glume 11 = { busy := some q } ∧ (d.glume 11).busy = some { q with started := true } ∧
     d.bit (rGlmRepctl 11) 30 = false ∧ (d.glume 11).queue = [] ∧ q.row.wf = true) := by
  decide +kernel

/-- NearMemoryCommands: a GEMV and an ATTEND of the last NMV with bad and good words, not begun, begun, done, its NMV off. -/
theorem test_near_memory :
    (∀ op ∈ [0x40, 0x41], let v : Run := { qid := 256, cmd := cmd op [(2, 11 * 2 ^ 24)], cls := 1 }
      let d := running op [(2, 11 * 2 ^ 24)] 1 id [(rGlmNmvctl 11, 2 ^ 31)]
      d.run? 7 = some v ∧ v.cmd.op = op ∧ v.done = false ∧ v.began = false ∧ d.faultHeld (.cmd 7) = false ∧ v.cmd.f 2 27 24 = 11 ∧
      d.bit (rGlmNmvctl 11) 31 = true ∧ d.setOnline (11 / 3) = true ∧ d.nmvTurn 7 11 = true ∧ d.atSafePoint 7 { v with began := true } = false) ∧
    gemvBad (cmd 0x40 []) ≠ none ∧ attendBad (cmd 0x41 []) ≠ none := by
  decide +kernel

/-- RecordsAndFaults: a ring that is off, full and with its last slot free; a fault that waits for its record, one that is recorded; no fault. -/
theorem test_rings_and_faults :
    (up []).ringOn 17 = false ∧ (ringRegs 17).bytes = 32 ∧
    (let d := up (memory ++ [((ringRegs 17).ctl, 2 ^ 31 + 6)])
     d.ringOn 17 = true ∧ d.ringFull 17 = false ∧ d.rangeVerdict 0 (d.ringBase 17) 32 true = .pass ∧ ringTier 17 (d.home (d.ringBase 17)) = true ∧
     d.home (d.ringBase 17) = .hbm 0 ∧ d.ringProd 17 + 1 < d.ringSize 17) ∧
    ringTier 17 .outside = false ∧
    (let f : PageFault := ⟨0, 4095, 0, 0, 1, 3, 0, 0, 0, 0, 0, 0, 0, false, [.cmd 7]⟩
     let d := running 0 [] 0 id []
     let d := { d with flt := { d.flt with table := [(65535, f)] } }
     d.flt.table.find 65535 = some f ∧ f.ctx < 4096 ∧ f.recorded = false ∧ f.waiters = [.cmd 7] ∧ d.flt.overflow = [] ∧ (d.run? 7).map (·.done) = some false ∧
     65535 % 65536 = 65535 ∧ 65535 / 65536 % 256 = f.gen % 256 ∧ (65536 + 65535) / 65536 % 256 ≠ f.gen % 256 ∧ d.flt.table.find 0 = none) := by
  decide +kernel

/-- LendingAndInvalidation: an admitted unit of each mode, notice given and not; an INVALIDATE that starts, one that waits for drained accesses. -/
theorem test_lending :
    (∀ m ∈ [0, 1, 2], let d := up [(rCrownFadmit 1151, m * 2 ^ 30 + 7)]
      d.fld (rCrownFadmit 1151) 31 30 = m ∧ d.bit (rCrownFadmit 1151) 29 = false ∧ d.fld (rCrownFadmit 1151) 14 0 = 7) ∧
    (up [(rCrownFadmit 1151, 2 ^ 30 + 2 ^ 29)]).bit (rCrownFadmit 1151) 29 = true ∧ (up []).ownId = none ∧ (up []).routed 7 = false ∧
    (let d := running 0x18 [] 0 id []
     d.cpRuns = true ∧ d.cp.inval = none ∧ (d.runCmd 7).op = 0x18 ∧ invalidateBad (cmd 0x18 []) = none ∧ invalidateBad (cmd 0x18 [(15, 1)]) ≠ none) ∧
    (let d := running 0x18 [] 0 (fun v => { v with began := true }) []
     let d := { d with cp := { d.cp with inval := some 7 } }
     d.cp.inval = some 7 ∧ d.drained 0 = true) := by
  decide +kernel

/-- CachesAndWalks: a cache that acts, with a fill, with a clean and a dirty line; a full buffer entry; a root that is off, an entry that is not valid. -/
theorem test_caches :
    (let d := (up (memory ++ active [1, 9] ++ [(rScstat 0, 0)])).setCache 0 (fun c => { c with fills := [(5, ⟨true, 0⟩)], lines := [(6, {}), (7, { age := 3, dirty := true, na := true })] })
     d.cacheActs 0 = true ∧ d.bit (rScstat 0) 31 = false ∧ d.bit (rScstat 0) 30 = false ∧ (d.cache 0).fills.find 5 = some ⟨true, 0⟩ ∧ d.cached 0 6 = some {} ∧
     d.cached 0 8 = none ∧ (d.cache 0).fills.find 8 = none ∧ d.fillWays 0 ≠ [] ∧ ∀ e ∈ (d.cache 0).lines, e.2.age ≤ 3) ∧
    (let d := (core 5 3 0 0).dev.setCore 5 (fun c => { c with nt := [⟨3, 0, 0, BitVec.allOnes 128⟩] })
     d.dieActive (slotCulm (5 / 48)) = true ∧ (d.core 5).nt = [⟨3, 0, 0, BitVec.allOnes 128⟩] ∧ d.home (3 * 128) = .hbm 384 ∧ d.verdict (.hbm 384) 0 true = .pass) ∧
    (up []).bit (rCrownCtxxlt 4095) 0 = false ∧ mapped.dev.bit (rCrownCtxxlt 0) 0 = true ∧
    mapped.dev.walkRead 0 0x100000 1 = .inl 0x120001 ∧ pteMalformed 0x120001 1 = false ∧ mapped.dev.walk 0 0x1000 = .leaf 0xF 3 ∧
    mapped.dev.walk 0 (2 ^ 42) = .fault 0 1 ∧ (running 0x50 [] 2 (fun v => { v with began := true }) []).walkWho (.cmd 7) = some ((running 0x50 [] 2 (fun v => { v with began := true }) []).whoRun 7) := by
  decide +kernel

/-! ## Hypotheses of the statements about the fabric and the queues -/

/-- A device 0 of a ring of 8 packages; the FE runs, every port is UP with 8 lanes. -/
def ring8 (regs : List (Nat × Nat)) : Dev :=
  let d := up (memory ++ [(rFeStat, 2 ^ 31), (rFeId, 2 ^ 31), (rFeTopo, 7)] ++ (List.range 16).map (fun p => (rFePortstat p, 4 * 2 ^ 60 + 8 * 2 ^ 56)) ++ regs)
  let d := (List.range 16).foldl (fun (d : Dev) p => d.setFport p (fun f => { f with lanes := 255 })) d
  { d with fe := { d.fe with routeDevs := List.range 8, devs := (List.range 8).map (fun i => (i, i + 5)) } }

/-- FabricLinks: a port in each state that a clause names; a fenced part; a device before the election, after it, with and without an ID; a route. -/
theorem test_fabric_links :
    (let d := ring8 []
     d.trained 15 = true ∧ lanesOf ((d.fport 15).lanes &&& ~~~((1 : BitVec 8) <<< 7)) = 7 ∧ lanesOf ((0x3F : BitVec 8) &&& ~~~((1 : BitVec 8) <<< 0)) = 5 ∧
     d.ownId = some 0 ∧ d.feSpeaks = true ∧ d.feRuns = true ∧ lanesOf 0x3F = 6 ∧ lanesOf 0x1F = 5 ∧ (d.fport 15).present = none) ∧
    (∀ k ∈ [2, 3, 5], let d := ring8 [(rFePortstat 15, k * 2 ^ 60), (rFePortctl 15, 2 ^ 31)]
     d.fpState 15 = k ∧ d.trained 15 = false ∧ d.bit (rFePortctl 15) 31 = true ∧ d.feRuns = true) ∧
    (up []).feRuns = false ∧ (up []).feSpeaks = false ∧ ((ring8 []).setFport 15 (fun f => { f with present := some (2, 1, 9) })).fport 15 ≠ {} ∧
    (let d := up [(rFeStat, 2 ^ 31)]
     let e := { d with fe := { d.fe with best := some d.feKey } }
     let g := { d with fe := { d.fe with best := some (0, 77) } }
     e.feSpeaks = true ∧ e.fe.settled = false ∧ e.portsResolved = true ∧ e.bit rFeId 31 = false ∧ e.fe.best = some e.feKey ∧ e.pins.posEn = false ∧
     (topoOf (e.reg rFeTopo)).holds 0 = true ∧ g.fe.best = some (0, 77) ∧ (0, 77) ≠ g.feKey ∧ e.ownId = none) ∧
    (let d := ring8 []
     let h : Hello := ⟨3, 4, some 1, peerPort 0, 3, 4, 7, false⟩
     d.helloWrong 0 h = false ∧ d.helloWrong 0 { h with port := 0 } = true ∧ d.fpState 0 = 4 ∧ (h.bestPrio, h.bestSerial) = (h.prio, h.serial) ∧
     (topoOf (d.reg rFeTopo)).fromSender 0 1 = some 0 ∧ (topoOf (d.reg rFeTopo)).fromSender 0 3 ≠ some 0 ∧
     d.fe.fails = [] ∧ d.ownId ≠ some 7 ∧ d.fe.devs.find 7 = some 12 ∧ d.fe.devs.find 9 = none ∧
     d.net.route 0 7 = some ⟨2, 1, false⟩ ∧ d.fpState 2 = 4 ∧ d.net.route 0 9 = none ∧ d.bit rFeStat 30 = false) ∧
    (ring8 [(rFeStat, 2 ^ 31 + 2 ^ 29)]).bit rFeStat 29 = true ∧ (ring8 [(rFeStat, 2 ^ 31 + 2 ^ 28)]).feSpeaks = false := by
  decide +kernel

/-- FabricRequests: a unit admitted to the sender and the last bytes of memory, an access that is due, early, repeated; requests out; a broadcast that waits. -/
theorem test_fabric_requests :
    (let off := 0x9000000000 - 128
     let d := ring8 [(rCrownFadmit 1151, 2 ^ 30 + 7), (rGlmGot (hbmLocal off).1 ((hbmLocal off).2 / 0x200000), 3 * 2 ^ 30)]
     d.inboundBad 7 off 128 true = none ∧ d.inboundBad 6 off 128 true = some .protection ∧ d.inboundBad 7 (off + 128) 1 false = some .protection ∧
     d.feSpeaks = true ∧ SMap.get 0 d.fe.expect 7 = 0 ∧ SMap.get [] d.fe.held 7 = [] ∧ d.lineBad (off / 128) = false ∧ d.treeChildren 7 0 ≠ [7] ∧
     SMap.get 0 d.fe.expect (7 + 0x8000) = 0 ∧ SMap.get [] d.fe.held (7 + 0x8000) = [] ∧ d.fe.bcasts = []) ∧
    ((ring8 [(rGlmGot 0 0, 3 * 2 ^ 30)]).setFld (rCrownFadmit 0) 31 30 2).inboundBad 32767 0 1 false = none ∧
    (let b : Bcast := ⟨7, 3, [1], 0, 0⟩
     let d := ring8 []
     let d := { d with fe := { d.fe with bcasts := [b], expect := [(7, 4)] } }
     d.feSpeaks = true ∧ d.fe.bcasts = [b] ∧ b.waits = [1] ∧ d.ownId ≠ some 7 ∧ 3 < SMap.get 0 d.fe.expect 7) := by
  decide +kernel

/-- Collectives: a command with bad and good fields, a fabric that is not ready and one that is, a readable list, a collective that waits for its
peers, one that has met, with and without its own chunk. -/
theorem test_collectives :
    (let l := [(2, 2 ^ 30 + 0), (10, 8192)]
     let d := paged (running 0x70 l 4 id [(rFeStat, 2 ^ 31 + 2 ^ 30), (rFeId, 2 ^ 31)]) [2]
     let v : Run := { qid := 256, cmd := cmd 0x70 l, cls := 4 }
     d.run? 7 = some v ∧ collBad v.cmd = none ∧ v.cmd.op = 0x70 ∧ v.done = false ∧ d.faultHeld (.cmd 7) = false ∧ d.bit rFeStat 30 = true ∧ d.fe.colls.length < 64 ∧
     readable d 0 8 = true ∧ readable d 0 12 = true ∧ (d.whoRun 7).ctx = 1 ∧ (d.whoRun 7).tlb = 20 ∧ v.cmd.dw 4 = 0 ∧
     word (bytesWords (d.readHome (.hbm 0) 8)) 0 = 2 ∧ v.cmd.chunks = 1 ∧ v.cmd.chunkLen 0 = 65536 ∧
     (up []).bit rFeStat 30 = false ∧ collBad (cmd 0x70 [(12, 1)]) ≠ none ∧
     (cmd 0x71 []).chunks = 0) ∧
    (let c : Coll := { tag := 1, seq := 2, members := [0, 1], rank := 0, fields := [(0, [0x70, 4])] }
     let d := ring8 []
     let d := { d with fe := { d.fe with colls := [(7, c)] } }
     let e := { c with fields := [(0, [0x70, 4]), (1, [0x70, 4])] }
     d.coll? 7 = some c ∧ c.met = false ∧ e.met = true ∧ c.fields.length ≠ c.members.length ∧ e.fields.length = e.members.length ∧ d.feSpeaks = true ∧
     1 < c.members.length ∧ (1 : Nat) ≠ c.rank ∧ SMap.find (SMap.get [] e.data 0) e.rank = none) := by
  decide +kernel

/-- QueuesAndFences: doorbells of a queue that exists and of one that does not; a slot to fetch, one that is not current, a command to dispatch of each
kind; a wait that is met, open, in error, about to time out; an abort in the middle of a unit and outside it. -/
theorem test_queues :
    (let x : Queue := {}
     let d := queued x []
     d.cp.queues.find 256 = some x ∧ d.cp.queues.find 257 = none ∧ d.cqOf 1 255 = some 3 ∧ d.cqOf 1 0 = none ∧
     (let val := 64
      bitsOf (val + 63 * 2 ^ 48) 47 40 = 0 ∧ bitsOf (val + 63 * 2 ^ 48) 63 48 = (val + 65535) % 65536 ∧ (val + (2 ^ 32 - x.n)) % 2 ^ 32 ≤ 2 ^ x.log2)) ∧
    (let x : Queue := { n := 127, p := 128 }
     let d := paged (queued x []) []
     let d := { d with ms := { d.ms with mem := Memory.writeN d.ms.mem 4032 [127] } }
     d.fetches 256 = true ∧ x.stale = none ∧ x.retry = none ∧ x.fetched = [] ∧ x.p = (x.n + 1) % 2 ^ 32 ∧ x.ring + 64 * (x.n % 2 ^ x.log2) = 4032 ∧
     readable d 4032 64 = true ∧ (whoFetch 256).ctx = 1 ∧ (whoFetch 256).tlb = 20 ∧ (d.readHome (.hbm 4032) 64).getD 0 0 = 127 ∧ slotCurrent 6 127 127 = true ∧ slotCurrent 6 127 128 = false ∧
     x.nextSlot = some (127, none)) ∧
    (∀ op ∈ [0, 0x50, 0xFF], let c := cmd op []
     let x : Queue := { cls := 2, fetched := [c], n := 1, p := 1 }
     let d := queued x []
     d.mayDispatch 256 = true ∧ x.fetched = [c] ∧ c.rid = 0 ∧ x.patch = none ∧ d.startHeld 256 { cmd := c, next := { x with fetched := [] } } = false ∧
     c.f 0 18 16 = 0) ∧
    opKind 0 = .flow ∧ opKind 0x50 = .engine 2 ∧ opKind 0xFF = .undefined ∧
    (let v := (fun (n : Nat) => ({ qid := 256, cmd := cmd 0x50 [], cls := 2, aborting := true, pos := n } : Run))
     let d := fun (n : Nat) => running 0x50 [] 2 (fun r => { r with aborting := true, pos := n }) []
     (d 1).run? 7 = some (v 1) ∧ (d 1).midUnit 7 (v 1) = true ∧ (d 0).midUnit 7 (v 0) = false) := by
  decide +kernel

/-- The waits of the same statement: one that is met; the values that are open and in error. -/
theorem test_waits :
    (let w : WaitSt := { cmd := cmd 1 [(6, 5)], ms := 9 }
     let d := paged (queued { wait := some w } [(rCpFencecfg, 10)]) [5, 0, 0, 0, 0, 0, 0, 0]
     readable d 0 8 = true ∧ (whoFlow 256 w.cmd).ctx = 1 ∧ (whoFlow 256 w.cmd).tlb = 20 ∧ fenceTier (.hbm 0) = true ∧ ofLe (d.readHome (.hbm 0) 8) = 5 ∧ w.watched = true ∧ d.cpRuns = true ∧ d.faultHeld (.cmd 0) = false ∧ w.cmd.dw 6 = 5 ∧
     d.cp.queues.keysP (fun _ y => y.wait.isSome) = [256] ∧ (d.queue 256).st = .active ∧ d.ctxState 1 = 1 ∧ max 10 (d.fld rCpFencecfg 15 0) ≤ w.ms + 1) ∧
    ofLe [4, 0, 0, 0, 0, 0, 0, 0] % 2 ^ 63 < 5 ∧ (ofLe [5, 0, 0, 0, 0, 0, 0, 0x80]).testBit 63 = true := by
  decide +kernel

/-- FlowCommands: well-formed words of each command, in a buffer at its last slots, with a full and an empty call stack. -/
theorem test_flow :
    (let d := fun (c : Cmd) => paged (queued { cur := some c, place := .buf 64 2 1, stack := [.ring] } []) []
     ∀ op ∈ List.range 10, let c := cmd op [(2, if op = 4 then 1 else if op = 3 then 1 else if op = 9 then 1 else 0), (3, if op = 5 ∨ op = 6 then 2 ^ 20 else if op = 9 then 15 * 2 ^ 28 else 0)]
      ((d c).queue 256).cur = some c ∧ (d c).cpRuns = true ∧ (d c).faultHeld (.cmd c.rid) = false ∧ c.op = op ∧
      (op = 0 → c.zeros 2 16 = none) ∧ (op = 1 → fenceWaitBad c = none) ∧ (op = 2 → fenceSignalBad c = none) ∧ (op = 3 → condBad c = none) ∧
      (op = 4 → loopBad ((d c).queue 256) c = none) ∧ (op = 5 → bufBad c = none) ∧ (op = 6 → bufBad c = none) ∧ (op = 8 → paramBad c = none) ∧
      (op = 9 → patchBad c = none) ∧ readable (d c) (c.dw 4) 8 = true ∧ (whoFlow 256 c).ctx = 1 ∧ (whoFlow 256 c).tlb = 20 ∧ ((d c).queue 256).stack.length < 8) ∧
    ({} : Queue).stack = [] ∧ bufBad (cmd 5 [(3, 2 ^ 20 + 1)]) ≠ none ∧ (cmd 3 [(2, 5 * 2 ^ 29)]).f 2 31 29 = 5 := by
  decide +kernel

/-! ## Hypotheses of the statements about management, kernels and copies -/

/-- QueueManagement: well-formed words of each command over queues in each state; entries that may be written, with and without NOCQE; a place that a
completion queue may write; a signal that covers nothing. -/
theorem test_queue_management :
    (let c := cmd 0x10 [(2, 257 * 2 ^ 12 + 5 * 2 ^ 9 + 16), (3, 3)]
     let d := queued {} []
     createQueueBad d c = none ∧ createCqBad d (cmd 0x13 [(2, 2 ^ 20 + 16), (3, 4)]) = none ∧
     destroyCqBad { d with cp := { d.cp with queues := [] } } (cmd 0x14 [(3, 3)]) = none ∧ destroyQueueBad d 0 (cmd 0x11 [(2, 256 * 2 ^ 12)]) = none ∧
     createQueueBad d (cmd 0x10 [(2, 257 * 2 ^ 12 + 17)]) ≠ none ∧ createCqBad d (cmd 0x13 [(2, 17)]) ≠ none ∧ destroyCqBad d (cmd 0x14 []) ≠ none ∧
     destroyQueueBad d 256 (cmd 0x11 [(2, 256 * 2 ^ 12)]) ≠ none ∧ d.queueUsed 256 = true ∧ d.queueQuiet 256 = true ∧
     (∀ op ∈ [1, 2, 3, 4], ∀ st ∈ [QSt.active, QSt.parked, QSt.halted], let d := queued { st := st, halt := .fetch } []
       queueCtlBad d (cmd 0x12 [(2, 256 * 2 ^ 12 + op)]) = none ∧ (d.cp.queues.find 256).map (·.place) = some .ring)) ∧
    (let q := cmd 0x11 [(2, 256 * 2 ^ 12)]
     let d := queued {} []
     let d := { d with cp := { d.cp with runs := [(7, { qid := 0, cmd := q, cls := 6, began := true })] } }
     (d.run? 7).map (·.cmd) = some q ∧ d.cpRuns = true ∧ q.op = 0x11 ∧ d.queueUsed 256 = true ∧ d.queueQuiet 256 = true) ∧
    (∀ n ∈ [0, 2 ^ 21], ∀ st ∈ [none, some 4], let v : Run := { qid := 256, cmd := { cmd 0x50 [] with words := [BitVec.ofNat 32 n] }, cls := 2, done := true, status := st }
     let d := queued { cqid := 3 } []
     let d := { d with cp := { d.cp with runs := [(7, v)] } }
     d.run? 7 = some v ∧ d.cpRuns = true ∧ d.storesOut 7 = false ∧ d.flushPorts v = [] ∧ d.entryTurn v = true ∧ v.reserved = true) ∧
    (let v : Run := { qid := 256, cmd := cmd 0x50 [], cls := 2, done := true, ports := [5], lastPort := some 0 }
     5 ∈ (queued {} []).flushPorts v) ∧
    (let d := paged (queued {} []) []
     let c : Cq := { ctx := 1, base := 4096, log2 := 16, written := 0 }
     c.base % 4096 = 0 ∧ d.home c.nextAddr = .hbm 4096 ∧ d.verdict (.hbm 4096) c.ctx true = .pass ∧ (queued {} [(rGlmGot 1 0, 0), (rGlmGot 2 0, 0)]).verdict (.hbm 0xA00) 2 true ≠ .wait) ∧
    (let g : Sig := { cmd := cmd 2 [(6, 1)], covers := [], errs := [], nowait := false }
     let d := queued { sigs := [{ g with failed := true }, g] } []
     (d.queue 256).nextSig = some g ∧ d.cpRuns = true ∧ d.faultHeld (.cmd g.cmd.rid) = false) := by
  decide +kernel

/-- ContextManagement: well-formed words of each command; contexts in each state, with groups and kernels and without. -/
theorem test_context_management :
    (let d := running 0x20 [] 6 id []
     createContextBad d (cmd 0x20 [(2, 4095 * 2 ^ 20 + 80 * 2 ^ 13)]) = none ∧ createContextBad d (cmd 0x20 []) ≠ none ∧
     destroyContextBad d (cmd 0x21 [(2, 4095 * 2 ^ 20)]) ≠ none ∧
     destroyContextBad (queued {} []) (cmd 0x21 [(2, 2 ^ 20)]) = none) ∧
    (∀ k ∈ [1, 2], ∀ op ∈ [1, 2], let d := queued {} [(rCpCtxdesc 1, k * 2 ^ 61)]
     contextCtlBad d (cmd 0x22 [(2, 2 ^ 20 + op)]) = none ∧ d.ctxState 1 = k ∧ (d.ctxSt 1).groups = [] ∧ d.suspendQuiet 1 = true ∧ d.suspendRuns 1 7 = []) ∧
    (let d := queued {} [(rCpCtxdesc 1, 3 * 2 ^ 61)]
     let d := { d with cp := { d.cp with ctxs := [(1, { groups := [⟨0, 0, [0]⟩], suspending := true })] } }
     d.ctxState 1 = 3 ∧ d.suspendQuiet 1 = false ∧ (d.ctxSt 1).suspending = true ∧ d.ctxLive 1 = [] ∧ (∀ q ∈ d.ctxQueues 1, d.queueQuiet q = true) ∧ d.fe.reqs = [] ∧ d.cores = []) := by
  decide +kernel

/-- A KERNEL of one group of context 1 on slot 7 of row 15 of cluster 83 of Tiller 7. -/
def kernel1 (k : Option KernelRun) (s : CtxSt) : Dev :=
  let d := running 0x30 [(2, 2 ^ 16 + 2 ^ 15), (3, 2 ^ 31)] 0 id (active [slotTil 7] ++ [(rCpCtxdesc 1, 2 ^ 61 + 2 ^ 50), (rTilClsmaph 7, 2 ^ 20 - 1), (rTilClsmapl 7, 2 ^ 64 - 1)])
  { d with cp := { d.cp with ctxs := [(1, s)], kernels := match k with | some k => [(7, k)] | none => [] } }

/-- KernelsAndGroups: a kernel to launch, with its groups and waiting for them; one that runs, one that is quiet; a context that waits, one being preempted. -/
theorem test_kernels :
    (let d := kernel1 none { groups := [⟨7, 0, [671]⟩] }
     let c := cmd 0x30 [(2, 2 ^ 16 + 2 ^ 15), (3, 2 ^ 31)]
     let e := d.refreshWaits
     kernelBad c = none ∧ d.cpRuns = true ∧ d.faultHeld (.cmd 7) = false ∧ e.ctxState 1 = 1 ∧ (e.ctxSt 1).groups ≠ [] ∧ (e.ctxSt 1).preempting = false ∧
     (e.ctxLive 1).length < 255 ∧ e.kernelClusters 1 c = some [671] ∧ e.slotsBusy c [671] = false ∧ c.dw 6 = 0 ∧ c.kSheaves 671 = [8 * (16 * 671 + 15) + 7] ∧
     kernelBad (cmd 0x30 []) ≠ none) ∧
    (let d := kernel1 none {}
     let e := d.refreshWaits
     (e.ctxSt 1).groups = [] ∧ e.headWaiter = some 1 ∧ e.ctxSaved 1 = [] ∧ (e.chooseGroups 1 e.freeGroups).map List.length = some 1) ∧
    (let k : KernelRun := { clusters := [671], kargs := [] }
     let d := kernel1 (some k) { groups := [⟨7, 0, [671]⟩] }
     d.cp.kernels.find 7 = some k ∧ d.kernelHit 7 = false ∧ (∀ q ∈ k.clusters, d.clusterQuiet 7 q = true) ∧ d.cp.geom = false) ∧
    (let k : KernelRun := { clusters := [671], yielding := true }
     let d := kernel1 (some k) { groups := [⟨7, 0, [671]⟩], preempting := true }
     let d := d.setSheaf (8 * (16 * 671 + 15) + 7) (fun s => { s with st := .running, cmd := some 7 })
     (d.ctxSt 1).preempting = true ∧ d.ctxLive 1 = [7] ∧ (d.kern 7).lane = none ∧ d.clusterQuiet 7 671 = false ∧ (d.kern 7).late = [671] ∧
     d.saveFits 1 ((d.kern 7).clusters.length * d.imageSize 7 [671]) = false ∧
     d.cp.kernels.keysP (fun _ k => k.yielding && !k.saved && k.clusters.contains 671 && !k.yielded.contains 671 && !k.mid.contains 671) = [7]) := by
  decide +kernel

/-- CopyAndMulticast: well-formed and ill-formed words of each command, a free instance, a readable descriptor, a page of a range, a Tiller that takes lines. -/
theorem test_copies :
    (let c := cmd 0x50 [(2, 1)]
     let d := paged (running 0x50 [(2, 1)] 2 (fun v => { v with began := true }) []) [0, 0, 0x90, 0]
     copyBad c = none ∧ copyBad (cmd 0x50 []) ≠ none ∧ (copyInsts (c.f 2 31 24)).find? (fun i => !(running 0x50 [(2, 1)] 2 id []).instBusy 2 i) = some 0 ∧ d.faultHeld (.cmd 7) = false ∧
     d.atSafePoint 7 { qid := 256, cmd := c, cls := 2, began := true } = false ∧ readable d 0 64 = true ∧ (d.whoRun 7).ctx = 1 ∧ (d.whoRun 7).tlb = 20 ∧
     descBad (bytesWords (d.readHome (.hbm 0) 64)) = none ∧ descBad [1] ≠ none) ∧
    (rangeWbBad (cmd 0x51 [(2, 2 ^ 30), (7, 256)]) = none ∧ rangeWbBad (cmd 0x51 []) ≠ none ∧ (cut 65536 0 (2 ^ 16 + 128))[1]? = some (65536, 128)) ∧
    (let l := [(2, 2 ^ 31), (3, 2 ^ 21 - 128), (6, 128)]
     let d := paged (running 0x52 l 2 (fun v => { v with began := true }) (active [slotTil 7])) []
     let d := d.setMcast 7 (fun _ => { masks := [(7, 1)], group := none })
     mcastBad (cmd 0x52 l) = none ∧ mcastBad (cmd 0x52 []) ≠ none ∧ d.mcastLive 7 = [7] ∧ (SMap.get [] (d.mcast 7).buf 7).length < 64 ∧
     readable d 0 128 = true ∧ (d.whoRun 7).ctx = 1 ∧ (d.whoRun 7).tlb = 20) ∧
    (let d := (up (active [slotTil 7] ++ [(rTilClsmaph 7, 2 ^ 19)])).setMcast 3 (fun _ => { masks := [(7, 2 ^ 83)], buf := [(7, [(0, 5, false)])] })
     d.dieActive (slotTil 7) = true ∧ SMap.get [] (d.mcast 3).buf 7 = [(0, 5, false)] ∧ (SMap.get 0 (d.mcast 3).masks 7).testBit 83 = true ∧ d.clsEnabled 7 83 = true) ∧
    (let x : Desc := { slay := 1, dlay := 1, fmt := 9, tr := false, src := 0, dst := 0, rows := 2, cols := 3, spitch := 8, dpitch := 8 }
     packedLen x.fmt x.dims.2 ≤ x.dpitch ∧ 1 < x.dims.1 ∧ 2 < x.dims.2 ∧ 7 < packedBits x.fmt) := by
  decide +kernel

/-! ## Hypotheses of the statements about streams, samplers and host ports -/

/-- A session of context 1 with an IPv4 peer, whose descriptor R346 allows. -/
def call1 (regs : List (Nat × Nat)) (f : Session → Session) : Dev :=
  let desc := ((((List.replicate 64 (0 : BitVec 32)).set 48 0x61).set 13 (BitVec.ofNat 32 (2 ^ 30 + 8 * 2 ^ 16 + 128 * 2 ^ 8))).set 16 (BitVec.ofNat 32 (500 * 2 ^ 23 + 20 * 2 ^ 14))).set 46 (BitVec.ofNat 32 (2 ^ 28 + 2 ^ 24 + 2 ^ 20))
  let d := running 0x61 [(2, 131071 * 2 ^ 15)] 3 id ([(rSeSidblk 127, 2 ^ 31 + 1), (rSePortcfg 1, 2 ^ 31 + 2 ^ 30)] ++ regs)
  { d with se := { d.se with sessions := [(131071, f { run := 7, ctx := 1, desc := desc, t0 := 0 })] } }

/-- StreamSessions: well-formed and ill-formed words of each command; sessions in each state; ports on and off with frames of each kind. -/
theorem test_streams :
    (openBad (cmd 0x60 [(2, 131071 * 2 ^ 15)]) = none ∧ openBad (cmd 0x60 [(2, 1)]) ≠ none ∧ closeBad (cmd 0x62 []) = none ∧ closeBad (cmd 0x62 [(3, 1)]) ≠ none ∧
     dtmfBad (cmd 0x64 [(3, 5000)]) = none ∧ dtmfBad (cmd 0x64 []) ≠ none ∧ pktBad (up [(rSePortcfg 1, 9216)]) (cmd 0x63 [(2, 2 ^ 31 + 9212)]) = none ∧
     pktBad (up []) (cmd 0x63 [(2, 59)]) ≠ none) ∧
    (let d := paged (call1 [] id) []
     let x := (d.session? 131071).getD { run := 0, ctx := 0, desc := [], t0 := 0 }
     (d.session? 131071) = some x ∧ sesFieldBad x.desc = none ∧ modifyBad x.desc x.desc = none ∧ d.bit rSeStat 31 = true ∧
     d.sesTurned { qid := 256, cmd := cmd 0x61 [(2, 131071 * 2 ^ 15)], cls := 3 } = none ∧ d.sesTurned { qid := 256, cmd := cmd 0x61 [], cls := 3 } ≠ none ∧
     readable d 0 128 = true ∧ readable d 128 128 = true ∧ readable d 32 8 = true ∧ (d.whoRun 7).ctx = 1 ∧ (d.whoRun 7).tlb = 20 ∧ (d.whoRun 7).via = .engine ∧
     x.event = none ∧ sb x.desc 13 30 = true ∧ x.out = none ∧ x.changes = [] ∧ x.aborted = false ∧ x.failRow < 250 ∧ x.held = [] ∧ sdw x.desc 44 + 32 = 32 ∧
     sdw x.desc 38 = 0) ∧
    ((call1 [] (fun x => { x with k := 249, failRow := 249, out := some false, held := [⟨0, [], [], []⟩] })).session? 131071).map (fun x => (x.k % 250 != 0, x.out, x.held.length)) =
      some (true, some false, 1) ∧
    (let d := call1 [] id
     d.bit rSeStat 31 = true ∧ d.bit (rSePortcfg 1) 31 = true ∧ d.bit (rSePortcfg 1) 30 = true ∧ (up []).bit rSeStat 31 = false ∧
     (let f : List (BitVec 8) := (List.range 60).map (fun i => if i = 12 then 8 else if i = 14 then 0x46 else if i = 23 then 17 else 0)
      (frameType f).1 = 0x0800 ∧ 60 ≤ f.length ∧ f.length + 4 ≤ d.maxFrame 1 ∧ (f.headD 0).getLsbD 0 = false ∧ be f 0 6 = d.fld (rSePortmac 1) 47 0 ∧
      carriedIp f 0x0800 14 = .bad ∧ carriedIp f 0x1234 14 = .other 0)) ∧
    (let f : List (BitVec 8) := List.replicate 12 0 ++ [8, 0, 0x45, 0, 0, 40, 0, 0, 0, 0, 0, 17, 0xBA, 0xC6] ++ List.replicate 13 0 ++ [20, 0, 0, 0x80] ++ List.replicate 17 0
     let ip := carriedIp f (frameType f).1 (frameType f).2
     ip = .udp false [0, 0, 0, 0] [0, 0, 0, 0] 0 0 34 20 ∧ be ((f.drop 42).take 12) 0 1 / 64 = 2 ∧
     (call1 [] id).sesMatch 0 (frameVid f) false [0, 0, 0, 0] 0 (be ((f.drop 42).take 12) 1 1) = some (131071, false) ∧
     (call1 [] id).sesMatch 0 (frameVid f) true [] 0 0 = none) := by
  decide +kernel

/-- Sampling: well-formed and ill-formed words, a Tiller that is ACTIVE and one that is not, a vector whose words are read, one with no live token. -/
theorem test_sampling :
    (let c := cmd 0x80 [(2, 7 * 2 ^ 28), (6, 64)]
     let d := running 0x80 [(2, 7 * 2 ^ 28), (6, 64)] 5 id (active [slotTil 7])
     sampleBad c = none ∧ sampleBad (cmd 0x80 [(2, 7 * 2 ^ 28), (6, 0)]) ≠ none ∧ c.smpTil = 7 ∧ d.dieActive (slotTil 7) = true ∧ d.instBusy 5 7 = false ∧
     (∀ k, k < 8 → (up []).dieActive (slotTil k) = true → c.smpTil ≠ 15 ∧ c.smpTil ≠ k) ∧ (cmd 0x80 [(2, 15 * 2 ^ 28)]).smpTil = 15 ∧
     d.smpTiller (cmd 0x80 [(2, 15 * 2 ^ 28)]) = some (some 7) ∧ c.smpV = 1 ∧ (c.w 2).testBit 25 = false ∧ (c.w 2).testBit 24 = false ∧
     (f32.unpack (c.w 7)).isZero = true) ∧
    (let c := cmd 0x80 [(2, 7 * 2 ^ 28), (6, 64)]
     let d := running 0x80 [(2, 7 * 2 ^ 28), (6, 64)] 5 (fun v => { v with began := true, inst := 7 }) (active [slotTil 7])
     d.faultHeld (.cmd 7) = false ∧ d.atSafePoint 7 { qid := 256, cmd := c, cls := 5, inst := 7, began := true } = false ∧ (d.whoTil 7 7).ctx = 1) := by
  decide +kernel

/-- HostPorts: a port that reaches the device and one that does not, a queue's page owned and not, apertures on and off, a root port with contexts on
and off, a port whose link is lost. -/
theorem test_host_ports :
    (let d := paged (up (memory ++ [(rHpAper 1 2047, 2 ^ 63 + 1)])) []
     let d := d.setPort 1 (fun h => { h with fn := { h.fn with mse := true, bme := true } })
     d.fld (rHpAper 1 2047) 55 30 = 0 ∧ d.bit (rHpAper 1 2047) 63 = true ∧ d.bit (rHpAper 1 0) 63 = false ∧
     (d.port 1).lossAt = none ∧ (d.port 1).flr = false ∧ d.portLost 1 = false ∧ d.isRoot 1 = false ∧ d.isRoot 5 = true ∧ d.hostReaches 5 = false ∧ d.hostHears 5 = false) ∧
    (let d := (up (memory ++ [(rHpPortstat 1, 2 ^ 62), (rHpPortstat 5, 2 ^ 62), (rHpRpctx 5, 2 ^ 31)])).setPort 1 (fun h => { h with fn := { h.fn with mse := true } })
     d.hostHears 1 = true ∧ d.linkUp 5 = true ∧ d.bit (rHpRpctx 5) 31 = true ∧ d.bit (rHpRpctx 4) 31 = false ∧
     (∀ e ∈ (cut 128 0 128).map (fun e => (d.home e.1, e.2)), (∀ w : Bool, d.verdict e.1 0 w = .pass) ∧ e.1 = .hbm 0) ∧
     (∀ e ∈ (cut 128 (2 ^ 63) 4096).map (fun e => (d.home e.1, e.2)), e.1 = .outside)) ∧
    (let d := (up [(rHpPortstat 1, 2 ^ 61)]).setPort 1 (fun h => { h with lossAt := some 0, flr := true })
     (d.port 1).lossAt ≠ none ∧ d.portLost 1 = true ∧ (d.port 1).flr = true ∧ (up []).pins.hostloss = false) := by
  decide +kernel

/-! ## Hypotheses of the statements about dies, resets, power, security and the queue -/

/-- DiesAndClusters: a die that is ACTIVE, one that is ABSENT, one that is gone; one that drains; a fifth loss within the hour; a cluster with a spare, and the last. -/
theorem test_dies :
    (let d := up (active [8] ++ [(rCrownDiestat 7, 3), (rCrownDiectl 22, 2 ^ 31), (rCrownDiectl 8, 0)])
     d.powered = true ∧ 5 ≤ d.sup.bootStep ∧ d.dieState 8 = 0 ∧ d.dieActive 8 = true ∧ d.dieState 22 = 1 ∧ 2 ≤ d.dieState 7 ∧ (d.die 8).drain = none ∧
     (d.dieGone 22).bit (rCrownDiectl 22) 31 = true ∧ (d.dieGone 8).bit (rCrownDiectl 8) 31 = false ∧ ((d.dieGone 22).recentLosses 22).length < 4) ∧
    (let d := (up (active [22])).setDie 22 (fun x => { x with drain := some .offline, losses := [0, 0, 0, 0] })
     (d.die 22).drain = some .offline ∧ 4 ≤ (d.recentLosses 22).length ∧ d.dieActive 22 = true) ∧
    (let d := (up (active [slotTil 7] ++ [(rTilClsmaph 7, 2 ^ 20 - 1), (rTilClsmapl 7, 2 ^ 64 - 1)]))
     d.dieActive (slotTil 7) = true ∧ d.clsEnabled 7 83 = true ∧ (up []).dieActive (slotTil 7) = false ∧ ([82] : List Nat).length < 8) := by
  decide +kernel

/-- WarmResetAndBoot: a part that is powered, one whose reset waits, one without its clock; each step of boot; a slot that checks and one whose version is too low. -/
theorem test_warm_and_boot :
    (up []).powered = true ∧ (up []).pins.warm = none ∧ (up []).pins.pkgclk = true ∧ (up []).pins.thermtrip = false ∧ (up []).pm.input = .good ∧
    (up []).dark.powered = false ∧
    (∀ k ∈ List.range 9, let d := up []
      let d := { d with sup := { d.sup with bootStep := k } }
      (d.powered = true ∧ d.pins.warmrst = false ∧ d.pins.warm = none ∧ d.sup.stopped = false) ∧ d.sup.bootStep = k) ∧
    (let d := up []
     d.arb 6 ≤ (d.flashImage 6 true).svn ∧ d.arb 6 ≤ (d.flashImage 6 false).svn ∧
     (let d := { d with nv := { d.nv with arb := [(6, 3)] } }
      (d.flashImage 6 true).svn < d.arb 6)) := by
  decide +kernel

/-- PowerManager: the manager runs, is held, does not run; each side of the budget; a limit and none; a sensor above its trip point; a droop that recovers. -/
theorem test_power_manager :
    (List.replicate 23 0).length = 23 ∧ State.reset.dev.pmRuns = false ∧
    (let d := up []
     d.pmRuns = true ∧ d.pmHeld = false ∧ d.pm.calDue = false ∧ d.pm.droops.find 671 = none ∧ d.pm.inlim = false ∧ d.powered = true ∧ d.pm.input = .good) ∧
    (let d := (up (active [slotTil 7] ++ [(rTilClsmaph 7, 2 ^ 20 - 1)])).setPm (fun p => { p with droops := [(671, 5)], input := .off, m := 6 })
     d.pm.droops.find 671 = some 5 ∧ d.pm.m ≤ 5 + 1 ∧ d.pm.input = .off ∧ d.dieActive (slotTil 7) = true ∧ d.clsEnabled 7 83 = true) ∧
    (up []).bubble = 256 ∧ (up [(rPmIssue, 16 * 2 ^ 16)]).bubble = 16 ∧ ((up []).setPm (fun p => { p with input := .soft })).pm.input = .soft ∧
    (up []).fixedRate = false ∧ (up [(rPmCtl, 2 ^ 31)]).fixedRate = true := by
  decide +kernel

/-- SecurityAndSelfTest: a CP that runs, a sweep that may begin. -/
theorem test_security :
    (let d := up [(rCpStat, 2 ^ 31), (rCrownStcfg, 2 ^ 31)]
     d.sp.swapping = none ∧ d.sup.errs = [] ∧ d.cpRuns = true ∧ d.bit rCrownStcfg 31 = true ∧ d.sup.test = none ∧ (up []).cpRuns = false ∧ d.allGroups.isEmpty = true) := by
  decide +kernel

/-- The same: an activation under way. -/
theorem test_activation : ∀ cls ∈ List.range 7, ({ up [] with sp := { swapping := some (cls, (up []).firmware cls) } } : Dev).sp.swapping ≠ none := by
  decide +kernel

/-- The same: a test of each kind that is ready. -/
theorem test_self_tests : ∀ k ∈ [2, 3], (up [(rCpStat, 2 ^ 31)]).testReady { kind := k, target := 0, cur := none, groups := [] } = true := by
  decide +kernel

/-- A queue of well-formed commands, its front at the last value of its range; a state with none. -/
theorem test_waiting :
    WaitingWf { State.reset with pending := [.dieLoss 22, .powerLoss] } ∧ ¬ WaitingWf { State.reset with pending := [.dieLoss 23] } ∧
    State.reset.pending = [] ∧ Instr.wf (.dieLoss 22) = true ∧ Instr.wf (.dieLoss 23) = false := by
  unfold WaitingWf; decide +kernel

end Sys2Proof.Tests
end

section
/-! What a write of a register does, bit by bit (R5, R7, R8). -/

set_option Elab.async false

namespace Sys2Proof.Machine

open Sys2Proof

/-- Numbers without a common bit add as their bits join. -/
theorem add_eq_or {a b : Nat} (h : a &&& b = 0) : a + b = a ||| b := by
  have ha : a < 2 ^ (a + b) := lt_of_lt_of_le Nat.lt_two_pow_self (Nat.pow_le_pow_right (by norm_num) (by omega))
  have hb : b < 2 ^ (a + b) := lt_of_lt_of_le Nat.lt_two_pow_self (Nat.pow_le_pow_right (by norm_num) (by omega))
  have hx : BitVec.ofNat (a + b) a &&& BitVec.ofNat (a + b) b = 0 := by
    apply BitVec.eq_of_toNat_eq; simp [Nat.mod_eq_of_lt ha, Nat.mod_eq_of_lt hb, h]
  have hs := BitVec.toNat_add_of_and_eq_zero hx
  rw [BitVec.add_eq_or_of_and_eq_zero _ _ hx] at hs
  simpa [Nat.mod_eq_of_lt ha, Nat.mod_eq_of_lt hb] using hs.symm

/-- Taking away bits that a number has clears them. -/
theorem testBit_sub_and (o m i : Nat) : (o - (o &&& m)).testBit i = (o.testBit i && !m.testBit i) := by
  have hd : (o &&& m) &&& (o ^^^ (o &&& m)) = 0 := by
    apply Nat.eq_of_testBit_eq; intro j
    rw [Nat.testBit_and, Nat.testBit_xor, Nat.testBit_and, Nat.zero_testBit]
    cases o.testBit j <;> cases m.testBit j <;> rfl
  have ho : (o &&& m) ||| (o ^^^ (o &&& m)) = o := by
    apply Nat.eq_of_testBit_eq; intro j
    rw [Nat.testBit_or, Nat.testBit_xor, Nat.testBit_and]
    cases o.testBit j <;> cases m.testBit j <;> rfl
  have hs : o - (o &&& m) = o ^^^ (o &&& m) := by
    have := add_eq_or hd; omega
  rw [hs, Nat.testBit_xor, Nat.testBit_and]
  cases o.testBit i <;> cases m.testBit i <;> rfl

/-- R8: a bit of a field of a type after a write, from the bit before, the bit written and whether it is written. -/
def RegTy.after (ty : RegTy) (old new mask : Bool) : Bool :=
  match ty with
  | .rw => if mask then new else old
  | .w1c => old && !(mask && new)
  | .w1s => old || (mask && new)
  | .ro => old
  | .wo => old

/-- The step of RegDesc.writeFields for one field. -/
def RegField.store (f : RegField) (old new mask v : Nat) : Nat :=
  let o := bitsOf old f.hi f.lo
  let m := bitsOf mask f.hi f.lo
  let n := bitsOf new f.hi f.lo &&& m
  match f.ty with
  | .rw => putBits v f.hi f.lo (o - (o &&& m) + n)
  | .w1c => putBits v f.hi f.lo (o - (o &&& n))
  | .w1s => putBits v f.hi f.lo (o ||| n)
  | .ro => v
  | .wo => v

theorem RegDesc.writeFields_eq (r : RegDesc) (old new mask : Nat) :
    r.writeFields old new mask = r.fields.foldl (fun v f => f.store old new mask v) old := rfl

/-- A field's step leaves the bits outside it. -/
theorem RegField.testBit_store_out {f : RegField} (old new mask v : Nat) {i : Nat} (h : i < f.lo ∨ f.hi < i) :
    (f.store old new mask v).testBit i = v.testBit i := by
  have hi : ¬ (f.lo ≤ i ∧ i < f.lo + (f.hi + 1 - f.lo)) := by omega
  unfold RegField.store
  cases f.ty <;> simp [testBit_putBits, hi]

/-- A field's step gives each of its bits what its type says. -/
theorem RegField.testBit_store_in {f : RegField} {old new mask v i : Nat} (hl : f.lo ≤ i) (hh : i ≤ f.hi)
    (hv : v.testBit i = old.testBit i) :
    (f.store old new mask v).testBit i = f.ty.after (old.testBit i) (new.testBit i) (mask.testBit i) := by
  have hi : f.lo ≤ i ∧ i < f.lo + (f.hi + 1 - f.lo) := by omega
  have hb : ∀ x : Nat, (bitsOf x f.hi f.lo).testBit (i - f.lo) = x.testBit i := by
    intro x
    have hlt : i - f.lo < f.hi + 1 - f.lo := by omega
    rw [testBit_bitsOf, Nat.add_sub_cancel' hl, decide_eq_true hlt, Bool.true_and]
  unfold RegField.store RegTy.after
  cases f.ty with
  | rw =>
    have hd : (bitsOf old f.hi f.lo - (bitsOf old f.hi f.lo &&& bitsOf mask f.hi f.lo)) &&& (bitsOf new f.hi f.lo &&& bitsOf mask f.hi f.lo) = 0 := by
      apply Nat.eq_of_testBit_eq; intro j
      rw [Nat.testBit_and, Nat.testBit_and, testBit_sub_and, Nat.zero_testBit]
      cases (bitsOf mask f.hi f.lo).testBit j <;> simp
    simp only [testBit_putBits, hi, and_self, if_true, add_eq_or hd, Nat.testBit_or, testBit_sub_and, Nat.testBit_and, hb]
    cases mask.testBit i <;> simp
  | w1c => simp only [testBit_putBits, hi, and_self, if_true, testBit_sub_and, Nat.testBit_and, hb, Bool.and_comm]
  | w1s => simp only [testBit_putBits, hi, and_self, if_true, Nat.testBit_or, Nat.testBit_and, hb, Bool.and_comm]
  | ro => exact hv
  | wo => exact hv

/-- Fields that a bit is outside of leave it. -/
theorem foldl_store_out {l : List RegField} (old new mask : Nat) {i : Nat} (h : ∀ f ∈ l, i < f.lo ∨ f.hi < i) (v : Nat) :
    (l.foldl (fun v f => f.store old new mask v) v).testBit i = v.testBit i := by
  induction l generalizing v with
  | nil => rfl
  | cons f l ih =>
    rw [List.foldl_cons, ih (fun g hg => h g (by simp [hg])), f.testBit_store_out old new mask v (h f (by simp))]

/-- A bit of one of several fields that do not overlap is what that field's type says. -/
theorem foldl_store_in {l : List RegField} {old new mask i : Nat} (hd : l.Pairwise (fun f g => f.hi < g.lo ∨ g.hi < f.lo))
    {f : RegField} (hf : f ∈ l) (hl : f.lo ≤ i) (hh : i ≤ f.hi) {v : Nat} (hv : v.testBit i = old.testBit i) :
    (l.foldl (fun v f => f.store old new mask v) v).testBit i = f.ty.after (old.testBit i) (new.testBit i) (mask.testBit i) := by
  induction l generalizing v with
  | nil => simp at hf
  | cons g l ih =>
    obtain ⟨hg, hd⟩ := List.pairwise_cons.mp hd
    rw [List.foldl_cons]
    obtain rfl | hf := List.mem_cons.mp hf
    · have hout : ∀ g ∈ l, i < g.lo ∨ g.hi < i := fun g hm => by have := hg g hm; omega
      rw [foldl_store_out old new mask hout, f.testBit_store_in hl hh hv]
    · have hout : i < g.lo ∨ g.hi < i := by have := hg f hf; omega
      exact ih hd hf ((g.testBit_store_out old new mask v hout).trans hv)

/-- R7: bits of no field ignore writes. -/
theorem RegDesc.testBit_writeFields_out {r : RegDesc} (old new mask : Nat) {i : Nat} (h : ∀ f ∈ r.fields, i < f.lo ∨ f.hi < i) :
    (r.writeFields old new mask).testBit i = old.testBit i :=
  foldl_store_out old new mask h old

/-- R8: a bit of a field after a write, where the fields do not overlap. -/
theorem RegDesc.testBit_writeFields_in {r : RegDesc} {old new mask i : Nat}
    (hd : r.fields.Pairwise (fun f g => f.hi < g.lo ∨ g.hi < f.lo)) {f : RegField} (hf : f ∈ r.fields) (hl : f.lo ≤ i) (hh : i ≤ f.hi) :
    (r.writeFields old new mask).testBit i = f.ty.after (old.testBit i) (new.testBit i) (mask.testBit i) :=
  foldl_store_in hd hf hl hh rfl

end Sys2Proof.Machine

namespace Sys2Proof

open Sys2Proof.Machine

/-- Settles O34, by induction on the list of fields: a field's own bits take what its type says, and the other fields leave them. -/
theorem registerFields : Obligations.RegisterFields := by
  unfold Obligations.RegisterFields
  intro r old new mask i hd _
  refine ⟨fun f hf hl hh => ?_, fun h => r.testBit_writeFields_out old new mask h⟩
  rw [RegDesc.testBit_writeFields_in hd hf hl hh]
  cases f.ty <;> rfl

end Sys2Proof
end

section
/-! The state after reset (R9). -/

set_option Elab.async false

namespace Sys2Proof.Machine

open Sys2Proof

/-- R9: at reset a register holds the reset value of its map. -/
theorem reg_reset {off : Nat} {r : RegDesc} (h : regAt off = some r) : State.reset.dev.reg off = r.reset.toNat := by
  have hn : SMap.find State.reset.dev.regs off = none := rfl
  simp [Dev.reg, hn, h]

end Sys2Proof.Machine

namespace Sys2Proof

open Sys2Proof.Machine

/-- Settles O6: no register has been written at reset, so each reads its map's reset value. -/
theorem resetState : Obligations.ResetState := by
  unfold Obligations.ResetState
  refine ⟨⟨rfl, fun i hi => absurd hi List.not_mem_nil⟩, fun off r h => reg_reset h, ?_, ?_, ?_, ?_, rfl, rfl, fun n => ⟨rfl, rfl⟩⟩
  · decide +kernel
  · decide +kernel
  · decide +kernel
  · decide +kernel

end Sys2Proof
end

section
/-! Writes of control space as the rules of access let them through (R6, R38, R39, R206), and the commands they refuse. -/

set_option Elab.async false

namespace Sys2Proof.Machine

open Sys2Proof

/-- R206: a context other than 0 writes no register; the access is counted at its offset. -/
theorem Dev.ctrlWrite_refused (d : Dev) {ctx off : Nat} (size val : Nat) (hc : ctx ≠ 0)
    (ho : off < 0x10000000 ∨ 0x11000000 ≤ off) : (d.ctrlWrite ctx off size val).2 = d.ctrlError off := by
  have hp : ¬ (0x10000000 ≤ off ∧ off < 0x11000000) := by omega
  simp [Dev.ctrlWrite, hp, hc]

/-- R206: nor does it read one. -/
theorem Dev.ctrlRead_refused (d : Dev) {ctx off : Nat} (size : Nat) (hc : ctx ≠ 0) (ho : off < 0x10000000 ∨ 0x11000000 ≤ off) :
    d.ctrlRead ctx off size = (.refuse .protection, 0, d.ctrlError off) := by
  have hp : ¬ (0x10000000 ≤ off ∧ off < 0x11000000 ∧ (ctx = 0 ∨ ctx = (off - 0x10000000) / 4096)) := by omega
  simp only [Dev.ctrlRead, if_neg hp, if_pos hc]

/-- R38: context 0 reaches the register space. -/
theorem Dev.ctrlWrite_space (d : Dev) {off : Nat} (size val : Nat) (ho : off < 0x4000000) :
    d.ctrlWrite 0 off size val = d.regWrite off size val := by
  have hp : ¬ (0x10000000 ≤ off ∧ off < 0x11000000) := by omega
  simp [Dev.ctrlWrite, hp, ho]

theorem Dev.ctrlRead_space (d : Dev) {off : Nat} (size : Nat) (ho : off < 0x4000000) :
    d.ctrlRead 0 off size = d.regRead off size := by
  have hp : ¬ (0x10000000 ≤ off ∧ off < 0x11000000) := by omega
  simp [Dev.ctrlRead, hp, ho]

/-- R39: between the register space and the doorbells there is nothing to write. -/
theorem Dev.ctrlWrite_void (d : Dev) {off : Nat} (size val : Nat) (ho : 0x4000000 ≤ off) (hd : off < 0x10000000) :
    (d.ctrlWrite 0 off size val).2 = d.ctrlError off := by
  have hp : ¬ (0x10000000 ≤ off ∧ off < 0x11000000) := by omega
  have ho' : ¬ off < 0x4000000 := by omega
  simp [Dev.ctrlWrite, hp, ho']

/-- Where registers do not answer a write changes nothing. -/
theorem Dev.regWrite_silent {d : Dev} {off : Nat} (size val : Nat) (ha : d.regsAnswer off = false) :
    d.regWrite off size val = (.ok, d) := by
  simp [Dev.regWrite, ha]

/-- A write as wide as the register that starts at its offset stores all its bits. -/
theorem Dev.regWrite_here {d : Dev} {off size : Nat} {r : RegDesc} (val : Nat) (ha : d.regsAnswer off = true)
    (hr : d.regHere off = some r) (hb : r.bytes = size) : d.regWrite off size val = (.ok, d.regStore r off val (sizeMask size)) := by
  simp [Dev.regWrite, ha, hr, hb]

/-- R6, R39: a write to no register, or of another width, is an access error. -/
theorem Dev.regWrite_error {d : Dev} {off size : Nat} (val : Nat) (ha : d.regsAnswer off = true)
    (hn : d.regHere off = none → portBlock off = none) (hw : ∀ r, d.regHere off = some r → r.bytes ≠ size) :
    d.regWrite off size val = (.ok, d.ctrlError off) := by
  unfold Dev.regWrite
  cases hr : d.regHere off with
  | none => simp [ha, hn hr]
  | some r => simp [ha, hw r hr]

/-- A read as wide as the register that starts at its offset samples it. -/
theorem Dev.regRead_here {d : Dev} {off size : Nat} {r : RegDesc} (ha : d.regsAnswer off = true) (hr : d.regHere off = some r)
    (hb : r.bytes = size) : d.regRead off size = (.ok, d.regSample off) := by
  simp [Dev.regRead, ha, hr, hb]

/-- A register that answers is the one its map gives for the offset. -/
theorem Dev.regAt_of_regHere {d : Dev} {off : Nat} {r : RegDesc} (h : d.regHere off = some r) : regAt off = some r := by
  unfold Dev.regHere at h
  exact (Option.ite_none_right_eq_some.mp h).2

/-- The control register of a ring stands below the doorbells. -/
theorem ringRegs_ctl_lt {n : Nat} (h : n < 20) : (ringRegs n).ctl < 0x4000000 := by
  revert h; revert n; decide +kernel

theorem rSccmd_lt {k : Nat} (h : k < 10) : rSccmd k < 0x4000000 := by
  revert h; revert k; decide +kernel

/-- A command that writes a register as a context other than 0 is counted at the register's offset. -/
theorem exec_write_refused {i : Instr} {s : State} {ctx off size val : Nat} (hwf : i.wf = true)
    (hi : does i s.dev = (s.dev.ctrlWrite ctx off size val).2) (hc : ctx ≠ 0) (ho : off < 0x10000000 ∨ 0x11000000 ≤ off) :
    exec i s = .next (leaves s (s.dev.ctrlError off)) := by
  rw [exec_next s hwf, hi, s.dev.ctrlWrite_refused size val hc ho]; rfl

/-- A command that reads a register as a context other than 0 answers no data. -/
theorem Dev.readOut_refused (d : Dev) {ctx off : Nat} (size : Nat) (hc : ctx ≠ 0) (ho : off < 0x10000000) :
    d.readOut ctx off size = { d.ctrlError off with out := [], outBad := false } := by
  simp [Dev.readOut, d.ctrlRead_refused size hc (.inl ho)]

theorem wf_registerWrite {ctx off size val : Nat} (hc : ctx < 4096) (ho : off < 2 ^ 64) (hs : size ∈ [1, 2, 4, 8]) (hv : val < 2 ^ 64) :
    (Instr.registerWrite ctx off size val).wf = true := by
  have hs : size = 1 ∨ size = 2 ∨ size = 4 ∨ size = 8 := by simpa using hs
  simp only [Instr.wf, Bool.and_eq_true, decide_eq_true_eq]
  exact ⟨⟨⟨hc, ho⟩, hs⟩, hv⟩

end Sys2Proof.Machine

namespace Sys2Proof

open Sys2Proof.Machine

/-- Settles O35: the check of the context stands before the register's effect, and the check of the offset and width before its
store. -/
theorem controlSpaceErrors : Obligations.ControlSpaceErrors := by
  unfold Obligations.ControlSpaceErrors
  intro s
  refine ⟨fun ctx h0 hc n val b e he hn hv => ?_, fun ctx h0 hc => ⟨fun off size val ho hs hv => ?_, fun g row hg hr => ⟨?_, ?_⟩, ?_, ?_⟩,
    fun off size val hs hv => ⟨fun ho ha => ?_, fun ho ha hnone hwidth => ?_, fun ho hd => ?_⟩⟩
  · -- every row writes its register through the same check; rows differ in the operands' ranges and the register's offset
    have hring := fun h : n < 20 => ringRegs_ctl_lt h
    have hsccmd := fun h : n < 10 => rSccmd_lt h
    simp only [List.mem_cons, List.not_mem_nil, or_false] at he
    rcases he with rfl | rfl | rfl | rfl | rfl | rfl | rfl | rfl | rfl | rfl | rfl | rfl | rfl | rfl | rfl | rfl | rfl | rfl | rfl | rfl |
      rfl | rfl | rfl | rfl | rfl | rfl | rfl | rfl | rfl | rfl | rfl | rfl | rfl | rfl | rfl | rfl <;>
    dsimp only at hn ⊢ <;>
    exact exec_write_refused (by simp only [Instr.wf, Bool.and_eq_true, decide_eq_true_eq]; omega) rfl h0
      (.inl (by
        simp -failIfUnchanged only [rCrownDiectl, rCrownEvraise, rCulmCorectl, rGlmRepcmd, rCrownFqcons, rCrownFresume,
          rCrownFaultcfg, rCrownFadmit, rCrownLendrel, rHpPortctl, rFePortctl, rFeRouteq, rSpCmd, rCrownStcmd]
        omega))
  · exact exec_write_refused (wf_registerWrite hc (by omega) hs hv) rfl h0 (by omega)
  · exact exec_write_refused (by simp [Instr.wf, hc, hg, hr]) rfl h0 (.inl (by unfold rGlmRepcmd; omega))
  · exact exec_write_refused (by simp [Instr.wf, hc, hg, hr]) rfl h0 (.inl (by unfold rGlmRepcmd; omega))
  · rw [exec_next s (by simp [Instr.wf, hc])]
    exact congrArg (fun d => Host.Outcome.next (leaves s d)) (s.dev.readOut_refused 8 h0 (by decide))
  · rw [exec_next s (by simp [Instr.wf, hc])]
    exact congrArg (fun d => Host.Outcome.next (leaves s d)) (s.dev.readOut_refused 8 h0 (by decide))
  · rw [exec_next s (wf_registerWrite (by omega) (by omega) hs hv)]
    simp only [does, s.dev.ctrlWrite_space _ _ ho, Dev.regWrite_silent _ _ ha]
  · rw [exec_next s (wf_registerWrite (by omega) (by omega) hs hv)]
    simp only [does, s.dev.ctrlWrite_space _ _ ho, Dev.regWrite_error _ ha hnone hwidth, leaves]
  · rw [exec_next s (wf_registerWrite (by omega) (by omega) hs hv)]
    simp only [does, s.dev.ctrlWrite_void _ _ ho hd, leaves]

end Sys2Proof
end

section
/-! What a register holds after a write that answers, and the effect each register gives a write (R8, R39). -/

set_option Elab.async false

namespace Sys2Proof.Machine

open Sys2Proof

/-! ## What is stored -/

/-- A bit of a field of a register after a write of the register's `n` bytes. -/
theorem testBit_stored_in {s : State} {off n val i : Nat} {fs : List RegField} (hr : (regAt off).map (·.fields) = some fs)
    (hd : fs.Pairwise (fun f g => f.hi < g.lo ∨ g.hi < f.lo)) {f : RegField} (hf : f ∈ fs) (hl : f.lo ≤ i) (hh : i ≤ f.hi) :
    (stored s off n val).testBit i = f.ty.after ((s.dev.reg off).testBit i) (val.testBit i) (decide (i < 8 * n)) := by
  obtain ⟨r, hr', rfl⟩ := Option.map_eq_some_iff.mp hr
  unfold stored
  rw [hr', ← Nat.testBit_two_pow_sub_one]
  exact RegDesc.testBit_writeFields_in hd hf hl hh

/-- A reserved bit after such a write. -/
theorem testBit_stored_out {s : State} {off n val i : Nat} {fs : List RegField} (hr : (regAt off).map (·.fields) = some fs)
    (ho : ∀ f ∈ fs, i < f.lo ∨ f.hi < i) : (stored s off n val).testBit i = (s.dev.reg off).testBit i := by
  obtain ⟨r, hr', rfl⟩ := Option.map_eq_some_iff.mp hr
  unfold stored
  rw [hr']
  exact r.testBit_writeFields_out _ _ _ ho

/-- The value a register stores is the one that agrees with every field's type in the field's bits and with the register in the
reserved bits. -/
theorem stored_eq {s : State} {off n val x : Nat} {fs : List RegField} (hr : (regAt off).map (·.fields) = some fs)
    (hd : fs.Pairwise (fun f g => f.hi < g.lo ∨ g.hi < f.lo))
    (hin : ∀ f ∈ fs, ∀ i, f.lo ≤ i → i ≤ f.hi →
      x.testBit i = f.ty.after ((s.dev.reg off).testBit i) (val.testBit i) (decide (i < 8 * n)))
    (hout : ∀ i, (∀ f ∈ fs, i < f.lo ∨ f.hi < i) → x.testBit i = (s.dev.reg off).testBit i) :
    stored s off n val = x := by
  apply Nat.eq_of_testBit_eq
  intro i
  by_cases h : ∃ f ∈ fs, f.lo ≤ i ∧ i ≤ f.hi
  · obtain ⟨f, hf, hl, hh⟩ := h
    rw [hin f hf i hl hh, testBit_stored_in hr hd hf hl hh]
  · have ho : ∀ f ∈ fs, i < f.lo ∨ f.hi < i := fun f hf => by
      by_contra hc; exact h ⟨f, hf, by omega⟩
    rw [hout i ho, testBit_stored_out hr ho]

/-- A write that carries the present bits of every RW field, and 1 in no bit of a W1C or W1S field, leaves the register. -/
theorem stored_same {s : State} {off n val : Nat} {fs : List RegField} (hr : (regAt off).map (·.fields) = some fs)
    (hd : fs.Pairwise (fun f g => f.hi < g.lo ∨ g.hi < f.lo)) (hty : ∀ f ∈ fs, f.ty = .rw ∨ f.ty = .ro ∨ f.ty = .wo)
    (hv : ∀ f ∈ fs, f.ty = .rw → ∀ i, f.lo ≤ i → i ≤ f.hi → val.testBit i = (s.dev.reg off).testBit i) :
    stored s off n val = s.dev.reg off := by
  refine stored_eq hr hd (fun f hf i hl hh => ?_) (fun _ _ => rfl)
  obtain h | h | h := hty f hf
  · simp [RegTy.after, h, hv f hf h i hl hh]
  · simp [RegTy.after, h]
  · simp [RegTy.after, h]

/-- A register of one RW field stores the bits written there. -/
theorem stored_rw {s : State} {off n val hi lo rst : Nat} (hr : (regAt off).map (·.fields) = some [⟨hi, lo, .rw, rst⟩])
    (hn : hi < 8 * n) : stored s off n val = putBits (s.dev.reg off) hi lo (bitsOf val hi lo) := by
  refine stored_eq hr (by simp) ?_ ?_
  · intro f hf i hl hh
    obtain rfl : f = _ := List.mem_singleton.mp hf
    dsimp only at hl hh
    have h : lo ≤ i ∧ i < lo + (hi + 1 - lo) := by omega
    have hi' : i < 8 * n := by omega
    have hlt : i - lo < hi + 1 - lo := by omega
    rw [testBit_putBits, if_pos h, testBit_bitsOf, Nat.add_sub_cancel' hl, decide_eq_true hlt, decide_eq_true hi']
    rfl
  · intro i ho
    have := ho _ (List.mem_singleton_self _)
    dsimp only at this
    have h : ¬ (lo ≤ i ∧ i < lo + (hi + 1 - lo)) := by omega
    rw [testBit_putBits, if_neg h]

theorem stored_of_regAt {s : State} {off n val : Nat} {r : RegDesc} (h : regAt off = some r) :
    stored s off n val = r.writeFields (s.dev.reg off) val (2 ^ (8 * n) - 1) := by
  unfold stored; rw [h]

/-! ## Writes that answer -/

/-- A write by context 0 of all bytes of a register that answers stores them. -/
theorem ctrlWrite_here {s : State} {off n val : Nat} {r : RegDesc} (ho : off < 0x4000000) (ha : s.dev.regsAnswer off = true)
    (hr : s.dev.regHere off = some r) (hb : r.bytes = n) :
    (s.dev.ctrlWrite 0 off n val).2 = s.dev.regStore r off val (2 ^ (8 * n) - 1) := by
  rw [s.dev.ctrlWrite_space n val ho, Dev.regWrite_here val ha hr hb]; rfl

/-- A command that writes a register of the CROWN_ block that answers has the effect the block gives the write. -/
theorem exec_crown {i : Instr} {s : State} {off n val : Nat} (h : RegAnswers s off n) (ho : off < 0x100000) (hwf : i.wf = true)
    (hv : val < 2 ^ (8 * n)) (hi : does i s.dev = (s.dev.ctrlWrite 0 off n val).2) :
    exec i s = .next (leaves s (s.dev.crownStore off (stored s off n val) val)) := by
  obtain ⟨ha, r, hr, hb⟩ := h
  rw [exec_next s hwf, hi, ctrlWrite_here (by omega) ha hr hb, Dev.regStore, stored_of_regAt (Dev.regAt_of_regHere hr),
    Nat.and_two_pow_sub_one_of_lt_two_pow hv]
  simp only [if_pos ho, leaves]

/-- The same for a register of a die. -/
theorem exec_die {i : Instr} {s : State} {off n val : Nat} (h : RegAnswers s off n) (hlo : 0x100000 ≤ off) (ho : off < 0x4000000)
    (hdie : (regDie off).isSome = true) (hwf : i.wf = true) (hv : val < 2 ^ (8 * n))
    (hi : does i s.dev = (s.dev.ctrlWrite 0 off n val).2) :
    exec i s = .next (leaves s (s.dev.dieStore off (stored s off n val) val)) := by
  obtain ⟨ha, r, hr, hb⟩ := h
  rw [exec_next s hwf, hi, ctrlWrite_here ho ha hr hb, Dev.regStore, stored_of_regAt (Dev.regAt_of_regHere hr),
    Nat.and_two_pow_sub_one_of_lt_two_pow hv]
  simp only [if_neg (Nat.not_lt.mpr hlo), hdie, if_true, leaves]

/-- The same for a register of another block: below the dies' registers none stands for a die. -/
theorem exec_block {i : Instr} {s : State} {off n val : Nat} (h : RegAnswers s off n) (hlo : 0x100000 ≤ off) (ho : off < 0x1000000)
    (hwf : i.wf = true) (hv : val < 2 ^ (8 * n)) (hi : does i s.dev = (s.dev.ctrlWrite 0 off n val).2) :
    exec i s = .next (leaves s (s.dev.blockStore off (stored s off n val) val)) := by
  obtain ⟨ha, r, hr, hb⟩ := h
  have h1 : ¬ (0x1000000 ≤ off ∧ off < 0x1800000) := by omega
  have h2 : ¬ (0x1800000 ≤ off ∧ off < 0x1C00000) := by omega
  have h3 : ¬ (0x2000000 ≤ off ∧ off < 0x2C00000) := by omega
  have hdie : (regDie off).isSome = false := by simp only [regDie, if_neg h1, if_neg h2, if_neg h3, Option.isSome_none]
  rw [exec_next s hwf, hi, ctrlWrite_here (by omega) ha hr hb, Dev.regStore, stored_of_regAt (Dev.regAt_of_regHere hr),
    Nat.and_two_pow_sub_one_of_lt_two_pow hv]
  simp only [if_neg (Nat.not_lt.mpr hlo), hdie, Bool.false_eq_true, if_false, leaves]

/-! ## The effect of each register of the CROWN_ block -/

section Crown
variable (d : Dev) (v w : Nat)

theorem Dev.crownStore_fqcons {n : Nat} (h : n < 16) :
    d.crownStore (rCrownFqcons n) v w = (d.setReg (rCrownFqcons n) v).faultFlush n := by
  have hm : rCrownFqcons n % 0x20 = 24 := by unfold rCrownFqcons; omega
  have hn : (rCrownFqcons n - rCrownFqbase 0) / 0x20 = n := by unfold rCrownFqcons rCrownFqbase; omega
  unfold Dev.crownStore
  rw [if_pos (by unfold rCrownFqcons rCrownFqbase; omega)]
  simp only [hm, hn]

theorem Dev.crownStore_fqctl {n : Nat} (h : n < 16) : d.crownStore (rCrownFqctl n) v w = d.ringCtlStore n v := by
  have hm : rCrownFqctl n % 0x20 = 8 := by unfold rCrownFqctl; omega
  have hn : (rCrownFqctl n - rCrownFqbase 0) / 0x20 = n := by unfold rCrownFqctl rCrownFqbase; omega
  unfold Dev.crownStore
  rw [if_pos (by unfold rCrownFqctl rCrownFqbase; omega)]
  simp only [hm, hn]

theorem Dev.crownStore_slctl : d.crownStore rCrownSlctl v w = d.ringCtlStore 16 v := rfl
theorem Dev.crownStore_errctl : d.crownStore rCrownErrctl v w = d.ringCtlStore 17 v := rfl
theorem Dev.crownStore_fresume : d.crownStore rCrownFresume v w = d.faultResume (bitsOf w 63 62) (bitsOf w 23 0) := rfl
theorem Dev.crownStore_faultcfg : d.crownStore rCrownFaultcfg v w = d.setReg rCrownFaultcfg v := rfl
theorem Dev.crownStore_lendrel : d.crownStore rCrownLendrel v w = d.lendRelease w := rfl
theorem Dev.crownStore_evraise : d.crownStore rCrownEvraise v w = d.raiseEvent (bitsOf w 10 0) := rfl
theorem Dev.crownStore_stcmd : d.crownStore rCrownStcmd v w = d.testCommand w := rfl

/-- Registers with an effect of their own stand at no multiple of 16 from 0x3000 to 0x4000. -/
theorem Dev.crownStore_rchkb {i : Nat} (h : i < 256) : d.crownStore (rCrownRchkb i) v w = d.setReg (rCrownRchkb i) v := by
  unfold Dev.crownStore
  repeat rw [if_neg (by
    simp only [rCrownRchkb, rCrownFqbase, rCrownFresume, rCrownLendrel, rCrownFadmit, rCrownSlbase, rCrownSlctl,
      rCrownErrbase, rCrownErrctl, rCrownEvraise, rCrownDiectl, rCrownRstctl, rCrownStcmd]
    omega)]

theorem Dev.crownStore_fadmit {n : Nat} (h : n < 1152) : d.crownStore (rCrownFadmit n) v w = d.fadmitWrite n w := by
  have hn : (rCrownFadmit n - rCrownFadmit 0) / 4 = n := by unfold rCrownFadmit; omega
  unfold Dev.crownStore
  rw [hn, if_neg (by unfold rCrownFqbase rCrownFadmit; omega), if_neg (by unfold rCrownFresume rCrownFadmit; omega),
    if_neg (by unfold rCrownLendrel rCrownFadmit; omega), if_pos (by unfold rCrownFadmit; omega)]

theorem Dev.crownStore_diectl {n : Nat} (h : n < 23) :
    d.crownStore (rCrownDiectl n) v w = (d.setReg (rCrownDiectl n) v).dieRequest n (bitsOf w 1 0) := by
  have hn : (rCrownDiectl n - rCrownDiectl 0) / 4 = n := by unfold rCrownDiectl; omega
  have hd : rCrownDiectl 0 ≤ rCrownDiectl n ∧ rCrownDiectl n < rCrownDiectl 23 := by unfold rCrownDiectl; omega
  unfold Dev.crownStore
  rw [hn, if_pos hd]
  repeat rw [if_neg (by
    simp only [rCrownDiectl, rCrownFqbase, rCrownFresume, rCrownLendrel, rCrownFadmit, rCrownSlbase, rCrownSlctl,
      rCrownErrbase, rCrownErrctl, rCrownEvraise]
    omega)]

end Crown

/-! ## The effect of each register of the dies -/

section Die
variable (d : Dev) (v w : Nat)

/-- R218: SCCMD of a Tiller's or a Culm's shared cache. -/
theorem Dev.dieStore_sccmd {k : Nat} (h : k < 10) : d.dieStore (rSccmd k) v w = d.cacheSweep k (bitsOf w 1 0) := by
  by_cases hk : k < 8
  · have hr : rSccmd k = 0x1000808 + 0x100000 * k := by simp [rSccmd, hk, rTilSccmd]
    have hm : (0x1000808 + 0x100000 * k) % 0x100000 = 0x808 := by omega
    have hd : (0x1000808 + 0x100000 * k) / 0x100000 - 0x10 = k := by omega
    simp only [Dev.dieStore, hr, hm, hd]
    rw [if_pos (by omega)]; rfl
  · have hr : rSccmd k = 0x1800808 + 0x200000 * (k - 8) := by simp [rSccmd, hk, rCulmSccmd]
    have hm : (0x1800808 + 0x200000 * (k - 8) - 0x1800000) % 0x200000 = 0x808 := by omega
    have hd : 8 + (0x1800808 + 0x200000 * (k - 8) - 0x1800000) / 0x200000 = k := by omega
    simp only [Dev.dieStore, hr, hm, hd]
    rw [if_neg (by omega), if_pos (by omega)]; rfl

/-- R268: CULM_CORECTL.REQ: 1 takes the core offline, 2 brings it online. -/
def Dev.coreRequest (d : Dev) (n req : Nat) : Dev :=
  match req with
  | 1 => d.coreOffline n
  | 2 => d.coreOnline n
  | _ => d

theorem Dev.dieStore_corectl {n : Nat} (h : n < 96) :
    d.dieStore (rCulmCorectl (n / 48) (n % 48)) v w = d.coreRequest n (bitsOf w 1 0) := by
  have hq : (rCulmCorectl (n / 48) (n % 48) - 0x1800000) % 0x200000 = 0x10000 + 0x20 * (n % 48) := by unfold rCulmCorectl; omega
  have hu : (rCulmCorectl (n / 48) (n % 48) - 0x1800000) / 0x200000 = n / 48 := by unfold rCulmCorectl; omega
  have hn : 48 * (n / 48) + (0x10000 + 0x20 * (n % 48) - 0x10000) / 0x20 = n := by omega
  unfold Dev.dieStore
  rw [if_neg (by unfold rCulmCorectl; omega), if_pos (by unfold rCulmCorectl; omega)]
  simp only [hq, hu, hn]
  rw [if_neg (by omega), if_pos (by omega)]
  rfl

/-- R151, R152: GLM_REPCMD names an operation and a row. -/
theorem Dev.dieStore_repcmd {g : Nat} (h : g < 12) :
    d.dieStore (rGlmRepcmd g) v w = d.repairCommand g (bitsOf w 63 60) (repRow w) := by
  have hm : rGlmRepcmd g % 0x100000 = 0x30 := by unfold rGlmRepcmd; omega
  have hg : rGlmRepcmd g / 0x100000 - 0x20 = g := by unfold rGlmRepcmd; omega
  unfold Dev.dieStore
  rw [if_neg (by unfold rGlmRepcmd; omega), if_neg (by unfold rGlmRepcmd; omega)]
  simp only [hm, hg, if_true]

end Die

/-! ## The effect of each register of the other blocks -/

section Block
variable (d : Dev) (v w : Nat)

theorem Dev.blockStore_spCmd : d.blockStore rSpCmd v w = d.spCommand (bitsOf w 63 60) (bitsOf w 59 57) := rfl
theorem Dev.blockStore_exctl0 : d.blockStore (rSeExctl 0) v w = d.ringCtlStore 18 v := rfl
theorem Dev.blockStore_exctl1 : d.blockStore (rSeExctl 1) v w = d.ringCtlStore 19 v := rfl
theorem Dev.blockStore_routeq : d.blockStore rFeRouteq v w = (d.setReg rFeRouteq v).routeReport (bitsOf v 14 0) := rfl

theorem Dev.blockStore_hpPortctl {p : Nat} (h : p < 6) :
    d.blockStore (rHpPortctl p) v w =
      if w.testBit 0 then (d.setReg (rHpPortctl p) v).rearm p else d.setReg (rHpPortctl p) v := by
  have hp : (rHpPortctl p - rHpPortctl 0) / 0x100 = p := by unfold rHpPortctl; omega
  have hc : rHpPortctl 0 ≤ rHpPortctl p ∧ rHpPortctl p ≤ rHpPortctl 5 ∧ (rHpPortctl p - rHpPortctl 0) % 0x100 = 0 := by
    unfold rHpPortctl; omega
  unfold Dev.blockStore
  rw [if_pos hc, hp]
  repeat rw [if_neg (by simp only [rHpPortctl, rCpCtxdesc, rPmCtl, rPmCulmfreq, rSpCmd, rSeStatebase, rSeExbase, rSeExctl]; omega)]

theorem Dev.blockStore_fePortctl {p : Nat} (h : p < 16) :
    d.blockStore (rFePortctl p) v w =
      let e := (d.setReg (rFePortctl p) v).portEnable p (d.bit (rFePortctl p) 31)
      if w.testBit 30 then e.retrain p else e := by
  have hp : (rFePortctl p - rFePortctl 0) / 0x40 = p := by unfold rFePortctl; omega
  have hc : rFePortctl 0 ≤ rFePortctl p ∧ rFePortctl p ≤ rFePortctl 15 ∧ (rFePortctl p - rFePortctl 0) % 0x40 = 0 := by
    unfold rFePortctl; omega
  unfold Dev.blockStore
  rw [if_pos hc, hp]
  repeat rw [if_neg (by
    simp only [rFePortctl, rCpCtxdesc, rPmCtl, rPmCulmfreq, rSpCmd, rSeStatebase, rSeExbase, rSeExctl, rHpPortctl]
    omega)]

end Block

end Sys2Proof.Machine
end

section
/-! The register commands of context 0, register by register (R8, R39). -/

set_option Elab.async false

namespace Sys2Proof.Machine

open Sys2Proof

/-! ## The fields of the registers that commands write -/

theorem fields_diectl : ∀ n < 23, (regAt (rCrownDiectl n)).map (·.fields) = some [⟨31, 31, .rw, 1⟩, ⟨1, 0, .wo, 0⟩] := by
  decide +kernel

theorem fields_fqcons : ∀ n < 16, (regAt (rCrownFqcons n)).map (·.fields) = some [⟨15, 0, .rw, 0⟩] := by decide +kernel

theorem fields_faultcfg : (regAt rCrownFaultcfg).map (·.fields) = some [⟨19, 0, .rw, 10000⟩] := by decide +kernel

theorem fields_routeq : (regAt rFeRouteq).map (·.fields) = some [⟨14, 0, .rw, 0⟩] := by decide +kernel

theorem fields_hpPortctl : ∀ p < 6, (regAt (rHpPortctl p)).map (·.fields) = some [⟨31, 31, .rw, 0⟩, ⟨30, 30, .rw, 1⟩, ⟨0, 0, .wo, 0⟩] := by
  decide +kernel

theorem fields_fePortctl : ∀ p < 16, (regAt (rFePortctl p)).map (·.fields) = some [⟨31, 31, .rw, 1⟩, ⟨30, 30, .wo, 0⟩] := by
  decide +kernel

/-- R520: the fields of a ring's control register; only fault queues have FULL, at bit 30. -/
def ringFields (n : Nat) : List RegField :=
  if n < 16 then [⟨31, 31, .rw, 0⟩, ⟨30, 30, .ro, 0⟩, ⟨29, 28, .rw, 0⟩, ⟨26, 16, .rw, 0⟩, ⟨4, 0, .rw, 6⟩]
  else [⟨31, 31, .rw, 0⟩, ⟨29, 28, .rw, 0⟩, ⟨26, 16, .rw, 0⟩, ⟨4, 0, .rw, 6⟩]

theorem fields_ringCtl : ∀ n < 20, (regAt (ringRegs n).ctl).map (·.fields) = some (ringFields n) := by decide +kernel

/-! ## Dies -/

/-- R471: a request to a die writes ENABLE as it stands and the request. -/
theorem exec_dieRequest {i : Instr} {s : State} {n k : Nat} (hn : n < 23) (hk : k < 4) (h : RegAnswers s (rCrownDiectl n) 4)
    (hwf : i.wf = true) (hi : does i s.dev = s.dev.write4 0 (rCrownDiectl n) (s.dev.fld (rCrownDiectl n) 31 31 * 2 ^ 31 + k)) :
    exec i s = .next (leaves s ((s.dev.setReg (rCrownDiectl n) (s.dev.reg (rCrownDiectl n))).dieRequest n k)) := by
  set x := s.dev.fld (rCrownDiectl n) 31 31 with hx
  have hx2 : x < 2 := bitsOf_lt _ 31 31
  have hval : (x * 2 ^ 31 + k) % 2 ^ 32 = 2 ^ 31 * x + k := by omega
  have hk2 : k < 2 ^ 31 := by omega
  have hst : stored s (rCrownDiectl n) 4 (2 ^ 31 * x + k) = s.dev.reg (rCrownDiectl n) := by
    refine stored_same (fields_diectl n hn) (by simp) (by simp) ?_
    intro f hf hrw i hl hh
    have hi31 : i = 31 := by
      simp only [List.mem_cons, List.not_mem_nil, or_false] at hf
      rcases hf with rfl | rfl
      · dsimp only at hl hh; omega
      · exact absurd hrw (by decide)
    subst hi31
    rw [Nat.testBit_two_pow_mul_add _ hk2, if_neg (by omega), hx, Dev.fld, testBit_bitsOf]
    simp
  have hreq : bitsOf (2 ^ 31 * x + k) 1 0 = k := by simp only [bitsOf, Nat.shiftRight_zero]; omega
  rw [exec_crown (val := 2 ^ 31 * x + k) h (by unfold rCrownDiectl; omega) hwf (by omega) (by rw [hi, Dev.write4, hval]),
    hst, Dev.crownStore_diectl _ _ _ hn, hreq]

/-! ## Events, cores, repairs -/

theorem exec_evraise {s : State} {n : Nat} (hn : n < 2048) (h : RegAnswers s rCrownEvraise 4) :
    exec (.evraise 0 n) s = .next (leaves s (s.dev.setBit (rCrownEvroute n) 30 true)) := by
  have hval : n % 2 ^ 32 = n := by omega
  have hev : bitsOf n 10 0 = n := by simp only [bitsOf, Nat.shiftRight_zero]; omega
  rw [exec_crown (val := n) h (by decide) (by simp [Instr.wf, hn]) (by omega) (by simp only [does, Dev.write4, hval]),
    Dev.crownStore_evraise, hev, Dev.raiseEvent, Nat.mod_eq_of_lt hn]

/-- R268: a request to a core. -/
theorem exec_coreRequest {i : Instr} {s : State} {n k : Nat} (hn : n < 96) (hk : k < 4)
    (h : RegAnswers s (rCulmCorectl (n / 48) (n % 48)) 4) (hwf : i.wf = true)
    (hi : does i s.dev = s.dev.write4 0 (rCulmCorectl (n / 48) (n % 48)) k) :
    exec i s = .next (leaves s (s.dev.coreRequest n k)) := by
  have hval : k % 2 ^ 32 = k := by omega
  have hk' : bitsOf k 1 0 = k := by simp only [bitsOf, Nat.shiftRight_zero]; omega
  have hdie : (regDie (rCulmCorectl (n / 48) (n % 48))).isSome = true := by
    unfold regDie
    rw [if_neg (by unfold rCulmCorectl; omega), if_pos (by unfold rCulmCorectl; omega)]; rfl
  rw [exec_die (val := k) h (by unfold rCulmCorectl; omega) (by unfold rCulmCorectl; omega) hdie hwf (by omega)
    (by rw [hi, Dev.write4, hval]), Dev.dieStore_corectl _ _ _ hn, hk']

theorem DramRow.wf_iff {row : DramRow} : row.wf = true ↔ row.ch < 16 ∧ row.pc < 2 ∧ row.bank < 64 ∧ row.row < 131072 := by
  simp [DramRow.wf]

/-- The word of an operation on a row fits the register. -/
theorem repWord_lt {op : Nat} (hop : op < 16) (row : DramRow) : repWord op row < 2 ^ 64 := by
  unfold repWord; omega

/-- The fields of the word are the operation and the row. -/
theorem bitsOf_repWord {op : Nat} (hop : op < 16) (row : DramRow) : bitsOf (repWord op row) 63 60 = op := by
  simp only [bitsOf, repWord, Nat.shiftRight_eq_div_pow]; omega

theorem repRow_repWord {op : Nat} {row : DramRow} (hr : row.wf = true) : repRow (repWord op row) = row := by
  obtain ⟨hch, hpc, hbank, hrow⟩ := DramRow.wf_iff.mp hr
  obtain ⟨ch, pc, bank, r⟩ := row
  simp only [repRow, bitsOf, repWord, Nat.shiftRight_eq_div_pow, DramRow.mk.injEq] at *
  refine ⟨?_, ?_, ?_, ?_⟩ <;> omega

/-- R151, R152: a GLM_REPCMD of an operation on a row. -/
theorem exec_repcmd {i : Instr} {s : State} {g op : Nat} {row : DramRow} (hg : g < 12) (hop : op < 16) (hrow : row.wf = true)
    (h : RegAnswers s (rGlmRepcmd g) 8) (hwf : i.wf = true) (hi : does i s.dev = s.dev.write8 0 (rGlmRepcmd g) (repWord op row)) :
    exec i s = .next (leaves s (s.dev.repairCommand g op row)) := by
  have hdie : (regDie (rGlmRepcmd g)).isSome = true := by
    unfold regDie
    rw [if_neg (by unfold rGlmRepcmd; omega), if_neg (by unfold rGlmRepcmd; omega), if_pos (by unfold rGlmRepcmd; omega)]; rfl
  rw [exec_die (val := repWord op row) h (by unfold rGlmRepcmd; omega) (by unfold rGlmRepcmd; omega) hdie hwf (repWord_lt hop row)
    (by rw [hi, Dev.write8]), Dev.dieStore_repcmd _ _ _ hg, bitsOf_repWord hop, repRow_repWord hrow]

/-! ## Faults -/

theorem exec_fqcons {s : State} {n val : Nat} (hn : n < 16) (hv : val < 2 ^ 64) (h : RegAnswers s (rCrownFqcons n) 4) :
    exec (.faultQueueConsWrite 0 n val) s = .next (leaves s ((s.dev.setFld (rCrownFqcons n) 15 0 (val % 65536)).faultFlush n)) := by
  have hb : bitsOf (val % 2 ^ 32) 15 0 = val % 65536 := by simp only [bitsOf, Nat.shiftRight_zero]; omega
  have hwf : (Instr.faultQueueConsWrite 0 n val).wf = true := by
    simp only [Instr.wf, Bool.and_eq_true, decide_eq_true_eq]; omega
  rw [exec_crown (val := val % 2 ^ 32) h (by unfold rCrownFqcons; omega) hwf (by omega) rfl,
    stored_rw (fields_fqcons n hn) (by omega), hb, Dev.crownStore_fqcons _ _ _ hn]
  rfl

/-- R197: FRESUME names what to do and the fault. -/
theorem exec_fresume {i : Instr} {s : State} {k id : Nat} (hk : k < 4) (hid : id < 2 ^ 24) (h : RegAnswers s rCrownFresume 8)
    (hwf : i.wf = true) (hi : does i s.dev = s.dev.write8 0 rCrownFresume (k * 2 ^ 62 + id)) :
    exec i s = .next (leaves s (s.dev.faultResume k id)) := by
  have hop : bitsOf (k * 2 ^ 62 + id) 63 62 = k := by simp only [bitsOf, Nat.shiftRight_eq_div_pow]; omega
  have hfault : bitsOf (k * 2 ^ 62 + id) 23 0 = id := by simp only [bitsOf, Nat.shiftRight_zero]; omega
  rw [exec_crown (val := k * 2 ^ 62 + id) h (by decide) hwf (by omega) (by rw [hi, Dev.write8]), Dev.crownStore_fresume, hop, hfault]

theorem exec_faultcfg {s : State} {val : Nat} (hv : val < 2 ^ 64) (h : RegAnswers s rCrownFaultcfg 4) :
    exec (.faultcfgWrite 0 val) s = .next (leaves s (s.dev.setFld rCrownFaultcfg 19 0 (val % 2 ^ 20))) := by
  have hb : bitsOf (val % 2 ^ 32) 19 0 = val % 2 ^ 20 := by simp only [bitsOf, Nat.shiftRight_zero]; omega
  have hwf : (Instr.faultcfgWrite 0 val).wf = true := by
    simp only [Instr.wf, Bool.and_eq_true, decide_eq_true_eq]; omega
  rw [exec_crown (val := val % 2 ^ 32) h (by decide) hwf (by omega) rfl, stored_rw fields_faultcfg (by omega), hb,
    Dev.crownStore_faultcfg]
  rfl

/-! ## Rings -/

/-- The bits of a ring's control register that a write sets: EN, DEST, VEC, LOG2SIZE. -/
theorem testBit_ringCtl {s : State} {n val i : Nat} (hn : n < 20) :
    (stored s (ringRegs n).ctl 4 val).testBit i =
      if i = 31 ∨ i < 5 ∨ (16 ≤ i ∧ i < 27) ∨ i = 28 ∨ i = 29 then val.testBit i else (s.dev.reg (ringRegs n).ctl).testBit i := by
  have hr := fields_ringCtl n hn
  have hd : (ringFields n).Pairwise (fun f g => f.hi < g.lo ∨ g.hi < f.lo) := by unfold ringFields; split <;> decide
  have hrw : ∀ f : RegField, f ∈ ringFields n → f.ty = .rw → f.lo ≤ i → i ≤ f.hi → i < 32 →
      (stored s (ringRegs n).ctl 4 val).testBit i = val.testBit i := by
    intro f hf hty hl hh hi
    rw [testBit_stored_in hr hd hf hl hh, hty]
    simp [RegTy.after, hi]
  have hmem : ∀ f ∈ [(⟨31, 31, .rw, 0⟩ : RegField), ⟨29, 28, .rw, 0⟩, ⟨26, 16, .rw, 0⟩, ⟨4, 0, .rw, 6⟩], f ∈ ringFields n := by
    unfold ringFields; split <;> decide
  simp only [List.forall_mem_cons] at hmem
  obtain ⟨h31, h29, h26, h4, -⟩ := hmem
  split_ifs with h
  · rcases h with h | h | h | h
    · exact hrw _ h31 rfl (by dsimp only; omega) (by dsimp only; omega) (by omega)
    · exact hrw _ h4 rfl (by dsimp only; omega) (by dsimp only; omega) (by omega)
    · exact hrw _ h26 rfl (by dsimp only; omega) (by dsimp only; omega) (by omega)
    · exact hrw _ h29 rfl (by dsimp only; omega) (by dsimp only; omega) (by omega)
  · by_cases hf : n < 16 ∧ i = 30
    · have hfull : (⟨30, 30, .ro, 0⟩ : RegField) ∈ ringFields n := by simp [ringFields, hf.1]
      exact testBit_stored_in hr hd hfull (by dsimp only; omega) (by dsimp only; omega)
    · refine testBit_stored_out hr (fun f hm => ?_)
      unfold ringFields at hm
      split at hm <;> simp only [List.mem_cons, List.not_mem_nil, or_false] at hm <;>
        rcases hm with rfl | rfl | rfl | rfl | rfl <;> dsimp only <;> omega

/-- R520: a write of a ring's control register. -/
theorem exec_ringCtl {i : Instr} {s : State} {n val : Nat} (hn : n < 20) (h : RegAnswers s (ringRegs n).ctl 4) (hwf : i.wf = true)
    (hi : does i s.dev = s.dev.write4 0 (ringRegs n).ctl val) :
    exec i s = .next (leaves s (s.dev.ringCtlStore n (stored s (ringRegs n).ctl 4 (val % 2 ^ 32)))) := by
  have hv : val % 2 ^ 32 < 2 ^ (8 * 4) := Nat.mod_lt _ (by norm_num)
  obtain hn' | rfl | rfl | rfl | rfl : n < 16 ∨ n = 16 ∨ n = 17 ∨ n = 18 ∨ n = 19 := by omega
  · have hc : (ringRegs n).ctl = rCrownFqctl n := by simp [ringRegs, hn']
    rw [hc] at h hi ⊢
    rw [exec_crown h (by unfold rCrownFqctl; omega) hwf hv hi, Dev.crownStore_fqctl _ _ _ hn']
  · exact exec_crown h (by decide) hwf hv hi
  · exact exec_crown h (by decide) hwf hv hi
  · exact exec_block h (by decide) (by decide) hwf hv hi
  · exact exec_block h (by decide) (by decide) hwf hv hi

/-- What a command that writes a ring's control register with EN as `on` stores. -/
theorem testBit_ringCtl_en {s : State} {n val i : Nat} (on : Bool) (hn : n < 20) :
    (stored s (ringRegs n).ctl 4 (putBits val 31 31 (if on then 1 else 0) % 2 ^ 32)).testBit i =
      if i = 31 then on else if i < 5 ∨ (16 ≤ i ∧ i < 27) ∨ i = 28 ∨ i = 29 then val.testBit i
      else (s.dev.reg (ringRegs n).ctl).testBit i := by
  have hb : i < 32 → (putBits val 31 31 (if on then 1 else 0) % 2 ^ 32).testBit i = if i = 31 then on else val.testBit i := by
    intro hi
    rw [Nat.testBit_mod_two_pow, testBit_putBits]
    by_cases h31 : i = 31
    · subst h31; cases on <;> simp
    · rw [if_neg (by omega), if_neg h31]
      simp [hi]
  rw [testBit_ringCtl hn]
  by_cases h31 : i = 31
  · rw [if_pos (.inl h31), hb (by omega), if_pos h31]; simp [h31]
  · by_cases hf : i < 5 ∨ (16 ≤ i ∧ i < 27) ∨ i = 28 ∨ i = 29
    · rw [if_pos (.inr hf), hb (by omega), if_neg h31, if_neg h31, if_pos hf]
    · rw [if_neg (not_or.mpr ⟨h31, hf⟩), if_neg h31, if_neg hf]

/-! ## Lending, caches -/

/-- R185: a write of CROWN_FADMIT. -/
theorem exec_fadmit {i : Instr} {s : State} {n val : Nat} (hn : n < 1152) (h : RegAnswers s (rCrownFadmit n) 4) (hwf : i.wf = true)
    (hi : does i s.dev = s.dev.write4 0 (rCrownFadmit n) val) :
    exec i s = .next (leaves s (s.dev.fadmitWrite n (val % 2 ^ 32))) := by
  rw [exec_crown (val := val % 2 ^ 32) h (by unfold rCrownFadmit; omega) hwf (Nat.mod_lt _ (by norm_num)) (by rw [hi, Dev.write4]),
    Dev.crownStore_fadmit _ _ _ hn]

theorem exec_lendrel {s : State} {val : Nat} (hv : val < 2 ^ 64) (h : RegAnswers s rCrownLendrel 8) :
    exec (.lendRelease 0 val) s = .next (leaves s (s.dev.lendRelease val)) := by
  have hwf : (Instr.lendRelease 0 val).wf = true := by
    simp only [Instr.wf, Bool.and_eq_true, decide_eq_true_eq]; omega
  rw [exec_crown (val := val) h (by decide) hwf hv rfl, Dev.crownStore_lendrel]

/-- R218: a command to a shared cache. -/
theorem exec_sccmd {i : Instr} {s : State} {k op : Nat} (hk : k < 10) (hop : op < 4) (h : RegAnswers s (rSccmd k) 4) (hwf : i.wf = true)
    (hi : does i s.dev = s.dev.write4 0 (rSccmd k) op) : exec i s = .next (leaves s (s.dev.cacheSweep k op)) := by
  have hval : op % 2 ^ 32 = op := by omega
  have hb : bitsOf op 1 0 = op := by simp only [bitsOf, Nat.shiftRight_zero]; omega
  have hdie : ∀ k < 10, 0x100000 ≤ rSccmd k ∧ (regDie (rSccmd k)).isSome = true := by decide +kernel
  obtain ⟨hlo, hd⟩ := hdie k hk
  rw [exec_die (val := op) h hlo (rSccmd_lt hk) hd hwf (by omega) (by rw [hi, Dev.write4, hval]), Dev.dieStore_sccmd _ _ _ hk, hb]

/-! ## Reads of queue entries -/

/-- A read by context 0 of a register that answers gives its bytes. -/
theorem exec_read {i : Instr} {s : State} {off n : Nat} (h : RegAnswers s off n) (ho : off < 0x4000000) (hwf : i.wf = true)
    (hi : does i s.dev = s.dev.readOut 0 off n) :
    exec i s = .next (leaves s { (s.dev.regSample off).2 with out := leBytes n (s.dev.regSample off).1, outBad := false }) := by
  obtain ⟨ha, r, hr, hb⟩ := h
  rw [exec_next s hwf, hi, Dev.readOut, s.dev.ctrlRead_space n ho, Dev.regRead_here ha hr hb]
  rfl

/-! ## Ports -/

theorem exec_portRearm {s : State} {p : Nat} (hp : p < 6) (h : RegAnswers s (rHpPortctl p) 4) :
    exec (.portRearm 0 p) s = .next (leaves s ((s.dev.setReg (rHpPortctl p) (s.dev.reg (rHpPortctl p))).rearm p)) := by
  set val := putBits (s.dev.reg (rHpPortctl p)) 0 0 1 % 2 ^ 32 with hval
  have hst : stored s (rHpPortctl p) 4 val = s.dev.reg (rHpPortctl p) := by
    refine stored_same (fields_hpPortctl p hp) (by simp) (by simp) ?_
    intro f hf hrw i hl hh
    have hi : 30 ≤ i ∧ i < 32 := by
      simp only [List.mem_cons, List.not_mem_nil, or_false] at hf
      rcases hf with rfl | rfl | rfl
      · dsimp only at hl hh; omega
      · dsimp only at hl hh; omega
      · exact absurd hrw (by decide)
    rw [hval, Nat.testBit_mod_two_pow, testBit_putBits, if_neg (by omega)]
    simp [hi.2]
  have hbit : val.testBit 0 = true := by rw [hval, Nat.testBit_mod_two_pow, testBit_putBits]; simp
  rw [exec_block (val := val) h (by unfold rHpPortctl; omega) (by unfold rHpPortctl; omega) (by simp [Instr.wf, hp])
    (Nat.mod_lt _ (by norm_num)) rfl, hst, Dev.blockStore_hpPortctl _ _ _ hp, if_pos hbit]

theorem exec_portRetrain {s : State} {p : Nat} (hp : p < 16) (h : RegAnswers s (rFePortctl p) 4) :
    exec (.portRetrain 0 p) s = .next (leaves s (((s.dev.setReg (rFePortctl p) (s.dev.reg (rFePortctl p))).portEnable p
      (s.dev.bit (rFePortctl p) 31)).retrain p)) := by
  set val := putBits (s.dev.reg (rFePortctl p)) 30 30 1 % 2 ^ 32 with hval
  have hst : stored s (rFePortctl p) 4 val = s.dev.reg (rFePortctl p) := by
    refine stored_same (fields_fePortctl p hp) (by simp) (by simp) ?_
    intro f hf hrw i hl hh
    have hi : i = 31 := by
      simp only [List.mem_cons, List.not_mem_nil, or_false] at hf
      rcases hf with rfl | rfl
      · dsimp only at hl hh; omega
      · exact absurd hrw (by decide)
    rw [hval, Nat.testBit_mod_two_pow, testBit_putBits, if_neg (by omega)]
    simp [hi]
  have hbit : val.testBit 30 = true := by rw [hval, Nat.testBit_mod_two_pow, testBit_putBits]; simp
  rw [exec_block (val := val) h (by unfold rFePortctl; omega) (by unfold rFePortctl; omega) (by simp [Instr.wf, hp])
    (Nat.mod_lt _ (by norm_num)) rfl, hst, Dev.blockStore_fePortctl _ _ _ hp]
  simp only [if_pos hbit]

theorem exec_fePortEn {s : State} {p : Nat} (on : Bool) (hp : p < 16) (h : RegAnswers s (rFePortctl p) 4) :
    exec (.fePortEnWrite 0 p on) s = .next (leaves s ((s.dev.setBit (rFePortctl p) 31 on).portEnable p (s.dev.bit (rFePortctl p) 31))) := by
  set val := if on then 2 ^ 31 else 0 with hval
  have hbit : ∀ i, val.testBit i = (decide (i = 31) && on) := by
    intro i
    cases on
    · simp [hval]
    · rw [hval, if_pos rfl, Nat.testBit_two_pow]; simp [eq_comm]
  have hst : stored s (rFePortctl p) 4 val = putBits (s.dev.reg (rFePortctl p)) 31 31 (if on then 1 else 0) := by
    refine stored_eq (fields_fePortctl p hp) (by simp) ?_ ?_
    · intro f hf i hl hh
      simp only [List.mem_cons, List.not_mem_nil, or_false] at hf
      rcases hf with rfl | rfl
      · obtain rfl : i = 31 := by dsimp only at hl hh; omega
        rw [testBit_putBits, hbit]
        cases on <;> simp [RegTy.after]
      · obtain rfl : i = 30 := by dsimp only at hl hh; omega
        rw [testBit_putBits, if_neg (by omega)]; rfl
    · intro i ho
      have := ho ⟨31, 31, .rw, 1⟩ (by simp)
      rw [testBit_putBits, if_neg (by dsimp only at this; omega)]
  have hv : val < 2 ^ (8 * 4) := by rw [hval]; split <;> norm_num
  rw [exec_block (val := val) h (by unfold rFePortctl; omega) (by unfold rFePortctl; omega) (by simp [Instr.wf, hp]) hv
    (by simp only [does, Dev.write4, ← hval]; rw [Nat.mod_eq_of_lt (by omega)]), hst, Dev.blockStore_fePortctl _ _ _ hp]
  simp [hbit, Dev.setBit, Dev.setFld]

theorem exec_routeq {s : State} {val : Nat} (hv : val < 2 ^ 64) (h : RegAnswers s rFeRouteq 4) :
    exec (.routeqWrite 0 val) s = .next (leaves s ((s.dev.setFld rFeRouteq 14 0 (val % 2 ^ 15)).routeReport (val % 2 ^ 15))) := by
  have hb : bitsOf (val % 2 ^ 32) 14 0 = val % 2 ^ 15 := by simp only [bitsOf, Nat.shiftRight_zero]; omega
  have hwf : (Instr.routeqWrite 0 val).wf = true := by
    simp only [Instr.wf, Bool.and_eq_true, decide_eq_true_eq]; omega
  rw [exec_block (val := val % 2 ^ 32) h (by decide) (by decide) hwf (by omega) rfl, stored_rw fields_routeq (by omega), hb,
    Dev.blockStore_routeq, bitsOf_putBits, Nat.mod_mod]
  rfl

/-! ## Security processor and self-test -/

/-- R477: SP_CMD names an operation and an image class. -/
theorem exec_spCmd {i : Instr} {s : State} {op cls : Nat} (hop : op < 16) (hc : cls < 8) (h : RegAnswers s rSpCmd 8) (hwf : i.wf = true)
    (hi : does i s.dev = s.dev.write8 0 rSpCmd (op * 2 ^ 60 + cls * 2 ^ 57)) :
    exec i s = .next (leaves s (s.dev.spCommand op cls)) := by
  have ho : bitsOf (op * 2 ^ 60 + cls * 2 ^ 57) 63 60 = op := by simp only [bitsOf, Nat.shiftRight_eq_div_pow]; omega
  have hcls : bitsOf (op * 2 ^ 60 + cls * 2 ^ 57) 59 57 = cls := by simp only [bitsOf, Nat.shiftRight_eq_div_pow]; omega
  rw [exec_block (val := op * 2 ^ 60 + cls * 2 ^ 57) h (by decide) (by decide) hwf (by omega) (by rw [hi, Dev.write8]),
    Dev.blockStore_spCmd, ho, hcls]

/-- R488: a command of the self-test passes on its word. -/
theorem exec_stcmd {i : Instr} {s : State} {kind target grp : Nat} {f : Bool} (hk : kind < 16) (ht : target < 256) (hg : grp < 256)
    (h : RegAnswers s rCrownStcmd 8) (hwf : i.wf = true)
    (hi : does i s.dev = s.dev.write8 0 rCrownStcmd (testWord kind f target grp)) :
    exec i s = .next (leaves s (s.dev.testCommand (kind * 2 ^ 60 + (if f then 2 ^ 59 else 0) + target * 2 ^ 8 + grp))) := by
  have hw : testWord kind f target grp = kind * 2 ^ 60 + (if f then 2 ^ 59 else 0) + target * 2 ^ 8 + grp := by
    rw [testWord, Nat.mod_eq_of_lt ht, Nat.mod_eq_of_lt hg]
  have hv : testWord kind f target grp < 2 ^ (8 * 8) := by rw [hw]; split <;> omega
  rw [exec_crown (val := testWord kind f target grp) h (by decide) hwf hv (by rw [hi, Dev.write8]), Dev.crownStore_stcmd, hw]

end Sys2Proof.Machine

namespace Sys2Proof

open Sys2Proof.Machine

/-- Settles O36, register by register: the access rules let the write through, and the block gives it the register's effect. -/
theorem registerCommands : Obligations.RegisterCommands := by
  unfold Obligations.RegisterCommands
  intro s
  dsimp only
  refine ⟨fun i val hi hv h => ?_, fun off size val ho hs hv r ha hr hb => ?_, fun n hn h => ⟨?_, ?_, ?_⟩,
    fun n hn h => exec_evraise hn h, fun n hn h => ⟨?_, ?_⟩, fun g hg h => ⟨?_, fun row hrow => ⟨?_, ?_⟩⟩,
    fun n val hn hv h => exec_fqcons hn hv h, fun id hid h => ⟨?_, ?_⟩, fun val hv h => exec_faultcfg hv h,
    fun n val on hn hv h => ⟨stored s (ringRegs n).ctl 4 (putBits val 31 31 (if on then 1 else 0) % 2 ^ 32),
      fun i _ => testBit_ringCtl_en on hn, ?_⟩,
    fun n val hn hv h => ⟨?_, ?_, ?_⟩, fun val hv h => exec_lendrel hv h, fun k hk h => ⟨?_, ?_⟩, fun h => ?_, fun h => ?_,
    fun p hp h => exec_portRearm hp h, fun p hp h => ⟨exec_portRetrain hp h, fun on => exec_fePortEn on hp h⟩,
    fun val hv h => exec_routeq hv h, fun h => ⟨fun c hc => ⟨?_, ?_, ?_⟩, ?_, ?_, ?_, ?_⟩,
    fun h f => ⟨fun t g ht hg => ?_, fun hf => ?_, fun n hn => ?_, ?_, ?_, ?_⟩⟩
  · rw [exec_crown (val := val) h (by unfold rCrownRchkb; omega) (wf_registerWrite (by omega) (by unfold rCrownRchkb; omega) (by simp) hv)
      (by omega) (by simp only [does]; rw [Nat.mod_eq_of_lt (by omega)]), Dev.crownStore_rchkb _ _ _ hi]
  · have hs' : size ∈ [1, 2, 4, 8] := by
      simp only [List.mem_cons, List.not_mem_nil, or_false] at hs ⊢; omega
    rw [exec_next s (wf_registerWrite (by omega) (by omega) hs' hv)]
    simp only [does, ctrlWrite_here ho ha hr hb, leaves]
  · exact exec_dieRequest hn (by omega) h (by simp [Instr.wf, hn]) rfl
  · exact exec_dieRequest hn (by omega) h (by simp [Instr.wf, hn]) rfl
  · exact exec_dieRequest hn (by omega) h (by simp [Instr.wf, hn]) rfl
  · exact exec_coreRequest hn (k := 1) (by omega) h (by simp [Instr.wf, hn]) rfl
  · exact exec_coreRequest hn (k := 2) (by omega) h (by simp [Instr.wf, hn]) rfl
  · exact exec_repcmd hg (by omega) (by decide) h (by simp [Instr.wf, hg]) rfl
  · exact exec_repcmd hg (by omega) hrow h (by simp [Instr.wf, hg, hrow]) rfl
  · exact exec_repcmd hg (by omega) hrow h (by simp [Instr.wf, hg, hrow]) rfl
  · exact exec_fresume (by omega) hid h (by simp [Instr.wf]) (by simp [does])
  · exact exec_fresume (by omega) hid h (by simp [Instr.wf]) rfl
  · have hwf : ((if on then .ringEnable 0 n val else .ringDisable 0 n val) : Instr).wf = true := by
      cases on <;> simp only [Instr.wf, Bool.and_eq_true, decide_eq_true_eq, if_true, if_false, Bool.false_eq_true] <;> omega
    exact exec_ringCtl hn h hwf (by cases on <;> rfl)
  · exact exec_fadmit hn h (by simp only [Instr.wf, Bool.and_eq_true, decide_eq_true_eq]; omega) rfl
  · exact exec_fadmit hn h (by simp only [Instr.wf, Bool.and_eq_true, decide_eq_true_eq]; omega) rfl
  · exact exec_fadmit hn h (by simp only [Instr.wf, Bool.and_eq_true, decide_eq_true_eq]; omega) rfl
  · exact exec_sccmd hk (by omega) h (by simp [Instr.wf, hk]) rfl
  · exact exec_sccmd hk (by omega) h (by simp [Instr.wf, hk]) rfl
  · exact exec_read h (by decide) (by simp [Instr.wf]) rfl
  · exact exec_read h (by decide) (by simp [Instr.wf]) rfl
  · exact exec_spCmd (by omega) (by omega) h (by simp [Instr.wf, hc]) rfl
  · exact exec_spCmd (by omega) (by omega) h (by simp [Instr.wf, hc]) rfl
  · exact exec_spCmd (by omega) (by omega) h (by simp [Instr.wf, hc]) rfl
  · exact exec_spCmd (cls := 0) (by omega) (by omega) h (by simp [Instr.wf]) rfl
  · exact exec_spCmd (cls := 0) (by omega) (by omega) h (by simp [Instr.wf]) rfl
  · exact exec_spCmd (cls := 0) (by omega) (by omega) h (by simp [Instr.wf]) rfl
  · exact exec_spCmd (cls := 0) (by omega) (by omega) h (by simp [Instr.wf]) rfl
  · exact exec_stcmd (by omega) (by omega) (by omega) h (by simp [Instr.wf, ht, hg]) rfl
  · subst hf
    exact exec_stcmd (by omega) (by omega) (by omega) h (by simp [Instr.wf]) rfl
  · exact exec_stcmd (by omega) (by omega) (by omega) h (by simp [Instr.wf, hn]) rfl
  · exact exec_stcmd (by omega) (by omega) (by omega) h (by simp [Instr.wf]) rfl
  · exact exec_stcmd (by omega) (by omega) (by omega) h (by simp [Instr.wf]) rfl
  · exact exec_stcmd (by omega) (by omega) (by omega) h (by simp [Instr.wf]) rfl

end Sys2Proof
end

section
/-! The 32-bit paths into the register space (R5). -/

set_option Elab.async false

namespace Sys2Proof.Machine

open Sys2Proof

/-- Bits above the bytes asked for do not show. -/
theorem leBytes_mod (n x : Nat) : leBytes n (x % 2 ^ (8 * n)) = leBytes n x := by
  refine List.map_congr_left (fun i hi => ?_)
  have hi : i < n := List.mem_range.mp hi
  apply BitVec.eq_of_getLsbD_eq
  intro j hj
  have hij : 8 * i + j < 8 * n := by omega
  simp only [BitVec.getLsbD_ofNat, Nat.testBit_shiftRight, Nat.testBit_mod_two_pow, hij, decide_true, Bool.true_and]

section Path
variable {d : Dev} {o : Nat} {r : RegDesc}

theorem Dev.pathReg_low (hr : d.regHere o = some r) : d.pathReg o = some (r, o, false) := by
  simp [Dev.pathReg, hr]

theorem Dev.pathReg_high (hn : d.regHere (o + 4) = none) (hr : d.regHere o = some r) (hb : r.bytes = 8) (ho : o % 8 = 0) :
    d.pathReg (o + 4) = some (r, o, true) := by
  have hm : (o + 4) % 8 = 4 := by omega
  simp [Dev.pathReg, hn, hm, hr, hb]

/-- R5: a 32-bit register is written at once, and both latches are discarded. -/
theorem Dev.pathWrite_whole (hr : d.regHere o = some r) (hb : r.bytes = 4) (v : Nat) :
    d.pathWrite .service o v = ({ d with svcLatch := ⟨none, none⟩ } : Dev).regStore r o v (2 ^ 32 - 1) := by
  simp only [Dev.pathWrite, Dev.pathReg_low hr, hb, if_true]
  rfl

/-- R5: the low word of a 64-bit register goes to the write latch. -/
theorem Dev.pathWrite_low (hr : d.regHere o = some r) (hb : r.bytes = 8) (v : Nat) :
    d.pathWrite .service o v =
      { d with svcLatch := ⟨some (o, BitVec.ofNat 32 v), d.svcLatch.rd.filter (fun e => e.1 == o)⟩ } := by
  simp only [Dev.pathWrite, Dev.pathReg_low hr, hb]
  rfl

/-- R5: the high word stores both halves when the latch holds the low one of this register. -/
theorem Dev.pathWrite_both (hn : d.regHere (o + 4) = none) (hr : d.regHere o = some r) (hb : r.bytes = 8) (ho : o % 8 = 0) (v : Nat)
    {lo : BitVec 32} (hl : d.svcLatch.wr.filter (fun e => e.1 == o) = some (o, lo)) :
    d.pathWrite .service (o + 4) v = ({ d with svcLatch := ⟨none, d.svcLatch.rd.filter (fun e => e.1 == o)⟩ } : Dev).regStore r o
      (v * 2 ^ 32 + lo.toNat) (2 ^ 64 - 1) := by
  simp only [Dev.pathWrite, Dev.pathReg_high hn hr hb ho, hb, Dev.latch, hl]
  rfl

/-- R5: without it the high word stores itself alone. -/
theorem Dev.pathWrite_high (hn : d.regHere (o + 4) = none) (hr : d.regHere o = some r) (hb : r.bytes = 8) (ho : o % 8 = 0) (v : Nat)
    (hl : d.svcLatch.wr.filter (fun e => e.1 == o) = none) :
    d.pathWrite .service (o + 4) v = ({ d with svcLatch := ⟨none, d.svcLatch.rd.filter (fun e => e.1 == o)⟩ } : Dev).regStore r o
      (v * 2 ^ 32) (2 ^ 64 - 2 ^ 32) := by
  simp only [Dev.pathWrite, Dev.pathReg_high hn hr hb ho, hb, Dev.latch, hl]
  rfl

/-- R5: a 32-bit register is sampled, and both latches are discarded. -/
theorem Dev.pathRead_whole (hr : d.regHere o = some r) (hb : r.bytes = 4) :
    d.pathRead .service o = ({ d with svcLatch := ⟨none, none⟩ } : Dev).regSample o := by
  simp only [Dev.pathRead, Dev.pathReg_low hr, hb, if_true]
  rfl

/-- R5: a read of the low word samples the register and latches the high half. -/
theorem Dev.pathRead_low (hr : d.regHere o = some r) (hb : r.bytes = 8) :
    d.pathRead .service o = ((d.regSample o).1 % 2 ^ 32, { (d.regSample o).2 with
      svcLatch := ⟨d.svcLatch.wr.filter (fun e => e.1 == o), some (o, BitVec.ofNat 32 ((d.regSample o).1 / 2 ^ 32))⟩ }) := by
  simp only [Dev.pathRead, Dev.pathReg_low hr, hb, Dev.latch]
  rfl

/-- R5: the high word is the latched half when the latch holds one of this register. -/
theorem Dev.pathRead_latched (hn : d.regHere (o + 4) = none) (hr : d.regHere o = some r) (hb : r.bytes = 8) (ho : o % 8 = 0)
    {hi : BitVec 32} (hl : d.svcLatch.rd.filter (fun e => e.1 == o) = some (o, hi)) :
    d.pathRead .service (o + 4) =
      (hi.toNat, { d with svcLatch := ⟨d.svcLatch.wr.filter (fun e => e.1 == o), none⟩ }) := by
  simp only [Dev.pathRead, Dev.pathReg_high hn hr hb ho, hb, Dev.latch, hl]
  rfl

/-- R5: without it the register is sampled afresh. -/
theorem Dev.pathRead_high (hn : d.regHere (o + 4) = none) (hr : d.regHere o = some r) (hb : r.bytes = 8) (ho : o % 8 = 0)
    (hl : d.svcLatch.rd.filter (fun e => e.1 == o) = none) :
    d.pathRead .service (o + 4) = ((d.regSample o).1 / 2 ^ 32 % 2 ^ 32,
      { (d.regSample o).2 with svcLatch := ⟨d.svcLatch.wr.filter (fun e => e.1 == o), none⟩ }) := by
  simp only [Dev.pathRead, Dev.pathReg_high hn hr hb ho, hb, Dev.latch, hl, BitVec.toNat_ofNat]
  rfl

/-! ## WREG and RREG (R493) -/

theorem Dev.svcWreg_pass (ha : d.regsAnswer o = true) (v : Nat) : d.svcWreg o v = d.pathWrite .service o v := by
  simp [Dev.svcWreg, Dev.pathReaches, ha]

theorem Dev.svcWreg_refused (ha : d.regsAnswer o = false) (v : Nat) : d.svcWreg o v = d.svcRefused := by
  simp [Dev.svcWreg, Dev.pathReaches, ha]

theorem Dev.svcRreg_pass (ha : d.regsAnswer o = true) :
    d.svcRreg o = { (d.pathRead .service o).2 with out := leBytes 4 (d.pathRead .service o).1, outBad := false } := by
  simp [Dev.svcRreg, Dev.pathReaches, ha]

theorem Dev.svcRreg_refused (ha : d.regsAnswer o = false) : d.svcRreg o = d.svcRefused := by
  simp [Dev.svcRreg, Dev.pathReaches, ha]

end Path

/-- A pair under its own key passes the latch's filter. -/
theorem filter_latch {o : Nat} (w : BitVec 32) : (some (o, w)).filter (fun e : Nat × BitVec 32 => e.1 == o) = some (o, w) := by
  simp

/-! ## HW-A (R392, R467) -/

section Hwa
variable {d : Dev} {p off : Nat} (size v : Nat)

/-- A port whose function does not hear takes no access. -/
theorem Dev.hwa_deaf (h : d.hostHears p = false) (w : Bool) : d.hwa p w off size v = d := by
  simp [Dev.hwa, h]

theorem Dev.hostReaches_iff : d.hostReaches p = true ↔ d.hostHears p = true ∧ d.hostReady = true ∧ (d.port p).fn.mse = true := by
  simp [Dev.hostReaches, and_assoc]

/-- Where the window or the port's own block is open a write reaches the register space as context 0. -/
theorem Dev.hwa_write (hr : d.hostReaches p = true) (hs : d.sup.stopped = false) (ho : off < 0x4000000)
    (hopen : d.bit (rHpPortctl p) 31 = true ∨ (0x780000 + 0x10000 * p ≤ off ∧ off < 0x790000 + 0x10000 * p)) :
    d.hwa p true off size v = (d.regWrite off size (v % 2 ^ (8 * size))).2 := by
  obtain ⟨hh, hready, hmse⟩ := Dev.hostReaches_iff.mp hr
  have hlo : decide (0x4000000 ≤ off) = false := by simpa using ho
  have hw : (d.bit (rHpPortctl p) 31 || decide (0x780000 + 0x10000 * p ≤ off ∧ off < 0x790000 + 0x10000 * p)) = true := by
    simpa using hopen
  simp only [Dev.hwa, hh, hready, hmse, hlo, hs, hw]
  rfl

/-- So does a read, which answers its bytes. -/
theorem Dev.hwa_read (hr : d.hostReaches p = true) (hs : d.sup.stopped = false) (ho : off < 0x4000000)
    (hopen : d.bit (rHpPortctl p) 31 = true ∨ (0x780000 + 0x10000 * p ≤ off ∧ off < 0x790000 + 0x10000 * p)) :
    d.hwa p false off size v = { (d.regRead off size).2.2 with out := leBytes size (d.regRead off size).2.1, outBad := false } := by
  obtain ⟨hh, hready, hmse⟩ := Dev.hostReaches_iff.mp hr
  have hlo : decide (0x4000000 ≤ off) = false := by simpa using ho
  have hw : (d.bit (rHpPortctl p) 31 || decide (0x780000 + 0x10000 * p ≤ off ∧ off < 0x790000 + 0x10000 * p)) = true := by
    simpa using hopen
  simp only [Dev.hwa, hh, hready, hmse, hlo, hs, hw]
  rfl

/-- Where neither is open the access is counted; a read answers zeros. -/
theorem Dev.hwa_closed (hr : d.hostReaches p = true) (hs : d.sup.stopped = false) (ho : off < 0x4000000)
    (hclosed : d.bit (rHpPortctl p) 31 = false) (hown : ¬ (0x780000 + 0x10000 * p ≤ off ∧ off < 0x790000 + 0x10000 * p)) (w : Bool) :
    d.hwa p w off size v = if w then d.addSat (rHpPortcnt p) 47 32 1
      else { d.addSat (rHpPortcnt p) 47 32 1 with out := leBytes size 0, outBad := false } := by
  obtain ⟨hh, hready, hmse⟩ := Dev.hostReaches_iff.mp hr
  have hlo : decide (0x4000000 ≤ off) = false := by simpa using ho
  have hw : (d.bit (rHpPortctl p) 31 || decide (0x780000 + 0x10000 * p ≤ off ∧ off < 0x790000 + 0x10000 * p)) = false := by
    simp only [hclosed, hown, decide_false, Bool.or_self]
  simp only [Dev.hwa, hh, hready, hmse, hlo, hs, hw]
  rfl

end Hwa

/-! ## WDATA and RDATA (R493) -/

/-- Part e is part d but for registers of the Glumes. -/
def SameButGlumes (d e : Dev) : Prop := e.ms = d.ms ∧ ∀ off < 0x2000000, e.reg off = d.reg off

theorem SameButGlumes.refl (d : Dev) : SameButGlumes d d := ⟨rfl, fun _ _ => rfl⟩

theorem SameButGlumes.trans {a b c : Dev} (h : SameButGlumes a b) (h' : SameButGlumes b c) : SameButGlumes a c :=
  ⟨h'.1.trans h.1, fun off ho => (h'.2 off ho).trans (h.2 off ho)⟩

theorem SameButGlumes.foldl {α : Type} {f : Dev → α → Dev} (hf : ∀ d x, SameButGlumes d (f d x)) (l : List α) (d : Dev) :
    SameButGlumes d (l.foldl f d) := by
  induction l generalizing d with
  | nil => exact .refl d
  | cons x l ih => exact (hf d x).trans (ih (f d x))

/-- R146: a record of a stack's error stands in two registers of its Glume. -/
theorem Dev.keepRecord_same (d : Dev) (g rec loc : Nat) : SameButGlumes d (d.keepRecord g rec loc) := by
  unfold Dev.keepRecord
  split
  · exact .refl d
  · refine ⟨rfl, fun off ho => ?_⟩
    rw [Dev.reg_setReg_other _ _ (by unfold rGlmErraddr; omega), Dev.reg_setReg_other _ _ (by unfold rGlmErrrec; omega)]

/-- R147: a read of poisoned bytes writes nothing but such records. -/
theorem Dev.poisonRead_same (d : Dev) (v : Via) (h : Home) (n : Nat) : SameButGlumes d (d.poisonRead v h n) := by
  unfold Dev.poisonRead
  split
  · refine .foldl (fun e i => ?_) _ d
    dsimp only
    split
    · exact e.keepRecord_same _ _ _
    · exact .refl e
  · exact .refl d

section Burst
variable {d : Dev} {n : Nat}

/-- R493: what a burst reaches: HBM or core memory, within 4 KiB. -/
def BurstInTier (d : Dev) (n : Nat) : Prop :=
  d.powered = true ∧ ((∃ x, d.home (d.fld rSvcAddr 55 0) = .hbm x) ∨ ∃ x p, d.home (d.fld rSvcAddr 55 0) = .core x p) ∧
    d.fld rSvcAddr 55 0 % 4096 + n ≤ 4096

theorem Dev.svcVerdict_tier (ht : BurstInTier d n) (write : Bool) :
    d.svcVerdict n write = d.rangeVerdict 0 (d.fld rSvcAddr 55 0) n write := by
  obtain ⟨hp, hh, hn⟩ := ht
  have hn' : decide (4096 < d.fld rSvcAddr 55 0 % 4096 + n) = false := by simpa using hn
  unfold Dev.svcVerdict Dev.svcAddr
  obtain ⟨x, hx⟩ | ⟨x, p, hx⟩ := hh
  · simp only [hx, hp, hn']; rfl
  · simp only [hx, hp, hn']; rfl

theorem Dev.svcVerdict_refused (ht : ¬ BurstInTier d n) (write : Bool) : d.svcVerdict n write = .refuse .protection := by
  unfold Dev.svcVerdict Dev.svcAddr
  rw [if_pos]
  by_contra hc
  simp only [Bool.or_eq_true, Bool.not_eq_true', decide_eq_true_eq, not_or, Bool.not_eq_false, Nat.not_lt] at hc
  obtain ⟨⟨hp, hh⟩, hn⟩ := hc
  refine ht ⟨hp, ?_, hn⟩
  cases hx : d.home (d.fld rSvcAddr 55 0) with
  | hbm x => exact .inl ⟨x, rfl⟩
  | core x p => exact .inr ⟨x, p, rfl⟩
  | host _ _ | ctrl _ | fabric _ _ | sram _ _ _ | outside => simp [hx] at hh

end Burst

/-- R493: a burst that its checks admit is written, and SVC_ADDR advances. -/
theorem exec_svcWdata {s : State} {l : List Byte} (h1 : 1 ≤ l.length) (h2 : l.length ≤ 4096)
    (hv : s.dev.svcVerdict l.length true = .pass) :
    exec (.svcWdata l) s = .next (leaves s ((s.dev.crownWrite (s.dev.fld rSvcAddr 55 0) l).svcAdvance l.length)) := by
  rw [exec_next s (by simp [Instr.wf, h1, h2])]
  simp only [does, Dev.svcWdata, hv]
  rfl

/-- R493: a burst that is read leaves memory, and SVC_ADDR advances. -/
theorem exec_svcRdata {s : State} {n : Nat} (h1 : 1 ≤ n) (h2 : n ≤ 4096) (hv : s.dev.svcVerdict n false = .pass) :
    ∃ t, exec (.svcRdata n) s = .next t ∧ t.dev.out = s.dev.crownRead (s.dev.fld rSvcAddr 55 0) n ∧
      t.dev.outBad = s.dev.crownBad (s.dev.fld rSvcAddr 55 0) n ∧
      t.dev.fld rSvcAddr 55 0 = (s.dev.fld rSvcAddr 55 0 + n) % 2 ^ 56 ∧ KeepsMemory s t (fun _ => False) := by
  obtain ⟨hms, hreg⟩ := SameButGlumes.foldl (f := fun (e : Dev) (p : Nat × Nat) => e.poisonRead .engine (e.home p.1) p.2)
    (fun e p => e.poisonRead_same _ _ _) (cut 128 s.dev.svcAddr n) (s.dev.svcAdvance n)
  refine ⟨_, exec_next s (by simp [Instr.wf, h1, h2]), ?_⟩
  simp only [does, Dev.svcRdata, hv]
  refine ⟨rfl, rfl, ?_, fun a _ => ?_⟩
  · calc bitsOf _ 55 0 = (s.dev.svcAdvance n).fld rSvcAddr 55 0 := congrArg (bitsOf · 55 0) (hreg rSvcAddr (by decide))
      _ = (s.dev.fld rSvcAddr 55 0 + n) % 2 ^ 56 := Dev.fld_setFld_same _ (by omega)
  · exact congrArg (fun m : MemSys => m.mem.read a) hms

/-- R493: a burst that is refused is counted and answers nothing. -/
theorem exec_burst_refused {s : State} {l : List Byte} (h1 : 1 ≤ l.length) (h2 : l.length ≤ 4096) (ht : ¬ BurstInTier s.dev l.length) :
    exec (.svcWdata l) s = .next (leaves s s.dev.svcRefused) ∧ exec (.svcRdata l.length) s = .next (leaves s s.dev.svcRefused) := by
  constructor
  · rw [exec_next s (by simp [Instr.wf, h1, h2])]
    simp only [does, Dev.svcWdata, Dev.svcVerdict_refused ht]; rfl
  · rw [exec_next s (by simp [Instr.wf, h1, h2])]
    simp only [does, Dev.svcRdata, Dev.svcVerdict_refused ht]; rfl

end Sys2Proof.Machine
end

section
/-! The management bus and the test access port (R494, R495), and the paths' statement. -/

set_option Elab.async false

namespace Sys2Proof.Machine

open Sys2Proof

section Bus
variable {d : Dev}

/-- The bus answers whatever its offset register holds. -/
theorem Dev.mbAnswers_offset (off : Nat) : ({ d with pins := { d.pins with mbOff := off } } : Dev).mbAnswers = d.mbAnswers := rfl

/-- R494: a private write that the bus reaches stores its 4 bytes. -/
theorem Dev.mbPrivateWrite_stores (ha : d.mbAnswers = true) {off : Nat} (hw : mbWrites off = true) (v : BitVec 32) :
    d.mbPrivateWrite off (some v) =
      ({ d with pins := { d.pins with mbOff := off }, mbLatch := ⟨none, none⟩ } : Dev).mbStore off v.toNat := by
  simp only [Dev.mbPrivateWrite, ha, Dev.pathReaches, Dev.mbAnswers_offset, hw]
  rfl

/-- R494: one outside the table is counted. -/
theorem Dev.mbPrivateWrite_nack (ha : d.mbAnswers = true) {off : Nat} (hw : mbWrites off = false) (v : BitVec 32) :
    d.mbPrivateWrite off (some v) = ({ d with pins := { d.pins with mbOff := off } } : Dev).mbNack := by
  simp only [Dev.mbPrivateWrite, ha, Dev.pathReaches, Dev.mbAnswers_offset, hw]
  rfl

theorem Dev.mbPrivateWrite_offset (ha : d.mbAnswers = true) (off : Nat) :
    d.mbPrivateWrite off none = { d with pins := { d.pins with mbOff := off } } := by
  simp [Dev.mbPrivateWrite, ha]

theorem Dev.mbPrivateWrite_silent (ha : d.mbAnswers = false) (off : Nat) (v : Option (BitVec 32)) : d.mbPrivateWrite off v = d := by
  simp [Dev.mbPrivateWrite, ha]

theorem Dev.mbPrivateRead_silent (ha : d.mbAnswers = false) : d.mbPrivateRead = d := by
  simp [Dev.mbPrivateRead, ha]

theorem Dev.mbPrivateRead_nack (ha : d.mbAnswers = true) (hr : mbReads d.pins.mbOff = false) : d.mbPrivateRead = d.mbNack := by
  simp [Dev.mbPrivateRead, ha, Dev.pathReaches, hr]

/-- R444: the bus writes PM_CAP.BMCW. -/
theorem Dev.mbStore_pmCap (hp : d.powered = true) (v : Nat) :
    d.mbStore rPmCap v = d.setFld rPmCap 27 16 (v / 2 ^ 16 % 2 ^ 12) := by
  have hb : bitsOf v 27 16 = v / 2 ^ 16 % 2 ^ 12 := by rw [bitsOf, Nat.shiftRight_eq_div_pow]
  simp [Dev.mbStore, Dev.bmcCap, hp, hb]

theorem Dev.mbPrivateWrite_pmCap (ha : d.mbAnswers = true) (hp : d.powered = true) (v : BitVec 32) :
    d.mbPrivateWrite rPmCap (some v) =
      ({ d with pins := { d.pins with mbOff := rPmCap }, mbLatch := ⟨none, none⟩ } : Dev).setFld rPmCap 27 16
        (v.toNat / 2 ^ 16 % 2 ^ 12) := by
  rw [Dev.mbPrivateWrite_stores ha rfl]
  exact Dev.mbStore_pmCap (by exact hp) v.toNat

/-- A write of CROWN_RSTCTL without WARM does nothing. -/
theorem Dev.mbStore_rstctl {v : Nat} (hv : v < 2 ^ 31) : d.mbStore rCrownRstctl v = d := by
  have hne : rCrownRstctl ≠ rPmCap := by decide
  simp [Dev.mbStore, hne, Nat.testBit_lt_two_pow hv]

/-- The registers of die states answer, 4 bytes wide. -/
theorem regAt_diestat : ∀ n < 23, (regAt (rCrownDiestat n)).map (·.bytes) = some 4 := by decide +kernel

theorem Dev.regHere_diestat {n : Nat} (hn : n < 23) : ∃ r, d.regHere (rCrownDiestat n) = some r ∧ r.bytes = 4 := by
  obtain ⟨r, hr, hb⟩ := Option.map_eq_some_iff.mp (regAt_diestat n hn)
  have hdie : regDie (rCrownDiestat n) = none := by
    unfold regDie
    rw [if_neg (by unfold rCrownDiestat; omega), if_neg (by unfold rCrownDiestat; omega), if_neg (by unfold rCrownDiestat; omega)]
  exact ⟨r, by simp only [Dev.regHere, hdie, if_true, hr], hb⟩

/-- They report what the register holds. -/
theorem Dev.regSample_diestat {n : Nat} (hn : n < 23) : d.regSample (rCrownDiestat n) = (d.reg (rCrownDiestat n), d) := by
  unfold Dev.regSample Dev.regValue
  dsimp only
  repeat rw [if_neg (by
    simp only [rCrownDiestat, rCpQinfo0, rCpCqinfo0, rCrownTime, rCrownGeom, rCpQinfo1, rCpCqinfo1, rCpWaitstat, rCpCtxdesc,
      rCpCtxstat, rCeEngstat, rFeId, rSpArb, rHpPortstat]
    omega)]

/-- R494: a private read of a die's state returns it, and the offset advances by 4. -/
theorem Dev.mbPrivateRead_diestat (ha : d.mbAnswers = true) {n : Nat} (hn : n < 23) (ho : d.pins.mbOff = rCrownDiestat n) :
    d.mbPrivateRead = { d with
      mbLatch := ⟨none, none⟩, out := leBytes 4 (d.reg (rCrownDiestat n)), outBad := false
      pins := { d.pins with mbOff := rCrownDiestat n + 4 } } := by
  obtain ⟨r, hr, hb⟩ := d.regHere_diestat hn
  have hreads : mbReads (rCrownDiestat n) = true := by
    have h : rCrownDiestat 0 ≤ rCrownDiestat n ∧ rCrownDiestat n < rCrownDiestat 23 := by unfold rCrownDiestat; omega
    simp [mbReads, h]
  have hnext : (rCrownDiestat n + 4) % 2 ^ 32 = rCrownDiestat n + 4 := by unfold rCrownDiestat; omega
  have hread : d.pathRead .management (rCrownDiestat n) = (d.reg (rCrownDiestat n), { d with mbLatch := ⟨none, none⟩ }) := by
    simp only [Dev.pathRead, Dev.pathReg_low hr, hb, if_true]
    exact Dev.regSample_diestat hn
  simp only [Dev.mbPrivateRead, ha, Dev.pathReaches, ho, hreads, hread, hnext]
  rfl

end Bus

/-! ## The paths' commands -/

section Commands
variable {s : State} {o : Nat} {r : RegDesc}

/-! The accesses by which the service port reaches the halves of a 64-bit register that answers (R5). -/

theorem exec_lowWordWrite (ha : s.dev.regsAnswer o = true) (hr : s.dev.regHere o = some r) (hb : r.bytes = 8) (ho : o + 4 < 2 ^ 64)
    {v : Nat} (hv : v < 2 ^ 32) :
    exec (.pathLowWordWrite .service o v) s = .next (leaves s { s.dev with
      svcLatch := ⟨some (o, BitVec.ofNat 32 v), s.dev.svcLatch.rd.filter (fun e => e.1 == o)⟩ }) := by
  have hwf : (Instr.pathLowWordWrite .service o v).wf = true := by simp only [Instr.wf, Bool.and_eq_true, decide_eq_true_eq]; omega
  rw [exec_next s hwf]
  simp only [does, Dev.onPathWrite, Nat.mod_eq_of_lt hv, Dev.svcWreg_pass ha, Dev.pathWrite_low hr hb, leaves]

theorem exec_highWordWrite (ha : s.dev.regsAnswer (o + 4) = true) (ho : o + 4 < 2 ^ 64) {v : Nat} (hv : v < 2 ^ 32) :
    exec (.pathHighWordWrite .service o v) s = .next (leaves s (s.dev.pathWrite .service (o + 4) v)) := by
  have hwf : (Instr.pathHighWordWrite .service o v).wf = true := by simp only [Instr.wf, Bool.and_eq_true, decide_eq_true_eq]; omega
  rw [exec_next s hwf]
  simp only [does, Dev.onPathWrite, Nat.mod_eq_of_lt hv, Dev.svcWreg_pass ha, leaves]

theorem exec_lowWordRead (ha : s.dev.regsAnswer o = true) (hr : s.dev.regHere o = some r) (hb : r.bytes = 8) (ho : o + 4 < 2 ^ 64) :
    exec (.pathLowWordRead .service o) s = .next (leaves s { (s.dev.regSample o).2 with
      svcLatch := ⟨s.dev.svcLatch.wr.filter (fun e => e.1 == o), some (o, BitVec.ofNat 32 ((s.dev.regSample o).1 / 2 ^ 32))⟩,
      out := leBytes 4 (s.dev.regSample o).1, outBad := false }) := by
  have hwf : (Instr.pathLowWordRead .service o).wf = true := by simp only [Instr.wf, decide_eq_true_eq]; omega
  rw [exec_next s hwf]
  simp only [does, Dev.onPathRead, Dev.svcRreg_pass ha, Dev.pathRead_low hr hb, leaves]
  rw [show (2 : Nat) ^ 32 = 2 ^ (8 * 4) from rfl, leBytes_mod]

theorem exec_highWordRead (ha : s.dev.regsAnswer (o + 4) = true) (ho : o + 4 < 2 ^ 64) {x : Nat} {e : Dev}
    (hp : s.dev.pathRead .service (o + 4) = (x, e)) :
    exec (.pathHighWordRead .service o) s = .next (leaves s { e with out := leBytes 4 x, outBad := false }) := by
  have hwf : (Instr.pathHighWordRead .service o).wf = true := by simp only [Instr.wf, decide_eq_true_eq]; omega
  rw [exec_next s hwf]
  simp only [does, Dev.onPathRead, Dev.svcRreg_pass ha, hp, leaves]

/-- R493: WREG and RREG of a 32-bit register that answers. -/
theorem exec_wreg (ha : s.dev.regsAnswer o = true) (hr : s.dev.regHere o = some r) (hb : r.bytes = 4) (ho : o < 2 ^ 64) {v : Nat}
    (hv : v < 2 ^ 32) :
    exec (.svcWreg o v) s = .next (leaves s (({ s.dev with svcLatch := ⟨none, none⟩ } : Dev).regStore r o v (2 ^ 32 - 1))) := by
  have hwf : (Instr.svcWreg o v).wf = true := by simp only [Instr.wf, Bool.and_eq_true, decide_eq_true_eq]; omega
  rw [exec_next s hwf]
  simp only [does, Nat.mod_eq_of_lt hv, Dev.svcWreg_pass ha, Dev.pathWrite_whole hr hb, leaves]

theorem exec_rreg (ha : s.dev.regsAnswer o = true) (hr : s.dev.regHere o = some r) (hb : r.bytes = 4) (ho : o < 2 ^ 64) :
    exec (.svcRreg o) s = .next (leaves s
      (let q := ({ s.dev with svcLatch := ⟨none, none⟩ } : Dev).regSample o
       { q.2 with out := leBytes 4 q.1, outBad := false })) := by
  have hwf : (Instr.svcRreg o).wf = true := by simp only [Instr.wf, decide_eq_true_eq]; omega
  rw [exec_next s hwf]
  simp only [does, Dev.svcRreg_pass ha, Dev.pathRead_whole hr hb, leaves]

theorem exec_wreg_refused (ha : s.dev.regsAnswer o = false) (ho : o < 2 ^ 64) {v : Nat} (hv : v < 2 ^ 32) :
    exec (.svcWreg o v) s = .next (leaves s s.dev.svcRefused) := by
  have hwf : (Instr.svcWreg o v).wf = true := by simp only [Instr.wf, Bool.and_eq_true, decide_eq_true_eq]; omega
  rw [exec_next s hwf]
  simp only [does, Dev.svcWreg_refused ha, leaves]

theorem exec_rreg_refused (ha : s.dev.regsAnswer o = false) (ho : o < 2 ^ 64) :
    exec (.svcRreg o) s = .next (leaves s s.dev.svcRefused) := by
  have hwf : (Instr.svcRreg o).wf = true := by simp only [Instr.wf, decide_eq_true_eq]; omega
  rw [exec_next s hwf]
  simp only [does, Dev.svcRreg_refused ha, leaves]

/-- R392: an access through HW-A. -/
theorem exec_hwa {p off size v : Nat} (hp : p < 6) (ho : off < 0x4000000) (hs : size ∈ [1, 2, 4, 8]) (hv : v < 2 ^ 64) (w : Bool) :
    exec (.hwaAccess p w off size v) s = .next (leaves s (s.dev.hwa p w off size v)) := by
  have hs : size = 1 ∨ size = 2 ∨ size = 4 ∨ size = 8 := by simpa using hs
  have hwf : (Instr.hwaAccess p w off size v).wf = true := by simp only [Instr.wf, Bool.and_eq_true, decide_eq_true_eq]; omega
  rw [exec_next s hwf]; rfl

/-- R494: a private write. -/
theorem exec_mbWrite {off : Nat} (ho : off < 2 ^ 64) (v : Option (BitVec 32)) :
    exec (.mbPrivateWrite off v) s = .next (leaves s (s.dev.mbPrivateWrite off v)) := by
  have hwf : (Instr.mbPrivateWrite off v).wf = true := by simp only [Instr.wf, decide_eq_true_eq]; omega
  rw [exec_next s hwf]; rfl

theorem exec_mbRead : exec .mbPrivateRead s = .next (leaves s s.dev.mbPrivateRead) := rfl

theorem exec_mbAssign {a : Nat} (ha : a < 128) (h : s.dev.mbAnswers = true) :
    exec (.mbAddressAssign a) s = .next (leaves s { s.dev with pins := { s.dev.pins with dynaddr := some a } }) := by
  rw [exec_next s (by simp [Instr.wf, ha])]
  simp only [does, h, if_true, leaves]

end Commands

/-- R495: a test instruction that acts on the lands is loaded while the warm reset land is asserted; else it is counted and BYPASS
is loaded. -/
theorem Dev.jtag_lands (d : Dev) {i : JtagIr} (hi : i ≠ .bypass ∧ i ≠ .idcode ∧ i ≠ .samplePreload) :
    d.jtag i = if d.pins.warmrst then { d with pins := { d.pins with jtag := i } }
      else { d.addSat rSvcStat 31 16 1 with pins := { (d.addSat rSvcStat 31 16 1).pins with jtag := .bypass } } := by
  obtain ⟨h1, h2, h3⟩ := hi
  cases i with
  | bypass => exact absurd rfl h1
  | idcode => exact absurd rfl h2
  | samplePreload => exact absurd rfl h3
  | extest | extestPulse | extestTrain | clamp | highz => cases hw : d.pins.warmrst <;> simp [Dev.jtag, hw]

theorem exec_jtag_lands {s : State} {c : Instr} {i : JtagIr} (hi : i ≠ .bypass ∧ i ≠ .idcode ∧ i ≠ .samplePreload)
    (hc : exec c s = .next (leaves s (s.dev.jtag i))) :
    (s.dev.pins.warmrst = true → exec c s = .next (leaves s { s.dev with pins := { s.dev.pins with jtag := i } })) ∧
    (s.dev.pins.warmrst = false → exec c s = .next (leaves s { s.dev.addSat rSvcStat 31 16 1 with
      pins := { (s.dev.addSat rSvcStat 31 16 1).pins with jtag := .bypass } })) := by
  rw [hc, s.dev.jtag_lands hi]
  exact ⟨fun h => by rw [if_pos h], fun h => by rw [if_neg (by simp [h])]⟩

end Sys2Proof.Machine

namespace Sys2Proof

open Sys2Proof.Machine

/-- Settles O37, way by way: the halves by the cases of the path's latches, the accesses from outside by the cases of what they
reach. -/
theorem pathHalvesAndServicePaths : Obligations.PathHalvesAndServicePaths := by
  unfold Obligations.PathHalvesAndServicePaths
  refine ⟨fun s o r ha ha4 hr hn hb h8 ho => ?_, fun s => ?_, fun s => ?_⟩
  · dsimp only
    refine ⟨fun v hv => exec_lowWordWrite ha hr hb ho hv, fun v lo hv hl => ?_, fun v hv hl => ?_, exec_lowWordRead ha hr hb ho,
      fun hi hl => ?_, fun hl => ?_⟩
    · rw [exec_highWordWrite ha4 ho hv, Dev.pathWrite_both hn hr hb h8 v (lo := lo) (by rw [hl, filter_latch])]
    · rw [exec_highWordWrite ha4 ho hv, Dev.pathWrite_high hn hr hb h8 v hl]
    · exact exec_highWordRead ha4 ho (Dev.pathRead_latched hn hr hb h8 (hi := hi) (by rw [hl, filter_latch]))
    · rw [exec_highWordRead ha4 ho (Dev.pathRead_high hn hr hb h8 hl), show (2 : Nat) ^ 32 = 2 ^ (8 * 4) from rfl, leBytes_mod]
  · dsimp only
    refine ⟨fun p off size v hp ho hs hv => ⟨fun hdeaf w => ?_, fun hreach hstop => ⟨fun hopen => ⟨?_, ?_⟩, fun hclosed hown => ⟨?_, ?_⟩⟩⟩,
      fun off v ho hv => ⟨fun ha => ⟨exec_wreg_refused ha ho hv, exec_rreg_refused ha ho⟩,
        fun r ha hr hb => ⟨exec_wreg ha hr hb ho hv, exec_rreg ha hr hb ho⟩⟩,
      fun l h1 h2 => ⟨fun ht hv => ?_, fun ht hv => ?_, fun ht => exec_burst_refused h1 h2 ht⟩, rfl,
      fun ha => ⟨fun off ho => ⟨?_, fun v => ⟨fun hoff hp => ?_, fun hoff hlt => ?_, fun hcap hrst => ?_⟩⟩, fun i hi hoff => ?_,
        fun hr => ?_, fun a hlt => exec_mbAssign hlt ha⟩,
      fun ha => ⟨?_, fun off v ho => ?_⟩⟩
    · rw [exec_hwa hp ho hs hv, Dev.hwa_deaf size v hdeaf]; rfl
    · rw [exec_hwa hp ho hs hv, Dev.hwa_write size v hreach hstop ho hopen]
    · rw [exec_hwa hp ho hs hv, Dev.hwa_read size v hreach hstop ho hopen]
    · rw [exec_hwa hp ho hs hv, Dev.hwa_closed size v hreach hstop ho hclosed hown]; rfl
    · rw [exec_hwa hp ho hs hv, Dev.hwa_closed size v hreach hstop ho hclosed hown]; rfl
    · exact exec_svcWdata h1 h2 ((Dev.svcVerdict_tier ht true).trans hv)
    · exact exec_svcRdata h1 h2 ((Dev.svcVerdict_tier ht false).trans hv)
    · rw [exec_mbWrite ho, Dev.mbPrivateWrite_offset ha]
    · subst hoff
      rw [exec_mbWrite ho, Dev.mbPrivateWrite_pmCap ha hp]
    · subst hoff
      rw [exec_mbWrite ho, Dev.mbPrivateWrite_stores ha rfl, Dev.mbStore_rstctl hlt]
    · rw [exec_mbWrite ho, Dev.mbPrivateWrite_nack ha (by simp [mbWrites, hcap, hrst])]; rfl
    · rw [exec_mbRead, Dev.mbPrivateRead_diestat ha hi hoff]
    · rw [exec_mbRead, Dev.mbPrivateRead_nack ha hr]; rfl
    · rw [exec_mbRead, Dev.mbPrivateRead_silent ha]; rfl
    · rw [exec_mbWrite ho, Dev.mbPrivateWrite_silent ha]; rfl
  · dsimp only
    refine ⟨rfl, rfl, rfl, ?_⟩
    simp only [List.forall_mem_cons]
    exact ⟨exec_jtag_lands (by decide) rfl, exec_jtag_lands (by decide) rfl, exec_jtag_lands (by decide) rfl,
      exec_jtag_lands (by decide) rfl, exec_jtag_lands (by decide) rfl, fun _ h => absurd h List.not_mem_nil⟩

end Sys2Proof
end

section
/-! What stores of uncached agents and records of poison change (R147, R219). -/

namespace Sys2Proof.Machine

open Sys2Proof

/-! ## One line -/

/-- Bytes within one line are one piece. -/
theorem cut_line {a n : Nat} (hn : 1 ≤ n) (h : a % 128 + n ≤ 128) : cut 128 a n = [(a, n)] := by
  have hmin : min n (128 - a % 128) = n := by omega
  simp [cut, pieces, hmin, Nat.ne_of_gt hn]

/-- They meet one line. -/
theorem Dev.badHome_line (d : Dev) {a n : Nat} (hn : 1 ≤ n) (h : a % 128 + n ≤ 128) :
    d.badHome (.hbm a) n = d.lineBad (a / 128) := by
  have hone : (a % 128 + n + 127) / 128 = 1 := by omega
  simp [Dev.badHome, hone, List.range_succ]

/-! ## Stores of uncached agents -/

/-- Part e is part d but for memory, caches and reservations. -/
def OnlyStored (d e : Dev) : Prop := ∃ m c h, e = { d with ms := m, cores := c, sheaves := h }

theorem OnlyStored.refl (d : Dev) : OnlyStored d d := ⟨d.ms, d.cores, d.sheaves, rfl⟩

theorem OnlyStored.trans {a b c : Dev} (h : OnlyStored a b) (h' : OnlyStored b c) : OnlyStored a c := by
  obtain ⟨_, _, _, rfl⟩ := h
  obtain ⟨m, c, x, rfl⟩ := h'
  exact ⟨m, c, x, rfl⟩

theorem OnlyStored.fe {d e : Dev} (h : OnlyStored d e) : e.fe = d.fe := by
  obtain ⟨_, _, _, rfl⟩ := h; rfl

theorem Dev.uncachedWrite_stored (d : Dev) (line : Nat) (full : Bool) : OnlyStored d (d.uncachedWrite line full) := by
  unfold Dev.uncachedWrite
  split
  · exact ⟨_, d.cores, d.sheaves, rfl⟩
  · split
    · exact .refl d
    · exact ⟨_, d.cores, d.sheaves, rfl⟩

theorem Dev.cleanLine_stored (d : Dev) (line : Nat) : OnlyStored d (d.cleanLine line) := ⟨_, d.cores, d.sheaves, rfl⟩

theorem Dev.storeHome_stored (d : Dev) (h : Home) (l : List Byte) : OnlyStored d (d.storeHome h l) := by
  have hclean : ∀ (e : Dev) (p : Prop) [Decidable p] (line : Nat), OnlyStored d e → OnlyStored d (if p then e.cleanLine line else e) := by
    intro e p _ line he
    split
    · exact he.trans (e.cleanLine_stored line)
    · exact he
  unfold Dev.storeHome
  cases h with
  | hbm a => exact hclean _ _ _ ⟨_, d.cores, d.sheaves, rfl⟩
  | sram t c o => exact hclean _ _ _ ⟨_, d.cores, d.sheaves, rfl⟩
  | core | host => exact ⟨_, d.cores, d.sheaves, rfl⟩
  | ctrl | fabric | outside => exact .refl d

/-- A store of an uncached agent changes no register and nothing of the fabric. -/
theorem Dev.storeLine_engine_stored (d : Dev) (h : Home) (l : List Byte) : OnlyStored d (d.storeLine .engine h l) := by
  have hresv : ∀ e : Dev, OnlyStored e (e.clearResv (h.mark / 128)) := fun e => ⟨e.ms, _, _, rfl⟩
  have hcache : ∃ e, OnlyStored d e ∧ d.storeLine .engine h l = (e.clearResv (h.mark / 128)).storeHome h l := by
    cases h with
    | hbm | core | host => exact ⟨_, d.uncachedWrite_stored _ _, rfl⟩
    | sram | ctrl | fabric | outside => exact ⟨d, .refl d, rfl⟩
  obtain ⟨e, he, heq⟩ := hcache
  rw [heq]
  exact (he.trans (hresv e)).trans (Dev.storeHome_stored _ h l)

/-! ## Records of poison -/

/-- What each step of a fold keeps, the fold keeps. -/
theorem foldl_keeps {α β γ : Type} {f : β → α → β} {g : β → γ} (h : ∀ b a, g (f b a) = g b) (l : List α) (b : β) :
    g (l.foldl f b) = g b := by
  induction l generalizing b with
  | nil => rfl
  | cons a l ih => rw [List.foldl_cons, ih, h]

/-- R147: records of poison leave the fabric. -/
theorem Dev.poisonRead_fe (d : Dev) (v : Via) (h : Home) (n : Nat) : (d.poisonRead v h n).fe = d.fe := by
  have hrec : ∀ (e : Dev) (g rec loc : Nat), (e.keepRecord g rec loc).fe = e.fe := by
    intro e g rec loc
    unfold Dev.keepRecord
    split <;> rfl
  unfold Dev.poisonRead
  split
  · refine foldl_keeps (fun e i => ?_) _ d
    dsimp only
    split
    · exact hrec e _ _ _
    · rfl
  · rfl

end Sys2Proof.Machine
end

section
/-! Requests of other packages (R182, R427, R428, R430): their checks, their turn, what is performed and answered. -/

namespace Sys2Proof.Machine

open Sys2Proof

/-! ## The checks of an inbound access (R182) -/

theorem Dev.admits_iff (d : Dev) (dev off : Nat) : d.admits dev off = true ↔
    d.fld (rCrownFadmit (off / 0x20000000)) 31 30 = 2 ∨
      (d.fld (rCrownFadmit (off / 0x20000000)) 31 30 = 1 ∧ d.fld (rCrownFadmit (off / 0x20000000)) 14 0 = dev) := by
  simp [Dev.admits]

/-- An access to HBM waits for nothing. -/
theorem Dev.verdict_hbm_ne_wait (d : Dev) (a ctx : Nat) (write fab : Bool) : d.verdict (.hbm a) ctx write fab ≠ .wait := by
  simp only [Dev.verdict]
  split_ifs <;> simp

/-- R182, R154: which accesses within a line are admitted. -/
theorem Dev.inboundBad_none_iff (d : Dev) {dev off n : Nat} (write : Bool) (hn : 1 ≤ n) (h : off % 128 + n ≤ 128) :
    d.inboundBad dev off n write = none ↔
      off + n ≤ 0x9000000000 ∧ d.admits dev off = true ∧ d.verdict (.hbm off) 0 write true = .pass := by
  have hw := d.verdict_hbm_ne_wait off 0 write true
  unfold Dev.inboundBad
  rw [cut_line hn h]
  by_cases hend : 0x9000000000 < off + n
  · simp [hend]
  · rw [if_neg hend]
    cases ha : d.admits dev off <;> cases hv : d.verdict (.hbm off) 0 write true <;> simp_all

/-! ## Turns (R427) -/

/-- R427: a request of the number is the next of its pair, and none of the pair waits. -/
def Dev.Due (d : Dev) (pair seq base : Nat) : Prop :=
  d.feSpeaks = true ∧ SMap.get 0 d.fe.expect pair = seq ∧ base ≤ seq ∧ SMap.get [] d.fe.held pair = []

/-- The part once the pair's turn is taken. -/
def Dev.turnTaken (d : Dev) (pair seq : Nat) : Dev :=
  { d with fe := { d.fe with expect := d.fe.expect.set pair (seq + 1), held := d.fe.held.set pair [] } }

/-- R427: a request in its turn is performed. -/
theorem Dev.arrive_due {d : Dev} {dev base k : Nat} {q : HeldReq} (hk : q.pair dev = k) (h : d.Due k q.seq base) :
    d.arrive dev base q = (d.turnTaken k q.seq).perform (k % 0x8000) q := by
  obtain ⟨hs, he, hb, hh⟩ := h
  simp [Dev.arrive, Dev.inOrder, Dev.turnTaken, hk, hs, he, hb, hh]

/-- R427: a request that comes early is held. -/
theorem Dev.arrive_early {d : Dev} {dev base : Nat} {q : HeldReq} (hs : d.feSpeaks = true)
    (he : d.fe.expect.get 0 (q.pair dev) < q.seq) (hb : base ≤ d.fe.expect.get 0 (q.pair dev)) (hh : d.fe.held.get [] (q.pair dev) = []) :
    d.arrive dev base q = { d with fe := { d.fe with
      expect := d.fe.expect.set (q.pair dev) (d.fe.expect.get 0 (q.pair dev)), held := d.fe.held.set (q.pair dev) [q] } } := by
  have hlt : ¬ q.seq < d.fe.expect.get 0 (q.pair dev) := by omega
  have hne : ¬ q.seq = d.fe.expect.get 0 (q.pair dev) := by omega
  simp [Dev.arrive, Dev.inOrder, hs, hb, hh, hlt, hne]

/-- R427, R440: a duplicate is discarded, and a fenced device hears nothing. -/
theorem Dev.arrive_discarded {d : Dev} {dev base : Nat} {q : HeldReq}
    (h : d.feSpeaks = false ∨ q.seq < d.fe.expect.get 0 (q.pair dev) ∨ q.seq < base) : d.arrive dev base q = d := by
  unfold Dev.arrive
  obtain h | h | h := h <;> simp [h]

/-! ## Performing -/

theorem Dev.inboundStore_refused {d : Dev} {dev off : Nat} {l : List Byte} {e : Status} (h : d.inboundBad dev off l.length true = some e) :
    d.inboundStore dev off l = (e.code, d) := by
  simp only [Dev.inboundStore, h]

theorem Dev.inboundStore_line {d : Dev} {dev off : Nat} {l : List Byte} (hn : 1 ≤ l.length) (hl : off % 128 + l.length ≤ 128)
    (h : d.inboundBad dev off l.length true = none) : d.inboundStore dev off l = (0, d.storeLine .engine (.hbm off) l) := by
  simp [Dev.inboundStore, h, cut_line hn hl, part]

theorem Dev.inboundLoad_refused {d : Dev} {dev off n : Nat} {e : Status} (h : d.inboundBad dev off n false = some e) :
    d.inboundLoad dev off n = (e.code, []) := by
  simp only [Dev.inboundLoad, h]

theorem Dev.inboundLoad_good {d : Dev} {dev off n : Nat} (hn : 1 ≤ n) (hl : off % 128 + n ≤ 128) (h : d.inboundBad dev off n false = none)
    (hg : d.lineBad (off / 128) = false) : d.inboundLoad dev off n = (0, d.ms.mem.readN off n) := by
  simp [Dev.inboundLoad, h, cut_line hn hl, d.badHome_line hn hl, hg]

theorem Dev.inboundLoad_poisoned {d : Dev} {dev off n : Nat} (hn : 1 ≤ n) (hl : off % 128 + n ≤ 128) (h : d.inboundBad dev off n false = none)
    (hp : d.lineBad (off / 128) = true) : d.inboundLoad dev off n = (Status.poison.code, []) := by
  simp [Dev.inboundLoad, h, cut_line hn hl, d.badHome_line hn hl, hp]

/-- What a device that speaks sends joins what it has sent. -/
theorem Dev.fabTx_speaks {d : Dev} (h : d.feSpeaks = true) (m : FabTx) :
    d.fabTx m = { d with fe := { d.fe with tx := d.fe.tx ++ [m] } } := by
  simp [Dev.fabTx, h]

theorem Dev.feSpeaks_of_reg {d e : Dev} (h : e.reg rFeStat = d.reg rFeStat) : e.feSpeaks = d.feSpeaks := by
  simp [Dev.feSpeaks, Dev.bit, h]

theorem OnlyStored.feSpeaks {d e : Dev} (h : OnlyStored d e) : e.feSpeaks = d.feSpeaks := by
  obtain ⟨_, _, _, rfl⟩ := h; rfl

theorem Dev.inboundStore_stored (d : Dev) (dev off : Nat) (l : List Byte) : OnlyStored d (d.inboundStore dev off l).2 := by
  have hfold : ∀ (ps : List (Nat × Nat)) (e : Dev), OnlyStored d e →
      OnlyStored d (ps.foldl (fun d p => d.storeLine .engine (.hbm p.1) (part l off p.1 p.2)) e) := by
    intro ps
    induction ps with
    | nil => exact fun _ he => he
    | cons p ps ih => exact fun e he => ih _ (he.trans (e.storeLine_engine_stored _ _))
  unfold Dev.inboundStore
  split
  · exact .refl d
  · exact hfold _ d (.refl d)

/-- R428: a store is answered with its status. -/
theorem Dev.perform_store {d : Dev} (hs : d.feSpeaks = true) (dev : Nat) {q : HeldReq} (hb : q.bcast = false) (hl : q.load = false) :
    d.perform dev q = { (d.inboundStore dev q.off q.data).2 with fe := { d.fe with
      tx := d.fe.tx ++ [.answer dev q.seq (d.inboundStore dev q.off q.data).1 []] } } := by
  have hst := d.inboundStore_stored dev q.off q.data
  simp only [Dev.perform, hb, hl, Bool.false_eq_true, if_false]
  rw [Dev.fabTx_speaks (hst.feSpeaks.trans hs), hst.fe]

/-- R428: a load is answered with its status and bytes, and leaves memory. -/
theorem Dev.perform_load {d : Dev} (hs : d.feSpeaks = true) (dev : Nat) {q : HeldReq} (hb : q.bcast = false) (hl : q.load = true) :
    (d.perform dev q).ms = d.ms ∧ (d.perform dev q).fe = { d.fe with
      tx := d.fe.tx ++ [.answer dev q.seq (d.inboundLoad dev q.off q.len).1 (d.inboundLoad dev q.off q.len).2] } := by
  have hread : ∃ e : Dev, SameButGlumes d e ∧ e.fe = d.fe ∧
      d.perform dev q = e.fabTx (.answer dev q.seq (d.inboundLoad dev q.off q.len).1 (d.inboundLoad dev q.off q.len).2) := by
    simp only [Dev.perform, hb, hl, Bool.false_eq_true, if_false, if_true]
    split
    · exact ⟨_, .foldl (fun e p => e.poisonRead_same _ _ _) _ d, foldl_keeps (fun e p => e.poisonRead_fe _ _ _) _ d, rfl⟩
    · exact ⟨d, .refl d, rfl, rfl⟩
  obtain ⟨e, ⟨hms, hreg⟩, hfe, heq⟩ := hread
  rw [heq, Dev.fabTx_speaks ((Dev.feSpeaks_of_reg (hreg rFeStat (by decide))).trans hs), hfe]
  exact ⟨hms, rfl⟩

/-! ## Arrivals of one line -/

section Arrivals
variable {s : State} {dev seq base off : Nat} {l : List Byte}

/-- What the answer to an access leaves: its code and bytes are sent, the pair goes on, and bytes change where `p` says. -/
def Answers (s : State) (i : Instr) (dev seq code : Nat) (b : List Byte) (p : Nat → Prop) : Prop :=
  ∃ t, exec i s = .next t ∧ t.dev.fe.tx = s.dev.fe.tx ++ [.answer dev seq code b] ∧ SMap.get 0 t.dev.fe.expect dev = seq + 1 ∧
    KeepsMemory s t p

variable (hd : dev < 32768) (h1 : 1 ≤ l.length) (hl : off % 128 + l.length ≤ 128) (ho : off < 2 ^ 64)
include hd h1 hl ho

/-- An access of another device, as it arrives. -/
theorem exec_fabricInbound (store : Bool) :
    exec (.fabricInboundAccess dev seq base store off l.length l) s =
      .next (leaves s (s.dev.arrive dev base ⟨seq, !store, off, l.length, l, false⟩)) := by
  rw [exec_next s (by simp only [Instr.wf, hd, h1, hl, ho, and_self, decide_true, Bool.and_self])]
  cases store <;> rfl

theorem exec_inboundDue (ht : s.dev.Due dev seq base) (store : Bool) :
    exec (.fabricInboundAccess dev seq base store off l.length l) s =
      .next (leaves s ((s.dev.turnTaken dev seq).perform dev ⟨seq, !store, off, l.length, l, false⟩)) := by
  rw [exec_fabricInbound hd h1 hl ho, Dev.arrive_due (k := dev) rfl ht, Nat.mod_eq_of_lt hd]

/-- A store in its turn, once the turn is taken. -/
theorem exec_storeDue (ht : s.dev.Due dev seq base) {code : Nat} {e : Dev}
    (ha : (s.dev.turnTaken dev seq).inboundStore dev off l = (code, e)) :
    ∃ t, exec (.fabricInboundAccess dev seq base true off l.length l) s = .next t ∧ t.dev.fe.tx = s.dev.fe.tx ++ [.answer dev seq code []] ∧
      SMap.get 0 t.dev.fe.expect dev = seq + 1 ∧ t.dev.ms = e.ms := by
  have hs : (s.dev.turnTaken dev seq).feSpeaks = true := ht.1
  refine ⟨_, exec_inboundDue hd h1 hl ho ht true, ?_⟩
  rw [Dev.perform_store hs dev rfl rfl, ha]
  exact ⟨rfl, SMap.get_set_same _ _ _ _, rfl⟩

/-- R182: a store that is not admitted is answered with its status, and changes no byte. -/
theorem exec_storeDue_refused (ht : s.dev.Due dev seq base) {e : Status} (hbad : s.dev.inboundBad dev off l.length true = some e) :
    Answers s (.fabricInboundAccess dev seq base true off l.length l) dev seq e.code [] (fun _ => False) := by
  obtain ⟨t, hx, htx, hex, hms⟩ := exec_storeDue hd h1 hl ho ht (Dev.inboundStore_refused hbad)
  exact ⟨t, hx, htx, hex, fun a _ => by rw [hms]; rfl⟩

/-- R428: one that is admitted writes its bytes. -/
theorem exec_storeDue_mem (ht : s.dev.Due dev seq base) (hbad : s.dev.inboundBad dev off l.length true = none) :
    ∃ t, exec (.fabricInboundAccess dev seq base true off l.length l) s = .next t ∧ t.dev.fe.tx = s.dev.fe.tx ++ [.answer dev seq 0 []] ∧
      SMap.get 0 t.dev.fe.expect dev = seq + 1 ∧ t.dev.ms.mem = s.dev.ms.mem.writeN off l := by
  obtain ⟨hend, -⟩ := (s.dev.inboundBad_none_iff true h1 hl).mp hbad
  obtain ⟨t, hx, htx, hex, hms⟩ := exec_storeDue hd h1 hl ho ht (Dev.inboundStore_line h1 hl hbad)
  exact ⟨t, hx, htx, hex, by rw [hms, Dev.storeLine_hbm_mem _ _ _ _ _ _ (by omega)]; rfl⟩

/-- A load in its turn answers what it reads, and leaves memory. -/
theorem exec_loadDue (ht : s.dev.Due dev seq base) {code : Nat} {b : List Byte}
    (ha : (s.dev.turnTaken dev seq).inboundLoad dev off l.length = (code, b)) :
    Answers s (.fabricInboundAccess dev seq base false off l.length l) dev seq code b (fun _ => False) := by
  have hs : (s.dev.turnTaken dev seq).feSpeaks = true := ht.1
  obtain ⟨hms, hfe⟩ := Dev.perform_load hs dev (q := ⟨seq, true, off, l.length, l, false⟩) rfl rfl
  rw [ha] at hfe
  exact ⟨_, exec_inboundDue hd h1 hl ho ht false, congrArg Fe.tx hfe,
    (congrArg (fun x : Fe => SMap.get 0 x.expect dev) hfe).trans (SMap.get_set_same _ _ _ _),
    fun a _ => congrArg (fun m : MemSys => m.mem.read a) hms⟩

/-- R427: a store that comes early is held, and leaves memory. -/
theorem exec_storeEarly (hs : s.dev.feSpeaks = true) (he : SMap.get 0 s.dev.fe.expect dev < seq) (hb : base ≤ SMap.get 0 s.dev.fe.expect dev)
    (hh : SMap.get [] s.dev.fe.held dev = []) :
    ∃ t, exec (.fabricInboundAccess dev seq base true off l.length l) s = .next t ∧ t.dev.fe.tx = s.dev.fe.tx ∧
      SMap.get [] t.dev.fe.held dev = [⟨seq, false, off, l.length, l, false⟩] ∧
      SMap.get 0 t.dev.fe.expect dev = SMap.get 0 s.dev.fe.expect dev ∧ KeepsMemory s t (fun _ => False) := by
  refine ⟨_, exec_fabricInbound hd h1 hl ho true, ?_⟩
  rw [Dev.arrive_early hs (by exact he) (by exact hb) (by exact hh)]
  exact ⟨rfl, SMap.get_set_same _ _ _ _, SMap.get_set_same _ _ _ _, fun _ _ => rfl⟩

/-- R427, R440: an access again, or of a fenced device, changes nothing. -/
theorem exec_inbound_discarded (h : s.dev.feSpeaks = false ∨ seq < SMap.get 0 s.dev.fe.expect dev ∨ seq < base) (store : Bool) :
    exec (.fabricInboundAccess dev seq base store off l.length l) s = .next s := by
  rw [exec_fabricInbound hd h1 hl ho, Dev.arrive_discarded (by exact h)]; rfl

end Arrivals

/-! ## Broadcast stores (R430) -/

/-- A broadcast that waits for no neighbour is answered to its source. -/
theorem Dev.bcastTick_answers {d : Dev} {b : Bcast} (hs : d.feSpeaks = true) (hb : d.fe.bcasts = [b]) (hw : b.waits = [])
    (ho : d.ownId ≠ some b.src) :
    d.bcastTick = { d with fe := { d.fe with bcasts := [], tx := d.fe.tx ++ [.answer b.src b.seq b.status (leBytes 2 b.failed)] } } := by
  have ho' : ({ d with fe := { d.fe with bcasts := [] } } : Dev).ownId ≠ some b.src := ho
  have hs' : ({ d with fe := { d.fe with bcasts := [] } } : Dev).feSpeaks = true := hs
  simp [Dev.bcastTick, hb, hw, ho', Dev.fabTx_speaks hs']

/-- R430: a broadcast store that is admitted and goes no further is performed and answered. -/
theorem Dev.bcastStore_line {d : Dev} {src seq off own : Nat} {l : List Byte} (h1 : 1 ≤ l.length) (hl : off % 128 + l.length ≤ 128)
    (hs : d.feSpeaks = true) (hown : d.ownId = some own) (hne : own ≠ src) (hbad : d.inboundBad src off l.length true = none)
    (hkids : d.treeChildren src own = []) (hbc : d.fe.bcasts = []) :
    (d.bcastStore src seq off l).fe.tx = d.fe.tx ++ [.answer src seq 0 (leBytes 2 own)] ∧
      (d.bcastStore src seq off l).ms = (d.storeLine .engine (.hbm off) l).ms := by
  obtain ⟨m, c, h, he⟩ := d.storeLine_engine_stored (.hbm off) l
  have hkids' : ({ d with ms := m, cores := c, sheaves := h } : Dev).treeChildren src own = [] := hkids
  have hown' : d.ownId ≠ some src := by rw [hown]; simpa using hne
  simp only [Dev.bcastStore, hown, Dev.inboundStore_line h1 hl hbad, he, hkids', List.foldl_nil, hbc, List.nil_append]
  rw [Dev.bcastTick_answers (b := ⟨src, seq, [], 0, own⟩) (by exact hs) rfl rfl (by exact hown')]
  exact ⟨rfl, rfl⟩

/-- R427, R430: so it is in its turn among its source's broadcasts. -/
theorem exec_broadcastDue {s : State} {dev seq base off own : Nat} {l : List Byte} (hd : dev < 32768) (h1 : 1 ≤ l.length)
    (hl : off % 128 + l.length ≤ 128) (ho : off < 2 ^ 64) (ht : s.dev.Due (dev + 0x8000) seq base) (hown : s.dev.ownId = some own)
    (hne : own ≠ dev) (hbad : s.dev.inboundBad dev off l.length true = none) (hkids : s.dev.treeChildren dev own = [])
    (hbc : s.dev.fe.bcasts = []) :
    ∃ t, exec (.broadcastStoreReceive dev seq base off l none) s = .next t ∧ .answer dev seq 0 (leBytes 2 own) ∈ t.dev.fe.tx ∧
      t.dev.ms.mem.readN off l.length = l := by
  have hend : off + l.length ≤ 0x9000000000 := ((s.dev.inboundBad_none_iff true h1 hl).mp hbad).1
  obtain ⟨htx, hms⟩ := Dev.bcastStore_line (d := s.dev.turnTaken (dev + 0x8000) seq) (seq := seq) h1 hl ht.1 hown hne hbad hkids hbc
  refine ⟨leaves s ((s.dev.turnTaken (dev + 0x8000) seq).bcastStore dev seq off l), ?_, ?_, ?_⟩
  · rw [exec_next s (by simp only [Instr.wf, hd, hl, ho, decide_true, Bool.and_self])]
    simp only [does, Dev.broadcast]
    rw [Dev.arrive_due (k := dev + 0x8000) rfl ht, Nat.add_mod_right, Nat.mod_eq_of_lt hd]
    rfl
  · simp [leaves, htx]
  · simp only [leaves, hms]
    rw [Dev.storeLine_hbm_mem _ _ _ _ _ _ (by omega), Memory.readN_writeN]

/-- R430: the last answer that a broadcast waits for is passed to its source, with the first device that failed. -/
theorem exec_broadcastAnswer {s : State} {src seq child code : Nat} {b : Bcast} (hsrc : src < 32768) (hs : s.dev.feSpeaks = true)
    (hbc : s.dev.fe.bcasts = [b]) (hbs : b.src = src) (hbq : b.seq = seq) (hw : b.waits = [child]) (hst : b.status = 0)
    (ho : s.dev.ownId ≠ some src) :
    ∃ t, exec (.broadcastStoreReceive src seq 0 0 [] (some (child, code))) s = .next t ∧ t.dev.fe.bcasts = [] ∧
      t.dev.fe.tx = s.dev.fe.tx ++ [.answer src seq code (leBytes 2 (if code = 0 then b.failed else child))] ∧
      KeepsMemory s t (fun _ => False) := by
  subst hbs hbq
  let b' : Bcast := { b with waits := [], status := code, failed := if code = 0 then b.failed else child }
  have hlast : s.dev.bcastAnswer b.src b.seq child code = ({ s.dev with fe := { s.dev.fe with bcasts := [b'] } } : Dev).bcastTick := by
    simp [Dev.bcastAnswer, hbc, hw, hst, b']
  refine ⟨leaves s (s.dev.bcastAnswer b.src b.seq child code), ?_, ?_⟩
  · rw [exec_next s (by simp [Instr.wf, hsrc])]
    simp only [does, Dev.broadcast, hs, if_true]
    rfl
  · rw [hlast, Dev.bcastTick_answers (b := b') (by exact hs) rfl rfl (by exact ho)]
    exact ⟨rfl, rfl, fun _ _ => rfl⟩

end Sys2Proof.Machine
end

section
/-! Requests to other packages, and the statement about requests (R225, R250, R427). -/

namespace Sys2Proof.Machine

open Sys2Proof

/-! ## The lowest open number (R427) -/

/-- Taking the lesser of what a fold of numbers has met once more changes nothing. -/
theorem foldl_min_of_mem {dev : Nat} {l : List (Nat × FabReq)} {e : Nat × FabReq} (he : e ∈ l) (hd : e.2.dev = dev) (n : Nat) :
    l.foldl (fun n e => if e.2.dev = dev then min n e.2.seq else n) (min n e.2.seq) =
      l.foldl (fun n e => if e.2.dev = dev then min n e.2.seq else n) n := by
  induction l generalizing n with
  | nil => simp at he
  | cons a l ih =>
    obtain rfl | he := List.mem_cons.mp he
    · simp [hd]
    · simp only [List.foldl_cons]
      split
      · rw [min_right_comm, ih he]
      · exact ih he n

theorem SMap.mem_of_find {α : Type} {m : SMap α} {k : Nat} {v : α} (h : SMap.find m k = some v) : (k, v) ∈ m := by
  induction m with
  | nil => simp [SMap.find] at h
  | cons e m ih =>
    obtain ⟨a, w⟩ := e
    simp only [SMap.find] at h
    split at h
    · simp_all
    · exact List.mem_cons_of_mem _ (ih h)

/-- Sending a request again leaves the lowest number that its pair waits for. -/
theorem foldl_min_set {m : SMap FabReq} {k : Nat} {r r' : FabReq} (hf : SMap.find m k = some r) (hd : r'.dev = r.dev)
    (hs : r'.seq = r.seq) (n : Nat) :
    (SMap.set m k r').foldl (fun n e => if e.2.dev = r.dev then min n e.2.seq else n) n =
      m.foldl (fun n e => if e.2.dev = r.dev then min n e.2.seq else n) n := by
  induction m generalizing n with
  | nil => simp [SMap.find] at hf
  | cons e m ih =>
    obtain ⟨a, w⟩ := e
    by_cases hlt : a < k
    · have hf' : SMap.find m k = some r := by simpa [SMap.find, Nat.ne_of_lt hlt] using hf
      simp only [SMap.set, hlt, if_true, List.foldl_cons, ih hf']
    · by_cases heq : a = k
      · have hw : w = r := by simpa [SMap.find, heq] using hf
        simp [SMap.set, heq, hd, hs, hw]
      · have hmem : (k, r) ∈ (a, w) :: m := SMap.mem_of_find hf
        simp only [SMap.set, hlt, heq, if_false]
        rw [List.foldl_cons, if_pos hd, hs]
        exact foldl_min_of_mem hmem rfl n

/-- R427: no open number of a pair lies below it. -/
theorem Dev.fabBase_le (d : Dev) (dev seq : Nat) : d.fabBase dev seq ≤ seq := by
  unfold Dev.fabBase
  generalize d.fe.reqs = l
  induction l generalizing seq with
  | nil => exact le_rfl
  | cons e l ih =>
    rw [List.foldl_cons]
    split
    · exact (ih _).trans (min_le_left _ _)
    · exact ih _

/-! ## Answers, and sending again -/

section Source
variable {s : State} {id st : Nat} {l : List Byte} {r : FabReq}

theorem exec_response : exec (.fabricResponseReceive id st l) s = .next (leaves s (s.dev.response id st l)) := rfl

theorem exec_resend : exec (.fabricResendTimer id) s = .next (leaves s (s.dev.resend id)) := rfl

theorem Dev.response_unknown {d : Dev} (h : d.fe.reqs.find id = none) : d.response id st l = d := by
  simp only [Dev.response, h]

theorem Dev.resend_unknown {d : Dev} (h : d.fe.reqs.find id = none) : d.resend id = d := by
  simp only [Dev.resend, h]

/-- R427: the answer to a load waits for its requester. -/
theorem Dev.response_load {d : Dev} (h : d.fe.reqs.find id = some r) (hl : r.load = true) :
    d.response id st l = ({ d with fe := { d.fe with
      reqs := d.fe.reqs.del id, answers := d.fe.answers ++ [⟨r.origin, windowAddr r.dev r.off, st, l⟩] } } : Dev).destroyTick := by
  simp only [Dev.response, h, hl, if_true]

/-- R225: a store that was performed is released. -/
theorem Dev.response_store {d : Dev} (h : d.fe.reqs.find id = some r) (hl : r.load = false) :
    d.response id 0 l = (({ d with fe := { d.fe with reqs := d.fe.reqs.del id } } : Dev).storesSettle d r.origin).destroyTick := by
  simp only [Dev.response, h, hl, if_true]
  rfl

/-- R250: a store that was refused is dropped with those of its thread behind it. -/
theorem Dev.response_refused {d : Dev} (h : d.fe.reqs.find id = some r) (hl : r.load = false) (hd : r.dev ≠ 0x7FFF) :
    d.response id Status.protection.code l = (d.dropStores r .protection).destroyTick := by
  have h0 : Status.protection.code ≠ 0 := by decide
  simp only [Dev.response, h, hl, Bool.false_eq_true, if_neg h0, if_neg hd, statusOf, if_true, if_false]

/-- R427: a request is sent again with the lowest number that is still open. -/
theorem exec_resend_open (h : s.dev.fe.reqs.find id = some r) (hs : s.dev.feSpeaks = true) :
    ∃ t, exec (.fabricResendTimer id) s = .next t ∧ t.dev.fe.tx = s.dev.fe.tx ++ [.request { r with base := s.dev.fabBase r.dev r.seq }] ∧
      t.dev.fe.reqs.find id = some { r with resent := s.dev.time, base := s.dev.fabBase r.dev r.seq } ∧
      KeepsMemory s t (fun _ => False) ∧ s.dev.fabBase r.dev r.seq ≤ r.seq := by
  let r' : FabReq := { r with resent := s.dev.time, base := s.dev.fabBase r.dev r.seq }
  let x : Dev := { s.dev with fe := { s.dev.fe with reqs := s.dev.fe.reqs.set id r' } }
  have hbase : x.fabBase r.dev r.seq = s.dev.fabBase r.dev r.seq := foldl_min_set (r' := r') h rfl rfl r.seq
  have hx : s.dev.resend id = x.fabTx (.request { r with base := x.fabBase r.dev r.seq }) := by
    simp only [Dev.resend, h]; rfl
  have hspeak : x.feSpeaks = true := hs
  refine ⟨_, exec_resend, ?_⟩
  rw [hx, hbase, Dev.fabTx_speaks hspeak]
  exact ⟨rfl, SMap.find_set_same _ _ _, fun _ _ => rfl, s.dev.fabBase_le _ _⟩

end Source

end Sys2Proof.Machine

namespace Sys2Proof

open Sys2Proof.Machine

/-- Settles O45: at the destination by whether the request is due, early or again, and by whether it is admitted; at the source by
what kind of request the answer releases. -/
theorem fabricRequests : Obligations.FabricRequests := by
  unfold Obligations.FabricRequests
  refine ⟨fun s dev seq base off l hd h1 hl ho => ?_, fun s id st l => ?_, fun s src seq child code b hsrc => ?_⟩
  · dsimp only
    refine ⟨fun wr => ?_, fun ht e => ⟨exec_storeDue_refused hd h1 hl ho ht, fun hbad => ?_⟩, fun ht hbad => ?_,
      fun ht hbad => ⟨fun hgood => exec_loadDue hd h1 hl ho ht (Dev.inboundLoad_good h1 hl hbad hgood),
        fun hpoison => exec_loadDue hd h1 hl ho ht (Dev.inboundLoad_poisoned h1 hl hbad hpoison)⟩,
      fun h => ⟨exec_inbound_discarded hd h1 hl ho h true, exec_inbound_discarded hd h1 hl ho h false⟩,
      exec_storeEarly hd h1 hl ho, fun hs he hb hh own hown hne hbad hkids hbc =>
        exec_broadcastDue hd h1 hl ho ⟨hs, he, hb, hh⟩ hown hne hbad hkids hbc⟩
    · rw [s.dev.inboundBad_none_iff wr h1 hl, s.dev.admits_iff]
    · exact exec_loadDue hd h1 hl ho ht (Dev.inboundLoad_refused hbad)
    · obtain ⟨t, hx, htx, hex, hmem⟩ := exec_storeDue_mem hd h1 hl ho ht hbad
      refine ⟨⟨t, hx, htx, hex, fun a ha => ?_⟩, fun u hu => ?_⟩
      · rw [hmem, Memory.read_writeN_other (by omega)]
      · obtain rfl : t = u := by simpa [hx] using hu
        rw [hmem, Memory.readN_writeN]
  · dsimp only
    refine ⟨fun h => ⟨?_, ?_⟩, fun r h => ⟨fun hl => ?_, fun hl hst => ?_, fun hl hst hd => ?_, exec_resend_open h⟩⟩
    · rw [exec_response, Dev.response_unknown h]; rfl
    · rw [exec_resend, Dev.resend_unknown h]; rfl
    · rw [exec_response, Dev.response_load h hl]
    · rw [exec_response, hst, Dev.response_store h hl]
    · rw [exec_response, hst, Dev.response_refused h hl hd]
  · dsimp only
    refine ⟨fun hs => ?_, fun hs hbc hbs hbq hw hst ho => exec_broadcastAnswer hsrc hs hbc hbs hbq hw hst ho⟩
    rw [exec_next s (by simp [Instr.wf, hsrc])]
    simp only [does, Dev.broadcast, hs]
    rfl

end Sys2Proof
end

section
/-! Loss, return and orderly reset of a die, by the state it is in (R26, R27, R463, R469 to R471). -/

namespace Sys2Proof.Machine

open Sys2Proof

section Loss
variable {d : Dev} {n : Nat}

/-! ## Loss (R469) -/

/-- R469: a die that is not there is not lost. -/
theorem Dev.dieLoss_absent (h : d.powered = false ∨ d.sup.bootStep < 5 ∨ 2 ≤ d.dieState n) : d.dieLoss n = d := by
  unfold Dev.dieLoss
  obtain h | h | h := h <;> simp [h]

/-- R469: with the Crown the device is lost. -/
theorem Dev.dieLoss_crown (hp : d.powered = true) (hb : 5 ≤ d.sup.bootStep) (hs : d.dieState 0 < 2) :
    d.dieLoss 0 = { d.dark with pm := { pwrlim := d.pm.pwrlim, input := .lost }, pins := { d.dark.pins with caterr := true } } := by
  simp [Dev.dieLoss, hp, Nat.not_lt.mpr hb, Nat.not_le.mpr hs]

/-- The part once die n, not the Crown, is lost: the loss is noted, and no drain goes on. -/
def Dev.lostDie (d : Dev) (n : Nat) : Dev :=
  (d.dieGone n).setDie n (fun x => { x with drain := none, losses := d.time :: d.recentLosses n })

/-- R469 step 6: such a die is reset when AUTO is 1, unless it was lost four times within the hour. -/
theorem Dev.dieLoss_die (hn : n ≠ 0) (hp : d.powered = true) (hb : 5 ≤ d.sup.bootStep) (hs : d.dieState n < 2) :
    d.dieLoss n = if (d.lostDie n).bit (rCrownDiectl n) 31 && decide (((d.lostDie n).recentLosses n).length < 4)
      then (d.lostDie n).setDieState n 1 else d.lostDie n := by
  have hthere : (!d.powered || decide (d.sup.bootStep < 5) || decide (2 ≤ d.dieState n)) = false := by
    simp [hp, Nat.not_lt.mpr hb, Nat.not_le.mpr hs]
  simp only [Dev.dieLoss, hthere, Bool.false_eq_true, if_false, if_neg hn]
  rfl

theorem Dev.dieLoss_fenced (hn : n ≠ 0) (hp : d.powered = true) (hb : 5 ≤ d.sup.bootStep) (hs : d.dieState n < 2)
    (h : (d.lostDie n).bit (rCrownDiectl n) 31 = false ∨ 4 ≤ ((d.lostDie n).recentLosses n).length) : d.dieLoss n = d.lostDie n := by
  rw [Dev.dieLoss_die hn hp hb hs, if_neg]
  obtain h | h := h <;> simp [h]

theorem Dev.dieLoss_reset (hn : n ≠ 0) (hp : d.powered = true) (hb : 5 ≤ d.sup.bootStep) (hs : d.dieState n < 2)
    (ha : (d.lostDie n).bit (rCrownDiectl n) 31 = true) (hl : ((d.lostDie n).recentLosses n).length < 4) :
    d.dieLoss n = (d.lostDie n).setDieState n 1 := by
  rw [Dev.dieLoss_die hn hp hb hs, if_pos (by simp [ha, hl])]

end Loss

/-! ## Return (R27, R469 step 6) -/

section Return
variable {d : Dev} {n : Nat} {fuse link test : Bool} {bad : List Nat}

/-- A die that is not RESETTING does not return. -/
theorem Dev.dieRejoin_absent (h : d.powered = false ∨ n = 0 ∨ d.sup.bootStep < 5 ∨ d.dieState n ≠ 1) : d.dieRejoin n fuse link test bad = d := by
  unfold Dev.dieRejoin
  obtain h | h | h | h := h <;> simp [h]

/-- R469 step 6: a die whose reset has ended, once its fuses are read. -/
def Dev.fusedDie (d : Dev) (n : Nat) (fuse : Bool) : Dev :=
  (d.setDie n (fun x => { x with drain := none })).setBit (rCrownDiestat n) 4 fuse

/-- R27: a die that passed, ACTIVE, its resets counted. -/
def Dev.activeDie (d : Dev) (n : Nat) : Dev := ((d.fusedDie n true).setDieState n 0).addSat (rCrownDiestat n) 31 24 1

variable (hp : d.powered = true) (hn : n ≠ 0) (hb : 5 ≤ d.sup.bootStep) (hs : d.dieState n = 1)
include hp hn hb hs

/-- A die that is RESETTING returns: OFFLINE when it was drained for that, else as its fuses, link and self-test say. -/
theorem Dev.dieRejoin_offline (hd : (d.die n).drain = some .offline) :
    d.dieRejoin n fuse link test bad = (d.setDieState n 3).setDie n (fun x => { x with drain := none }) := by
  simp [Dev.dieRejoin, hp, hn, Nat.not_lt.mpr hb, hs, hd]

variable (hd : (d.die n).drain ≠ some .offline)
include hd

theorem Dev.dieRejoin_badFuse : d.dieRejoin n false link test bad = ((d.fusedDie n false).setDieState n 2).error 0x09 n 0 := by
  simp [Dev.dieRejoin, hp, hn, Nat.not_lt.mpr hb, hs, hd, Dev.fusedDie]

theorem Dev.dieRejoin_badLink :
    d.dieRejoin n true false test bad = ((d.fusedDie n true).setDieState n 2).error 0x0A n 0 0 0 0 (some 1) := by
  simp [Dev.dieRejoin, hp, hn, Nat.not_lt.mpr hb, hs, hd, Dev.fusedDie]

theorem Dev.dieRejoin_badTest : d.dieRejoin n true true false bad = ((d.fusedDie n true).setDieState n 2).error 0x28 n 0 := by
  simp [Dev.dieRejoin, hp, hn, Nat.not_lt.mpr hb, hs, hd, Dev.fusedDie]

/-- R487: a Tiller that returns tests its spares, and then replaces the clusters that failed. -/
theorem Dev.dieRejoin_tiller (h9 : n < 9) : d.dieRejoin n true true true bad =
    (((bad.filter (((d.activeDie n).dropSpares (n - 1) bad).clsEnabled (n - 1))).foldl (fun d c => d.clusterSwap (n - 1) c bad)
      ((d.activeDie n).dropSpares (n - 1) bad)).setBit (rTilScstat (n - 1)) 31 true).dieChanged n := by
  simp [Dev.dieRejoin, hp, hn, Nat.not_lt.mpr hb, hs, hd, h9, Dev.activeDie, Dev.fusedDie]

theorem Dev.dieRejoin_culm (h9 : 9 ≤ n) (h11 : n < 11) :
    d.dieRejoin n true true true bad = ((d.activeDie n).setBit (rCulmScstat (n - 9)) 31 true).dieChanged n := by
  simp [Dev.dieRejoin, hp, hn, Nat.not_lt.mpr hb, hs, hd, Nat.not_lt.mpr h9, h11, Dev.activeDie, Dev.fusedDie]

theorem Dev.dieRejoin_glume (h11 : 11 ≤ n) :
    d.dieRejoin n true true true bad = ((d.activeDie n).setReturn ((n - 11) / 3)).dieChanged n := by
  have h9 : ¬ n < 9 := by omega
  simp [Dev.dieRejoin, hp, hn, Nat.not_lt.mpr hb, hs, hd, h9, Nat.not_lt.mpr h11, Dev.activeDie, Dev.fusedDie]

end Return

/-! ## Orderly reset (R471) -/

section Drain
variable {d : Dev} {n : Nat}

theorem Dev.drainDone_idle (h : d.powered = false ∨ d.dieActive n = false ∨ (d.die n).drain = none) : d.drainDone n = d := by
  unfold Dev.drainDone
  obtain h | h | h := h <;> simp [h]

/-- R471: a drained die takes its cores offline, writes back its caches, discards its requests and becomes RESETTING. -/
theorem Dev.drainDone_drained (hp : d.powered = true) (ha : d.dieActive n = true) (hd : (d.die n).drain ≠ none) :
    d.drainDone n =
      let a := if 9 ≤ n ∧ n < 11 then
        (List.range 48).foldl (fun d k => (d.coreOffline (48 * (n - 9) + k)).coreOfflineDone (48 * (n - 9) + k)) d else d
      let b := ((a.ms.caches.keysP (fun k _ => cacheSlot k == n)).flatMap a.dirtyLines).foldl Dev.writeHome a
      let e := if 11 ≤ n then b.setDie n (fun x => { x with refreshed := true }) else b
      ((((e.discardRequests (fun w => w.die == some n)).clearDie n).setDieState n 1).destroyTick).dieChanged n := by
  have hgo : (!d.powered || !d.dieActive n || (d.die n).drain.isNone) = false := by
    simpa [hp, ha] using Option.isSome_iff_ne_none.mpr hd
  simp only [Dev.drainDone, hgo, Bool.false_eq_true, if_false]

end Drain

end Sys2Proof.Machine
end

section
/-! Clusters that fail, the spares that replace them, and the repair record (R23, R29, R487). -/

namespace Sys2Proof.Machine

open Sys2Proof

section Repair
variable {d : Dev} {t : Nat}

/-! ## The repair record (R29) -/

/-! The record stands in flash. -/

@[simp] theorem Dev.repairRecord_tilChanged (u : Nat) : (d.tilChanged u).repairRecord t = d.repairRecord t := rfl

@[simp] theorem Dev.repairRecord_error (kind slot unit : Nat) : (d.error kind slot unit).repairRecord t = d.repairRecord t := rfl

@[simp] theorem Dev.repairRecord_geometryChanged : d.geometryChanged.repairRecord t = d.repairRecord t := rfl

/-- R487: a change of the record is what it then reads. -/
@[simp] theorem Dev.repairRecord_setRepair (m : BitVec 84) (sp : List Nat) : (d.setRepair t m sp).repairRecord t = (m, sp) :=
  SMap.get_set_same _ _ _ _

/-- R29: the geometry registers of a Tiller show its record. -/
theorem Dev.loadMap_eq {m : BitVec 84} {sp : List Nat} (h : d.repairRecord t = (m, sp)) : d.loadMap t =
    (((d.setReg (rTilClsmapl t) (m.toNat % 2 ^ 64)).setReg (rTilClsmaph t) (m.toNat / 2 ^ 64)).setFld (rTilClsen t) 6 0
      ((List.range 84).filter (fun c => m.getLsbD c)).length).setFld (rTilClsen t) 18 16 sp.length := by
  simp only [Dev.loadMap, h]

/-- R29: TIL_CLSEN counts the spares. -/
theorem Dev.clsen_setRepair (m : BitVec 84) {sp : List Nat} (h : sp.length < 8) : (d.setRepair t m sp).fld (rTilClsen t) 18 16 = sp.length := by
  unfold Dev.setRepair
  rw [Dev.loadMap_eq (m := m) (sp := sp) (by exact SMap.get_set_same _ _ _ _), Dev.fld_setFld_same _ (by omega)]
  exact Nat.mod_eq_of_lt h

/-- R29: TIL_CLSMAPL shows the first 64 clusters. -/
theorem Dev.clsmapl_setRepair (m : BitVec 84) (sp : List Nat) : (d.setRepair t m sp).reg (rTilClsmapl t) = m.toNat % 2 ^ 64 := by
  have hen : rTilClsen t ≠ rTilClsmapl t := by unfold rTilClsen rTilClsmapl; omega
  have hh : rTilClsmaph t ≠ rTilClsmapl t := by unfold rTilClsmaph rTilClsmapl; omega
  unfold Dev.setRepair
  rw [Dev.loadMap_eq (m := m) (sp := sp) (by exact SMap.get_set_same _ _ _ _), Dev.reg_setFld_other _ _ _ _ hen,
    Dev.reg_setFld_other _ _ _ _ hen, Dev.reg_setReg_other _ _ hh, Dev.reg_setReg_same, Nat.mod_mod]

/-! ## Spares (R487) -/

/-- Testing spares of which none fails changes nothing. -/
theorem Dev.dropSpares_none {bad : List Nat} (h : ∀ x ∈ (d.repairRecord t).2, x ∉ bad) : d.dropSpares t bad = d := by
  have hnone : (d.repairRecord t).2.filter bad.contains = [] := by simpa using h
  simp only [Dev.dropSpares, hnone, List.isEmpty_nil, if_true]

/-- When all fail none is left. -/
theorem Dev.dropSpares_all (h : (d.repairRecord t).2 ≠ []) :
    (d.dropSpares t (d.repairRecord t).2).repairRecord t = ((d.repairRecord t).1, []) := by
  have hout : (d.repairRecord t).2.filter (d.repairRecord t).2.contains = (d.repairRecord t).2 := by simp
  have hkeep : (d.repairRecord t).2.filter (fun c => !(d.repairRecord t).2.contains c) = [] := by simp
  have hsome : (d.repairRecord t).2.isEmpty = false := by simpa using h
  simp only [Dev.dropSpares, hout, hkeep, hsome, Bool.false_eq_true, if_false]
  rw [foldl_keeps (g := fun d : Dev => d.repairRecord t) (fun d c => d.repairRecord_error _ _ _)]
  simp

/-- R487 step 3: without a spare the cluster is disabled. -/
theorem Dev.clusterSwap_disable {c : Nat} {bad : List Nat} (h : (d.repairRecord t).2 = []) :
    d.clusterSwap t c bad =
      ((d.setRepair t ((d.repairRecord t).1 &&& ~~~(BitVec.ofNat 84 (2 ^ c))) []).tilChanged t).error 0x12 (slotTil t) c := by
  have hd : d.dropSpares t [] = d := Dev.dropSpares_none (by simp)
  simp only [Dev.clusterSwap, h, List.takeWhile_nil, hd]

/-- R487 step 2: the first spare that passes replaces the cluster. -/
theorem Dev.clusterSwap_replace {c x : Nat} {rest bad : List Nat} (h : (d.repairRecord t).2 = x :: rest) (hx : x ∉ bad) :
    d.clusterSwap t c bad =
      ((d.setRepair t (((d.repairRecord t).1 &&& ~~~(BitVec.ofNat 84 (2 ^ c))) ||| BitVec.ofNat 84 (2 ^ x)) rest).tilChanged t).error 0x11
        (slotTil t) c := by
  have hw : (x :: rest).takeWhile bad.contains = [] := by simp [hx]
  have hd : d.dropSpares t [] = d := Dev.dropSpares_none (by simp)
  simp only [Dev.clusterSwap, h, hw, hd]

/-- R487: when every spare fails its test the cluster is disabled, and no spare is left. -/
theorem Dev.clusterSwap_noneLeft {c : Nat} {bad : List Nat} (h : (d.repairRecord t).2 ≠ []) (hbad : ∀ x ∈ (d.repairRecord t).2, x ∈ bad) :
    (d.clusterSwap t c bad).repairRecord t = ((d.repairRecord t).1 &&& ~~~(BitVec.ofNat 84 (2 ^ c)), []) := by
  have hw : (d.repairRecord t).2.takeWhile bad.contains = (d.repairRecord t).2 := by simpa using hbad
  simp only [Dev.clusterSwap, hw, Dev.dropSpares_all h]
  simp

end Repair

/-! ## Failure of a cluster (R487) -/

section Failure
variable {d : Dev} {t c : Nat} {bad : List Nat}

/-- The waiter runs in the cluster. -/
def Waiter.inCluster (k : Nat) : Waiter → Bool
  | .sheaf x => keyCls x == k
  | .lane x _ => keyCls x == k
  | _ => false

/-- R26: what a cluster held is gone. -/
def Dev.clusterGone (d : Dev) (k : Nat) : Dev := (d.discardRequests (Waiter.inCluster k)).clearClusters (· == k)

theorem Dev.clusterFailure_absent (h : d.powered = false ∨ d.dieActive (slotTil t) = false ∨ d.clsEnabled t c = false) :
    d.clusterFailure t c bad = d := by
  unfold Dev.clusterFailure
  obtain h | h | h := h <;> simp [h]

theorem Dev.clusterFailure_enabled (hp : d.powered = true) (ha : d.dieActive (slotTil t) = true) (he : d.clsEnabled t c = true) :
    d.clusterFailure t c bad = ((d.clusterGone (84 * t + c)).clusterSwap t c bad).geometryChanged := by
  have hthere : (!d.powered || !d.dieActive (slotTil t) || !d.clsEnabled t c) = false := by simp [hp, ha, he]
  simp only [Dev.clusterFailure, hthere, Bool.false_eq_true, if_false]
  rfl

end Failure

end Sys2Proof.Machine

namespace Sys2Proof

open Sys2Proof.Machine

/-- Settles O56: a die by the state it is in and the outcome of its reset, a cluster by the first spare that passes. -/
theorem diesAndClusters : Obligations.DiesAndClusters := by
  unfold Obligations.DiesAndClusters
  refine ⟨fun s n hn => ?_, fun s t c bad ht hc => ?_, fun d t m sp ht hsp =>
    ⟨d.repairRecord_setRepair m sp, d.clsen_setRepair m hsp, by rw [Dev.clsmapl_setRepair, Nat.mod_mod]⟩⟩
  · have hwf : decide (n < 23) = true := by simpa using hn
    have hloss : ∀ i ∈ [Instr.dieLoss n, .heartbeatMiss n], exec i s = .next (leaves s (s.dev.dieLoss n)) := by
      simp only [List.forall_mem_cons]
      exact ⟨exec_next s hwf, exec_next s hwf, fun _ h => absurd h List.not_mem_nil⟩
    have hrejoin : ∀ fuse link test bad, exec (.dieRejoin n fuse link test bad) s =
        .next (leaves s (s.dev.dieRejoin n fuse link test bad)) := fun _ _ _ _ => exec_next s hwf
    have hdrain : exec (.dieDrainDone n) s = .next (leaves s (s.dev.drainDone n)) := exec_next s hwf
    dsimp only
    refine ⟨fun i hi => ⟨fun h => ?_, fun hp hb hs => ⟨fun h0 => ?_, fun h0 h => ?_, fun h0 ha hl => ?_⟩⟩,
      fun fuse link test bad => ⟨fun h => ?_, fun hp h0 hb hs => ⟨fun hd => ?_, fun hd => ⟨fun hf => ?_, fun hf hl => ?_, fun hf hl ht => ?_,
        fun hf hl ht => ⟨fun h9 hbad => ?_, fun h9 => ?_, fun h9 h11 => ?_, fun h11 => ?_⟩⟩⟩⟩,
      fun h => ?_, fun hp ha hd => ?_⟩
    · rw [hloss i hi, Dev.dieLoss_absent h]; rfl
    · subst h0
      rw [hloss i hi, Dev.dieLoss_crown hp hb hs]
    · rw [hloss i hi, Dev.dieLoss_fenced h0 hp hb hs h]; rfl
    · rw [hloss i hi, Dev.dieLoss_reset h0 hp hb hs ha hl]; rfl
    · rw [hrejoin, Dev.dieRejoin_absent h]; rfl
    · rw [hrejoin, Dev.dieRejoin_offline hp h0 hb hs hd]
    · subst hf
      rw [hrejoin, Dev.dieRejoin_badFuse hp h0 hb hs hd]; rfl
    · subst hf hl
      rw [hrejoin, Dev.dieRejoin_badLink hp h0 hb hs hd]; rfl
    · subst hf hl ht
      rw [hrejoin, Dev.dieRejoin_badTest hp h0 hb hs hd]; rfl
    · subst hf hl ht hbad
      rw [hrejoin, Dev.dieRejoin_tiller hp h0 hb hs hd h9, Dev.dropSpares_none (by simp)]; rfl
    · subst hf hl ht
      rw [hrejoin, Dev.dieRejoin_tiller hp h0 hb hs hd h9]; rfl
    · subst hf hl ht
      rw [hrejoin, Dev.dieRejoin_culm hp h0 hb hs hd h9 h11]; rfl
    · subst hf hl ht
      rw [hrejoin, Dev.dieRejoin_glume hp h0 hb hs hd h11]; rfl
    · rw [hdrain, Dev.drainDone_idle h]; rfl
    · rw [hdrain, Dev.drainDone_drained hp ha hd]
  · have hfail : exec (.clusterFailure t c bad) s = .next (leaves s (s.dev.clusterFailure t c bad)) :=
      exec_next s (by simp [Instr.wf, ht, hc])
    dsimp only
    refine ⟨fun h => ?_, fun hp ha he => ⟨fun h => ?_, fun x rest h hx => ?_, fun sp hsp hbad hne => ?_⟩⟩
    · rw [hfail, Dev.clusterFailure_absent h]; rfl
    · rw [hfail, Dev.clusterFailure_enabled hp ha he, Dev.clusterSwap_disable (by exact h)]; rfl
    · rw [hfail, Dev.clusterFailure_enabled hp ha he, Dev.clusterSwap_replace (by exact h) hx]; rfl
    · subst hsp
      refine ⟨_, hfail, ?_⟩
      simp only [leaves, Dev.clusterFailure_enabled hp ha he, Dev.repairRecord_geometryChanged]
      exact Dev.clusterSwap_noneLeft (d := s.dev.clusterGone (84 * t + c)) hne hbad

end Sys2Proof
end

section
/-! What a COPY-class command does at each of its invocations, and the descriptors of COPY (R408 to R412). -/

namespace Sys2Proof.Machine

open Sys2Proof

/-! ## The invocations they share -/

section CopyClass
variable {d : Dev} {r op : Nat} {v : Run} {bad : Cmd → Chk} {insts : Cmd → List Nat} {start : Dev → Run → Nat → Dev} {step : Dev → Run → Dev}

/-- A command of another opcode, one that is over, and one that a fault holds are not touched. -/
theorem Dev.copyClass_over (hr : d.run? r = some v) (h : v.cmd.op ≠ op ∨ v.done = true ∨ d.faultHeld (.cmd r) = true) :
    d.copyClass r op bad insts start step = d := by
  simp only [Dev.copyClass, hr]
  rw [if_pos]
  obtain h | h | h := h <;> simp [h]

variable (hr : d.run? r = some v) (hop : v.cmd.op = op) (hd : v.done = false) (hf : d.faultHeld (.cmd r) = false)
include hr hop hd hf

/-- One that has begun goes on. -/
theorem Dev.copyClass_begun (hb : v.began = true) : d.copyClass r op bad insts start step = step d v := by
  simp [Dev.copyClass, hr, hop, hd, hf, hb]

variable (hb : v.began = false)
include hb

/-- One that breaks a check fails, on the lowest engine it allows. -/
theorem Dev.copyClass_bad {st : Status} {i : Nat} (hbad : bad v.cmd = some (st, i)) :
    d.copyClass r op bad insts start step = d.failAt r ((insts v.cmd).headD 0) st i := by
  simp [Dev.copyClass, hr, hop, hd, hf, hb, hbad]

/-- One that finds none free waits. -/
theorem Dev.copyClass_waits (hbad : bad v.cmd = none) (hbusy : ∀ i ∈ insts v.cmd, d.instBusy 2 i = true) :
    d.copyClass r op bad insts start step = d := by
  have hnone : (insts v.cmd).find? (fun i => !d.instBusy 2 i) = none := by simpa [List.find?_eq_none] using hbusy
  simp [Dev.copyClass, hr, hop, hd, hf, hb, hbad, hnone]

/-- Else it starts on the lowest that is free. -/
theorem Dev.copyClass_starts {i : Nat} (hbad : bad v.cmd = none) (hi : (insts v.cmd).find? (fun i => !d.instBusy 2 i) = some i) :
    d.copyClass r op bad insts start step = start d v i := by
  simp [Dev.copyClass, hr, hop, hd, hf, hb, hbad, hi]

end CopyClass

/-- R408: engines have numbers below 40. -/
theorem copyInsts_lt {e i : Nat} (h : i ∈ copyInsts e) : i < 40 := by
  unfold copyInsts at h
  split_ifs at h <;> simp at h <;> omega

/-- R408: the tier movers. -/
theorem copyInsts_movers : copyInsts 0xF2 = (List.range 8).map (· + 32) := rfl

/-! ## Descriptors (R410 to R412) -/

section Descriptor
variable {d : Dev} {r : Nat} {v : Run}

theorem Dev.copyDescriptor_over (hr : d.run? r = some v)
    (h : v.cmd.op ≠ 0x50 ∨ v.done = true ∨ d.faultHeld (.cmd r) = true ∨ v.began = false) : d.copyDescriptor r = d := by
  simp only [Dev.copyDescriptor, hr]
  rw [if_pos]
  obtain h | h | h | h := h <;> simp [h]

variable {l : List Byte} {e : Dev} (hr : d.run? r = some v) (hop : v.cmd.op = 0x50) (hd : v.done = false) (hf : d.faultHeld (.cmd r) = false)
  (hb : v.began = true) (hs : d.atSafePoint r v = false) (hread : d.readV (d.whoRun r) (v.cmd.dw 4 + 64 * v.step) 64 = (.ok, l, false, e))
include hr hop hd hf hb hs hread

/-- R410, R411: a descriptor that breaks a rule ends its COPY. -/
theorem Dev.copyDescriptor_bad {st : Status} {i : Nat} (hbad : descBad (bytesWords l) = some (st, i)) :
    d.copyDescriptor r = e.failRun r st i := by
  simp [Dev.copyDescriptor, hr, hop, hd, hf, hb, hs, hread, hbad]

/-- R412: one whose source is read and whose destination is written is done; the last ends the COPY. -/
theorem Dev.copyDescriptor_done {ps : List Piece} {f g : Dev} (hbad : descBad (bytesWords l) = none)
    (hsrc : e.gather (d.whoRun r) v.inst ((descOf (bytesWords l)).srcRanges.flatMap (fun p => cut 128 p.1 p.2)) [] = (.ok, ps, f))
    (hmix : f.overlaps (d.whoRun r) ps
      ((descOf (bytesWords l)).dstRanges.flatMap (fun p => cut 128 ((descOf (bytesWords l)).dst + p.1) p.2)) = false)
    (hgood : ps.any (·.bad) = false)
    (hdst : f.fresh.2.scatter r (d.whoRun r) v.inst
      ((((descOf (bytesWords l)).dstRanges.flatMap (fun p => cut 128 ((descOf (bytesWords l)).dst + p.1) p.2)).drop v.pos).map
        (fun p => (p.1, (List.range p.2).map
          (fun i => (descOf (bytesWords l)).dstByte ps f.fresh.1.toNat (p.1 + i - (descOf (bytesWords l)).dst))))) = (.ok, g)) :
    d.copyDescriptor r =
      let h := (g.fabDone (d.whoRun r).waiter).setRun r (fun v => { v with pos := 0 })
      if v.step + 1 = v.cmd.f 2 15 0 then h.endRun r else h.nextStep r := by
  have hlive : (v.cmd.op != 0x50 || !v.began || v.done || d.faultHeld (.cmd r) || d.atSafePoint r v) = false := by simp [hop, hb, hd, hf, hs]
  simp only [Dev.copyDescriptor, hr, hlive, hread, hbad, hsrc, hmix, hgood, Bool.false_eq_true, if_false]
  rw [hdst]

end Descriptor

/-! ## Places of bytes and elements (R58, R411) -/

/-- R411: an element of a row-major matrix stands at its row's pitch. -/
theorem Desc.dstBit_rowMajor {x : Desc} {r c i : Nat} (hl : x.dlay = 1) (hp : packedLen x.fmt x.dims.2 ≤ x.dpitch) (hr : r < x.dims.1)
    (hc : c < x.dims.2) (hi : i < packedBits x.fmt) :
    x.dstBit (r * x.dpitch * 8 + c * packedBits x.fmt + i) = some (r, c, i) := by
  have hrow : (c + 1) * packedBits x.fmt ≤ x.dims.2 * packedBits x.fmt := Nat.mul_le_mul_right _ hc
  have hin : c * packedBits x.fmt + i < x.dpitch * 8 := by
    unfold packedLen at hp
    rw [Nat.add_mul, Nat.one_mul] at hrow
    omega
  have hbit : r * x.dpitch * 8 + c * packedBits x.fmt + i = x.dpitch * 8 * r + (c * packedBits x.fmt + i) := by ring
  have hdiv : (r * x.dpitch * 8 + c * packedBits x.fmt + i) / (x.dpitch * 8) = r := by
    rw [hbit, Nat.mul_add_div (by omega), Nat.div_eq_of_lt hin, Nat.add_zero]
  have hmod : (r * x.dpitch * 8 + c * packedBits x.fmt + i) % (x.dpitch * 8) = c * packedBits x.fmt + i := by
    rw [hbit, Nat.mul_add_mod, Nat.mod_eq_of_lt hin]
  have hcol : (c * packedBits x.fmt + i) / packedBits x.fmt = c := by
    rw [Nat.mul_comm, Nat.mul_add_div (by omega), Nat.div_eq_of_lt hi, Nat.add_zero]
  have hoff : (c * packedBits x.fmt + i) % packedBits x.fmt = i := by rw [Nat.mul_comm, Nat.mul_add_mod, Nat.mod_eq_of_lt hi]
  simp only [Desc.dstBit, hl, hdiv, hmod, hcol, hoff]
  rw [if_pos ⟨hr, hc⟩]

/-- R410: LINEAR copies byte for byte. -/
theorem Desc.dstByte_linear {x : Desc} (hl : x.dlay = 0) (ps : List Piece) (pad o : Nat) : x.dstByte ps pad o = pieceByte ps (x.src + o) := by
  simp only [Desc.dstByte, hl, if_true]

/-! ## Write-back of a range (R413) -/

section RangeWb
variable {d : Dev} {r : Nat} {v : Run}

/-- R413: a page of core memory that its checks pass is written back line by line. -/
theorem Dev.rangeWbStep_core {va n a p : Nat} {na : Bool} {e : Dev} (hpage : (cut 65536 (v.cmd.dw 4) (v.cmd.dw 6))[v.step]? = some (va, n))
    (hres : d.resolve (d.whoRun r) va .read = (.ok, .core a p, na, e))
    (hpass : ∀ l ∈ cut 128 va n, e.verdict (.core (a + (l.1 - va)) p) (d.whoRun r).ctx false = .pass) :
    d.rangeWbStep v r =
      let f := ((cut 128 va n).map (fun l => l.1 - va)).foldl (fun d o => d.wbLine r (.core (a + o) p) (v.cmd.f 2 31 30 == 2)) e
      if v.step + 1 = (cut 65536 (v.cmd.dw 4) (v.cmd.dw 6)).length then f.endRun r else f.nextStep r := by
  have hall : (((cut 128 va n).map (fun l => l.1 - va)).map (fun o => e.verdict (.core (a + o) p) (d.whoRun r).ctx false)).find? (· != .pass) =
      none := by
    simpa [List.find?_eq_none] using fun x y h => hpass (x, y) h
  simp only [Dev.rangeWbStep, hpage, hres, Home.tier, hall]

end RangeWb

end Sys2Proof.Machine
end

section
/-! MCAST_LOAD (R19 to R23, R56, R415): its start, the reading of lines, their delivery. -/

namespace Sys2Proof.Machine

open Sys2Proof

/-! ## Lines of cluster SRAM (R56) -/

section Sram
variable (d : Dev)

/-- What was written to a cluster's SRAM reads back. -/
theorem Dev.sramRead_sramWrite_same (k o : Nat) (l : List Byte) : (d.sramWrite k o l).sramRead k o l.length = l := by
  apply List.ext_getElem
  · simp [Dev.sramRead]
  · intro i h1 h2
    have hlen : i < (l.zipIdx.map (fun e => e.1 ^^^ d.sramBlank k (o + e.2))).length := by simpa using h2
    have hblank : (d.sramWrite k o l).sramBlank k (o + i) = d.sramBlank k (o + i) := rfl
    simp only [Dev.sramRead, List.getElem_map, List.getElem_range, hblank]
    simp only [Dev.sramWrite, SMap.get_upd_same, Memory.read_writeN_same hlen]
    simp

/-- Other clusters keep theirs. -/
theorem Dev.sramRead_sramWrite_other {k j : Nat} (h : k ≠ j) (o a n : Nat) (l : List Byte) :
    (d.sramWrite k o l).sramRead j a n = d.sramRead j a n := by
  have hblank : ∀ x, (d.sramWrite k o l).sramBlank j x = d.sramBlank j x := fun _ => rfl
  simp only [Dev.sramRead, hblank]
  simp only [Dev.sramWrite, SMap.get_upd_other _ _ _ h]

/-- SRAM reads the same where its bytes and its losses are the same. -/
theorem Dev.sramRead_congr {d e : Dev} (h : e.ms.sram = d.ms.sram) (hg : e.ms.sramGen = d.ms.sramGen) (k o n : Nat) :
    e.sramRead k o n = d.sramRead k o n := by
  simp only [Dev.sramRead, Dev.sramBlank, h, hg]

/-- R56, R415: a line as it is delivered to one cluster. -/
def Dev.deliverLine (t o : Nat) (l : List Byte) (bad : Bool) (d : Dev) (k : Nat) : Dev :=
  (d.storeLine .engine (.sram t k o) l).markLine (.sram t k o) bad

/-- It is written there, and at most marked. -/
theorem Dev.deliverLine_ms (t k o : Nat) (l : List Byte) (bad : Bool) :
    ∃ p, (d.deliverLine t o l bad k).ms = { (d.sramWrite (84 * t + k) o l).ms with poison := p } := by
  have hstore : ∃ p, (d.storeLine .engine (.sram t k o) l).ms = { (d.sramWrite (84 * t + k) o l).ms with poison := p } := by
    simp only [Dev.storeLine, Dev.storeHome, Home.line]
    split
    · exact ⟨_, rfl⟩
    · exact ⟨_, rfl⟩
  obtain ⟨p, hp⟩ := hstore
  unfold Dev.deliverLine Dev.markLine
  cases bad with
  | false => exact ⟨p, hp⟩
  | true =>
    simp only [Home.line, if_true, Dev.poisonLine]
    rw [hp]
    exact ⟨_, rfl⟩

theorem Dev.deliverLine_mem (t k o : Nat) (l : List Byte) (bad : Bool) : (d.deliverLine t o l bad k).ms.mem = d.ms.mem := by
  obtain ⟨p, hp⟩ := d.deliverLine_ms t k o l bad
  rw [hp]; rfl

theorem Dev.sramRead_deliverLine (t k o : Nat) (l : List Byte) (bad : Bool) (j a n : Nat) :
    (d.deliverLine t o l bad k).sramRead j a n = (d.sramWrite (84 * t + k) o l).sramRead j a n := by
  obtain ⟨p, hp⟩ := d.deliverLine_ms t k o l bad
  exact Dev.sramRead_congr (by rw [hp]) (by rw [hp]) j a n

/-- R56: each of the clusters it is delivered to holds the line. -/
theorem Dev.sramRead_deliverLines (t o : Nat) (l : List Byte) (bad : Bool) {k : Nat} (ks : List Nat)
    (h : k ∈ ks ∨ d.sramRead (84 * t + k) o l.length = l) :
    (ks.foldl (Dev.deliverLine t o l bad) d).sramRead (84 * t + k) o l.length = l := by
  induction ks generalizing d with
  | nil => simpa using h
  | cons j ks ih =>
    obtain rfl | hj := eq_or_ne j k
    · exact ih _ (.inr (by rw [Dev.sramRead_deliverLine, Dev.sramRead_sramWrite_same]))
    · refine ih _ (h.imp (fun hk => (List.mem_cons.mp hk).resolve_left hj.symm) (fun hk => ?_))
      rw [Dev.sramRead_deliverLine, Dev.sramRead_sramWrite_other _ (by omega), hk]

end Sram

/-! ## Ends of runs leave memory -/

theorem Dev.endRun_ms (d : Dev) (r : Nat) : (d.endRun r).ms = d.ms := by
  unfold Dev.endRun
  split
  · rfl
  · split
    · rfl
    · dsimp only
      split <;> rfl

theorem Dev.mcastSettle_ms (d : Dev) (r : Nat) : (d.mcastSettle r).ms = d.ms := by
  unfold Dev.mcastSettle
  split
  · rfl
  · dsimp only
    split
    · rfl
    · refine (Dev.endRun_ms _ r).trans ?_
      split
      · rfl
      · split <;> rfl

/-! ## MCAST_LOAD (R19 to R23, R415) -/

section Mcast
variable {d : Dev} {r : Nat} {v : Run}

/-- R415: the physical cluster mask of Tiller t among the words of the masks. -/
def mcastMask (ws : List Nat) (t : Nat) : Nat := word ws (4 * t) + 2 ^ 32 * word ws (4 * t + 1) + 2 ^ 64 * (word ws (4 * t + 2) % 2 ^ 20)

/-- The words of the masks, in the places of their Tillers, from the bytes read for the Tillers named. -/
def mcastWords (tils : List Nat) (l : List Byte) : List Nat :=
  (List.range 32).map (fun k => match tils.idxOf? (k / 4) with | some j => word (bytesWords l) (4 * j + k % 4) | none => 0)

/-- R19, R415: a MCAST_LOAD whose masks are read fails by them, or takes a group when it names several Tillers, and begins. -/
def Dev.mcastBegin (d : Dev) (r : Nat) (v : Run) (i : Nat) (ws : List Nat) : Dev :=
  match d.mcastMaskBad (v.qid / 256) (mcastTils v.cmd) ws with
  | some (s, n) => d.failAt r i s n
  | none =>
    let g := if (mcastTils v.cmd).length < 2 then none else d.mcastGroup (v.qid / 256) (v.cmd.f 2 31 24)
    let e := match g with | some n => d.setReg (rCrownMcgrp n) (2 ^ 31 + v.qid / 256 * 256 + v.cmd.f 2 31 24) | none => d
    (e.setMcast r (fun _ => { masks := (mcastTils v.cmd).foldl (fun m t => SMap.set m t (mcastMask ws t)) [], group := g })).beginRun r i

theorem Dev.mcastBegin_bad {i n : Nat} {ws : List Nat} {st : Status}
    (hm : d.mcastMaskBad (v.qid / 256) (mcastTils v.cmd) ws = some (st, n)) : d.mcastBegin r v i ws = d.failAt r i st n := by
  simp only [Dev.mcastBegin, hm]

/-- R19: with one Tiller it takes no group. -/
theorem Dev.mcastBegin_one {i t : Nat} {ws : List Nat} (hm : d.mcastMaskBad (v.qid / 256) (mcastTils v.cmd) ws = none)
    (ht : mcastTils v.cmd = [t]) :
    d.mcastBegin r v i ws = (d.setMcast r (fun _ => { masks := [(t, mcastMask ws t)], group := none })).beginRun r i := by
  rw [ht] at hm
  simp [Dev.mcastBegin, ht, hm, SMap.set]

variable (hr : d.run? r = some v) (hop : v.cmd.op = 0x52) (hd : v.done = false) (hf : d.faultHeld (.cmd r) = false)

include hr hop hd hf in
/-- R415 step 1: with a free sequencer and readable masks it begins. -/
theorem Dev.mcastLoad_starts {i : Nat} {l : List Byte} {e : Dev} (hb : v.began = false) (hbad : mcastBad v.cmd = none)
    (hi : ((List.range 16).map (· + 40)).find? (fun i => !d.instBusy 2 i) = some i)
    (hread : d.readPieces { d.whoRun r with inst := i } ((mcastTils v.cmd).flatMap (fun t => cut 128 (v.cmd.dw 8 + 16 * t) 16)) =
      (.ok, l, false, e)) :
    d.mcastLoad r = (e.fabDone (d.whoRun r).waiter).mcastBegin r v i (mcastWords (mcastTils v.cmd) l) := by
  unfold Dev.mcastLoad
  rw [Dev.copyClass_starts hr hop hd hf hb hbad hi]
  simp only [hread, Bool.false_eq_true, if_false]
  rfl

/-- A MCAST_LOAD that is over, or held by a fault, reads no line. -/
theorem Dev.mcastRead_over (hr : d.run? r = some v) (h : v.cmd.op ≠ 0x52 ∨ v.done = true ∨ d.faultHeld (.cmd r) = true) : d.mcastRead r = d := by
  simp only [Dev.mcastRead, hr]
  rw [if_pos]
  obtain h | h | h := h <;> simp [h]

/-- R22: nor does one with a destination whose buffer is full. -/
theorem Dev.mcastRead_full {t : Nat} (hr : d.run? r = some v) (ht : t ∈ d.mcastLive r) (h : 64 ≤ (SMap.get [] (d.mcast r).buf t).length) :
    d.mcastRead r = d := by
  have hfull : (d.mcastLive r).any (fun t => decide (64 ≤ (SMap.get [] (d.mcast r).buf t).length)) = true :=
    List.any_eq_true.mpr ⟨t, ht, by simpa using h⟩
  simp [Dev.mcastRead, hr, hfull]

include hr hop hd hf in
/-- R21: else the next line is read once, into the buffer of every destination. -/
theorem Dev.mcastRead_line {a : Nat} {na : Bool} {e f : Dev} {l : List Byte} (hb : v.began = true) (hlive : d.mcastLive r ≠ [])
    (hroom : ∀ t ∈ d.mcastLive r, (SMap.get [] (d.mcast r).buf t).length < 64) (hab : v.aborting = false) (hpos : v.pos ≠ 1)
    (hleft : v.step * 128 ≠ v.cmd.dw 6) (hres : d.resolve (d.whoRun r) (v.cmd.dw 4 + 128 * v.step) .read = (.ok, .hbm a, na, e))
    (hread : e.readPiece (d.whoRun r) (.hbm a) 128 = (.ok, l, false, f)) :
    d.mcastRead r = (f.setMcast r (fun m => { m with
      buf := (d.mcastLive r).foldl (fun b t => b.upd [] t (· ++ [(128 * v.step, BitVec.ofNat 1024 (ofLe l), false)])) m.buf })).nextStep r := by
  have hfull : (d.mcastLive r).any (fun t => decide (64 ≤ (SMap.get [] (d.mcast r).buf t).length)) = false := by simpa using hroom
  have hsome : (d.mcastLive r).isEmpty = false := by simpa using hlive
  simp [Dev.mcastRead, hr, hop, hd, hf, hb, hfull, hsome, hab, hpos, hleft, hres, hread]

include hr hop hd in
/-- R56: the oldest line for a Tiller is written into every named cluster that is enabled. -/
theorem Dev.mcastDeliver_line {t o : Nat} {data : BitVec 1024} {bad : Bool} {rest : List (Nat × BitVec 1024 × Bool)}
    (ha : d.dieActive (slotTil t) = true) (hbuf : SMap.get [] (d.mcast r).buf t = (o, data, bad) :: rest) :
    d.mcastDeliver r t = ((((List.range 84).filter (fun k => (SMap.get 0 (d.mcast r).masks t).testBit k && d.clsEnabled t k)).foldl
      (Dev.deliverLine t (v.cmd.f 3 20 0 + o) (leBytes 128 data.toNat) bad) d).setMcast r
        (fun m => { m with buf := m.buf.set t rest })).mcastSettle r := by
  have hlive : (v.cmd.op != 0x52 || v.done || !d.dieActive (slotTil t)) = false := by simp [hop, hd, ha]
  simp only [Dev.mcastDeliver, hr, hbuf, hlive, Bool.false_eq_true, if_false]
  rfl

end Mcast

end Sys2Proof.Machine
end

section
/-! The statement about copies, range write-back and multicast loads (R408 to R415). -/

namespace Sys2Proof.Machine

open Sys2Proof

section Commands
variable {s : State} {r : Nat}

theorem exec_copy : exec (.copy r) s = .next (leaves s (s.dev.copy r)) := rfl
theorem exec_copyDescriptor : exec (.copyDescriptor r) s = .next (leaves s (s.dev.copyDescriptor r)) := rfl
theorem exec_rangeWb : exec (.rangeWb r) s = .next (leaves s (s.dev.rangeWb r)) := rfl
theorem exec_mcastLoad : exec (.mcastLoad r) s = .next (leaves s (s.dev.mcastLoad r)) := rfl
theorem exec_mcastLineRead : exec (.mcastLineRead r) s = .next (leaves s (s.dev.mcastRead r)) := rfl

theorem leaves_self (s : State) : leaves s s.dev = s := rfl

/-- R56: a delivery changes no byte of memory, and puts the line into every named cluster that is enabled. -/
theorem exec_mcastLineDeliver {v : Run} {t o : Nat} {data : BitVec 1024} {bad : Bool} {rest : List (Nat × BitVec 1024 × Bool)}
    (hr : s.dev.run? r = some v) (hop : v.cmd.op = 0x52) (hd : v.done = false) (ht : t < 8)
    (ha : s.dev.dieActive (slotTil t) = true) (hbuf : SMap.get [] (s.dev.mcast r).buf t = (o, data, bad) :: rest) :
    ∃ u, exec (.mcastLineDeliver r t) s = .next u ∧ KeepsMemory s u (fun _ => False) ∧
      ∀ k, k < 84 → (SMap.get 0 (s.dev.mcast r).masks t).testBit k = true → s.dev.clsEnabled t k = true →
        u.dev.sramRead (84 * t + k) (v.cmd.f 3 20 0 + o) 128 = leBytes 128 data.toNat := by
  have hwf : (Instr.mcastLineDeliver r t).wf = true := by simpa [Instr.wf] using ht
  have hlen : (leBytes 128 data.toNat).length = 128 := by simp [leBytes]
  refine ⟨_, exec_next s hwf, ?_, fun k hk hm hen => ?_⟩
  · intro a _
    simp only [does, Dev.mcastDeliver_line hr hop hd ha hbuf, Dev.mcastSettle_ms]
    exact congrArg (fun m : Memory => m.read a) (foldl_keeps (g := fun d : Dev => d.ms.mem) (fun d k => d.deliverLine_mem _ _ _ _ _) _ s.dev)
  · have hin : k ∈ (List.range 84).filter (fun k => (SMap.get 0 (s.dev.mcast r).masks t).testBit k && s.dev.clsEnabled t k) := by
      simp [hk, hm, hen]
    have hput := s.dev.sramRead_deliverLines t (v.cmd.f 3 20 0 + o) (leBytes 128 data.toNat) bad _ (.inl hin)
    rw [hlen] at hput
    simp only [does, Dev.mcastDeliver_line hr hop hd ha hbuf]
    exact (Dev.sramRead_congr (by rw [Dev.mcastSettle_ms]; rfl) (by rw [Dev.mcastSettle_ms]; rfl) _ _ _).trans hput

end Commands

end Sys2Proof.Machine

namespace Sys2Proof

open Sys2Proof.Machine

/-- Settles O52: each command by the invocation it is at; deliveries by the clusters named. -/
theorem copyAndMulticast : Obligations.CopyAndMulticast := by
  unfold Obligations.CopyAndMulticast
  refine ⟨fun s r v hr => ?_, fun x r c i hl _ hp hrow hc hi => Desc.dstBit_rowMajor hl hp hrow hc hi,
    fun x ps pad o hl => Desc.dstByte_linear hl ps pad o⟩
  dsimp only
  simp only [List.forall_mem_cons]
  refine ⟨⟨fun h => ?_, fun h => ?_, fun h => ?_, fun h => ?_, fun h => ?_, fun _ h => absurd h List.not_mem_nil⟩,
    ⟨fun hop hd hf hb => ⟨fun st i hbad => ?_, fun hbad hbusy => ?_⟩, fun hop hd hf hb => ⟨fun st i hbad => ?_, fun hbad hbusy => ?_⟩,
      fun hop hd hf hb => ⟨fun st i hbad => ?_, fun hbad hbusy => ?_⟩, fun _ h => absurd h List.not_mem_nil⟩,
    fun hop hd hf => ⟨fun i hb hbad hi => ⟨?_, copyInsts_lt (List.mem_of_find?_eq_some hi)⟩, fun hb => ?_, fun hb => ?_,
      fun l e hb hs hread => ⟨fun st i hbad => ?_, fun ps f g hbad hsrc hmix hgood hdst => ?_⟩⟩,
    fun hop hd hf => ⟨fun i hb hbad hi => ⟨fun hn => ?_, fun hn => ?_⟩, fun va n e a p na hb hpage hres hpass => ?_⟩,
    fun hop hd hf => ⟨fun i l e hb hbad hi hread => ⟨fun st n hm => ?_, fun hm t ht => ?_⟩,
      fun a na e l f hb hlive hroom hab hpos hleft hres hread => ?_, fun t hb ht h => ?_,
      fun t o data bad rest ht ha hbuf => exec_mcastLineDeliver hr hop hd ht ha hbuf⟩⟩
  · rw [exec_copy, Dev.copy, Dev.copyClass_over hr h, leaves_self]
  · rw [exec_copyDescriptor, Dev.copyDescriptor_over hr (h.imp_right (.imp_right .inl)), leaves_self]
  · rw [exec_rangeWb, Dev.rangeWb, Dev.copyClass_over hr h, leaves_self]
  · rw [exec_mcastLoad, Dev.mcastLoad, Dev.copyClass_over hr h, leaves_self]
  · rw [exec_mcastLineRead, Dev.mcastRead_over hr h, leaves_self]
  · rw [exec_copy, Dev.copy, Dev.copyClass_bad hr hop hd hf hb hbad]
  · rw [exec_copy, Dev.copy, Dev.copyClass_waits hr hop hd hf hb hbad hbusy, leaves_self]
  · rw [exec_rangeWb, Dev.rangeWb, Dev.copyClass_bad hr hop hd hf hb hbad, copyInsts_movers]
  · rw [exec_rangeWb, Dev.rangeWb, Dev.copyClass_waits hr hop hd hf hb hbad hbusy, leaves_self]
  · rw [exec_mcastLoad, Dev.mcastLoad, Dev.copyClass_bad hr hop hd hf hb hbad]
  · rw [exec_mcastLoad, Dev.mcastLoad, Dev.copyClass_waits hr hop hd hf hb hbad hbusy, leaves_self]
  · rw [exec_copy, Dev.copy, Dev.copyClass_starts hr hop hd hf hb hbad hi]; rfl
  · rw [exec_copy, Dev.copy, Dev.copyClass_begun hr hop hd hf hb, leaves_self]
  · rw [exec_copyDescriptor, Dev.copyDescriptor_over hr (by simp [hb]), leaves_self]
  · rw [exec_copyDescriptor, Dev.copyDescriptor_bad hr hop hd hf hb hs hread hbad]
  · rw [exec_copyDescriptor, Dev.copyDescriptor_done hr hop hd hf hb hs hread hbad hsrc hmix hgood hdst]
  · rw [exec_rangeWb, Dev.rangeWb, Dev.copyClass_starts hr hop hd hf hb hbad hi, if_neg (Nat.ne_of_gt hn)]
  · rw [exec_rangeWb, Dev.rangeWb, Dev.copyClass_starts hr hop hd hf hb hbad hi, if_pos hn]
  · rw [exec_rangeWb, Dev.rangeWb, Dev.copyClass_begun hr hop hd hf hb, Dev.rangeWbStep_core hpage hres hpass]
  · rw [exec_mcastLoad, Dev.mcastLoad_starts hr hop hd hf hb hbad hi hread, Dev.mcastBegin_bad (by exact hm)]
  · rw [exec_mcastLoad, Dev.mcastLoad_starts hr hop hd hf hb hbad hi hread, Dev.mcastBegin_one (by exact hm) ht]; rfl
  · rw [exec_mcastLineRead, Dev.mcastRead_line hr hop hd hf hb hlive hroom hab hpos hleft hres hread]
  · rw [exec_mcastLineRead, Dev.mcastRead_full hr ht h, leaves_self]

end Sys2Proof
end

section
/-! Accumulators as sums (R64, R68, R71, R72): what a block adds, in which order, and what two records make together. -/

namespace Sys2Proof.Machine

open Sys2Proof

/-! ## Tags and values -/

@[simp] theorem Tag.comb_none (t : Tag) : t.comb .none = t := by cases t <;> rfl
@[simp] theorem Tag.nan_comb (t : Tag) : Tag.nan.comb t = .nan := by cases t <;> rfl
@[simp] theorem Tag.comb_nan (t : Tag) : t.comb .nan = .nan := by cases t <;> rfl

theorem Tag.comb_comm (t u : Tag) : t.comb u = u.comb t := by
  cases t <;> cases u <;> rfl

/-- R68: NaN absorbs, NONE is neutral, and two infinities agree or make NaN. -/
theorem Tag.comb_assoc (t u v : Tag) : (t.comb u).comb v = t.comb (u.comb v) := by
  cases t <;> cases u <;> cases v <;> rfl

theorem coe_ofSigned (n : Nat) (x : Int) : ((ofSigned n x : Nat) : Int) = x % 2 ^ n := by
  have h : (0 : Int) < 2 ^ n := by positivity
  simp [ofSigned, Int.toNat_of_nonneg (Int.emod_nonneg x h.ne')]

theorem ofSigned_lt (n : Nat) (x : Int) : ofSigned n x < 2 ^ n := by
  have h : (0 : Int) < 2 ^ n := by positivity
  have := coe_ofSigned n x
  have := Int.emod_lt_of_pos x h
  zify; omega

theorem coe_valAdd (f16 : Bool) (v : Nat) (d : Int) : ((valAdd f16 v d : Nat) : Int) = (v + d) % 2 ^ accWidth f16 :=
  coe_ofSigned _ _

theorem valAdd_lt (f16 : Bool) (v : Nat) (d : Int) : valAdd f16 v d < 2 ^ accWidth f16 := ofSigned_lt _ _

/-- R64: the integers that are added wrap to one value in either order. -/
theorem valAdd_comm (f16 : Bool) (v : Nat) (d e : Int) : valAdd f16 (valAdd f16 v d) e = valAdd f16 (valAdd f16 v e) d := by
  zify
  simp only [coe_valAdd, Int.emod_add_emod, add_right_comm]

/-- R71: what is added to one of two values is added to their sum. -/
theorem add_valAdd_mod (f16 : Bool) (u v : Nat) (d : Int) :
    (u + valAdd f16 v d) % 2 ^ accWidth f16 = valAdd f16 ((u + v) % 2 ^ accWidth f16) d := by
  zify
  simp only [coe_valAdd, Int.add_emod_emod]
  push_cast
  rw [Int.emod_add_emod, add_assoc]

/-! ## What a block adds -/

/-- R64: the integer a block adds on the grid and whether it loses bits; none under a NaN scale. -/
def blockTerm (lx lw anchor : Int) (p : Scale × Scale × BlockSum) : Option (Int × Bool) :=
  match p with
  | (.pow x, .pow w, b) => some (gridPlace anchor b.s (lx + lw + x + w))
  | (.int x, .int w, b) => some (gridPlace anchor (b.s * (x * w : Nat)) (lx + lw - 18))
  | _ => none

/-- R64, R68: an accumulator after a term and its tag are added; without a term, after a NaN. -/
def AccV.addTerm (f16 : Bool) (t : Option (Int × Bool)) (tag : Tag) (a : AccV) : AccV :=
  match t with
  | some g => { info := { a.info with loss := a.info.loss || g.2, tag := a.info.tag.comb tag }, val := valAdd f16 a.val g.1 }
  | none => { a with info := { a.info with tag := .nan } }

theorem accBlock_eq_addTerm (f16 : Bool) (lx lw anchor : Int) (p : Scale × Scale × BlockSum) (a : AccV) :
    accBlock f16 lx lw p.1 p.2.1 p.2.2 anchor a = a.addTerm f16 (blockTerm lx lw anchor p) p.2.2.tag := by
  obtain ⟨x, w, b⟩ := p
  cases x <;> cases w <;> rfl

/-- Two terms are added in either order. -/
theorem AccV.addTerm_comm (f16 : Bool) (t u : Option (Int × Bool)) (x y : Tag) (a : AccV) :
    (a.addTerm f16 t x).addTerm f16 u y = (a.addTerm f16 u y).addTerm f16 t x := by
  cases t with
  | none => cases u <;> simp [addTerm]
  | some g => cases u with
    | none => simp [addTerm]
    | some h => simp [addTerm, valAdd_comm f16 a.val g.1, Bool.or_right_comm, Tag.comb_assoc, Tag.comb_comm x]

/-! ## Two and three records -/

/-- R71: whether two records differ in anchor, pair or scale mode. -/
def Acc.clashes (a b : Acc) : Bool := !decide (a.anchor = b.anchor ∧ a.pair = b.pair ∧ a.smode = b.smode)

/-- The tag that combining gives beside the tags of the two records. -/
def clashTag (k : Bool) : Tag := if k then .nan else .none

@[simp] theorem clashTag_true : clashTag true = .nan := rfl
@[simp] theorem clashTag_false : clashTag false = .none := rfl

theorem recCombine_eq (a b : AccV) :
    recCombine a b = { val := (a.val + b.val) % 2 ^ accWidth a.info.f16, info := { a.info with
      loss := a.info.loss || b.info.loss
      mismatch := a.info.mismatch || b.info.mismatch || a.info.clashes b.info
      tag := (a.info.tag.comb b.info.tag).comb (clashTag (a.info.clashes b.info)) } } := by
  unfold recCombine Acc.clashes
  cases decide (a.info.anchor = b.info.anchor ∧ a.info.pair = b.info.pair ∧ a.info.smode = b.info.smode) <;> simp

theorem Acc.clashes_comm (a b : Acc) : a.clashes b = b.clashes a := by
  simp only [clashes, eq_comm]

theorem Acc.clashes_trans {a b : Acc} (h : a.clashes b = false) (c : Acc) : b.clashes c = a.clashes c := by
  simp only [clashes, Bool.not_eq_false', decide_eq_true_eq] at h
  simp only [clashes, h]

/-- R71: combining three records of one width: where the first two agree, the third differs from both or from none. -/
theorem recCombine_assoc {a b : AccV} (hab : a.info.f16 = b.info.f16) (c : AccV) :
    recCombine (recCombine a b) c = recCombine a (recCombine b c) := by
  have hval : ((a.val + b.val) % 2 ^ accWidth a.info.f16 + c.val) % 2 ^ accWidth a.info.f16
      = (a.val + (b.val + c.val) % 2 ^ accWidth b.info.f16) % 2 ^ accWidth a.info.f16 := by
    rw [← hab, Nat.mod_add_mod, Nat.add_mod_mod, add_assoc]
  have hl : (recCombine a b).info.clashes c.info = a.info.clashes c.info := rfl
  have hr : a.info.clashes (recCombine b c).info = a.info.clashes b.info := rfl
  rw [recCombine_eq (recCombine a b), recCombine_eq a (recCombine b c), hl, hr, recCombine_eq a b, recCombine_eq b c]
  cases h : a.info.clashes b.info with
  | true => simp [hval, Bool.or_assoc]
  | false => simp [hval, Acc.clashes_trans h, Bool.or_assoc, Tag.comb_assoc]

/-- R71: the order of two records changes only whose anchor, pair and scale mode stay. -/
theorem recCombine_comm {a b : AccV} (hab : a.info.f16 = b.info.f16) :
    (recCombine a b).val = (recCombine b a).val ∧ (recCombine a b).info.tag = (recCombine b a).info.tag ∧
      (recCombine a b).info.loss = (recCombine b a).info.loss ∧ (recCombine a b).info.mismatch = (recCombine b a).info.mismatch := by
  simp only [recCombine_eq, hab, a.info.clashes_comm, Tag.comb_comm a.info.tag, Bool.or_comm a.info.loss, Bool.or_comm a.info.mismatch,
    add_comm a.val, and_self]

/-- R71: a term added to the second of two records is added to what they make together. -/
theorem recCombine_addTerm {x : AccV} (y : AccV) (t : Option (Int × Bool)) (tag : Tag) :
    recCombine x (y.addTerm x.info.f16 t tag) = (recCombine x y).addTerm x.info.f16 t tag := by
  have hk : x.info.clashes (y.addTerm x.info.f16 t tag).info = x.info.clashes y.info := by cases t <;> rfl
  rw [recCombine_eq, recCombine_eq, hk]
  cases t with
  | none => simp [AccV.addTerm]
  | some g => simp [AccV.addTerm, add_valAdd_mod, Bool.or_assoc, Tag.comb_assoc, Tag.comb_comm tag]

/-! ## A list of blocks -/

/-- R64: an accumulator after the blocks of a list, in its order. -/
def addBlocks (f16 : Bool) (lx lw anchor : Int) (l : List (Scale × Scale × BlockSum)) (a : AccV) : AccV :=
  l.foldl (fun a p => accBlock f16 lx lw p.1 p.2.1 p.2.2 anchor a) a

section Blocks
variable {f16 : Bool} {lx lw anchor : Int} {l l' : List (Scale × Scale × BlockSum)} {a x y : AccV}

theorem addBlocks_append : addBlocks f16 lx lw anchor (l ++ l') a = addBlocks f16 lx lw anchor l' (addBlocks f16 lx lw anchor l a) :=
  List.foldl_append

/-- R72: the order of the blocks does not matter. -/
theorem addBlocks_perm (h : l.Perm l') : addBlocks f16 lx lw anchor l a = addBlocks f16 lx lw anchor l' a := by
  refine h.foldl_eq' (fun p _ q _ a => ?_) a
  simp only [accBlock_eq_addTerm]
  exact AccV.addTerm_comm ..

/-- R71, R72: blocks added to the second of two records are added to what they make together. -/
theorem recCombine_addBlocks (hx : x.info.f16 = f16) :
    recCombine x (addBlocks f16 lx lw anchor l y) = addBlocks f16 lx lw anchor l (recCombine x y) := by
  subst hx
  induction l generalizing y with
  | nil => rfl
  | cons p l ih =>
    simp only [addBlocks, List.foldl_cons, accBlock_eq_addTerm, ← recCombine_addTerm] at ih ⊢
    exact ih

/-- The record of an accumulator whose pass has this mode, pair, scale mode and anchor, its value within the width. -/
def AccV.Has (f16 : Bool) (pair smode : Nat) (anchor : Int) (a : AccV) : Prop :=
  a.val < 2 ^ accWidth f16 ∧ a.info.f16 = f16 ∧ a.info.pair = pair ∧ a.info.smode = smode ∧ a.info.anchor = anchor

theorem accStart_has (f16 : Bool) (pair smode : Nat) (anchor : Int) (a : AccV) :
    (accStart true f16 pair smode anchor a).Has f16 pair smode anchor :=
  ⟨Nat.two_pow_pos _, rfl, rfl, rfl, rfl⟩

theorem AccV.Has.addTerm {pair smode : Nat} (h : a.Has f16 pair smode anchor) (t : Option (Int × Bool)) (tag : Tag) :
    (a.addTerm f16 t tag).Has f16 pair smode anchor := by
  cases t with
  | none => exact h
  | some g => exact ⟨valAdd_lt .., h.2⟩

theorem AccV.Has.addBlocks {pair smode : Nat} (h : a.Has f16 pair smode anchor) :
    (addBlocks f16 lx lw anchor l a).Has f16 pair smode anchor := by
  induction l generalizing a with
  | nil => exact h
  | cons p l ih =>
    refine ih (a := accBlock f16 lx lw p.1 p.2.1 p.2.2 anchor a) ?_
    rw [accBlock_eq_addTerm]
    exact h.addTerm ..

/-- R71: a record that starts afresh adds nothing to one of its pass. -/
theorem recCombine_accStart {pair smode : Nat} (h : x.Has f16 pair smode anchor) (a : AccV) :
    recCombine x (accStart true f16 pair smode anchor a) = x := by
  obtain ⟨hv, rfl, rfl, rfl, rfl⟩ := h
  simp [recCombine, accStart, Nat.mod_eq_of_lt hv]

end Blocks

end Sys2Proof.Machine

namespace Sys2Proof

open Sys2Proof.Machine

theorem sameAcc_of_eq {a b : AccV} (h : a = b) : SameAcc a b := by
  subst h
  exact ⟨rfl, rfl, rfl, rfl, rfl, rfl, rfl, rfl⟩

/-- Settles O31: a block adds a term, terms are added in any order, and one added to the second of two records is added to their
combination; so the second list goes on from what the first list left. -/
theorem splitsDoNotMatter : Obligations.SplitsDoNotMatter := by
  unfold Obligations.SplitsDoNotMatter
  refine ⟨fun f16 lx lw anchor l l' a h => addBlocks_perm h, fun a b c hab _ => ?_, fun a b hab => recCombine_comm hab,
    fun f16 pair smode anchor lx lw l l' a => ?_⟩
  · exact sameAcc_of_eq (recCombine_assoc hab c)
  · have hz := accStart_has f16 pair smode anchor a
    have hx : (addBlocks f16 lx lw anchor l (accStart true f16 pair smode anchor a)).Has f16 pair smode anchor := hz.addBlocks
    have hsplit := recCombine_addBlocks (lx := lx) (lw := lw) (anchor := anchor) (l := l')
      (y := accStart true f16 pair smode anchor a) hx.2.1
    rw [recCombine_accStart hx, ← addBlocks_append] at hsplit
    exact sameAcc_of_eq hsplit

end Sys2Proof
end

section
/-! The record of an accumulator (R70, R118), blocks on the anchor (R64) and how a pass starts on an accumulator (R66). -/

namespace Sys2Proof.Machine

open Sys2Proof

/-! ## The field word -/

theorem Tag.code_lt (t : Tag) : t.code < 4 := by cases t <;> decide

theorem Tag.ofCode_code (t : Tag) : Tag.ofCode t.code = t := by cases t <;> rfl

/-- A signed value within its width is read back. -/
theorem toSigned_ofSigned {n : Nat} {x : Int} (hl : -2 ^ n ≤ x) (hh : x < 2 ^ n) : toSigned (n + 1) (ofSigned (n + 1) x) = x := by
  have hp : (2 : Int) ^ (n + 1) = 2 * 2 ^ n := by ring
  have hm : ofSigned (n + 1) x % 2 ^ (n + 1) = ofSigned (n + 1) x := Nat.mod_eq_of_lt (ofSigned_lt ..)
  have hc := coe_ofSigned (n + 1) x
  have hlt : ofSigned (n + 1) x < 2 ^ n ↔ ((ofSigned (n + 1) x : Nat) : Int) < 2 ^ n := by norm_cast
  unfold toSigned
  simp only [hm, Nat.add_sub_cancel, hlt, hc]
  push_cast
  rcases lt_or_ge x 0 with h | h
  · have he : x % 2 ^ (n + 1) = x + 2 ^ (n + 1) := by
      rw [← Int.add_emod_right, Int.emod_eq_of_lt (by omega) (by omega)]
    rw [he, if_neg (by omega)]; omega
  · rw [Int.emod_eq_of_lt h (by omega), if_pos hh]

theorem testBit_eq_of_div_mod {w i : Nat} {b : Bool} (h : w / 2 ^ i % 2 = b.toNat) : w.testBit i = b := by
  rw [Nat.testBit_eq_decide_div_mod_eq, h]
  cases b <;> rfl

/-- R70: the field word as a sum of its fields. -/
theorem recWord_eq (a : Acc) : recWord a = ofSigned 10 a.anchor * 65536 + a.pair % 256 * 256 + a.smode % 4 * 64
    + 32 * a.f16.toNat + 16 * a.mismatch.toNat + 8 * a.loss.toNat + a.tag.code := by
  unfold recWord
  cases a.f16 <;> cases a.mismatch <;> cases a.loss <;> rfl

/-- R70: the fields of a record stand where the rule says. -/
theorem recWord_fields (a : Acc) :
    recWord a < 2 ^ 26 ∧ recWord a % 4 = a.tag.code ∧ (recWord a).testBit 2 = false ∧ (recWord a).testBit 3 = a.loss ∧
      (recWord a).testBit 4 = a.mismatch ∧ (recWord a).testBit 5 = a.f16 ∧ recWord a / 2 ^ 6 % 4 = a.smode % 4 ∧
      recWord a / 2 ^ 8 % 256 = a.pair % 256 ∧ recWord a / 2 ^ 16 = ofSigned 10 a.anchor := by
  have ht := a.tag.code_lt
  have ha := ofSigned_lt 10 a.anchor
  have hf := a.f16.toNat_le
  have hm := a.mismatch.toNat_le
  have hl := a.loss.toNat_le
  have hw := recWord_eq a
  refine ⟨by omega, by omega, testBit_eq_of_div_mod ?_, testBit_eq_of_div_mod ?_, testBit_eq_of_div_mod ?_, testBit_eq_of_div_mod ?_,
    by omega, by omega, by omega⟩
  · simp only [Bool.toNat_false]; omega
  · omega
  · omega
  · omega

/-! ## The record -/

theorem recBits_eq (a : AccV) :
    recBits a = a.val % 2 ^ accWidth a.info.f16 + recWord a.info * 2 ^ accWidth a.info.f16 := by
  unfold recBits
  cases a.info.f16 <;> rfl

/-- R70: VAL stands in the low bits of a record, the field word above it. -/
theorem recBits_parts (a : AccV) :
    recBits a % 2 ^ accWidth a.info.f16 = a.val % 2 ^ accWidth a.info.f16 ∧ recBits a / 2 ^ accWidth a.info.f16 = recWord a.info := by
  rw [recBits_eq]
  have hp := Nat.two_pow_pos (accWidth a.info.f16)
  exact ⟨by rw [Nat.add_mul_mod_self_right, Nat.mod_mod],
    by rw [Nat.add_mul_div_right _ _ hp, Nat.div_eq_of_lt (Nat.mod_lt _ hp), Nat.zero_add]⟩

/-- The 32 bits above VAL. -/
def fieldWord (f16 : Bool) (x : Nat) : Nat := x / 2 ^ accWidth f16 % 2 ^ 32

theorem testBit_fieldWord {i : Nat} (f16 : Bool) (x : Nat) (hi : i < 32) :
    (fieldWord f16 x).testBit i = (x / 2 ^ accWidth f16).testBit i := by
  rw [fieldWord, Nat.testBit_mod_two_pow, decide_eq_true hi, Bool.true_and]

theorem fieldWord_recBits (a : AccV) : fieldWord a.info.f16 (recBits a) = recWord a.info := by
  have hw := (recWord_fields a.info).1
  rw [fieldWord, (recBits_parts a).2, Nat.mod_eq_of_lt (by omega)]

/-- R118: what a record loads, by its field word. -/
theorem recLoad_eq (f16 : Bool) (x : Nat) :
    recLoad f16 x =
      { val := x % 2 ^ accWidth f16
        info := { anchor := toSigned 10 (fieldWord f16 x / 2 ^ 16 % 2 ^ 10), pair := fieldWord f16 x / 2 ^ 8 % 2 ^ 8,
                  smode := fieldWord f16 x / 2 ^ 6 % 2 ^ 2, f16 := f16, loss := (fieldWord f16 x).testBit 3
                  mismatch := (fieldWord f16 x).testBit 4 || (fieldWord f16 x).testBit 5 != f16
                  tag := if (fieldWord f16 x).testBit 5 != f16 then .nan else Tag.ofCode (fieldWord f16 x % 4) } } := by
  have hw : (if f16 then bitsOf x 223 192 else bitsOf x 127 96) = fieldWord f16 x := by
    cases f16 <;> simp [bitsOf, fieldWord, accWidth, Nat.shiftRight_eq_div_pow]
  unfold recLoad
  simp only [hw]
  cases f16 <;> simp [bitsOf, accWidth, Nat.shiftRight_eq_div_pow]

/-- R118, R522: a record of the other layout. -/
theorem recLoad_otherMode {f16 : Bool} {x : Nat} (h : (x / 2 ^ accWidth f16).testBit 5 ≠ f16) :
    (recLoad f16 x).info.mismatch = true ∧ (recLoad f16 x).info.tag = .nan ∧ (recLoad f16 x).val = x % 2 ^ accWidth f16 := by
  have hb : ((fieldWord f16 x).testBit 5 != f16) = true := by simpa [testBit_fieldWord] using h
  simp [recLoad_eq, hb]

/-- R70, R118: loading the record of an accumulator gives it back. -/
theorem recLoad_recBits {a : AccV} (hv : a.val < 2 ^ accWidth a.info.f16) (hl : -512 ≤ a.info.anchor) (hh : a.info.anchor < 512)
    (hp : a.info.pair < 256) (hs : a.info.smode < 4) : SameAcc (recLoad a.info.f16 (recBits a)) a := by
  obtain ⟨-, htag, -, hloss, hmis, hf16, hsm, hpair, hanc⟩ := recWord_fields a.info
  have hval := (recBits_parts a).1
  rw [recLoad_eq, fieldWord_recBits]
  refine ⟨?_, ?_, hloss, ?_, ?_, ?_, ?_, rfl⟩
  · rw [hval, Nat.mod_eq_of_lt hv]
  · simp [hf16, htag, Tag.ofCode_code]
  · simp [hf16, hmis]
  · dsimp only
    rw [hanc, Nat.mod_eq_of_lt (ofSigned_lt ..), toSigned_ofSigned hl hh]
  · exact hpair.trans (Nat.mod_eq_of_lt hp)
  · exact hsm.trans (Nat.mod_eq_of_lt hs)

/-! ## Contributions -/

/-- R64: a contribution at or above the anchor is a multiple of the grid, so that nothing is lost. -/
theorem gridPlace_of_le {anchor e : Int} (s : Int) (h : anchor ≤ e) : gridPlace anchor s e = (s * 2 ^ (e - anchor).toNat, false) := by
  simp [gridPlace, h]

/-- R66: a pass without ZERO on an accumulator of another anchor, pair, scale mode or mode. -/
theorem accStart_mismatch {f16 : Bool} {pair smode : Nat} {anchor : Int} {a : AccV}
    (h : ¬ (a.info.anchor = anchor ∧ a.info.pair = pair ∧ a.info.smode = smode ∧ a.info.f16 = f16)) :
    accStart false f16 pair smode anchor a = { a with info := { a.info with mismatch := true, tag := .nan } } := by
  simp only [accStart, Bool.false_eq_true, if_false, if_neg h]

end Sys2Proof.Machine

namespace Sys2Proof

open Sys2Proof.Machine

/-- Settles O30, by the fields of the record's word; a block on the grid is a product by a power of two. -/
theorem accumulatorRecords : Obligations.AccumulatorRecords := by
  unfold Obligations.AccumulatorRecords
  refine ⟨fun a hv hl hh hp hs => ⟨recLoad_recBits hv hl hh hp hs, ?_⟩, fun f16 x h => recLoad_otherMode h,
    fun f16 lx lw p q anchor b a h => ?_, fun f16 pair smode anchor a => ⟨?_, fun h => ?_⟩⟩
  · obtain ⟨hval, hw⟩ := recBits_parts a
    obtain ⟨hlt, htag, h2, hloss, hmis, hf16, hsm, hpair, hanc⟩ := recWord_fields a.info
    simp only [hval, hw]
    exact ⟨Nat.mod_eq_of_lt hv, hlt, htag, h2, hloss, hmis, hf16, hsm.trans (Nat.mod_eq_of_lt hs), hpair.trans (Nat.mod_eq_of_lt hp),
      hanc ▸ toSigned_ofSigned hl hh⟩
  · simp [accBlock, gridPlace_of_le b.s h, coe_valAdd]
  · exact ⟨rfl, rfl, rfl, rfl, rfl, rfl, rfl, rfl⟩
  · rw [accStart_mismatch (by tauto)]
    exact ⟨rfl, rfl, rfl⟩

end Sys2Proof
end

section
/-! The causes row instructions stop with at issue (R43, R44, R48, R60, R111 to R113, R116). -/

namespace Sys2Proof.Machine

open Sys2Proof

@[simp] theorem firstCause_nil : firstCause [] = none := rfl

@[simp] theorem firstCause_cons (b : Bool) (n : Nat) (l : List (Bool × Nat)) :
    firstCause ((b, n) :: l) = if b then some n else firstCause l := by
  cases b <;> rfl

/-! ## Passes -/

/-- R43: both codes of an 8-bit or narrow float format, or one code twice. -/
theorem pairLegal_iff (x w : Nat) : pairLegal x w = true ↔ (x ≤ 3 ∧ w ≤ 3) ∨ (x = w ∧ 4 ≤ x ∧ x ≤ 8) := by
  simp only [pairLegal, Bool.or_eq_true, Bool.and_eq_true, decide_eq_true_eq]
  omega

/-- R43, R60, R112: the pair, the scale mode for both formats and the KIND may be used together. -/
def PassArgs.Legal (p : PassArgs) : Prop :=
  pairLegal (p.pair / 16) (p.pair % 16) = true ∧ smodeLegal p.smode (p.pair / 16) = true ∧ smodeLegal p.smode (p.pair % 16) = true ∧
    kindPairOk p.kind p.pair p.smode = true

theorem kindAccCount_eq (kind b : Nat) : kindAccCount kind b = if kind = 1 then 2 * b else if kind = 2 then 3 * b else b := by
  match kind with
  | 0 => rfl
  | 1 => rfl
  | 2 => rfl
  | n + 3 => simp [kindAccCount]

theorem bankBad_iff (d : Option FillDesc) (pair smode kind : Nat) :
    bankBad d pair smode kind = true ↔ d ≠ some ⟨classOf (pair % 16), smode, kind⟩ := by
  cases d with
  | none => simp [bankBad]
  | some d => cases d; simp [bankBad, imp_iff_not_or]

/-- The bank a pass uses, as issue knows it (R48). -/
def Row.issBank (y : Row) (p : PassArgs) : Option FillDesc := if p.reuse then y.issActive else y.issFill

/-- R111: the operands or the scales of a pass have no place. -/
def PassArgs.placeBad (p : PassArgs) : Bool :=
  operandBad (classOf (p.pair / 16)) p.tr p.addr p.b 16 || scaleBad p.smode (classOf (p.pair / 16)) p.scaleAddr (p.addr % 1024 / 8) p.b

section Pass
variable {y : Row} {p : PassArgs}

theorem mpassCause_illegal (h : ¬ p.Legal) : mpassCause y p = some 0x10 := by
  have hb : (!(pairLegal (p.pair / 16) (p.pair % 16)) || !(smodeLegal p.smode (p.pair / 16)) ||
      !(smodeLegal p.smode (p.pair % 16)) || !(kindPairOk p.kind p.pair p.smode)) = true := by
    simpa [PassArgs.Legal, imp_iff_not_or, or_assoc] using h
  rw [mpassCause, firstCause_cons, if_pos hb]

/-- What is left to check of a legal pass. -/
theorem mpassCause_legal (h : p.Legal) :
    mpassCause y p = if accLimit p.pair < p.abase + kindAccCount p.kind p.b then some 0x11 else
      if p.reuse = false ∧ y.issFill = none then some 0x12 else
      if y.issBank p ≠ some ⟨classOf (p.pair % 16), p.smode, p.kind⟩ then some 0x13 else
      if p.placeBad then some 0x14 else none := by
  obtain ⟨hpair, hx, hw, hkind⟩ := h
  simp only [mpassCause, hpair, hx, hw, hkind, firstCause_cons, firstCause_nil, ← bankBad_iff, Row.issBank, PassArgs.placeBad]
  simp

theorem mpassCause_room (h : p.Legal) (hr : accLimit p.pair < p.abase + kindAccCount p.kind p.b) : mpassCause y p = some 0x11 := by
  rw [mpassCause_legal h, if_pos hr]

variable (hr : p.abase + kindAccCount p.kind p.b ≤ accLimit p.pair)
include hr

theorem mpassCause_noFill (h : p.Legal) (hu : p.reuse = false) (hf : y.issFill = none) : mpassCause y p = some 0x12 := by
  rw [mpassCause_legal h, if_neg (by omega), if_pos ⟨hu, hf⟩]

theorem mpassCause_otherBank (h : p.Legal) (hf : p.reuse = true ∨ y.issFill ≠ none)
    (hb : y.issBank p ≠ some ⟨classOf (p.pair % 16), p.smode, p.kind⟩) : mpassCause y p = some 0x13 := by
  have hu : ¬ (p.reuse = false ∧ y.issFill = none) := by
    rintro ⟨hn, ho⟩
    exact hf.elim (by simp [hn]) (· ho)
  rw [mpassCause_legal h, if_neg (by omega), if_neg hu, if_pos hb]

/-- With its bank in place a pass has only its operands left to check. -/
theorem mpassCause_bank (h : p.Legal) (hb : y.issBank p = some ⟨classOf (p.pair % 16), p.smode, p.kind⟩) :
    mpassCause y p = if p.placeBad then some 0x14 else none := by
  have hu : ¬ (p.reuse = false ∧ y.issFill = none) := by
    rintro ⟨hn, ho⟩
    simp [Row.issBank, hn, ho] at hb
  rw [mpassCause_legal h, if_neg (by omega), if_neg hu, if_neg (not_not.mpr hb)]

end Pass

/-- R111: the operands of a pass that have no place. -/
theorem PassArgs.placeBad_of {p : PassArgs}
    (h : p.addr % 8 ≠ 0 ∨ 128 < p.addr % 1024 / 8 + p.b ∨ (p.tr = true ∧ classOf (p.pair / 16) = 1) ∨
      (p.tr = false ∧ 0x200000 ≤ p.addr + 1024 * 15 + 8 * (p.b - 1) + 7)) : p.placeBad = true := by
  unfold PassArgs.placeBad operandBad sramSize
  obtain h | h | ⟨ht, hc⟩ | ⟨ht, hl⟩ := h
  · simp [h]
  · simp [h]
  · simp [ht, hc]
  · simp [ht, hl]

/-- R111: the operands of a direct pass without scales that have their place. -/
theorem PassArgs.placeBad_direct {p : PassArgs} (ha : p.addr % 8 = 0) (hn : p.addr % 1024 / 8 + p.b ≤ 128) (ht : p.tr = false)
    (hl : p.addr + 1024 * 15 + 8 * (p.b - 1) + 7 < 0x200000) (hs : p.smode = 0) : p.placeBad = false := by
  simp only [PassArgs.placeBad, operandBad, scaleBad, sramSize, ha, ht, hs]
  simp
  omega

/-! ## Drains and fills -/

section Drain
variable {y : Row} {cw : Nat} {g : DrainArgs}

theorem DrainArgs.le_named (g : DrainArgs) : g.n ≤ g.named := by
  unfold DrainArgs.named
  split <;> omega

/-- R116: an ACCRD of a defined target whose accumulators cannot be drained so. -/
theorem accrdCause_accs (hcw : cw < 2 ^ 21) (ht : g.target ≤ 4 ∨ g.target = 15)
    (h : (if g.f16 then 32 else 64) < g.acc + g.named ∨ (g.gauss = true ∧ g.f16 = false) ∨
      (g.target = 15 ∧ g.dest = false ∧ (1 < g.n ∨ g.gauss = true)) ∨ ∃ i < g.named, issuedMode y g.f16 (g.acc + i) ≠ g.f16) :
    accrdCause y cw g = some 0x11 := by
  have hhi : bitsOf cw 31 21 = 0 := by
    rw [bitsOf, Nat.shiftRight_eq_div_pow, Nat.div_eq_of_lt hcw, Nat.zero_mod]
  have hdef : (decide (bitsOf cw 31 21 ≠ 0) || !(decide (g.target ≤ 4) || g.raw)) = false := by
    simp only [hhi, DrainArgs.raw]
    obtain ht | ht := ht <;> simp [ht]
  have hacc : (decide (g.acc + g.named > (if g.f16 then 32 else 64)) || (g.gauss && !g.f16) ||
      (g.raw && !g.dest && (decide (g.n > 1) || g.gauss)) ||
      ((List.range g.named).any (fun i => issuedMode y g.f16 (g.acc + i) != g.f16))) = true := by
    obtain h | ⟨hg, hf⟩ | ⟨hr, hd, hn⟩ | ⟨i, hi, hm⟩ := h
    · simp only [gt_iff_lt, h, decide_true, Bool.true_or]
    · simp [hg, hf]
    · obtain hn | hn := hn <;> simp [DrainArgs.raw, hr, hd, hn]
    · have : (List.range g.named).any (fun i => issuedMode y g.f16 (g.acc + i) != g.f16) = true :=
        List.any_eq_true.mpr ⟨i, List.mem_range.mpr hi, by simpa using hm⟩
      simp only [this, Bool.or_true]
  rw [accrdCause, firstCause_cons, hdef, firstCause_cons, hacc]
  rfl

end Drain

/-- R113: the classes and the scale mode a fill of a KIND may have. -/
def fillKindOk (d : FillDesc) : Bool :=
  match d.kind with
  | 0 => true
  | 4 => d.cls == 0 && d.smode == 0
  | k => decide (k ≤ 3) && d.cls == 2 && d.smode == 0

theorem fillKindOk_four {d : FillDesc} (h : d.kind = 4) : fillKindOk d = (d.cls == 0 && d.smode == 0) := by
  simp [fillKindOk, h]

theorem fillKindOk_other {d : FillDesc} (h0 : d.kind ≠ 0) (h4 : d.kind ≠ 4) :
    fillKindOk d = (decide (d.kind ≤ 3) && d.cls == 2 && d.smode == 0) := by
  unfold fillKindOk
  split
  · contradiction
  · contradiction
  · rfl

/-- R112, R113: a fill of no KIND, or of one that its class or scale mode does not allow. -/
theorem fillKindOk_false {d : FillDesc} (h : 5 ≤ d.kind ∨ (1 ≤ d.kind ∧ d.kind ≤ 3 ∧ d.cls ≠ 2) ∨ (d.kind = 4 ∧ d.cls ≠ 0) ∨
    (1 ≤ d.kind ∧ d.smode ≠ 0)) : fillKindOk d = false := by
  by_cases h4 : d.kind = 4
  · have : d.cls ≠ 0 ∨ d.smode ≠ 0 := by omega
    simpa [fillKindOk_four h4, imp_iff_not_or] using this
  · have : 3 < d.kind ∨ d.cls ≠ 2 ∨ d.smode ≠ 0 := by omega
    rw [fillKindOk_other (by omega) h4]
    simp only [Bool.and_eq_false_iff, decide_eq_false_iff_not, not_le, beq_eq_false_iff_ne, or_assoc]
    exact this

theorem wfillCause_desc {sa st hi : Nat} {d : FillDesc} {tr : Bool} (addr : Nat)
    (h : 2 < d.cls ∨ fillKindOk d = false ∨ hi ≠ 0 ∨ (d.cls = 2 ∧ d.smode ≠ 0)) : wfillCause addr sa st hi d tr = some 0x10 := by
  have hb : (decide (d.cls > 2) || decide (d.smode > 2) || !fillKindOk d || decide (hi ≠ 0) ||
      (d.cls == 2 && decide (d.smode ≠ 0))) = true := by
    obtain h | h | h | ⟨hc, hs⟩ := h
    · simp [h]
    · simp [h]
    · simp [h]
    · simp [hc, hs]
  exact (firstCause_cons ..).trans (if_pos hb)

end Sys2Proof.Machine

namespace Sys2Proof

open Sys2Proof.Machine

/-- Settles O28: the checks of each instruction in their order, the earlier ones passed. -/
theorem rowCauses : Obligations.RowCauses := by
  unfold Obligations.RowCauses
  refine ⟨fun y p => ?_, pairLegal_iff, fun y cw g hcw ht h => accrdCause_accs hcw ht ?_, fun addr sa st hi d tr h => wfillCause_desc addr ?_⟩
  · dsimp only
    rw [← kindAccCount_eq]
    exact ⟨mpassCause_illegal, mpassCause_room, fun h hr => mpassCause_noFill hr h, fun h hr => mpassCause_otherBank hr h,
      fun h hr hb => ⟨fun hp => (mpassCause_bank hr h hb).trans (if_pos (PassArgs.placeBad_of hp)),
        fun ha hn ht hl hs => (mpassCause_bank hr h hb).trans (by rw [PassArgs.placeBad_direct ha hn ht hl hs]; rfl)⟩⟩
  · have hn := g.le_named
    obtain h | h | h | ⟨hf, i, hi, hm⟩ := h
    · exact .inl (by omega)
    · exact .inr (.inl h)
    · exact .inr (.inr (.inl h))
    · exact .inr (.inr (.inr ⟨i, by omega, by simp [issuedMode, hf, hm]⟩))
  · by_cases hk : fillKindOk d = false
    · exact .inr (.inl hk)
    · have := mt fillKindOk_false hk
      omega

end Sys2Proof
end

section
/-! What the fill port, the rachis and the drain path of a row do with the row queue (R45 to R51, R108, R115). -/

namespace Sys2Proof.Machine

open Sys2Proof

/-! ## The head of a path -/

/-- R108: the head of a path is its first entry in the queue; the others stay in order. -/
theorem takeFirst_append {p : RowOp → Bool} {u : List RowEntry} (v : List RowEntry) (n : Nat) {o : RowOp} (hu : ∀ e ∈ u, p e.op = false)
    (ho : p o = true) : takeFirst p (u ++ ⟨n, o⟩ :: v) = some (n, o, u ++ v) := by
  have hfind : (u ++ ⟨n, o⟩ :: v).find? (fun e => p e.op) = some ⟨n, o⟩ := by
    rw [List.find?_append, List.find?_eq_none.mpr (by simpa using hu)]
    simp [ho]
  have herase : (u ++ ⟨n, o⟩ :: v).eraseP (fun e => p e.op) = u ++ v := by
    rw [List.eraseP_append_right _ (by simpa using hu), List.eraseP_cons_of_pos (p := fun e : RowEntry => p e.op) ho]
  simp [takeFirst, hfind, herase]

section Queue
variable {y : Row} {u v : List RowEntry} {n : Nat}

/-- R47: the first waiting fill starts unless the shadow bank is full or being filled. -/
theorem Row.fillStart_head {rd : Nat → Nat → Nat} {slot a sa st : Nat} {d : FillDesc} {tr : Bool}
    (hq : y.queue = u ++ ⟨n, .wfill slot a sa st d tr⟩ :: v) (hu : ∀ e ∈ u, e.op.isFill = false) :
    y.fillStart rd = if y.shadow.full = true ∨ y.filling ≠ none then none else
      some { y with queue := u ++ v, filling := some (fillBank rd a sa st d tr), fillSlot := slot } := by
  have ht : takeFirst RowOp.isFill y.queue = some (n, .wfill slot a sa st d tr, u ++ v) := by
    rw [hq]; exact takeFirst_append v n hu rfl
  simp [fillStart, ht, Option.isSome_iff_ne_none]

/-- The row when an entry takes the rachis. -/
def Row.started (y : Row) (n : Nat) (o : RowOp) (q : List RowEntry) : Row := { y with queue := q, run := some ⟨n, o, 0, 0, 0⟩ }

/-- R46: the first pass takes the rachis, with REUSE 0 only when the shadow bank is full. -/
theorem Row.passStart_mpass {p : PassArgs} (hrun : y.run = none) (hq : y.queue = u ++ ⟨n, .mpass p⟩ :: v)
    (hu : ∀ e ∈ u, e.op.isRachis = false) :
    y.passStart = if p.reuse then .started (y.started n (.mpass p) (u ++ v)) else
      if y.shadow.full then .started (y.swap.started n (.mpass p) (u ++ v)) else .heldShadow := by
  have ht : takeFirst RowOp.isRachis y.queue = some (n, .mpass p, u ++ v) := by
    rw [hq]; exact takeFirst_append v n hu rfl
  simp [passStart, hrun, ht, started]

/-- R115: the first BCAST takes the rachis when its sheaf has read all earlier chunks. -/
theorem Row.passStart_bcast {slot a b c : Nat} {tr : Bool} (hrun : y.run = none) (hq : y.queue = u ++ ⟨n, .bcast slot a b tr c⟩ :: v)
    (hu : ∀ e ∈ u, e.op.isRachis = false) :
    y.passStart = if ∃ e ∈ y.rx, e.1 = slot then .none else .started (y.started n (.bcast slot a b tr c) (u ++ v)) := by
  have ht : takeFirst RowOp.isRachis y.queue = some (n, .bcast slot a b tr c, u ++ v) := by
    rw [hq]; exact takeFirst_append v n hu rfl
  simp only [passStart, hrun, ht, started, Option.isSome_none, Bool.false_eq_true, if_false, List.any_eq_true, beq_iff_eq]

/-- R51: the first drain may run once no earlier pass has still to write what it drains. -/
theorem Row.drainReady_head {o : RowOp} (ho : o.isDrain = true) (hq : y.queue = u ++ ⟨n, o⟩ :: v) (hu : ∀ e ∈ u, e.op.isDrain = false) :
    y.drainReady = if y.accWriting n o.drainPlaces then none else some (o, u ++ v) := by
  have ht : takeFirst RowOp.isDrain y.queue = some (n, o, u ++ v) := by
    rw [hq]; exact takeFirst_append v n hu ho
  simp [drainReady, ht]

/-- R115: a chunk of a BCAST enters the receive queue while it has room. -/
theorem Row.inject_bcast {rd : Nat → Nat → Nat} {a w j b slot c : Nat} {tr : Bool} (hrun : y.run = some ⟨n, .bcast slot a b tr c, 0, w, j⟩)
    (hroom : y.rx.length < 32) :
    ∃ z, y.inject rd = .done z false false false false ∧
      z.rx = y.rx ++ [(slot, BitVec.ofNat 64 (operandChunk rd c tr a w j))] ∧ z.accs = y.accs ∧ z.queue = y.queue := by
  simp only [inject, hrun, ge_iff_le, if_neg (not_le.mpr hroom)]
  refine ⟨_, rfl, ?_⟩
  split
  · exact ⟨rfl, rfl, rfl⟩
  · split <;> exact ⟨rfl, rfl, rfl⟩

end Queue

/-! ## A row of the part -/

theorem rowKey_parts {r : RowId} (h : r.wf = true) :
    rowCls (rowIdKey r) / 84 = r.t ∧ rowCls (rowIdKey r) % 84 = r.c ∧ rowIdKey r % 16 = r.r := by
  simp only [RowId.wf, decide_eq_true_eq] at h
  simp only [rowCls, rowIdKey, rowKey, clsKey]
  omega

/-- R77: one more in a counter of the row. -/
theorem Dev.rowCount_row (d : Dev) {r : RowId} (h : r.wf = true) (f : Nat → Nat → Nat → Nat) :
    d.rowCount (rowIdKey r) f = d.setFld (f r.t r.c r.r) 63 0 (d.fld (f r.t r.c r.r) 63 0 + 1) := by
  obtain ⟨ht, hc, hr⟩ := rowKey_parts h
  rw [rowCount, ht, hc, hr, addWrap]

section Acts
variable {d : Dev} {k : Nat} (ha : d.rowActs k = true)
include ha

theorem Dev.wfillStart_acts : d.wfillStart k = ((d.row k).fillStart (d.rowRead k)).elim d (fun y => d.setRow k (fun _ => y)) := by
  rw [wfillStart, ha]
  cases (d.row k).fillStart (d.rowRead k) <;> rfl

theorem Dev.wfillDone_acts {b : Bank} (hb : (d.row k).filling = some b) :
    d.wfillDone k = d.setRow k (fun y => { y with shadow := b, filling := none }) := by
  have hd : (d.row k).fillDone = some { d.row k with shadow := b, filling := none } := by rw [Row.fillDone, hb]
  rw [wfillDone, ha, hd]
  rfl

theorem Dev.passStart_started {y : Row} (h : (d.row k).passStart = .started y) : d.passStart k = d.setRow k (fun _ => y) := by
  rw [passStart, ha, h]; rfl

theorem Dev.passStart_heldShadow (h : (d.row k).passStart = .heldShadow) : d.passStart k = d.rowCount k rClsSbnr := by
  rw [passStart, ha, h]; rfl

theorem Dev.passStart_none (h : (d.row k).passStart = .none) : d.passStart k = d := by
  rw [passStart, ha, h]; rfl

/-- R50: a cycle that the limiter withholds, else one without the operand bank, else the row's own. -/
theorem Dev.inject_acts (hi : (d.row k).injects = true) (granted permitted : Bool) :
    d.inject k granted permitted = if permitted = false then d.rowCount k rClsLimit else
      if granted = false then d.rowCount k rClsOpnr else d.inject k true true := by
  cases permitted <;> cases granted <;> simp [inject, ha, hi]

theorem Dev.inject_done (hi : (d.row k).injects = true) {z : Row} {l m n i : Bool}
    (h : (d.rxKeep k (d.row k)).inject (d.rowRead k) = .done z l m n i) :
    d.inject k true true = ((d.setRow k (fun _ => d.rxKeep k z)).mxFlag k
      ((if m then 16 else 0) + (if n then 8 else 0) + (if i then 4 else 0) + (if l then 2 else 0))).rowSettle 8 k := by
  rw [inject, ha, hi, h]; rfl

theorem Dev.passComplete_head {x : Landing} {l : List Landing} (h : (d.row k).landing = x :: l) :
    d.passComplete k = (if x.counts then (d.setRow k (fun y => { y with landing := l })).rowCount k rClsPasses
      else d.setRow k (fun y => { y with landing := l })).rowSettle 8 k := by
  have hl : (d.row k).land = some ({ d.row k with landing := l }, x) := by rw [Row.land, h]
  rw [passComplete, ha, hl]; rfl

theorem Dev.accrdDrain_ready {g : DrainArgs} {q : List RowEntry} (h : (d.row k).drainReady = some (.accrd g, q)) :
    d.accrdDrain k = ((d.drainAccrd k g).setRow k (fun y => { y with queue := q })).rowSettle 8 k := by
  rw [accrdDrain, ha, h]; rfl

theorem Dev.accrdDrain_waits (h : (d.row k).drainReady = none) : d.accrdDrain k = d := by
  rw [accrdDrain, ha, h]; rfl

end Acts

section Commands
variable (s : State) {r : RowId} (h : r.wf = true)
include h

theorem exec_wfillStart : exec (.wfillStart r) s = .next (leaves s (s.dev.wfillStart (rowIdKey r))) := exec_next s h
theorem exec_wfillDone : exec (.wfillDone r) s = .next (leaves s (s.dev.wfillDone (rowIdKey r))) := exec_next s h
theorem exec_passStart : exec (.passStart r) s = .next (leaves s (s.dev.passStart (rowIdKey r))) := exec_next s h
theorem exec_chunkInjection (granted permitted : Bool) :
    exec (.chunkInjection r granted permitted) s = .next (leaves s (s.dev.inject (rowIdKey r) granted permitted)) := exec_next s h
theorem exec_passComplete : exec (.passComplete r) s = .next (leaves s (s.dev.passComplete (rowIdKey r))) := exec_next s h
theorem exec_accrdDrain : exec (.accrdDrain r) s = .next (leaves s (s.dev.accrdDrain (rowIdKey r))) := exec_next s h

end Commands

end Sys2Proof.Machine

namespace Sys2Proof

open Sys2Proof.Machine

/-- Settles O29: each path takes its own first entry of the queue, and goes by the state of the banks, the run and the landings. -/
theorem rowPaths : Obligations.RowPaths := by
  unfold Obligations.RowPaths
  intro s r hr ha
  dsimp only
  refine ⟨fun u v n slot a sa st d tr hq hu => ?_, fun b hb => ?_, fun u v n o hrun hq hu => ⟨fun p ho => ?_, fun slot a b tr c ho => ?_⟩,
    fun hi => ⟨fun g => ?_, ?_, fun z l m n i hz => ?_⟩, fun n a v j b slot tr c hrun hroom => Row.inject_bcast hrun hroom,
    fun x l hl => ?_, fun u v n g hq hu => ?_⟩
  · rw [exec_wfillStart s hr, Dev.wfillStart_acts ha, Row.fillStart_head hq hu]
    split <;> rfl
  · rw [exec_wfillDone s hr, Dev.wfillDone_acts ha hb]
  · subst ho
    have hs := Row.passStart_mpass hrun hq hu
    refine ⟨fun hp => ?_, fun hp hf => ?_, fun hp hf => ?_⟩
    · rw [hp, if_pos rfl] at hs
      rw [exec_passStart s hr, Dev.passStart_started ha hs]; rfl
    · rw [hp, hf, if_neg Bool.false_ne_true, if_pos rfl] at hs
      rw [exec_passStart s hr, Dev.passStart_started ha hs]; rfl
    · rw [hp, hf, if_neg Bool.false_ne_true, if_neg Bool.false_ne_true] at hs
      rw [exec_passStart s hr, Dev.passStart_heldShadow ha hs, Dev.rowCount_row _ hr]
  · subst ho
    have hs := Row.passStart_bcast hrun hq hu
    rw [exec_passStart s hr]
    split at hs
    · rw [Dev.passStart_none ha hs, if_pos ‹_›]; rfl
    · rw [Dev.passStart_started ha hs, if_neg ‹_›]; rfl
  · rw [exec_chunkInjection s hr, Dev.inject_acts ha hi, if_pos rfl, Dev.rowCount_row _ hr]
  · rw [exec_chunkInjection s hr, Dev.inject_acts ha hi, if_neg (by decide), if_pos rfl, Dev.rowCount_row _ hr]
  · rw [exec_chunkInjection s hr, Dev.inject_done ha hi hz]
  · rw [exec_passComplete s hr, Dev.passComplete_head ha hl, Dev.rowCount_row _ hr]
  · rw [exec_accrdDrain s hr]
    have hd := Row.drainReady_head rfl hq hu
    split at hd
    · rw [Dev.accrdDrain_waits ha hd, if_pos ‹_›]; rfl
    · rw [Dev.accrdDrain_ready ha hd, if_neg ‹_›]

end Sys2Proof
end

section
/-! The integer operations against their arithmetic (R87, R88), for every width. -/

namespace Sys2Proof.Machine

open Sys2Proof

section Width
variable {w : Nat} (x y : BitVec w)

/-- A right shift, logical: the quotient by a power of two. -/
theorem ushiftRight_eq_ofNat (n : Nat) : x >>> n = BitVec.ofNat w (x.toNat / 2 ^ n) := by
  apply BitVec.eq_of_toNat_eq
  rw [BitVec.toNat_ushiftRight, Nat.shiftRight_eq_div_pow, BitVec.toNat_ofNat,
    Nat.mod_eq_of_lt (lt_of_le_of_lt (Nat.div_le_self _ _) x.isLt)]

/-- A left shift: the product with a power of two. -/
theorem shiftLeft_eq_ofNat (n : Nat) : x <<< n = BitVec.ofNat w (x.toNat * 2 ^ n) := by
  apply BitVec.eq_of_toNat_eq
  rw [BitVec.toNat_shiftLeft, Nat.shiftLeft_eq, BitVec.toNat_ofNat]

/-- A right shift, arithmetic: the quotient rounded down. -/
theorem sshiftRight_eq_ofInt (n : Nat) : x.sshiftRight n = BitVec.ofInt w (x.toInt / 2 ^ n) := by
  rw [BitVec.sshiftRight_eq, Int.shiftRight_eq_div_pow]; norm_cast

theorem ror_eq_intMath (hw : 0 < w) : aluEval .ror w x y = intMath .ror w x y := by
  have h : y.toNat % w < w := Nat.mod_lt _ hw
  simp only [aluEval, intMath, shAmt, BitVec.rotateRight_def, Nat.mod_eq_of_lt h, ushiftRight_eq_ofNat, shiftLeft_eq_ofNat]

/-- The length of the longest run of `p` from 0 on, below `n`. -/
theorem length_takeWhile_range {p : Nat → Bool} {n k : Nat} (hk : k ≤ n) (hp : ∀ i < k, p i = true) (hs : k = n ∨ p k = false) :
    ((List.range n).takeWhile p).length = k := by
  obtain ⟨m, rfl⟩ := Nat.exists_eq_add_of_le hk
  rw [List.range_add, List.takeWhile_append_of_pos (by simpa using hp)]
  cases m with
  | zero => simp
  | succ m =>
    have hq : p k = false := hs.resolve_left (by omega)
    simp [List.range_succ_eq_map, hq]

/-- R88: the leading zeros lie above the highest set bit. -/
theorem clz_eq_intMath : aluEval .clz w x y = intMath .clz w x y := by
  simp only [aluEval, intMath, clzOf]
  congr 1
  symm
  split <;> rename_i h
  · exact length_takeWhile_range le_rfl (fun i _ => by simp [BitVec.getLsbD, h]) (.inl rfl)
  · have hl : x.toNat.log2 < w := (Nat.log2_lt h).mpr x.isLt
    refine length_takeWhile_range (by omega) (fun i hi => ?_) (.inr ?_)
    · have : x.toNat < 2 ^ (w - 1 - i) := (Nat.log2_lt h).mp (by omega)
      simp [BitVec.getLsbD, Nat.testBit_lt_two_pow this]
    · have e : w - 1 - (w - 1 - x.toNat.log2) = x.toNat.log2 := by omega
      simp [BitVec.getLsbD, e, Nat.testBit_log2 h]

/-- R88: the trailing zeros lie below the lowest set bit. -/
theorem ctz_eq_intMath : aluEval .ctz w x y = intMath .ctz w x y := by
  simp only [aluEval, intMath, ctzOf, lowest]
  congr 1
  symm
  cases h : (List.range w).find? (fun i => x.toNat.testBit i) with
  | none =>
    simp only [List.find?_eq_none, List.mem_range] at h
    exact length_takeWhile_range le_rfl (fun i hi => by simpa [BitVec.getLsbD] using h i hi) (.inl rfl)
  | some k =>
    obtain ⟨hk, hm, hb⟩ := List.find?_range_eq_some.mp h
    exact length_takeWhile_range (List.mem_range.mp hm).le hb (.inr (by simpa [BitVec.getLsbD] using hk))

theorem min_eq_intMath : aluEval .min w x y = intMath .min w x y := by
  simp only [aluEval, intMath, BitVec.slt, decide_eq_true_eq]
  split <;> rename_i h
  · rw [min_eq_left h.le, BitVec.ofInt_toInt]
  · rw [min_eq_right (not_lt.mp h), BitVec.ofInt_toInt]

theorem max_eq_intMath : aluEval .max w x y = intMath .max w x y := by
  simp only [aluEval, intMath, BitVec.slt, decide_eq_true_eq]
  split <;> rename_i h
  · rw [max_eq_right h.le, BitVec.ofInt_toInt]
  · rw [max_eq_left (not_lt.mp h), BitVec.ofInt_toInt]

theorem minu_eq_intMath : aluEval .minu w x y = intMath .minu w x y := by
  simp only [aluEval, intMath, BitVec.ult, decide_eq_true_eq]
  split <;> rename_i h
  · rw [min_eq_left h.le, BitVec.ofNat_toNat, BitVec.setWidth_eq]
  · rw [min_eq_right (not_lt.mp h), BitVec.ofNat_toNat, BitVec.setWidth_eq]

theorem maxu_eq_intMath : aluEval .maxu w x y = intMath .maxu w x y := by
  simp only [aluEval, intMath, BitVec.ult, decide_eq_true_eq]
  split <;> rename_i h
  · rw [max_eq_right h.le, BitVec.ofNat_toNat, BitVec.setWidth_eq]
  · rw [max_eq_left (not_lt.mp h), BitVec.ofNat_toNat, BitVec.setWidth_eq]

theorem ofInt_neg_one : BitVec.ofInt w (-1) = BitVec.allOnes w := by
  rw [BitVec.ofInt_neg, ← BitVec.neg_one_eq_allOnes]; rfl

/-- R88: signed division; the most negative value over -1 wraps to itself. -/
theorem sdiv_eq_ofInt : x.sdiv y = BitVec.ofInt w (x.toInt.tdiv y.toInt) := by
  apply BitVec.eq_of_toInt_eq
  rw [BitVec.toInt_sdiv, BitVec.toInt_ofInt]

theorem srem_eq_ofInt : x.srem y = BitVec.ofInt w (x.toInt.tmod y.toInt) := by
  rw [← BitVec.toInt_srem, BitVec.ofInt_toInt]

/-- R87, R88: every operation is the arithmetic its rule gives. -/
theorem aluEval_eq_intMath (op : AluOp) (hw : 0 < w) : aluEval op w x y = intMath op w x y := by
  cases op with
  | add => simp [aluEval, intMath, BitVec.ofInt_add]
  | sub => apply BitVec.eq_of_toInt_eq; simp [aluEval, intMath, BitVec.toInt_sub]
  | mul => simp [aluEval, intMath, BitVec.ofInt_mul]
  | and | or | xor | andn => rfl
  | sll => exact shiftLeft_eq_ofNat x _
  | srl => exact ushiftRight_eq_ofNat x _
  | sra => exact sshiftRight_eq_ofInt x _
  | ror => exact ror_eq_intMath x y hw
  | slt => simp [aluEval, intMath, oneIf, BitVec.slt]
  | sltu => simp [aluEval, intMath, oneIf, BitVec.ult]
  | min => exact min_eq_intMath x y
  | max => exact max_eq_intMath x y
  | minu => exact minu_eq_intMath x y
  | maxu => exact maxu_eq_intMath x y
  | clz => exact clz_eq_intMath x y
  | ctz => exact ctz_eq_intMath x y
  | popc => simp [aluEval, intMath, popcOf, List.countP_eq_length_filter, BitVec.testBit_toNat]
  | mulh | mulhu | mulhsu => simp [aluEval, intMath]
  | div => simp [aluEval, intMath, divS, sdiv_eq_ofInt, ofInt_neg_one]
  | divu => simp [aluEval, intMath, divU, BitVec.udiv_def]
  | rem => simp [aluEval, intMath, remS, srem_eq_ofInt]
  | remu => simp [aluEval, intMath, remU, BitVec.umod_def]

end Width

end Sys2Proof.Machine
end

section
/-! One Ghety instruction on a core that runs and in a sheaf that runs: from the effect an instruction has to the state after it
(R78, R81). -/

namespace Sys2Proof.Machine

open Sys2Proof

/-! ## On a core -/

@[simp] theorem CoreSt.addFlags_pc (c : CoreSt) (f : FFlags) : (c.addFlags f).pc = c.pc := rfl
@[simp] theorem CoreSt.addFlags_retired (c : CoreSt) (f : FFlags) : (c.addFlags f).retired = c.retired := rfl
@[simp] theorem CoreSt.setF_pc (c : CoreSt) (r : Nat) (v : BitVec 64) : (c.setF r v).pc = c.pc := rfl
@[simp] theorem CoreSt.setF_retired (c : CoreSt) (r : Nat) (v : BitVec 64) : (c.setF r v).retired = c.retired := rfl
@[simp] theorem CoreSt.setCsr_pc (c : CoreSt) (k v : Nat) : (c.setCsr k v).pc = c.pc := rfl
@[simp] theorem CoreSt.setCsr_retired (c : CoreSt) (k v : Nat) : (c.setCsr k v).retired = c.retired := rfl

section Core
variable {s : State} {n lvl : Nat} {i : Instr} {bad : Bool} {badL : Option Nat} {f : Nat → Dev → CEnd × Dev}
  {fL : Nat → Dev → LEnd × Dev} (h : CoreRuns s n lvl) (hw : i.wf = (Agent.core n).wf)
  (hd : does i s.dev = s.dev.ghety i (.core n) lvl bad f badL fL)
include h hw hd

theorem exec_onCore : exec i s = .next (leaves s (s.dev.onCore n lvl bad (f n))) := by
  have hn : i.wf = true := by rw [hw]; exact decide_eq_true h.1
  rw [exec_next s hn, hd]; rfl

/-- A legal instruction that leaves the part `e`, its core as it was, and then changes the core: the core goes on at the next word. -/
theorem exec_coreDoesOn {e : Dev} {g g' : CoreSt → CoreSt} (hb : bad = false) (hf : f n s.dev = (.next, e.setCore n g'))
    (he : e.core n = s.dev.core n)
    (hg : g' (s.dev.core n) = g (s.dev.core n)) (hpc : (g (s.dev.core n)).pc = (s.dev.core n).pc)
    (hr : (g (s.dev.core n)).retired = (s.dev.core n).retired) : exec i s = .next (coreDoes (leaves s e) n g) := by
  subst hb
  rw [← he] at hg hpc hr
  have hl : decide ((s.dev.core n).level < lvl) = false := by simpa using h.2.2
  rw [Dev.setCore_congr hg] at hf
  rw [exec_onCore h hw hd]
  simp only [Dev.onCore, h.2.1, hl, hf, Bool.not_true, Bool.or_self, Bool.false_eq_true, if_false, Dev.coreRetire,
    Dev.setCore_setCore, Dev.core_setCore_same, hpc, ofNat_toNat_add, coreDoes, leaves]
  rw [Dev.setCore_congr]
  simp only [hr]; rfl

/-- A legal instruction that changes its core alone: the core goes on at the next word. -/
theorem exec_coreDoes {g g' : CoreSt → CoreSt} (hb : bad = false) (hf : f n s.dev = (.next, s.dev.setCore n g'))
    (hg : g' (s.dev.core n) = g (s.dev.core n)) (hpc : (g (s.dev.core n)).pc = (s.dev.core n).pc)
    (hr : (g (s.dev.core n)).retired = (s.dev.core n).retired) : exec i s = .next (coreDoes s n g) :=
  exec_coreDoesOn h hw hd hb hf rfl hg hpc hr

/-- A legal instruction that leaves the part `e`, its core as it was: the core goes on at the next word. -/
theorem exec_coreKeeps {e : Dev} (hb : bad = false) (hf : f n s.dev = (.next, e)) (hc : e.core n = s.dev.core n) :
    exec i s = .next (coreDoes (leaves s e) n id) := by
  subst hb
  have hl : decide ((s.dev.core n).level < lvl) = false := by simpa using h.2.2
  rw [exec_onCore h hw hd]
  simp only [Dev.onCore, h.2.1, hl, hf, Bool.not_true, Bool.or_self, Bool.false_eq_true, if_false]
  simp only [Dev.coreRetire, ofNat_toNat_add, coreDoes, leaves, id, hc]
  rw [Dev.setCore_congr]
  simp only [hc]; rfl

/-- A legal jump that changes its core alone. -/
theorem exec_coreGoes {g g' : CoreSt → CoreSt} {t : Nat} (hb : bad = false) (hf : f n s.dev = (.jump t, s.dev.setCore n g'))
    (hg : g' (s.dev.core n) = g (s.dev.core n)) (hr : (g (s.dev.core n)).retired = (s.dev.core n).retired) :
    exec i s = .next (coreGoes s n t g) := by
  subst hb
  rw [Dev.setCore_congr hg] at hf
  rw [exec_onCore h hw hd]
  by_cases ht : t % 4 = 0
  · rw [Dev.onCore_jump h.2.1 h.2.2 hf ht hr, coreGoes, if_pos ht]; rfl
  · have hl : decide ((s.dev.core n).level < lvl) = false := by simpa using h.2.2
    simp [Dev.onCore, h.2.1, hl, hf, ht, coreGoes, leaves]

/-- A legal jump that writes nothing. -/
theorem exec_coreBranches {t : Nat} (hb : bad = false) (hf : f n s.dev = (.jump t, s.dev)) : exec i s = .next (coreGoes s n t id) := by
  subst hb
  rw [exec_onCore h hw hd]
  have hl : decide ((s.dev.core n).level < lvl) = false := by simpa using h.2.2
  simp only [Dev.onCore, h.2.1, hl, hf, Bool.not_true, Bool.or_self, Bool.false_eq_true, if_false, coreGoes]
  split <;> rfl

/-- An illegal word (R261). -/
theorem exec_coreIllegal (hb : bad = true) : exec i s = .next (coreTraps s n 1 0 0) := by
  rw [exec_onCore h hw hd, Dev.onCore_illegal h.2.1 (.inl hb)]; rfl

/-- A legal instruction that raises an exception before it changes anything. -/
theorem exec_coreTraps {c a j : Nat} (hb : bad = false) (hf : f n s.dev = (.exc c a j, s.dev)) :
    exec i s = .next (coreTraps s n c a j) := by
  subst hb
  rw [exec_onCore h hw hd, Dev.onCore_exc h.2.1 h.2.2 hf]; rfl

end Core

/-! ## In a sheaf -/

section Sheaf
variable {s : State} {t c r k lvl : Nat} {i : Instr} {badC : Bool} {bad : Option Nat} {fC : Nat → Dev → CEnd × Dev}
  {f : Nat → Dev → LEnd × Dev} (h : SheafRuns s t c r k) (hw : i.wf = (Agent.sheaf t c r k).wf)
  (hd : does i s.dev = s.dev.ghety i (.sheaf t c r k) lvl badC fC bad f)
include h hw hd

theorem exec_onSheaf : exec i s = .next (leaves s (s.dev.onSheaf (sheafKey t c r k) i bad (f (sheafKey t c r k)))) := by
  have hn : i.wf = true := by rw [hw]; exact decide_eq_true h.1
  rw [exec_next s hn, hd]; rfl

/-- A legal instruction that changes its sheaf alone: the sheaf goes on at the next word. -/
theorem exec_sheafDoes {g g' : Sheaf → Sheaf} (hb : bad = none) (hf : f (sheafKey t c r k) s.dev = (.next, s.dev.setSheaf (sheafKey t c r k) g'))
    (hg : g' (s.dev.sheaf (sheafKey t c r k)) = g (s.dev.sheaf (sheafKey t c r k))) :
    exec i s = .next (sheafDoes s (sheafKey t c r k) g) := by
  subst hb
  rw [Dev.setSheaf_congr hg] at hf
  rw [exec_onSheaf h hw hd, Dev.onSheaf_next h.2 hf]; rfl

/-- A legal instruction that leaves the part as it is: the sheaf goes on at the next word. -/
theorem exec_sheafKeeps (hb : bad = none) (hf : f (sheafKey t c r k) s.dev = (.next, s.dev)) : exec i s = .next (sheafDoes s (sheafKey t c r k) id) := by
  subst hb
  rw [exec_onSheaf h hw hd]
  simp only [Dev.onSheaf, h.2, hf, Bool.not_true, Bool.false_eq_true, if_false, Dev.sheafGo, ofNat_toNat_add, leaves, sheafDoes, id]
  rw [Dev.setSheaf_congr]
  rfl

/-- A legal jump that changes its sheaf alone. -/
theorem exec_sheafJumps {g g' : Sheaf → Sheaf} {p : Nat} (hb : bad = none)
    (hf : f (sheafKey t c r k) s.dev = (.jump p, s.dev.setSheaf (sheafKey t c r k) g'))
    (hg : g' (s.dev.sheaf (sheafKey t c r k)) = g (s.dev.sheaf (sheafKey t c r k))) :
    exec i s = .next (sheafJumps s (sheafKey t c r k) (BitVec.ofNat 64 p) g) := by
  subst hb
  rw [Dev.setSheaf_congr hg] at hf
  rw [exec_onSheaf h hw hd, Dev.onSheaf_jump h.2 hf]; rfl

/-- A legal jump that writes nothing. -/
theorem exec_sheafBranches {p : Nat} (hb : bad = none) (hf : f (sheafKey t c r k) s.dev = (.jump p, s.dev)) :
    exec i s = .next (sheafJumps s (sheafKey t c r k) (BitVec.ofNat 64 p) id) := by
  subst hb
  rw [exec_onSheaf h hw hd]
  simp only [Dev.onSheaf, h.2, hf, Bool.not_true, Bool.false_eq_true, if_false]
  rfl

/-- An illegal word with an active lane (R106). -/
theorem exec_sheafIllegal {l n : Nat} (hb : bad = some n) (hl : (s.dev.sheaf (sheafKey t c r k)).first = some l) :
    exec i s = .next (leaves s (s.dev.laneException (sheafKey t c r k) n (causeStatus n) l (wordNat i))) := by
  subst hb
  rw [exec_onSheaf h hw hd, Dev.onSheaf_illegal h.2 hl]

/-- An illegal word with an empty mask has no effect. -/
theorem exec_sheafSkips {n : Nat} (hb : bad = some n) (hl : (s.dev.sheaf (sheafKey t c r k)).first = none) :
    exec i s = .next (sheafDoes s (sheafKey t c r k) id) := by
  subst hb
  rw [exec_onSheaf h hw hd]
  simp only [Dev.onSheaf, h.2, hl, Bool.not_true, Bool.false_eq_true, if_false, Dev.sheafGo, ofNat_toNat_add, leaves, sheafDoes, id]
  rw [Dev.setSheaf_congr]
  rfl

/-- A legal instruction that raises a lane exception before it changes anything. -/
theorem exec_sheafTraps {l n : Nat} {st : Status} (hb : bad = none) (hf : f (sheafKey t c r k) s.dev = (.exc n st l, s.dev)) :
    exec i s = .next (leaves s (s.dev.laneException (sheafKey t c r k) n st l (wordNat i))) := by
  subst hb
  rw [exec_onSheaf h hw hd]
  simp only [Dev.onSheaf, h.2, hf, Bool.not_true, Bool.false_eq_true, if_false]

/-- A legal instruction that waits. -/
theorem exec_sheafWaits {e : Dev} (hb : bad = none) (hf : f (sheafKey t c r k) s.dev = (.wait, e)) : exec i s = .next (leaves s e) := by
  subst hb
  rw [exec_onSheaf h hw hd]
  simp only [Dev.onSheaf, h.2, hf, Bool.not_true, Bool.false_eq_true, if_false]

end Sheaf

end Sys2Proof.Machine
end

section
/-! The integer instructions of a core, its branches and jumps, and its calls (R79, R85 to R88, R102). -/

namespace Sys2Proof.Machine

open Sys2Proof

/-! ## Operands and results -/

theorem Dev.x_eq (d : Dev) (n r : Nat) : d.x n r = (d.core n).getX r := rfl

theorem setWidth_eq_ofNat {v : Nat} (w : Nat) (x : BitVec v) : x.setWidth w = BitVec.ofNat w x.toNat := (BitVec.ofNat_toNat w x).symm

theorem signExtend_eq_ofInt {v : Nat} (w : Nat) (x : BitVec v) : x.signExtend w = BitVec.ofInt w x.toInt := rfl

/-- R85: LUI's immediate as an integer. -/
theorem luiValue_eq (f : UF) : luiValue f = BitVec.ofInt 64 (f.imm.toInt * 2048) := by
  have hb := f.imm.isLt
  have hn : ((f.imm.setWidth 32) <<< (11 : Nat)).toNat = f.imm.toNat * 2048 := by
    rw [BitVec.toNat_shiftLeft, BitVec.toNat_setWidth, Nat.shiftLeft_eq]
    omega
  rw [luiValue, signExtend_eq_ofInt]
  congr 1
  rw [BitVec.toInt_eq_toNat_cond, BitVec.toInt_eq_toNat_cond, hn]
  omega

/-- R85: an address plus a count of words, as words of 64 bits. -/
theorem wordsOn_eq (pc : BitVec 64) (off : Int) : wordsOn pc off = (pc + BitVec.ofInt 64 (off * 4)).toNat := by
  rw [wordsOn, BitVec.ofInt_add, BitVec.ofInt_natCast, BitVec.ofNat_toNat, BitVec.setWidth_eq]

/-- R86: SHI shifts as the register form does by that amount. -/
theorem shiEval_eq {w n kind : Nat} {op : AluOp} (x : BitVec w) (hn : n < w)
    (hk : (kind, op) ∈ [(0, AluOp.sll), (1, .srl), (2, .sra), (3, .ror)]) :
    shiEval kind w x n = intMath op w x (BitVec.ofNat w n) := by
  have hs : shAmt w (BitVec.ofNat w n) = n := by
    rw [shAmt, BitVec.toNat_ofNat, Nat.mod_eq_of_lt (lt_trans hn Nat.lt_two_pow_self), Nat.mod_eq_of_lt hn]
  rw [← aluEval_eq_intMath _ _ op (by omega)]
  simp only [List.mem_cons, Prod.mk.injEq, List.not_mem_nil, or_false] at hk
  rcases hk with ⟨rfl, rfl⟩ | ⟨rfl, rfl⟩ | ⟨rfl, rfl⟩ | ⟨rfl, rfl⟩ <;> simp [shiEval, aluEval, hs]

/-- R86: the parts of SHI's immediate. -/
theorem shi_fields {v amount kind w : Nat} (ha : amount < 64) (hk : kind < 4) (hw : w < 2) (hv : v = amount + 64 * kind + 256 * w) :
    v % 64 = amount ∧ v / 64 % 4 = kind ∧ v.testBit 8 = decide (w = 1) ∧ decide (512 ≤ v) = false := by
  refine ⟨by omega, by omega, ?_, by simp; omega⟩
  rw [Nat.testBit_eq_decide_div_mod_eq]
  congr 1
  apply propext
  norm_num
  omega

/-! ## Results of a core -/

/-- What makes an instruction of Ghety-C alone illegal in a sheaf. -/
theorem Dev.onlyC_eq (d : Dev) (i : Instr) (a : Agent) (lvl : Nat) (bad : Bool) (f : Nat → Dev → CEnd × Dev) :
    d.onlyC i a lvl bad f = d.ghety i a lvl bad f (some 1) (fun _ d => (.next, d)) := rfl

/-- What makes an instruction of Ghety-L alone illegal on a core. -/
theorem Dev.onlyL_eq (d : Dev) (i : Instr) (a : Agent) (bad : Option Nat) (f : Nat → Dev → LEnd × Dev) :
    d.onlyL i a bad f = d.ghety i a 0 true (fun _ d => (.next, d)) bad f := rfl

section Core
variable {s : State} {n : Nat} {i : Instr} (h : CoreRuns s n 0) (hw : i.wf = (Agent.core n).wf)
include h hw

/-- R87, R88: an operation on two registers. -/
theorem exec_alu2_core {op : AluOp} {f : RF} {bad : Bool} (hd : does i s.dev = s.dev.alu2 i (.core n) op f bad) (hb : bad = false) :
    exec i s = .next (coreDoes s n (fun c => c.setX f.rd.toNat (intMath op 64 (c.getX f.ra.toNat) (c.getX f.rb.toNat)))) :=
  exec_coreDoes h hw hd hb rfl (by simp only [Dev.x_eq, aluEval_eq_intMath _ _ op (show 0 < 64 by decide)]) (by simp) (by simp)

/-- R88: a .W form. -/
theorem exec_aluW_core {op : AluOp} {f : RF} (hd : does i s.dev = s.dev.aluW i (.core n) op f) (hf : f.fn2 = 0) :
    exec i s = .next (coreDoes s n (fun c => c.setX f.rd.toNat (BitVec.ofInt 64
      (intMath op 32 (BitVec.ofNat 32 (c.getX f.ra.toNat).toNat) (BitVec.ofNat 32 (c.getX f.rb.toNat).toNat)).toInt))) :=
  exec_coreDoes h hw (hd.trans (Dev.onlyC_eq ..)) (by simp [hf]) rfl
    (by simp only [Dev.x_eq, aluEval_eq_intMath _ _ op (show 0 < 32 by decide), setWidth_eq_ofNat, signExtend_eq_ofInt]) (by simp) (by simp)

/-- R85: an operation on a register and an immediate. -/
theorem exec_aluI_core {op : AluOp} {f : IF} {signed : Bool} (hd : does i s.dev = s.dev.aluI i (.core n) op f signed) :
    exec i s = .next (coreDoes s n (fun c => c.setX f.rd.toNat (intMath op 64 (c.getX f.ra.toNat)
      (if signed then BitVec.ofInt 64 f.imm.toInt else BitVec.ofNat 64 f.imm.toNat)))) :=
  exec_coreDoes h hw hd rfl rfl
    (by simp only [Dev.x_eq, aluEval_eq_intMath _ _ op (show 0 < 64 by decide), setWidth_eq_ofNat, signExtend_eq_ofInt]) (by simp) (by simp)

/-- R85: a conditional branch. -/
theorem exec_branch_core {f : BF} {p q : BitVec 64 → BitVec 64 → Bool} (hd : does i s.dev = s.dev.branch i (.core n) f p)
    (hq : ∀ x y, p x y = q x y) :
    exec i s = .next (if q ((s.dev.core n).getX f.ra.toNat) ((s.dev.core n).getX f.rb.toNat)
      then coreGoes s n ((s.dev.core n).pc + BitVec.ofInt 64 (f.off.toInt * 4)).toNat id else coreDoes s n id) := by
  have hg := hd.trans (Dev.onlyC_eq ..)
  simp only [hq] at hg
  split
  · rw [← wordsOn_eq]
    exact exec_coreBranches h hw hg rfl (by simp [Dev.x_eq, *])
  · exact exec_coreKeeps h hw hg rfl (by simp only [Dev.x_eq, *]; rfl) rfl

end Core

/-- A core that runs at some level runs at every lower one. -/
theorem coreRuns_zero {s : State} {n lvl : Nat} (h : CoreRuns s n lvl) : CoreRuns s n 0 := ⟨h.1, h.2.1, Nat.zero_le _⟩

theorem shi_kind_lt {kind : Nat} {op : AluOp} (hk : (kind, op) ∈ [(0, AluOp.sll), (1, .srl), (2, .sra), (3, .ror)]) : kind < 4 := by
  simp only [List.mem_cons, Prod.mk.injEq, List.not_mem_nil, or_false] at hk
  omega

section Shi
variable {s : State} {n amount kind : Nat} {op : AluOp} {f : IF} (h : CoreRuns s n 0)
  (hk : (kind, op) ∈ [(0, AluOp.sll), (1, .srl), (2, .sra), (3, .ror)])

include h hk

/-- R86: SHI on 64 bits. -/
theorem exec_shi_core (ha : amount < 64) (hv : f.imm.toNat = amount + 64 * kind) :
    exec (.shi (.core n) f) s =
      .next (coreDoes s n (fun c => c.setX f.rd.toNat (intMath op 64 (c.getX f.ra.toNat) (BitVec.ofNat 64 amount)))) := by
  obtain ⟨hn, hkd, hW, h5⟩ := shi_fields (w := 0) ha (shi_kind_lt hk) (by decide) (by simpa using hv)
  have hd : does (.shi (.core n) f) s.dev = s.dev.shi (.shi (.core n) f) (.core n) f := rfl
  simp only [Dev.shi, hn, hkd, hW, h5] at hd
  refine exec_coreDoes h rfl hd rfl rfl ?_ (by simp) (by simp)
  simp only [Dev.x_eq, ← shiEval_eq _ ha hk]; rfl

/-- R86: SHI on the low 32 bits. -/
theorem exec_shiW_core (ha : amount < 32) (hv : f.imm.toNat = amount + 64 * kind + 256) :
    exec (.shi (.core n) f) s = .next (coreDoes s n (fun c => c.setX f.rd.toNat (BitVec.ofInt 64
      (intMath op 32 (BitVec.ofNat 32 (c.getX f.ra.toNat).toNat) (BitVec.ofNat 32 amount)).toInt))) := by
  obtain ⟨hn, hkd, hW, h5⟩ := shi_fields (w := 1) (by omega) (shi_kind_lt hk) (by decide) hv
  have hd : does (.shi (.core n) f) s.dev = s.dev.shi (.shi (.core n) f) (.core n) f := rfl
  simp only [Dev.shi, hn, hkd, hW, h5] at hd
  refine exec_coreDoes h rfl hd rfl (by simp only [show ¬ 31 < amount by omega]; rfl) ?_ (by simp) (by simp)
  simp only [Dev.x_eq, ← shiEval_eq _ ha hk, setWidth_eq_ofNat, signExtend_eq_ofInt]; rfl

/-- R86: SHI of 32 bits by more than 31: a free value. -/
theorem exec_shiW_free (ha : amount < 64) (hl : 32 ≤ amount) (hv : f.imm.toNat = amount + 64 * kind + 256) :
    ∃ v : BitVec 64, exec (.shi (.core n) f) s =
      .next (coreDoes { s with dev := { s.dev with free := s.dev.free + 1 } } n (fun c => c.setX f.rd.toNat v)) := by
  obtain ⟨hn, hkd, hW, h5⟩ := shi_fields (w := 1) ha (shi_kind_lt hk) (by decide) hv
  have hd : does (.shi (.core n) f) s.dev = s.dev.shi (.shi (.core n) f) (.core n) f := rfl
  simp only [Dev.shi, hn, hkd, hW, h5] at hd
  exact ⟨_, exec_coreDoesOn h rfl hd rfl (by simp only [show 31 < amount by omega]; rfl) rfl rfl (by simp) (by simp)⟩

omit hk in
/-- R86: bits of SHI's immediate above [8] are illegal. -/
theorem exec_shi_illegal (hv : 512 ≤ f.imm.toNat) : exec (.shi (.core n) f) s = .next (coreTraps s n 1 0 0) := by
  have hd : does (.shi (.core n) f) s.dev = s.dev.shi (.shi (.core n) f) (.core n) f := rfl
  simp only [Dev.shi] at hd
  exact exec_coreIllegal h rfl hd (decide_eq_true hv)

end Shi

/-- R79, R85: JAL on a core. -/
theorem exec_jal_core {s : State} {n : Nat} (h : CoreRuns s n 0) (f : JF) : exec (.jal (.core n) f) s =
    .next (coreGoes s n ((s.dev.core n).pc + BitVec.ofInt 64 (f.off.toInt * 4)).toNat (fun c => c.setX 1 (c.pc + 4))) := by
  have hd : does (.jal (.core n) f) s.dev = s.dev.jal (.jal (.core n) f) (.core n) f := rfl
  simp only [Dev.jal, wordsOn_eq] at hd
  exact exec_coreGoes h rfl hd rfl rfl rfl (by simp)

/-- R86: JALR on a core. -/
theorem exec_jalr_core {s : State} {n : Nat} (h : CoreRuns s n 0) (f : IF) : exec (.jalr (.core n) f) s =
    .next (coreGoes s n ((s.dev.core n).getX f.ra.toNat + BitVec.ofInt 64 f.imm.toInt).toNat (fun c => c.setX f.rd.toNat (c.pc + 4))) := by
  have hd : does (.jalr (.core n) f) s.dev = s.dev.jalr (.jalr (.core n) f) (.core n) f := rfl
  simp only [Dev.jalr, signExtend_eq_ofInt, Dev.x_eq] at hd
  exact exec_coreGoes h rfl hd rfl rfl rfl (by simp)

/-- R85: LUI and AUIPC on a core. -/
theorem exec_upper_core {s : State} {n : Nat} {i : Instr} {f : UF} {pc : Bool} (h : CoreRuns s n 0) (hw : i.wf = (Agent.core n).wf)
    (hd : does i s.dev = s.dev.upper i (.core n) f pc) :
    exec i s = .next (coreDoes s n (fun c => c.setX f.rd.toNat ((if pc then c.pc else 0) + BitVec.ofInt 64 (f.imm.toInt * 2048)))) := by
  simp only [Dev.upper, luiValue_eq] at hd
  exact exec_coreDoes h hw hd rfl rfl rfl (by simp) (by simp)

end Sys2Proof.Machine

namespace Sys2Proof

open Sys2Proof.Machine

/-- Settles O9: each result is the arithmetic of its rule, and only rd, the program counter and the count change. -/
theorem coreIntegerResults : Obligations.CoreIntegerResults := by
  unfold Obligations.CoreIntegerResults
  intro p hp s n f h hf
  fin_cases hp <;> exact exec_alu2_core h rfl rfl (by simp [hf])

/-- Settles O10, form by form: counts, .W forms, immediates, upper immediates, and SHI by the parts of its immediate. -/
theorem coreCountsAndImmediates : Obligations.CoreCountsAndImmediates := by
  unfold Obligations.CoreCountsAndImmediates
  refine ⟨⟨fun p hp s n f h hf hb => ?_, fun p hp s n f h hf => ?_⟩, ⟨fun p hp s n f h => ?_, fun s n f h => ⟨?_, ?_⟩⟩,
    fun s n f amount kind op h ha hk => ⟨exec_shi_core h hk ha, fun hv ha => exec_shiW_core h hk ha hv,
      fun hv hl => exec_shiW_free h hk ha hl hv, exec_shi_illegal h⟩⟩
  · fin_cases hp
    · exact exec_alu2_core (i := .clz (.core n) f) (op := .clz) h rfl rfl (by simp [hf, hb])
    · exact exec_alu2_core (i := .ctz (.core n) f) (op := .ctz) h rfl rfl (by simp [hf, hb])
    · exact exec_alu2_core (i := .popc (.core n) f) (op := .popc) h rfl rfl (by simp [hf, hb])
  · fin_cases hp <;> exact exec_aluW_core h rfl rfl hf
  · fin_cases hp <;> exact exec_aluI_core h rfl rfl
  · simpa using exec_upper_core h rfl (pc := false) (f := f) (i := .lui (.core n) f) rfl
  · exact exec_upper_core h rfl (pc := true) (f := f) (i := .auipc (.core n) f) rfl

/-- Settles O11: a branch goes by its comparison, a jump by its target; the core takes an aligned one and faults at another. -/
theorem coreBranchesAndJumps : Obligations.CoreBranchesAndJumps := by
  unfold Obligations.CoreBranchesAndJumps
  refine ⟨fun p hp s n f h => ?_, fun s n h => ⟨exec_jal_core h, exec_jalr_core h⟩⟩
  fin_cases hp
  · exact exec_branch_core h rfl (p := fun x y => x == y) rfl (fun _ _ => rfl)
  · exact exec_branch_core h rfl (p := fun x y => x != y) rfl (fun _ _ => by simp [bne]; rfl)
  · exact exec_branch_core h rfl (p := fun x y => x.slt y) rfl (fun _ _ => rfl)
  · exact exec_branch_core h rfl (p := fun x y => !x.slt y) rfl (fun _ _ => by simp only [BitVec.slt, ← decide_not, not_lt])
  · exact exec_branch_core h rfl (p := fun x y => x.ult y) rfl (fun _ _ => rfl)
  · exact exec_branch_core h rfl (p := fun x y => !x.ult y) rfl (fun _ _ => by simp only [BitVec.ult, ← decide_not, not_lt])

/-- Settles O13: ECALL's code is that of the level, EBREAK's address is its own. -/
theorem coreCallsTrap : Obligations.CoreTraps := by
  unfold Obligations.CoreTraps
  intro s n h
  have hc : does (.ecall (.core n) ⟨0, 0, 0⟩) s.dev = s.dev.onlyC _ (.core n) 0 (sysUsed ⟨0, 0, 0⟩) _ := rfl
  have hb : does (.ebreak (.core n) ⟨0, 0, 0⟩) s.dev = s.dev.ebreak _ (.core n) ⟨0, 0, 0⟩ := rfl
  have call := exec_coreTraps h rfl (hc.trans (Dev.onlyC_eq ..)) rfl rfl
  have brk := exec_coreTraps h rfl hb rfl rfl
  exact ⟨fun hl => by simpa [hl, callCode] using call, fun hl => by simpa [hl, callCode] using call,
    fun hl => by simpa [hl, callCode] using call, brk⟩

end Sys2Proof
end

section
/-! The integer instructions of a sheaf, its jumps, carry and select (R79, R81, R85 to R89). -/

namespace Sys2Proof.Machine

open Sys2Proof

/-! ## Predicates of the lanes -/

theorem testBit_foldr_bits (p : Nat → Bool) (l : List Nat) (i : Nat) :
    (l.foldr (fun a acc => (if p a then 1 else 0) + 2 * acc) 0).testBit i = (l[i]?.map p).getD false := by
  induction l generalizing i with
  | nil => simp
  | cons a l ih =>
    rw [List.foldr_cons]
    cases i with
    | zero => cases h : p a <;> simp [Nat.testBit_zero, h]
    | succ i =>
      rw [Nat.testBit_succ, show ((if p a then 1 else 0) + 2 * l.foldr (fun a acc => (if p a then 1 else 0) + 2 * acc) 0) / 2 =
        l.foldr (fun a acc => (if p a then 1 else 0) + 2 * acc) 0 by split <;> omega, ih]
      simp

@[simp] theorem getLsbD_maskOf (p : Nat → Bool) {l : Nat} (h : l < 256) : (maskOf p).getLsbD l = p l := by
  rw [maskOf, BitVec.getLsbD_ofNat, testBit_foldr_bits]
  simp [h]

/-- R81: a predicate after it is written. -/
theorem Sheaf.getP_putP_same (x : Sheaf) (p : Nat) (b : Nat → Bool) {l : Nat} (h : l < 256) :
    (x.putP p b).getP p l = if x.on l then b l else x.getP p l := by
  simp only [Sheaf.getP, Sheaf.putP, Sheaf.on, SMap.get_set_same, BitVec.getLsbD_or, BitVec.getLsbD_and, BitVec.getLsbD_not,
    getLsbD_maskOf b h]
  by_cases ho : x.mask.getLsbD l = true <;> simp only [ho, h] <;> simp

theorem Sheaf.getP_putP_other (x : Sheaf) {p q : Nat} (b : Nat → Bool) (h : q ≠ p) (l : Nat) : (x.putP p b).getP q l = x.getP q l := by
  simp [Sheaf.getP, Sheaf.putP, SMap.get_set_other _ _ _ h.symm]

/-- A predicate's write depends on the values of the 256 lanes alone. -/
theorem maskOf_congr {p q : Nat → Bool} (h : ∀ l, p l = q l) : maskOf p = maskOf q := by rw [funext h]

@[simp] theorem Sheaf.putAll_stack (x : Sheaf) (r : Nat) (f : Nat → BitVec 32) : (x.putAll r f).stack = x.stack := by
  unfold Sheaf.putAll; split <;> rfl
@[simp] theorem Sheaf.putV_stack (x : Sheaf) (r : Nat) (f : Nat → BitVec 32) : (x.putV r f).stack = x.stack := Sheaf.putAll_stack x r _

/-! ## Results of the lanes -/

theorem setWidth_add_ofInt (x : BitVec 64) (z : Int) : (x + BitVec.ofInt 64 z).setWidth 32 = BitVec.ofInt 32 (x.toNat + z) := by
  apply BitVec.eq_of_toNat_eq
  simp only [BitVec.toNat_setWidth, BitVec.toNat_add, BitVec.toNat_ofInt]
  omega

/-- R79: the link of a lane. -/
theorem setWidth_add_four (x : BitVec 64) : (x + 4).setWidth 32 = BitVec.ofNat 32 (x.toNat + 4) := by
  apply BitVec.eq_of_toNat_eq
  simp [BitVec.toNat_add]

theorem ofNat_wordsOn (pc : BitVec 64) (off : Int) : BitVec.ofNat 64 (wordsOn pc off) = pc + BitVec.ofInt 64 (off * 4) := by
  rw [wordsOn_eq, BitVec.ofNat_toNat, BitVec.setWidth_eq]

section Sheaf
variable {s : State} {t c r k : Nat} {i : Instr} (h : SheafRuns s t c r k) (hw : i.wf = (Agent.sheaf t c r k).wf)
include h hw

/-- R87, R88: an operation on two registers. -/
theorem exec_alu2_sheaf {op : AluOp} {f : RF} {bad : Bool} (hd : does i s.dev = s.dev.alu2 i (.sheaf t c r k) op f bad) (hb : bad = false) :
    exec i s = .next (sheafDoes s (sheafKey t c r k) (fun x =>
      x.putV f.rd.toNat (fun l => intMath op 32 (x.getV f.ra.toNat l) (x.getV f.rb.toNat l)))) := by
  subst hb
  exact exec_sheafDoes h hw hd rfl rfl (by simp only [aluEval_eq_intMath _ _ op (show 0 < 32 by decide)])

/-- R85: an operation on a register and an immediate. -/
theorem exec_aluI_sheaf {op : AluOp} {f : IF} {signed : Bool} (hd : does i s.dev = s.dev.aluI i (.sheaf t c r k) op f signed) :
    exec i s = .next (sheafDoes s (sheafKey t c r k) (fun x => x.putV f.rd.toNat (fun l => intMath op 32 (x.getV f.ra.toNat l)
      (if signed then BitVec.ofInt 32 f.imm.toInt else BitVec.ofNat 32 f.imm.toNat)))) :=
  exec_sheafDoes h hw hd rfl rfl
    (by simp only [aluEval_eq_intMath _ _ op (show 0 < 32 by decide), setWidth_eq_ofNat, signExtend_eq_ofInt])

/-- R85: LUI and AUIPC. -/
theorem exec_upper_sheaf {f : UF} {pc : Bool} (hd : does i s.dev = s.dev.upper i (.sheaf t c r k) f pc) :
    exec i s = .next (sheafDoes s (sheafKey t c r k) (fun x => x.putV f.rd.toNat (fun _ =>
      BitVec.ofInt 32 ((if pc then (x.pc.toNat : Int) else 0) + f.imm.toInt * 2048)))) := by
  refine exec_sheafDoes h hw hd rfl rfl ?_
  simp only [luiValue_eq, setWidth_add_ofInt]
  cases pc <;> rfl

end Sheaf

section Forms
variable {s : State} {t c r k : Nat} (h : SheafRuns s t c r k)
include h

/-- R86: SHI. -/
theorem exec_shi_sheaf {amount kind : Nat} {op : AluOp} {f : IF}
    (hk : (kind, op) ∈ [(0, AluOp.sll), (1, .srl), (2, .sra), (3, .ror)]) (ha : amount < 32) (hv : f.imm.toNat = amount + 64 * kind) :
    exec (.shi (.sheaf t c r k) f) s = .next (sheafDoes s (sheafKey t c r k) (fun x =>
      x.putV f.rd.toNat (fun l => intMath op 32 (x.getV f.ra.toNat l) (BitVec.ofNat 32 amount)))) := by
  obtain ⟨hn, hkd, hW, h5⟩ := shi_fields (v := f.imm.toNat) (w := 0) (show amount < 64 by omega) (shi_kind_lt hk) (by decide) (by simpa using hv)
  have hd : does (.shi (.sheaf t c r k) f) s.dev = s.dev.shi (.shi (.sheaf t c r k) f) (.sheaf t c r k) f := rfl
  simp only [Dev.shi, hn, hkd, hW, h5] at hd
  refine exec_sheafDoes h rfl hd (by simp [cause1]; omega) rfl ?_
  simp only [← shiEval_eq _ ha hk]

/-- R79, R85: JAL. -/
theorem exec_jal_sheaf (f : JF) : exec (.jal (.sheaf t c r k) f) s =
    .next (sheafJumps s (sheafKey t c r k) ((s.dev.sheaf (sheafKey t c r k)).pc + BitVec.ofInt 64 (f.off.toInt * 4))
      (fun x => x.putV 1 (fun _ => BitVec.ofNat 32 (x.pc.toNat + 4)))) := by
  have hd : does (.jal (.sheaf t c r k) f) s.dev = s.dev.jal (.jal (.sheaf t c r k) f) (.sheaf t c r k) f := rfl
  simp only [Dev.jal, setWidth_add_four] at hd
  rw [← ofNat_wordsOn]
  exact exec_sheafJumps h rfl hd rfl rfl rfl

/-- R86: JALR takes its target from the lowest active lane. -/
theorem exec_jalr_sheaf (f : IF) {l : Nat} (hl : (s.dev.sheaf (sheafKey t c r k)).first = some l) :
    exec (.jalr (.sheaf t c r k) f) s = .next (sheafJumps s (sheafKey t c r k)
      (BitVec.ofNat 64 ((s.dev.sheaf (sheafKey t c r k)).pc.toNat / 2 ^ 32 * 2 ^ 32 +
        ((s.dev.sheaf (sheafKey t c r k)).getV f.ra.toNat l + BitVec.ofInt 32 f.imm.toInt).toNat))
      (fun x => x.putV f.rd.toNat (fun _ => BitVec.ofNat 32 (x.pc.toNat + 4)))) := by
  have hd : does (.jalr (.sheaf t c r k) f) s.dev = s.dev.jalr (.jalr (.sheaf t c r k) f) (.sheaf t c r k) f := rfl
  simp only [Dev.jalr, setWidth_add_four, signExtend_eq_ofInt] at hd
  exact exec_sheafJumps h rfl hd rfl (by simp only [hl]; rfl) rfl

omit h in
/-- R89: a borrow says that the difference is negative. -/
theorem carryOp_sub (x y : BitVec 32) (b : Bool) :
    carryOp true x y b = (BitVec.ofInt 32 ((x.toNat : Int) - y.toNat - (if b then 1 else 0 : Nat)),
      decide ((x.toNat : Int) - y.toNat - (if b then 1 else 0 : Nat) < 0)) := by
  simp only [carryOp, if_true, Prod.mk.injEq, true_and, decide_eq_decide]
  omega

/-- R89: ADDC and SUBC. -/
theorem exec_carry_sheaf {i : Instr} {f : RF} {sub : Bool} (hw : i.wf = (Agent.sheaf t c r k).wf)
    (hd : does i s.dev = s.dev.carry i (.sheaf t c r k) f sub) (hf : f.fn2.toNat < 8) :
    exec i s = .next (sheafDoes s (sheafKey t c r k) (fun x =>
      let v := fun l => carryOp sub (x.getV f.ra.toNat l) (x.getV f.rb.toNat l) (x.getP f.fn2.toNat l)
      (x.putV f.rd.toNat (fun l => (v l).1)).putP f.fn2.toNat (fun l => (v l).2))) :=
  exec_sheafDoes h hw (hd.trans (Dev.onlyL_eq ..)) (by simp [cause1]; omega) rfl rfl

/-- R89: SEL. -/
theorem exec_sel_sheaf {f : RF} (hf : f.fn2.toNat < 8) :
    exec (.sel (.sheaf t c r k) f) s = .next (sheafDoes s (sheafKey t c r k) (fun x =>
      x.putV f.rd.toNat (fun l => if x.getP f.fn2.toNat l then x.getV f.ra.toNat l else x.getV f.rb.toNat l))) := by
  have hd : does (.sel (.sheaf t c r k) f) s.dev = s.dev.sel (.sel (.sheaf t c r k) f) (.sheaf t c r k) f := rfl
  exact exec_sheafDoes h rfl (hd.trans (Dev.onlyL_eq ..)) (by simp [cause1]; omega) rfl rfl

end Forms

end Sys2Proof.Machine

namespace Sys2Proof

open Sys2Proof.Machine

/-- Settles O21: the arithmetic of each form in every active lane, and what writes of registers and predicates leave. -/
theorem laneIntegersAndImmediates : Obligations.LaneIntegersAndImmediates := by
  unfold Obligations.LaneIntegersAndImmediates
  refine ⟨⟨fun p hp s t c r k f h hf hb => ?_, fun x r v l hl => ?_⟩, fun s t c r k h => ?_⟩
  · have hc : ∀ b, (f.fn2 != 0 || b) = b := by simp [hf]
    fin_cases hp <;> exact exec_alu2_sheaf h rfl rfl (by simp_all)
  · refine ⟨fun hr ho => Sheaf.getV_putV_on v hr hl ho, fun ho => Sheaf.getV_putV_off v hl ho, fun r' h' => Sheaf.getV_putV_other v h'.symm,
      x.putV_p r v, x.putV_mask r v, x.putV_pc r v, x.putV_stack r v, x.putV_lflags r v, fun p b => ⟨x.getP_putP_same p b hl, fun q hq => ?_, rfl, rfl⟩⟩
    exact x.getP_putP_other b hq l
  · dsimp only
    refine ⟨fun p hp f => ?_, fun f => ⟨?_, ?_⟩, fun f amount kind op ha hk hv => exec_shi_sheaf h hk ha hv, exec_jal_sheaf h,
      fun f l hl => exec_jalr_sheaf h f hl⟩
    · fin_cases hp <;> exact exec_aluI_sheaf h rfl rfl
    · simpa using exec_upper_sheaf h rfl (pc := false) (f := f) (i := .lui (.sheaf t c r k) f) rfl
    · exact exec_upper_sheaf h rfl (pc := true) (f := f) (i := .auipc (.sheaf t c r k) f) rfl

/-- Settles O22: the sum and the difference with the predicate, and the choice by it. -/
theorem laneCarryAndSelect : Obligations.LaneCarryAndSelect := by
  unfold Obligations.LaneCarryAndSelect
  intro s t c r k f h hf
  refine ⟨exec_carry_sheaf h (sub := false) rfl rfl hf, ?_, exec_sel_sheaf h hf, fun x b l hl ho => ?_⟩
  · have he := exec_carry_sheaf h (sub := true) (i := .subc (.sheaf t c r k) f) rfl rfl hf
    simpa only [carryOp_sub] using he
  · rw [x.getP_putP_same _ b hl, ho]; rfl

/-- Settles O12: register 0 by its reads and writes, and the link of JAL in both profiles. -/
theorem zeroRegisters : Obligations.ZeroRegisters := by
  unfold Obligations.ZeroRegisters
  refine ⟨fun c v => ⟨rfl, rfl⟩, fun x l v => ⟨rfl, rfl, rfl⟩, fun s n f h hpc => ?_, fun s t c r k l f h hl ho => ?_⟩
  · have ht : ((s.dev.core n).pc + BitVec.ofInt 64 (f.off.toInt * 4)).toNat % 4 = 0 := by
      rw [BitVec.toNat_add, BitVec.toNat_ofInt]; omega
    refine ⟨_, (exec_jal_core h f).trans (by rw [coreGoes, if_pos ht]), ?_⟩
    simp [coreJumps, CoreSt.getX, CoreSt.setX]
  · refine ⟨_, exec_jal_sheaf h f, ?_⟩
    simp only [sheafJumps, Dev.sheaf_setSheaf_same]
    exact (Sheaf.getV_putV_on _ one_ne_zero hl ho).trans (by rw [← setWidth_add_four, ← setWidth_eq_ofNat])

end Sys2Proof
end

section
/-! The system registers of a core (R102, R271). -/

namespace Sys2Proof.Machine

open Sys2Proof

section Csr
variable {d : Dev} {n lvl : Nat} {f : SysF} {op : CsrOp}

/-- R271: an access that the level, the table or a read-only register forbids. -/
theorem Dev.csrCore_illegal (h : csrKind f.csr.toNat = none ∨ (∃ w, csrKind f.csr.toNat = some (lvl, w) ∧ (d.core n).level < lvl) ∨
    (csrKind f.csr.toNat = some (lvl, false) ∧ (op = .rw ∨ f.ra ≠ 0))) : d.csrCore op f n = (.exc 1 0 0, d) := by
  rcases h with hk | ⟨w, hk, hl⟩ | ⟨hk, hw⟩
  · simp [Dev.csrCore, hk]
  · simp [Dev.csrCore, hk, hl]
  · have hw' : (op == .rw || f.ra != 0) = true := by simpa using hw
    simp only [Dev.csrCore, hk, hw', Bool.not_false, Bool.and_true, Bool.or_true, if_true]

/-- R271: a register that software writes and that holds what was written reads as it stands. -/
theorem Dev.csrRead_plain {k : Nat} (hk : csrKind k = some (lvl, true)) : d.csrRead n k = ((d.core n).getCsr k, d) := by
  have h : k ≠ 0x010 ∧ k ≠ 0x011 ∧ k ≠ 0x012 ∧ k ≠ 0x013 ∧ k ≠ 0x102 ∧ k ≠ 0x10B ∧ k ≠ 0x30B := by
    refine ⟨?_, ?_, ?_, ?_, ?_, ?_, ?_⟩ <;> rintro rfl <;> simp [csrKind] at hk
  obtain ⟨h1, h2, h3, h4, h5, h6, h7⟩ := h
  simp [Dev.csrRead, h1, h2, h3, h4, h5, h6, h7]

/-- What a write of a system register leaves there: the bits that the level may write. -/
def CoreSt.csrPut (c : CoreSt) (k v : Nat) : CoreSt :=
  c.setCsr k ((v &&& csrMask k c.level) ||| (c.getCsr k - (c.getCsr k &&& csrMask k c.level)))

theorem Dev.csrWrite_plain {k : Nat} (v : Nat) (hS : k ≠ 0x10A) (hM : k ≠ 0x30A) : d.csrWrite n k v = d.setCore n (fun c => c.csrPut k v) := by
  simp only [Dev.csrWrite, hS, hM, if_false]; rfl

variable (hk : csrKind f.csr.toNat = some (lvl, true)) (hl : lvl ≤ (d.core n).level)
include hk hl

/-- R102: an access that writes. -/
theorem Dev.csrCore_write (hw : op = .rw ∨ f.ra ≠ 0) (hS : f.csr.toNat ≠ 0x10A) (hM : f.csr.toNat ≠ 0x30A) :
    d.csrCore op f n = (.next, d.setCore n (fun c => (c.csrPut f.csr.toNat (op.eval ((d.core n).getCsr f.csr.toNat)
      ((d.core n).getX f.ra.toNat).toNat)).setX f.rd.toNat (BitVec.ofNat 64 ((d.core n).getCsr f.csr.toNat)))) := by
  have hw' : (op == .rw || f.ra != 0) = true := by simpa using hw
  simp only [Dev.csrCore, hk, hw', Dev.csrRead_plain hk, Dev.csrWrite_plain _ hS hM]
  simp [not_lt.mpr hl, Dev.putX, Dev.x]

/-- R102: CSRRS and CSRRC with RA = 0 read alone. -/
theorem Dev.csrCore_read (hw : op ≠ .rw) (hra : f.ra = 0) :
    d.csrCore op f n = (.next, d.setCore n (fun c => c.setX f.rd.toNat (BitVec.ofNat 64 ((d.core n).getCsr f.csr.toNat)))) := by
  have hw' : (op == .rw || f.ra != 0) = false := by simpa [hra] using hw
  simp only [Dev.csrCore, hk, hw', Dev.csrRead_plain hk]
  simp [not_lt.mpr hl, Dev.putX]

end Csr

section Exec
variable {s : State} {n lvl : Nat} {i : Instr} {f : SysF} {op : CsrOp} (h : CoreRuns s n 0) (hw : i.wf = (Agent.core n).wf)
  (hd : does i s.dev = s.dev.csr i (.core n) op f)
include h hw hd

theorem exec_csr_illegal (hk : csrKind f.csr.toNat = none ∨ (∃ w, csrKind f.csr.toNat = some (lvl, w) ∧ (s.dev.core n).level < lvl) ∨
    (csrKind f.csr.toNat = some (lvl, false) ∧ (op = .rw ∨ f.ra ≠ 0))) : exec i s = .next (coreTraps s n 1 0 0) :=
  exec_coreTraps h hw hd rfl (Dev.csrCore_illegal hk)

theorem exec_csr_write (hk : csrKind f.csr.toNat = some (lvl, true)) (hl : lvl ≤ (s.dev.core n).level) (hr : op = .rw ∨ f.ra ≠ 0)
    (hS : f.csr.toNat ≠ 0x10A) (hM : f.csr.toNat ≠ 0x30A) :
    exec i s = .next (coreDoes s n (fun c =>
      (c.setCsr f.csr.toNat ((op.eval ((s.dev.core n).getCsr f.csr.toNat) ((s.dev.core n).getX f.ra.toNat).toNat &&&
          csrMask f.csr.toNat (s.dev.core n).level) |||
        ((s.dev.core n).getCsr f.csr.toNat - ((s.dev.core n).getCsr f.csr.toNat &&& csrMask f.csr.toNat (s.dev.core n).level)))).setX
        f.rd.toNat (BitVec.ofNat 64 ((s.dev.core n).getCsr f.csr.toNat)))) :=
  exec_coreDoes h hw hd rfl (Dev.csrCore_write hk hl hr hS hM) rfl (by simp) (by simp)

theorem exec_csr_read (hk : csrKind f.csr.toNat = some (lvl, true)) (hl : lvl ≤ (s.dev.core n).level) (hr : op ≠ .rw) (hra : f.ra = 0) :
    exec i s = .next (coreDoes s n (fun c => c.setX f.rd.toNat (BitVec.ofNat 64 ((s.dev.core n).getCsr f.csr.toNat)))) :=
  exec_coreDoes h hw hd rfl (Dev.csrCore_read hk hl hr hra) rfl (by simp) (by simp)

end Exec

end Sys2Proof.Machine

namespace Sys2Proof

open Sys2Proof.Machine

/-- Settles O15: what is forbidden traps, what writes puts the bits of the level, and RA = 0 of CSRRS and CSRRC reads alone. -/
theorem coreSystemRegisters : Obligations.CoreSystemRegisters := by
  unfold Obligations.CoreSystemRegisters
  intro s n lvl f h
  dsimp only
  refine ⟨fun hk => exec_csr_illegal h rfl rfl (op := .rw) (hk.imp_right (Or.imp_right fun hf => ⟨hf, .inl rfl⟩)),
    fun hk => ?_, fun hk hl hS hM => ⟨exec_csr_write h rfl rfl (op := .rw) hk hl (.inl rfl) hS hM, fun hra => ?_, fun hra => ?_⟩⟩
  · have hk' := fun op : CsrOp => hk.imp_right (Or.imp_right fun hf => (⟨hf.1, .inr hf.2⟩ : _ ∧ (op = .rw ∨ f.ra ≠ 0)))
    exact ⟨exec_csr_illegal h rfl rfl (hk' .rs), exec_csr_illegal h rfl rfl (hk' .rc)⟩
  · exact ⟨exec_csr_write h rfl rfl (op := .rs) hk hl (.inr hra) hS hM, exec_csr_write h rfl rfl (op := .rc) hk hl (.inr hra) hS hM⟩
  · exact ⟨exec_csr_read h rfl rfl (op := .rs) hk hl (by decide) hra, exec_csr_read h rfl rfl (op := .rc) hk hl (by decide) hra⟩

end Sys2Proof
end

section
/-! Floating point on a core (R80, R87, R90, R91). -/

namespace Sys2Proof.Machine

open Sys2Proof

section Core
variable {s : State} {n : Nat} {i : Instr} (h : CoreRuns s n 0) (hw : i.wf = (Agent.core n).wf)
include h hw

/-- An instruction of floating point, given the rounding mode. -/
theorem exec_fpCore {bad : Bool} {badL : Option Nat} {fL : Nat → Dev → LEnd × Dev} {op : CoreSt → RMode → CoreSt} {g : CoreSt → CoreSt}
    {m : RMode} (hd : does i s.dev = s.dev.ghety i (.core n) 0 bad (fun n => Dev.fpCore n op) badL fL) (hb : bad = false)
    (hm : (s.dev.core n).rm = some m) (hg : op (s.dev.core n) m = g (s.dev.core n)) (hpc : ∀ c, (g c).pc = c.pc)
    (hr : ∀ c, (g c).retired = c.retired) : exec i s = .next (coreDoes s n g) := by
  exact exec_coreDoes h hw hd hb (g' := fun c => op c m) (by simp only [Dev.fpCore, hm]) hg (hpc _) (hr _)

end Core

/-- FN2 [0], D, of a legal FN2. -/
theorem fn2_dbl {w : Nat} {v : BitVec w} {dbl : Bool} (hw : 1 < w) (h : v = if dbl then 1 else 0) :
    v.getLsbD 0 = dbl ∧ decide (1 < v.toNat) = false := by
  subst h
  cases dbl <;> simp [BitVec.toNat_ofNat, Nat.mod_eq_of_lt (Nat.one_lt_two_pow (by omega : w ≠ 0))]
  omega

section Forms
variable {s : State} {n : Nat} {i : Instr} {m : RMode} (h : CoreRuns s n 0) (hw : i.wf = (Agent.core n).wf) (hm : (s.dev.core n).rm = some m)
include h hw hm

/-- R87, R90: an operation of two operands, of both profiles or of the core alone. -/
theorem exec_fp2_core {f : RF} {dbl : Bool} {op : FFmt → RMode → Nat → Nat → Nat × FFlags} (hf : f.fn2 = if dbl then 1 else 0)
    (hd : does i s.dev = s.dev.fp2 i (.core n) f false op ∨ does i s.dev = s.dev.fpDiv i (.core n) f false op) :
    exec i s = .next (coreDoes s n (fun c =>
      (c.setF f.rd.toNat (BitVec.ofNat 64 (op (fmtD dbl) m (c.fbits dbl f.ra.toNat) (c.fbits dbl f.rb.toNat)).1)).addFlags
        (op (fmtD dbl) m (c.fbits dbl f.ra.toNat) (c.fbits dbl f.rb.toNat)).2)) := by
  obtain ⟨h0, h1⟩ := fn2_dbl (by decide) hf
  simp only [Dev.fp2, Dev.fpDiv, h0, h1] at hd
  rcases hd with hd | hd
  · exact exec_fpCore h hw hd rfl hm rfl (fun _ => rfl) (fun _ => rfl)
  · exact exec_fpCore h hw (hd.trans (Dev.onlyC_eq ..)) rfl hm rfl (fun _ => rfl) (fun _ => rfl)

/-- R87, R90: the fused forms. -/
theorem exec_fma_core {f : R4F} {dbl np nc : Bool} (hf : f.fnhi = if dbl then 1 else 0)
    (hd : does i s.dev = s.dev.fma i (.core n) f np nc) :
    exec i s = .next (coreDoes s n (fun c =>
      (c.setF f.rd.toNat (BitVec.ofNat 64 (fmaOp np nc (fmtD dbl) m (c.fbits dbl f.ra.toNat) (c.fbits dbl f.rb.toNat)
        (c.fbits dbl f.rc.toNat)).1)).addFlags
        (fmaOp np nc (fmtD dbl) m (c.fbits dbl f.ra.toNat) (c.fbits dbl f.rb.toNat) (c.fbits dbl f.rc.toNat)).2)) := by
  obtain ⟨h0, h1⟩ := fn2_dbl (by decide) hf
  simp only [Dev.fma, h0, h1] at hd
  exact exec_fpCore h hw hd rfl hm rfl (fun _ => rfl) (fun _ => rfl)

/-- R90: compares and FCLASS. -/
theorem exec_fpX_core {f : RF} {dbl bad : Bool} {op : FFmt → Nat → Nat → Nat × FFlags} (hf : f.fn2 = if dbl then 1 else 0)
    (hb : bad = false) (hd : does i s.dev = s.dev.fpX i (.core n) f bad op) :
    exec i s = .next (coreDoes s n (fun c =>
      (c.setX f.rd.toNat (BitVec.ofNat 64 (op (fmtD dbl) (c.fbits dbl f.ra.toNat) (c.fbits dbl f.rb.toNat)).1)).addFlags
        (op (fmtD dbl) (c.fbits dbl f.ra.toNat) (c.fbits dbl f.rb.toNat)).2)) := by
  obtain ⟨h0, h1⟩ := fn2_dbl (by decide) hf
  simp only [Dev.fpX, h0, h1, hb] at hd
  exact exec_fpCore h hw hd rfl hm rfl (by simp) (by simp)

/-- R91: a 32-bit integer to binary32. -/
theorem exec_cvtFromInt_core {f : RF} {signed : Bool} (hb : (f.fn2 != 0 || f.rb != 0) = false)
    (hd : does i s.dev = s.dev.cvtFromInt i (.core n) f signed) :
    exec i s = .next (coreDoes s n (fun c =>
      (c.setF f.rd.toNat (BitVec.ofNat 64 (f32.ofInt m (if signed then ((c.getX f.ra.toNat).setWidth 32).toInt
        else ((c.getX f.ra.toNat).setWidth 32).toNat)).1)).addFlags (f32.ofInt m (if signed then ((c.getX f.ra.toNat).setWidth 32).toInt
        else ((c.getX f.ra.toNat).setWidth 32).toNat)).2)) := by
  simp only [Dev.cvtFromInt] at hd
  exact exec_fpCore h hw hd hb hm rfl (fun _ => rfl) (fun _ => rfl)

/-- An operation of a core alone. -/
theorem exec_fpC_core {bad : Bool} {op : CoreSt → RMode → CoreSt} {g : CoreSt → CoreSt} (hd : does i s.dev = s.dev.fpC i (.core n) bad op)
    (hb : bad = false) (hg : op (s.dev.core n) m = g (s.dev.core n)) (hpc : ∀ c, (g c).pc = c.pc) (hr : ∀ c, (g c).retired = c.retired) :
    exec i s = .next (coreDoes s n g) :=
  exec_fpCore h hw (hd.trans (Dev.onlyC_eq ..)) hb hm hg hpc hr

end Forms

end Sys2Proof.Machine

namespace Sys2Proof

open Sys2Proof.Machine

/-- Settles O17, group by group: each result rounded once by the mode that FCSR.RM names; no mode traps. -/
theorem coreFpResults : Obligations.CoreFpResults := by
  unfold Obligations.CoreFpResults
  intro s n h
  dsimp only
  refine ⟨fun p hp f dbl m hf hm => ?_, fun f dbl m hf hb hm => ?_, fun p hp f dbl m hf hm => ?_, fun p hp f m hf hb hm => ?_, fun f hf hm => ?_⟩
  · refine exec_fp2_core h (by fin_cases hp <;> rfl) hm hf ?_
    fin_cases hp
    iterate 3 exact .inl rfl
    · exact .inr rfl
    all_goals exact .inl rfl
  · have hd : does (.fsqrt (.core n) f) s.dev = s.dev.fpDiv (.fsqrt (.core n) f) (.core n) f false (fun g rm x _ => g.sqrt rm (g.unpack x)) := by
      have hb' : (f.rb != 0) = false := by simp [hb]
      rw [← hb']; rfl
    have he := exec_fp2_core h rfl hm hf (.inr hd)
    exact he
  · exact exec_fma_core h (by fin_cases hp <;> rfl) hm hf (by fin_cases hp <;> rfl)
  · have hb' : (f.fn2 != 0 || f.rb != 0) = false := by simp [hf, hb]
    fin_cases hp
    · exact exec_cvtFromInt_core h rfl hm hb' (signed := true) rfl
    · exact exec_cvtFromInt_core h rfl hm hb' (signed := false) rfl
    all_goals exact exec_fpC_core h rfl hm rfl hb' rfl (fun _ => rfl) (fun _ => rfl)
  · have hd : does (.fadd (.core n) f) s.dev = s.dev.fp2 (.fadd (.core n) f) (.core n) f false (fun g rm x y => g.add rm (g.unpack x) (g.unpack y)) := rfl
    simp only [Dev.fp2] at hd
    refine exec_coreTraps h rfl hd (by simp; omega) ?_
    simp only [Dev.fpCore, hm]

end Sys2Proof
end

section
/-! Conversions to integers on a core, and the special values of binary32 and binary64 (R90, R91). -/

namespace Sys2Proof.Machine

open Sys2Proof

/-- R91: a conversion to a 32-bit integer, its result sign-extended. -/
theorem exec_cvtToInt_core {s : State} {n : Nat} {i : Instr} {m : RMode} {f : RF} {signed : Bool} (h : CoreRuns s n 0)
    (hw : i.wf = (Agent.core n).wf) (hm : (s.dev.core n).rm = some m) (hb : (f.fn2 != 0 || f.rb != 0) = false)
    (hd : does i s.dev = s.dev.cvtToInt i (.core n) f signed) :
    exec i s = .next (coreDoes s n (fun c =>
      (c.setX f.rd.toNat (BitVec.ofInt 64 (BitVec.ofInt 32
        ((f32.unpack (c.fbits false f.ra.toNat)).toIntSat .rtz (intLo signed) (intHi signed)).1).toInt)).addFlags
        ((f32.unpack (c.fbits false f.ra.toNat)).toIntSat .rtz (intLo signed) (intHi signed)).2)) := by
  simp only [Dev.cvtToInt, signExtend_eq_ofInt] at hd
  exact exec_fpCore h hw hd hb hm rfl (by simp) (by simp)

theorem fmtD_width (dbl : Bool) : (fmtD dbl).width = if dbl then 64 else 32 := by cases dbl <;> rfl

section Special
variable (g : FFmt) (m : RMode)

theorem FFmt.add_nan {a b : FVal} (h : a.isNaN = true ∨ b.isNaN = true) : (g.add m a b).1 = g.nanBits := by
  cases a <;> cases b <;> simp_all [FVal.isNaN, FFmt.add]

theorem FVal.isNaN_neg (a : FVal) : a.neg.isNaN = a.isNaN := by cases a <;> rfl

theorem FFmt.sub_nan {a b : FVal} (h : a.isNaN = true ∨ b.isNaN = true) : (g.sub m a b).1 = g.nanBits :=
  g.add_nan m (by rwa [FVal.isNaN_neg])

theorem FFmt.mul_nan {a b : FVal} (h : a.isNaN = true ∨ b.isNaN = true) : (g.mul m a b).1 = g.nanBits := by
  cases a <;> cases b <;> simp_all [FVal.isNaN, FFmt.mul]

theorem FFmt.div_nan {a b : FVal} (h : a.isNaN = true ∨ b.isNaN = true) : (g.div m a b).1 = g.nanBits := by
  cases a <;> cases b <;> simp_all [FVal.isNaN, FFmt.div]

theorem FFmt.sqrt_nan {a : FVal} (h : a.isNaN = true) : (g.sqrt m a).1 = g.nanBits := by
  cases a <;> simp_all [FVal.isNaN, FFmt.sqrt]

theorem FFmt.convert_nan {a : FVal} (h : a.isNaN = true) : (g.convert m a).1 = g.nanBits := by
  cases a <;> simp_all [FVal.isNaN, FFmt.convert]

theorem FFmt.fma_nan {a b c : FVal} (h : a.isNaN = true ∨ b.isNaN = true ∨ c.isNaN = true) : (g.fma m a b c).1 = g.nanBits := by
  unfold FFmt.fma
  dsimp only
  by_cases hab : (a.isNaN || b.isNaN) = true
  · rw [if_pos hab]
  · have hc : c.isNaN = true := by simpa [or_assoc] using (or_assoc.mpr h).resolve_left (by simpa using hab)
    rw [if_neg hab, if_pos hc]

/-- R90: the ten classes, one bit each. -/
theorem FFmt.fclass_bit (x : Nat) : ∃ i < 10, g.fclass x = 2 ^ i := by
  unfold FFmt.fclass
  cases g.unpack x with
  | nan b => cases b <;> [exact ⟨9, by decide, rfl⟩; exact ⟨8, by decide, rfl⟩]
  | inf b => cases b <;> [exact ⟨7, by decide, rfl⟩; exact ⟨0, by decide, rfl⟩]
  | fin b k e =>
    dsimp only
    split_ifs
    exacts [⟨3, by decide, rfl⟩, ⟨4, by decide, rfl⟩, ⟨2, by decide, rfl⟩, ⟨5, by decide, rfl⟩, ⟨1, by decide, rfl⟩, ⟨6, by decide, rfl⟩]

/-- R91: a conversion to an integer lies between its bounds. -/
theorem FVal.toIntSat_range (a : FVal) {lo hi : Int} (hlo : lo ≤ 0) (hhi : 0 ≤ hi) : lo ≤ (a.toIntSat m lo hi).1 ∧ (a.toIntSat m lo hi).1 ≤ hi := by
  cases a with
  | nan => exact ⟨hlo, hhi⟩
  | inf b => cases b <;> simp [FVal.toIntSat] <;> omega
  | fin b k e => simp only [FVal.toIntSat]; split_ifs <;> constructor <;> dsimp only <;> omega

end Special

end Sys2Proof.Machine

namespace Sys2Proof

open Sys2Proof.Machine

/-- Settles O18: the forms with results in x registers, then the special values, operation by operation. -/
theorem coreFpToIntegerAndSpecialValues : Obligations.CoreFpToIntegerAndSpecialValues := by
  unfold Obligations.CoreFpToIntegerAndSpecialValues
  refine ⟨fun s n f m h hm => ⟨fun p hp dbl hf => ?_, fun dbl hf hb => ?_, fun p hp hf hb => ?_⟩, rfl, rfl, fun g _ m a b hab => ?_,
    fun g _ x y => ⟨fun hx hy => ?_, fun hx hy => ?_, fun hxy => ?_, g.fclass_bit x⟩, fun a m lo hi hlo hhi => ?_⟩
  · exact exec_fpX_core h (by fin_cases hp <;> rfl) hm hf rfl (by fin_cases hp <;> rfl)
  · have hb' : (f.rb != 0) = false := by simp [hb]
    obtain ⟨h0, h1⟩ := fn2_dbl (by decide) hf
    have hC : does (.fclass (.core n) f) s.dev = s.dev.fpX (.fclass (.core n) f) (.core n) f (f.rb != 0) (fun g x _ => (g.fclass x, 0)) := rfl
    have hc := exec_fpX_core h rfl hm hf hb' hC
    have hX : does (.fmvXf (.core n) f) s.dev = s.dev.fpC _ (.core n) _ _ := rfl
    have hF : does (.fmvFx (.core n) f) s.dev = s.dev.fpC _ (.core n) _ _ := rfl
    refine ⟨hc, exec_fpC_core h rfl hm hX (by rw [h1, hb']; rfl) ?_ (by simp) (by simp),
      exec_fpC_core h rfl hm hF (by rw [h1, hb']; rfl) ?_ (by simp) (by simp)⟩
    · simp only [CoreSt.fbits, h0, fmtD_width]
    · simp only [h0, fmtD_width]
  · have hb' : (f.fn2 != 0 || f.rb != 0) = false := by simp [hf, hb]
    fin_cases hp
    · exact exec_cvtToInt_core h rfl hm hb' (signed := true) rfl
    · exact exec_cvtToInt_core h rfl hm hb' (signed := false) rfl
    · have hL : does (.fcvtLD (.core n) f) s.dev = s.dev.fpC _ (.core n) _ _ := rfl
      exact exec_fpC_core h rfl hm hL hb' (by simp only [BitVec.ofInt_toInt]; rfl) (by simp) (by simp)
  · exact ⟨g.add_nan m hab, g.sub_nan m hab, g.mul_nan m hab, g.div_nan m hab, fun ha => ⟨g.sqrt_nan m ha, g.convert_nan m ha⟩,
      fun c => ⟨g.fma_nan m (hab.imp_right .inl), g.fma_nan m (.inr hab)⟩⟩
  · simp [FFmt.minOp, FFmt.maxOp, hx, hy]
  · simp [FFmt.minOp, FFmt.maxOp, hx, hy]
  · have hxy' : ((g.unpack x).isNaN || (g.unpack y).isNaN) = true := by simpa using hxy
    simp only [FFmt.amaxOp, hxy', if_true]
  · obtain ⟨h1, h2⟩ := a.toIntSat_range m hlo hhi
    refine ⟨h1, h2, fun ha => ?_, fun s e k ha => ⟨fun hr => ?_, fun hr => ?_⟩, fun s ha => by rw [ha]; rfl⟩
    · cases a <;> simp_all [FVal.isNaN, FVal.toIntSat]
    · simp only [ha, FVal.toIntSat, if_pos hr]
    · simp only [ha, FVal.toIntSat, if_neg (show ¬ (toIntRound m s k e).1 < lo by omega), gt_iff_lt, if_pos hr]

end Sys2Proof
end

section
/-! Instructions of the other profile and illegal words (R78, R86, R107). -/

namespace Sys2Proof.Machine

open Sys2Proof

section Core
variable {s : State} {n : Nat} {i : Instr} (h : CoreRuns s n 0) (hw : i.wf = (Agent.core n).wf)
include h hw

/-- R78: an instruction of Ghety-L alone is illegal on a core. -/
theorem exec_onlyL_core (hd : does i s.dev = s.dev.onCore n 0 true (fun d => (.next, d))) : exec i s = .next (coreTraps s n 1 0 0) :=
  exec_coreIllegal (badL := none) (f := fun _ d => (.next, d)) (fL := fun _ d => (.next, d)) h hw hd rfl

theorem exec_amo_illegal {op : AmoOp} {f : RF} (hd : does i s.dev = s.dev.amo i (.core n) op f) (hf : 8 ≤ f.fn2.toNat) :
    exec i s = .next (coreTraps s n 1 0 0) := by
  unfold Dev.amo Dev.atomic at hd
  exact exec_coreIllegal h hw hd (by simp; omega)

theorem exec_alu2_illegal {op : AluOp} {f : RF} {bad : Bool} (hd : does i s.dev = s.dev.alu2 i (.core n) op f bad) (hb : bad = true) :
    exec i s = .next (coreTraps s n 1 0 0) :=
  exec_coreIllegal h hw hd hb

end Core

/-- R107: a word that is illegal with cause 0x01 stops the lowest active lane `l`, and with an empty mask has no effect but to go on. -/
def StopsLane (s : State) (t c r k l : Nat) (i : Instr) : Prop :=
  ((s.dev.sheaf (sheafKey t c r k)).first = some l → exec i s =
    .next (leaves s (s.dev.laneException (sheafKey t c r k) 1 .illegalInstruction l (wordNat i)))) ∧
  ((s.dev.sheaf (sheafKey t c r k)).first = none → exec i s = .next (sheafDoes s (sheafKey t c r k) id))

section Sheaf
variable {s : State} {t c r k : Nat} {i : Instr} (h : SheafRuns s t c r k) (hw : i.wf = (Agent.sheaf t c r k).wf)
include h hw

theorem exec_cause1 {lvl l : Nat} {badC : Bool} {fC : Nat → Dev → CEnd × Dev} {fL : Nat → Dev → LEnd × Dev}
    (hd : does i s.dev = s.dev.ghety i (.sheaf t c r k) lvl badC fC (some 1) fL) :
    StopsLane s t c r k l i :=
  ⟨fun hl => exec_sheafIllegal h hw hd rfl hl, fun hl => exec_sheafSkips h hw hd rfl hl⟩

/-- R78: an instruction of Ghety-C alone in a sheaf. -/
theorem exec_onlyC_sheaf {lvl l : Nat} {bad : Bool} {f : Nat → Dev → CEnd × Dev} (hd : does i s.dev = s.dev.onlyC i (.sheaf t c r k) lvl bad f) :
    StopsLane s t c r k l i :=
  exec_cause1 h hw (hd.trans (Dev.onlyC_eq ..))

theorem exec_aluW_sheaf {l : Nat} {op : AluOp} {f : RF} (hd : does i s.dev = s.dev.aluW i (.sheaf t c r k) op f) :
    StopsLane s t c r k l i := by
  unfold Dev.aluW at hd
  exact exec_onlyC_sheaf h hw hd

theorem exec_alu2_sheaf_illegal {l : Nat} {op : AluOp} {f : RF} {bad : Bool} (hd : does i s.dev = s.dev.alu2 i (.sheaf t c r k) op f bad)
    (hb : bad = true) :
    StopsLane s t c r k l i := by
  subst hb
  exact exec_cause1 h hw hd

end Sheaf

/-- A field that is not 0. -/
theorem bne_zero {w : Nat} {v : BitVec w} (h : v ≠ 0) : (v != 0) = true := bne_iff_ne.mpr h

end Sys2Proof.Machine

namespace Sys2Proof

open Sys2Proof.Machine

/-- Settles O33, form by form: the other profile's instructions, and the fields a form does not use. -/
theorem profilesAndIllegalWords : Obligations.ProfilesAndIllegalWords := by
  unfold Obligations.ProfilesAndIllegalWords
  refine ⟨fun s n h => ⟨fun f => ⟨fun i hi => ?_, fun hf i hi => ?_, fun hf i hi => ?_, fun hf => ?_⟩, fun f i hi => ?_, fun f i hi => ?_⟩,
    fun s t c r k l h => ⟨fun f => ⟨fun i hi => ?_, fun hf i hi => ?_⟩, fun f i hi => ?_, fun f => ?_, fun f hf => ?_⟩⟩
  · fin_cases hi <;> exact exec_onlyL_core h rfl rfl
  · fin_cases hi <;> exact exec_alu2_illegal h rfl rfl (bne_zero hf)
  · have hb : (f.fn2 != 0 || f.rb != 0) = true := by simpa using hf
    fin_cases hi <;> exact exec_alu2_illegal h rfl rfl hb
  · exact exec_amo_illegal h rfl rfl hf
  · fin_cases hi <;> exact exec_onlyL_core h rfl rfl
  · fin_cases hi <;> exact exec_onlyL_core h rfl rfl
  · fin_cases hi <;> exact exec_aluW_sheaf h rfl rfl
  · have hb := bne_zero hf
    have hshf : does (.lshfl (.sheaf t c r k) f) s.dev = s.dev.lshfl (.lshfl (.sheaf t c r k) f) (.sheaf t c r k) f := rfl
    unfold Dev.lshfl Dev.laneOp at hshf
    rw [hb] at hshf
    simp only [List.mem_cons, List.not_mem_nil, or_false] at hi
    obtain rfl | rfl | rfl | rfl | rfl | rfl := hi
    iterate 5 exact exec_alu2_sheaf_illegal h rfl rfl hb
    exact exec_cause1 h rfl hshf
  · have hld : does (.ld (.sheaf t c r k) f) s.dev = s.dev.loadC (.ld (.sheaf t c r k) f) (.sheaf t c r k) f 8 true := rfl
    have hlwu : does (.lwu (.sheaf t c r k) f) s.dev = s.dev.loadC (.lwu (.sheaf t c r k) f) (.sheaf t c r k) f 4 false := rfl
    unfold Dev.loadC at hld hlwu
    fin_cases hi
    · exact exec_onlyC_sheaf h rfl hld
    · exact exec_onlyC_sheaf h rfl hlwu
    · exact exec_onlyC_sheaf h rfl rfl
  · exact exec_onlyC_sheaf h rfl rfl
  · have hb := bne_zero hf
    have hw : does (.rwait (.sheaf t c r k) f) s.dev = s.dev.rwait (.rwait (.sheaf t c r k) f) (.sheaf t c r k) f := rfl
    have hr : does (.brd (.sheaf t c r k) f) s.dev = s.dev.brd (.brd (.sheaf t c r k) f) (.sheaf t c r k) f := rfl
    unfold Dev.rwait at hw
    unfold Dev.brd at hr
    rw [hb] at hw hr
    exact ⟨(exec_cause1 h rfl hw).1, (exec_cause1 h rfl hr).1⟩

end Sys2Proof
end

section
/-! Predicates, branches on them and the mask stack of a sheaf (R84, R86, R87). -/

namespace Sys2Proof.Machine

open Sys2Proof

theorem cause1_none {b : Bool} (h : b = false) : cause1 b = none := by rw [h]; rfl

theorem pBad_eq_false {r : BitVec 5} (h : r.toNat < 8) : pBad r = false := by simp [pBad]; omega

theorem bne_zero_eq {w : Nat} (x : BitVec w) : (x != 0) = decide (x ≠ 0) := by simp [bne]; rfl

/-- R86: two masks share a lane. -/
theorem and_ne_zero_iff (p m : BitVec 256) : ((p &&& m) != 0) = true ↔ ∃ l < 256, m.getLsbD l = true ∧ p.getLsbD l = true := by
  rw [bne_iff_ne, ne_eq, BitVec.eq_of_getLsbD_eq_iff]
  simp only [BitVec.getLsbD_and, BitVec.ofNat_eq_ofNat, BitVec.getLsbD_zero, Bool.and_eq_false_imp, not_forall, Bool.not_eq_false]
  exact ⟨fun ⟨l, hl, hp, hm⟩ => ⟨l, hl, hm, hp⟩, fun ⟨l, hl, hm, hp⟩ => ⟨l, hl, hp, hm⟩⟩

section Sheaf
variable {s : State} {t c r k : Nat} {i : Instr} (h : SheafRuns s t c r k) (hw : i.wf = (Agent.sheaf t c r k).wf)
include h hw

/-- An instruction that only changes its sheaf. -/
theorem exec_laneOp_sheaf {bad : Option Nat} {g g' : Sheaf → Sheaf} (hd : does i s.dev = s.dev.laneOp i (.sheaf t c r k) bad g')
    (hb : bad = none) (hg : g' (s.dev.sheaf (sheafKey t c r k)) = g (s.dev.sheaf (sheafKey t c r k))) :
    exec i s = .next (sheafDoes s (sheafKey t c r k) g) := by
  unfold Dev.laneOp at hd
  exact exec_sheafDoes h hw (hd.trans (Dev.onlyL_eq ..)) hb rfl hg

/-- R87: a predicate from two predicates. -/
theorem exec_predOp_sheaf {f : RF} {op : Bool → Bool → Bool} (hd : does i s.dev = s.dev.predOp i (.sheaf t c r k) f op)
    (hf : f.fn2 = 0) (hrd : f.rd.toNat < 8) (hra : f.ra.toNat < 8) (hrb : f.rb.toNat < 8) :
    exec i s = .next (sheafDoes s (sheafKey t c r k) (fun x =>
      x.putP f.rd.toNat (fun l => op (x.getP f.ra.toNat l) (x.getP f.rb.toNat l)))) := by
  unfold Dev.predOp at hd
  exact exec_laneOp_sheaf h hw hd (cause1_none (by simp [pBad_eq_false, *])) rfl

/-- R87: a predicate from two registers. -/
theorem exec_pcmp_sheaf {f : RF} {op op' : BitVec 32 → BitVec 32 → Bool × FFlags} (hd : does i s.dev = s.dev.pcmp i (.sheaf t c r k) f op')
    (ho : ∀ x y, op' x y = op x y) (hf : f.fn2 = 0) (hrd : f.rd.toNat < 8) :
    exec i s = .next (sheafDoes s (sheafKey t c r k) (fun x =>
      (x.putP f.rd.toNat (fun l => (op (x.getV f.ra.toNat l) (x.getV f.rb.toNat l)).1)).addFlags
        (fun l => (op (x.getV f.ra.toNat l) (x.getV f.rb.toNat l)).2))) := by
  obtain rfl : op' = op := funext₂ ho
  unfold Dev.pcmp at hd
  exact exec_laneOp_sheaf h hw hd (cause1_none (by simp [pBad_eq_false, *])) rfl

/-- R84: a mask instruction that neither over- nor underflows the stack. -/
theorem exec_maskOp_sheaf {bad : Bool} {o : Sheaf → Bool} {g g' : Sheaf → Sheaf} (hd : does i s.dev = s.dev.maskOp i (.sheaf t c r k) bad o g')
    (hb : bad = false) (ho : o (s.dev.sheaf (sheafKey t c r k)) = false) (hg : g' (s.dev.sheaf (sheafKey t c r k)) = g (s.dev.sheaf (sheafKey t c r k))) :
    exec i s = .next (sheafDoes s (sheafKey t c r k) g) := by
  unfold Dev.maskOp at hd
  exact exec_sheafDoes h hw (hd.trans (Dev.onlyL_eq ..)) (cause1_none hb) (by simp only [ho, Bool.false_eq_true, if_false]) hg

/-- R84: a mask instruction that over- or underflows the stack. -/
theorem exec_maskOp_overflow {bad : Bool} {o : Sheaf → Bool} {g : Sheaf → Sheaf} {l : Nat} (hd : does i s.dev = s.dev.maskOp i (.sheaf t c r k) bad o g)
    (hb : bad = false) (ho : o (s.dev.sheaf (sheafKey t c r k)) = true) (hl : (s.dev.sheaf (sheafKey t c r k)).first = some l) :
    exec i s = .next { s with dev := s.dev.laneException (sheafKey t c r k) 3 .illegalInstruction l (wordNat i) } := by
  unfold Dev.maskOp at hd
  exact exec_sheafTraps h hw (hd.trans (Dev.onlyL_eq ..)) (cause1_none hb) (by simp only [ho, hl, if_true])

/-- R86: BANY and BNONE. -/
theorem exec_branchP_sheaf {f : BF} {any : Bool} (hd : does i s.dev = s.dev.branchP i (.sheaf t c r k) f any)
    (hra : f.ra.toNat < 8) (hrb : f.rb = 0) :
    exec i s = .next (if (((s.dev.sheaf (sheafKey t c r k)).p.get 0 f.ra.toNat &&& (s.dev.sheaf (sheafKey t c r k)).mask) != 0) == any
      then sheafJumps s (sheafKey t c r k) ((s.dev.sheaf (sheafKey t c r k)).pc + BitVec.ofInt 64 (f.off.toInt * 4)) id
      else sheafDoes s (sheafKey t c r k) id) := by
  unfold Dev.branchP at hd
  have hb : cause1 (decide (7 < f.ra.toNat) || f.rb != 0) = none := cause1_none (by simp [hrb]; omega)
  have hg := hd.trans (Dev.onlyL_eq ..)
  split
  case isTrue he =>
    rw [← ofNat_wordsOn]
    exact exec_sheafBranches h hw hg hb (if_pos he)
  case isFalse he => exact exec_sheafKeeps h hw hg hb (if_neg he)

/-- R86: BANY and BNONE with an unused field or a predicate above 7. -/
theorem exec_branchP_illegal {f : BF} {any : Bool} {l : Nat} (hd : does i s.dev = s.dev.branchP i (.sheaf t c r k) f any)
    (hl : (s.dev.sheaf (sheafKey t c r k)).first = some l) (hb : 8 ≤ f.ra.toNat ∨ f.rb ≠ 0) :
    exec i s = .next { s with dev := s.dev.laneException (sheafKey t c r k) 1 .illegalInstruction l (wordNat i) } := by
  unfold Dev.branchP at hd
  have hc : (decide (7 < f.ra.toNat) || f.rb != 0) = true := by simpa [Nat.lt_iff_add_one_le] using hb
  rw [hc] at hd
  exact (exec_cause1 h hw hd).1 hl

end Sheaf

end Sys2Proof.Machine

namespace Sys2Proof

open Sys2Proof.Machine

/-- Settles O23: the predicate forms lane by lane, the two branches, and the mask stack's cases. -/
theorem lanePredicatesAndMasks : Obligations.LanePredicatesAndMasks := by
  unfold Obligations.LanePredicatesAndMasks
  refine ⟨fun s t c r k f h hf => ⟨fun hrd hra hrb => ⟨?_, ?_, ?_, fun hb => ?_⟩, fun hrd hb => ?_, fun hb ha => ?_, fun hb hd => ?_,
      fun hrd p hp => ?_⟩, fun s t c r k f h => ⟨fun hra hrb => ⟨fun he => ?_, fun he => ?_⟩, fun l hl hb => ?_⟩, fun s t c r k ra h hra => ?_⟩
  · exact exec_predOp_sheaf h rfl (op := fun x y => x && y) rfl hf hrd hra hrb
  · exact exec_predOp_sheaf h rfl (op := fun x y => x || y) rfl hf hrd hra hrb
  · exact exec_predOp_sheaf h rfl (op := fun x y => x != y) rfl hf hrd hra hrb
  · exact exec_laneOp_sheaf h rfl rfl (cause1_none (by simp [pBad_eq_false, *])) rfl
  · exact exec_laneOp_sheaf h rfl rfl (cause1_none (by simp [pBad_eq_false, *])) (by simp only [bne_zero_eq])
  · exact exec_laneOp_sheaf h rfl rfl (cause1_none (by simp [hf, hb, ha])) rfl
  · exact exec_laneOp_sheaf h rfl rfl (cause1_none (by simp [hf, hb, hd])) rfl
  · fin_cases hp
    · exact exec_pcmp_sheaf h rfl (op' := fun x y => (x == y, 0)) rfl (fun x y => rfl) hf hrd
    · exact exec_pcmp_sheaf h rfl (op' := fun x y => (x != y, 0)) rfl (fun x y => by simp [bne]; rfl) hf hrd
    · exact exec_pcmp_sheaf h rfl (op' := fun x y => (x.slt y, 0)) rfl (fun x y => rfl) hf hrd
    · exact exec_pcmp_sheaf h rfl (op' := fun x y => (!x.slt y, 0)) rfl (fun x y => by simp only [BitVec.slt, ← decide_not, not_lt]) hf hrd
    · exact exec_pcmp_sheaf h rfl (op' := fun x y => (x.ult y, 0)) rfl (fun x y => rfl) hf hrd
    · exact exec_pcmp_sheaf h rfl (op' := fun x y => (!x.ult y, 0)) rfl (fun x y => by simp only [BitVec.ult, ← decide_not, not_lt]) hf hrd
    · exact exec_pcmp_sheaf h rfl (op' := fun x y => f32.feq x.toNat y.toNat) rfl (fun x y => rfl) hf hrd
    · exact exec_pcmp_sheaf h rfl (op' := fun x y => f32.flt x.toNat y.toNat) rfl (fun x y => rfl) hf hrd
    · exact exec_pcmp_sheaf h rfl (op' := fun x y => f32.fle x.toNat y.toNat) rfl (fun x y => rfl) hf hrd
    · exact exec_pcmp_sheaf h rfl (op' := fcmpUn) rfl (fun x y => rfl) hf hrd
  · have hp := (and_ne_zero_iff ((s.dev.sheaf (sheafKey t c r k)).p.get 0 f.ra.toNat) _).2 he
    exact ⟨(exec_branchP_sheaf h rfl (any := true) rfl hra hrb).trans (by rw [hp]; rfl),
      (exec_branchP_sheaf h rfl (any := false) rfl hra hrb).trans (by rw [hp]; rfl)⟩
  · have hp := Bool.eq_false_iff.2 fun hp => by
      obtain ⟨l, hl, hm, hv⟩ := (and_ne_zero_iff ((s.dev.sheaf (sheafKey t c r k)).p.get 0 f.ra.toNat) _).1 hp
      exact Bool.false_ne_true ((he l hl hm).symm.trans hv)
    exact ⟨(exec_branchP_sheaf h rfl (any := true) rfl hra hrb).trans (by rw [hp]; rfl),
      (exec_branchP_sheaf h rfl (any := false) rfl hra hrb).trans (by rw [hp]; rfl)⟩
  · exact ⟨exec_branchP_illegal h rfl (any := true) rfl hl hb, exec_branchP_illegal h rfl (any := false) rfl hl hb⟩
  · have hb := pBad_eq_false hra
    refine ⟨fun hl => exec_maskOp_sheaf h rfl (o := fun x => decide (16 ≤ x.stack.length)) rfl hb (decide_eq_false (Nat.not_le.2 hl)) rfl, fun m rest hm => ⟨?_, ?_⟩,
      fun l hl => ⟨fun hm => exec_maskOp_overflow h rfl (o := fun x => decide (16 ≤ x.stack.length)) rfl hb (decide_eq_true hm) hl, fun hm => ⟨?_, ?_⟩⟩⟩
    · exact exec_maskOp_sheaf h rfl (o := fun x => x.stack.isEmpty) rfl hb (by simp only [hm, List.isEmpty_cons]) (by simp only [hm, List.headD_cons])
    · exact exec_maskOp_sheaf h rfl (o := fun x => x.stack.isEmpty) rfl rfl (by simp only [hm, List.isEmpty_cons])
        (by simp only [hm, List.headD_cons, List.tail_cons])
    · exact exec_maskOp_overflow h rfl (o := fun x => x.stack.isEmpty) rfl hb (by simp only [hm, List.isEmpty_nil]) hl
    · exact exec_maskOp_overflow h rfl (o := fun x => x.stack.isEmpty) rfl rfl (by simp only [hm, List.isEmpty_nil]) hl

end Sys2Proof
end

section
/-! Floating point, conversions and special functions of a sheaf (R90 to R93, R121). -/

namespace Sys2Proof.Machine

open Sys2Proof

/-- A sheaf with results in the register `rd` of its active lanes and their flags in LFLAGS. -/
def Sheaf.putFlagged (x : Sheaf) (rd : Nat) (r : Nat → BitVec 32 × FFlags) : Sheaf :=
  (x.putV rd (fun l => (r l).1)).addFlags (fun l => (r l).2)

/-- A result of 32 bits with its flags. -/
def bits32 (v : Nat × FFlags) : BitVec 32 × FFlags := (BitVec.ofNat 32 v.1, v.2)

section Sheaf
variable {s : State} {t c r k : Nat} {i : Instr} (h : SheafRuns s t c r k) (hw : i.wf = (Agent.sheaf t c r k).wf)
include h hw

/-- R90: an operation of two operands with a floating-point result, in binary32 and to nearest even. -/
theorem exec_fp2_sheaf {f : RF} (op : FFmt → RMode → Nat → Nat → Nat × FFlags) (hd : does i s.dev = s.dev.fp2 i (.sheaf t c r k) f false op)
    (hf : f.fn2 = 0) :
    exec i s = .next (sheafDoes s (sheafKey t c r k) (fun x =>
      x.putFlagged f.rd.toNat (fun l => bits32 (op f32 .rne (x.getV f.ra.toNat l).toNat (x.getV f.rb.toNat l).toNat)))) := by
  unfold Dev.fp2 at hd
  exact exec_sheafDoes h hw hd (cause1_none (by simp [hf])) rfl rfl

/-- R90: a compare or FCLASS. -/
theorem exec_fpX_sheaf {f : RF} {bad : Bool} (op : FFmt → Nat → Nat → Nat × FFlags)
    (hd : does i s.dev = s.dev.fpX i (.sheaf t c r k) f bad op) (hb : bad = false) (hf : f.fn2 = 0) :
    exec i s = .next (sheafDoes s (sheafKey t c r k) (fun x =>
      x.putFlagged f.rd.toNat (fun l => bits32 (op f32 (x.getV f.ra.toNat l).toNat (x.getV f.rb.toNat l).toNat)))) := by
  unfold Dev.fpX at hd
  exact exec_sheafDoes h hw hd (cause1_none (by simp [hb, hf])) rfl rfl

/-- R87: a fused multiply-add. -/
theorem exec_fma_sheaf {f : R4F} {np nc : Bool} (hd : does i s.dev = s.dev.fma i (.sheaf t c r k) f np nc) (hf : f.fnhi = 0) :
    exec i s = .next (sheafDoes s (sheafKey t c r k) (fun x => x.putFlagged f.rd.toNat (fun l =>
      bits32 (fmaOp np nc f32 .rne (x.getV f.ra.toNat l).toNat (x.getV f.rb.toNat l).toNat (x.getV f.rc.toNat l).toNat)))) := by
  unfold Dev.fma at hd
  exact exec_sheafDoes h hw hd (cause1_none (by simp [hf])) rfl rfl

/-- R91: a conversion of a 32-bit integer. -/
theorem exec_cvtFromInt_sheaf {f : RF} {signed : Bool} (hd : does i s.dev = s.dev.cvtFromInt i (.sheaf t c r k) f signed)
    (hf : f.fn2 = 0) (hb : f.rb = 0) :
    exec i s = .next (sheafDoes s (sheafKey t c r k) (fun x => x.putFlagged f.rd.toNat (fun l =>
      bits32 (f32.ofInt .rne (if signed then (x.getV f.ra.toNat l).toInt else ((x.getV f.ra.toNat l).toNat : Int)))))) := by
  unfold Dev.cvtFromInt at hd
  exact exec_sheafDoes h hw hd (cause1_none (by simp [hf, hb])) rfl rfl

/-- R91: a conversion to a 32-bit integer. -/
theorem exec_cvtToInt_sheaf {f : RF} {signed : Bool} (hd : does i s.dev = s.dev.cvtToInt i (.sheaf t c r k) f signed)
    (hf : f.fn2 = 0) (hb : f.rb = 0) :
    exec i s = .next (sheafDoes s (sheafKey t c r k) (fun x => x.putFlagged f.rd.toNat (fun l =>
      let v := (f32.unpack (x.getV f.ra.toNat l).toNat).toIntSat .rtz (intLo signed) (intHi signed); (BitVec.ofInt 32 v.1, v.2)))) := by
  unfold Dev.cvtToInt at hd
  exact exec_sheafDoes h hw hd (cause1_none (by simp [hf, hb])) rfl rfl

/-- R121: a special function. -/
theorem exec_sfu_sheaf {f : RF} {op : SfuOp} (hd : does i s.dev = s.dev.sfu i (.sheaf t c r k) f op) (hf : f.fn2 = 0) (hb : f.rb = 0) :
    exec i s = .next (sheafDoes s (sheafKey t c r k) (fun x => x.putFlagged f.rd.toNat (fun l => sfuEval op (x.getV f.ra.toNat l)))) := by
  unfold Dev.sfu at hd
  exact exec_laneOp_sheaf h hw hd (cause1_none (by simp [hf, hb])) rfl

/-- R93: a quantising helper. -/
theorem exec_quant_sheaf {f : RF} {bad1 bad4 : Bool} (op : BitVec 32 → BitVec 32 × FFlags)
    (hd : does i s.dev = s.dev.quant i (.sheaf t c r k) f bad1 bad4 op) (h1 : bad1 = false) (h4 : bad4 = false) (hb : f.rb = 0) :
    exec i s = .next (sheafDoes s (sheafKey t c r k) (fun x => x.putFlagged f.rd.toNat (fun l => op (x.getV f.ra.toNat l)))) := by
  unfold Dev.quant at hd
  exact exec_sheafDoes h hw (hd.trans (Dev.onlyL_eq ..)) (by simp [orCause, cause1, h1, h4, hb]) rfl rfl

end Sheaf

/-- A form of one register field: FN2 below 16 has bit 4 clear. -/
theorem fn2_four {v : BitVec 5} (h : v.toNat < 16) : v.getLsbD 4 = false ∧ v.toNat % 16 = v.toNat :=
  ⟨Nat.testBit_lt_two_pow h, Nat.mod_eq_of_lt h⟩

end Sys2Proof.Machine

namespace Sys2Proof

open Sys2Proof.Machine

/-- Settles O24, form by form. -/
theorem laneFloatResults : Obligations.LaneFloatResults := by
  unfold Obligations.LaneFloatResults
  intro s t c r k f h
  refine ⟨fun p hp hf => ?_, fun hf hb p hp => ?_, fun p hp => ?_, fun hf => ?_, fun hb hf hq => ?_, fun hb hf hq => ?_, fun hb hf => ?_,
    fun p hp g hg hr => ?_⟩
  · fin_cases hp
    · exact exec_fp2_sheaf h rfl (fun g rm x y => g.add rm (g.unpack x) (g.unpack y)) rfl hf
    · exact exec_fp2_sheaf h rfl (fun g rm x y => g.sub rm (g.unpack x) (g.unpack y)) rfl hf
    · exact exec_fp2_sheaf h rfl (fun g rm x y => g.mul rm (g.unpack x) (g.unpack y)) rfl hf
    · exact exec_fp2_sheaf h rfl (fun g _ x y => g.minOp x y) rfl hf
    · exact exec_fp2_sheaf h rfl (fun g _ x y => g.maxOp x y) rfl hf
    · exact exec_fp2_sheaf h rfl (fun g _ x y => g.amaxOp x y) rfl hf
    · exact exec_fp2_sheaf h rfl (fun g _ x y => (g.sgnj false false x y, 0)) rfl hf
    · exact exec_fp2_sheaf h rfl (fun g _ x y => (g.sgnj true false x y, 0)) rfl hf
    · exact exec_fp2_sheaf h rfl (fun g _ x y => (g.sgnj false true x y, 0)) rfl hf
    · exact exec_fpX_sheaf h rfl (fun g x y => b01 (g.feq x y)) rfl rfl hf
    · exact exec_fpX_sheaf h rfl (fun g x y => b01 (g.flt x y)) rfl rfl hf
    · exact exec_fpX_sheaf h rfl (fun g x y => b01 (g.fle x y)) rfl rfl hf
  · fin_cases hp
    · exact exec_fpX_sheaf h rfl (fun g x _ => (g.fclass x, 0)) rfl (by simp [hb]) hf
    · exact exec_cvtFromInt_sheaf h rfl (signed := true) rfl hf hb
    · exact exec_cvtFromInt_sheaf h rfl (signed := false) rfl hf hb
    · exact exec_cvtToInt_sheaf h rfl (signed := true) rfl hf hb
    · exact exec_cvtToInt_sheaf h rfl (signed := false) rfl hf hb
    all_goals exact exec_sfu_sheaf h rfl rfl hf hb
  · have hd : does (.npack (.sheaf t c r k) p f) s.dev = s.dev.npack (.npack (.sheaf t c r k) p f) (.sheaf t c r k) p.toNat f := rfl
    unfold Dev.npack at hd
    exact exec_sheafDoes h rfl (hd.trans (Dev.onlyL_eq ..)) (if_pos hp) rfl rfl
  · have hd : does (.nunpk (.sheaf t c r k) f) s.dev = s.dev.nunpk (.nunpk (.sheaf t c r k) f) (.sheaf t c r k) f := rfl
    unfold Dev.nunpk at hd
    exact exec_sheafDoes h rfl (hd.trans (Dev.onlyL_eq ..)) (cause1_none (decide_eq_false (Nat.not_lt.2 hf))) rfl rfl
  · obtain ⟨h4, hm⟩ := fn2_four hf
    have he := exec_quant_sheaf h rfl (i := .qscaleMx (.sheaf t c r k) f) (fun x => (qscaleMx (f.fn2.toNat % 16) x, 0)) rfl h4 (by simpa [hm] using hq) hb
    rwa [hm] at he
  · obtain ⟨h4, hm⟩ := fn2_four hf
    have he := exec_quant_sheaf h rfl (i := .qscaleF16 (.sheaf t c r k) f) (fun x => (qscaleF16 (f.fn2.toNat % 16) x, 0)) rfl h4 (by simpa [hm] using hq) hb
    rwa [hm] at he
  · have hq : f.fn2.getLsbD 0 = decide (f.fn2 = 1) := by
      obtain hv | hv : f.fn2 = 0 ∨ f.fn2 = 1 := by bv_omega
      all_goals rw [hv]; rfl
    have he := exec_quant_sheaf h rfl (i := .qinv (.sheaf t c r k) f) (fun x => qinv (f.fn2.getLsbD 0) x) rfl (decide_eq_false (by omega)) rfl hb
    rwa [hq] at he
  · rw [← hr]
    fin_cases hp <;> exact exec_fma_sheaf h rfl rfl hg

end Sys2Proof
end

section
/-! The generator of the lanes and lane control (R102 to R104, R115, R122, R373 to R375). -/

namespace Sys2Proof.Machine

open Sys2Proof

/-! ## The generator -/

theorem iter_add {α : Type} (f : α → α) (m n : Nat) (x : α) : iter (m + n) f x = iter n f (iter m f x) := by
  induction m generalizing x with
  | zero => rw [Nat.zero_add]; rfl
  | succ m ih => rw [Nat.succ_add]; exact ih (f x)

/-- R373: the step as integers modulo 2^128. -/
theorem lcgStep_eq_ofNat (v : BitVec 128) :
    lcgStep v = BitVec.ofNat 128 (0x9E6C63D0676A9A99D1B7C5E34F0A2B65 * v.toNat + 0x1B03738712FAD5C9A3E40F8D6B217C4F) := by
  rw [lcgStep, lcgA, lcgC, BitVec.ofNat_add, BitVec.ofNat_mul, BitVec.ofNat_toNat, BitVec.setWidth_eq]
  rfl

/-- One round of the jump-ahead: the affine map squared, and applied when the bit of the count is 1. -/
def skipRound (n : BitVec 128) (st : BitVec 128 × BitVec 128 × BitVec 128) (i : Nat) : BitVec 128 × BitVec 128 × BitVec 128 :=
  (st.1 * st.1, st.1 * st.2.1 + st.2.1, if n.getLsbD i then st.1 * st.2.2 + st.2.1 else st.2.2)

/-- R375: after `i` rounds the map is that of 2^i steps, and the state has gone as many steps as the low `i` bits of the count say. -/
theorem skipRounds (n v : BitVec 128) (i : Nat) :
    (∀ x, ((List.range i).foldl (skipRound n) (lcgA, lcgC, v)).1 * x + ((List.range i).foldl (skipRound n) (lcgA, lcgC, v)).2.1 =
      iter (2 ^ i) lcgStep x) ∧
    ((List.range i).foldl (skipRound n) (lcgA, lcgC, v)).2.2 = iter (n.toNat % 2 ^ i) lcgStep v := by
  induction i with
  | zero => exact ⟨fun x => rfl, by rw [pow_zero, Nat.mod_one]; rfl⟩
  | succ i ih =>
    obtain ⟨hmap, hstate⟩ := ih
    rw [List.range_succ, List.foldl_append, List.foldl_cons, List.foldl_nil]
    generalize (List.range i).foldl (skipRound n) (lcgA, lcgC, v) = st at hmap hstate
    refine ⟨fun x => ?_, ?_⟩
    · rw [pow_succ, mul_two, iter_add, ← hmap, ← hmap, skipRound]
      ring
    · have hbit := Nat.mod_pow_succ (x := n.toNat) (b := 2) (k := i)
      have hdiv : n.getLsbD i = decide (n.toNat / 2 ^ i % 2 = 1) := Nat.testBit_eq_decide_div_mod_eq
      rw [skipRound, hdiv, hbit, iter_add, ← hstate]
      rcases Nat.mod_two_eq_zero_or_one (n.toNat / 2 ^ i) with h2 | h2 <;> rw [h2]
      · rfl
      · rw [mul_one, ← hmap]; rfl

/-- R375: jump-ahead takes `n` steps. -/
theorem lcgSkip_eq_iter (n v : BitVec 128) : lcgSkip n v = iter n.toNat lcgStep v := by
  have hs := (skipRounds n v 128).2
  rw [Nat.mod_eq_of_lt n.isLt] at hs
  rw [← hs]
  unfold lcgSkip skipRound
  rfl

/-- R122: a count of 32 bits. -/
theorem lcgSkip_setWidth (n : BitVec 32) (v : BitVec 128) : lcgSkip (n.setWidth 128) v = iter n.toNat lcgStep v := by
  rw [lcgSkip_eq_iter, BitVec.toNat_setWidth, Nat.mod_eq_of_lt (by omega)]

/-- R122: a lane's generator state after it is written. -/
theorem Sheaf.rngOf_putRng (x : Sheaf) (g : Nat → BitVec 128) {l : Nat} (h : l < 256) :
    (x.putRng g).rngOf l = if x.on l then g l else x.rngOf l := by
  rw [Sheaf.rngOf, Sheaf.putRng, lane_map _ _ h]

theorem shiftRight_setWidth {w v n : Nat} (x : BitVec w) : (x >>> n).setWidth v = BitVec.ofNat v (x.toNat / 2 ^ n) := by
  rw [setWidth_eq_ofNat, BitVec.toNat_ushiftRight, Nat.shiftRight_eq_div_pow]

/-- R83: a run of registers that starts above register 0 and ends within them. -/
theorem runBad_eq_false {r n : Nat} (h0 : 0 < r) (h : r + n ≤ 32) : runBad r n = false := by
  simp [runBad]; omega

theorem rngBad_none {b : Bool} {runs : List (BitVec 5 × Nat)} (hb : b = false) (hr : ∀ r ∈ runs, runBad r.1.toNat r.2 = false) :
    rngBad b runs = none := by
  have ha : runs.any (fun r => runBad r.1.toNat r.2) = false := List.any_eq_false.2 fun r h => by simp [hr r h]
  simp [rngBad, hb, ha, orCause, cause1]

/-! ## Lane control -/

/-- R103: the value of a system register that a lane reads, register and sheaf unchanged but for rd. -/
theorem Dev.csrLane_read {d : Dev} {op : CsrOp} {f : SysF} {k l : Nat} {v : Nat → Nat} (hl : (d.sheaf k).first = some l)
    (hw : (op == .rw || f.ra != 0) = false) (h8 : f.csr.toNat ≠ 8) (hv : ∀ j, d.laneCsr k f.csr.toNat j = some (v j)) :
    d.csrLane op f k = (.next, d.setSheaf k (fun x => x.putV f.rd.toNat (fun j => BitVec.ofNat 32 (v j)))) := by
  simp only [Dev.csrLane, hl, hw, hv, h8, Option.isNone_some, Bool.false_and, Bool.or_self, Bool.false_eq_true, if_false, Option.getD_some]

@[simp] theorem Sheaf.putV_timeHi (x : Sheaf) (r : Nat) (f : Nat → BitVec 32) : (x.putV r f).timeHi = x.timeHi := by
  unfold Sheaf.putV Sheaf.putAll; split <;> rfl

/-- R103: a sheaf after a read of TIMELO. -/
def Sheaf.latchTime (rd time : Nat) (x : Sheaf) : Sheaf :=
  { x.putV rd (fun _ => BitVec.ofNat 32 (time % 2 ^ 32)) with timeHi := (List.range 256).map (fun j =>
      if x.on j then BitVec.ofNat 32 (time / 2 ^ 32) else lane 0 x.timeHi j) }

/-- R102: a sheaf after CSRRW of LFLAGS. -/
def Sheaf.swapLflags (ra rd : Nat) (x : Sheaf) : Sheaf :=
  { x.putV rd (fun j => BitVec.ofNat 32 (x.getL j).toNat) with lflags := (List.range 256).map (fun j =>
      if x.on j then BitVec.ofNat 5 (x.getV ra j).toNat else x.getL j) }

/-- R103: a read of TIMELO latches TIMEHI in the active lanes. -/
theorem Dev.csrLane_timelo {d : Dev} {rd : BitVec 5} {k l : Nat} (hl : (d.sheaf k).first = some l) :
    d.csrLane .rs ⟨8, 0, rd⟩ k = (.next, d.setSheaf k (Sheaf.latchTime rd.toNat d.time)) := by
  have hc : (d.laneCsr k 8 0).isNone = false := rfl
  have hv : ∀ j, (d.laneCsr k 8 j).getD 0 = d.time % 2 ^ 32 := fun _ => rfl
  simp only [Dev.csrLane, hl, hv, show (8 : BitVec 12).toNat = 8 from rfl, hc, show (CsrOp.rs == .rw || (0 : BitVec 5) != 0) = false from rfl,
    Bool.false_and, Bool.or_self, Bool.false_eq_true, if_false, if_true, Dev.setSheaf_setSheaf, Dev.setSheaf_time]
  congr 1
  refine Dev.setSheaf_congr ?_
  simp only [Sheaf.latchTime, Sheaf.on, Sheaf.putV_mask, Sheaf.putV_timeHi]
  rfl

/-- R102: CSRRW of LFLAGS. -/
theorem Dev.csrLane_lflags {d : Dev} {ra rd : BitVec 5} {k l : Nat} (hl : (d.sheaf k).first = some l) :
    d.csrLane .rw ⟨0x20, ra, rd⟩ k = (.next, d.setSheaf k (Sheaf.swapLflags ra.toNat rd.toNat)) := by
  have hc : (d.laneCsr k 0x20 0).isNone = false := rfl
  have hv : ∀ j, (d.laneCsr k 0x20 j).getD 0 = ((d.sheaf k).getL j).toNat := fun _ => rfl
  simp only [Dev.csrLane, hl, hv, show (0x20 : BitVec 12).toNat = 0x20 from rfl, hc, show (CsrOp.rw == .rw || ra != 0) = true from rfl,
    show (0x20 != 0x20) = false from rfl, CsrOp.eval, Nat.reduceEqDiff,
    Bool.and_false, Bool.or_self, Bool.false_eq_true, if_false, if_true, Dev.setSheaf_setSheaf]
  congr 1
  refine Dev.setSheaf_congr ?_
  simp only [Sheaf.swapLflags, Sheaf.on, Sheaf.putV_mask, Sheaf.getL, Sheaf.putV_lflags]
  rfl

/-- R102: a write of a system register other than LFLAGS. -/
theorem Dev.csrLane_refused {d : Dev} {op : CsrOp} {f : SysF} {k l : Nat} (hl : (d.sheaf k).first = some l)
    (hw : (op == .rw || f.ra != 0) = true) (hn : f.csr.toNat ≠ 0x20) : d.csrLane op f k = (.exc 4 .illegalInstruction l, d) := by
  have hn' : (f.csr.toNat != 0x20) = true := bne_iff_ne.mpr hn
  simp only [Dev.csrLane, hl, hw, hn', Bool.and_self, Bool.or_true, if_true]

/-- Changing each of some sheaves once. -/
theorem Dev.sheaf_foldl_setSheaf (f : Sheaf → Sheaf) (ks : List Nat) (hn : ks.Nodup) (d : Dev) (j : Nat) :
    (ks.foldl (fun d k => d.setSheaf k f) d).sheaf j = if j ∈ ks then f (d.sheaf j) else d.sheaf j := by
  induction ks generalizing d with
  | nil => rfl
  | cons k ks ih =>
    obtain ⟨hk, hn⟩ := List.nodup_cons.1 hn
    rw [List.foldl_cons, ih hn]
    by_cases hj : k = j
    · subst hj; simp [hk]
    · simp [Dev.sheaf_setSheaf_other _ _ hj, Ne.symm hj]

theorem Dev.setSheaf_setRow (d : Dev) (k r : Nat) (f : Sheaf → Sheaf) (g : Row → Row) :
    (d.setRow r g).setSheaf k f = (d.setSheaf k f).setRow r g := rfl

theorem Dev.rowSheaves_nodup (d : Dev) (row : Nat) : (d.rowSheaves row).Nodup :=
  ((List.nodup_map_iff fun _ _ h => by simpa using h).2 List.nodup_range).filter _

/-- The parts of a sheaf's key. -/
theorem sheafKey_parts {t c r k : Nat} (hk : t < 8 ∧ c < 84 ∧ r < 16 ∧ k < 8) :
    keyTil (sheafKey t c r k) = t ∧ keyC (sheafKey t c r k) = c ∧ keyRow (sheafKey t c r k) = rowKey t c r ∧
      keyRow (sheafKey t c r k) % 16 = r ∧ keySlot (sheafKey t c r k) = k := by
  simp only [keyTil, keyC, keyRow, keySlot, sheafKey, rowKey, clsKey]
  omega

/-- R102, R115: HALT ends the sheaf and discards its unread chunks. -/
theorem exec_halt_sheaf {s : State} {t c r k : Nat} (h : SheafRuns s t c r k) : exec (.halt (.sheaf t c r k) ⟨0, 0, 0⟩) s =
    .next (leaves s ((s.dev.setSheaf (sheafKey t c r k) (fun x => { x with st := .halted, pc := x.pc + 4 })).setRow
      (keyRow (sheafKey t c r k)) (fun y => y.discardChunks k))) := by
  have hd : does (.halt (.sheaf t c r k) ⟨0, 0, 0⟩) s.dev = s.dev.halt (.halt (.sheaf t c r k) ⟨0, 0, 0⟩) (.sheaf t c r k) ⟨0, 0, 0⟩ := rfl
  unfold Dev.halt at hd
  rw [exec_onSheaf h rfl (hd.trans (Dev.onlyL_eq ..))]
  obtain ⟨-, -, -, -, hk⟩ := sheafKey_parts h.1
  have hc : cause1 (sysUsed ⟨0, 0, 0⟩) = none := rfl
  simp only [Dev.onSheaf, h.2, hc, hk, Bool.not_true, Bool.false_eq_true, if_false, Dev.sheafGo, ofNat_toNat_add,
    Dev.setSheaf_setRow, Dev.setSheaf_setSheaf]
  rfl

/-- R104: every sheaf of the row goes on. -/
theorem exec_sbarComplete {u : State} {r : RowId} (hr : r.wf = true) (ha : u.dev.dieActive (slotTil r.t) = true)
    (hne : u.dev.rowSheaves (rowIdKey r) ≠ []) (hbar : ∀ j ∈ u.dev.rowSheaves (rowIdKey r), (u.dev.sheaf j).bar = true) :
    exec (.sbarComplete r) u = .next (leaves u ((u.dev.rowSheaves (rowIdKey r)).foldl
      (fun d k => d.setSheaf k (fun s => { s with bar := false, pc := s.pc + 4 })) u.dev)) := by
  have hc : (!(u.dev.rowSheaves (rowIdKey r)).isEmpty && (u.dev.rowSheaves (rowIdKey r)).all (fun k => (u.dev.sheaf k).bar)) = true := by
    simpa [List.all_eq_true] using ⟨hne, hbar⟩
  have hd : does (.sbarComplete r) u.dev = if u.dev.dieActive (slotTil r.t) then u.dev.sbarComplete (rowIdKey r) else u.dev := rfl
  rw [exec_next (i := .sbarComplete r) u hr, hd, if_pos ha]
  unfold Dev.sbarComplete
  exact congrArg (fun d => Host.Outcome.next (leaves u d)) (if_pos hc)

section Sheaf
variable {s : State} {t c r k l : Nat} {i : Instr} (h : SheafRuns s t c r k) (hw : i.wf = (Agent.sheaf t c r k).wf)
  (hl : (s.dev.sheaf (sheafKey t c r k)).first = some l)
include h hw hl

/-- R103: CSRRS or CSRRC with RA 0. -/
theorem exec_csrRead_sheaf {op : CsrOp} {n : BitVec 12} {rd : BitVec 5} (v : Nat → Nat) (hd : does i s.dev = s.dev.csr i (.sheaf t c r k) op ⟨n, 0, rd⟩)
    (ho : op ≠ .rw) (h8 : n.toNat ≠ 8) (hv : ∀ j, s.dev.laneCsr (sheafKey t c r k) n.toNat j = some (v j)) :
    exec i s = .next (sheafDoes s (sheafKey t c r k) (fun x => x.putV rd.toNat (fun j => BitVec.ofNat 32 (v j)))) := by
  unfold Dev.csr at hd
  exact exec_sheafDoes h hw hd rfl (Dev.csrLane_read hl (by cases op <;> simp_all) h8 hv) rfl

end Sheaf

end Sys2Proof.Machine

namespace Sys2Proof

open Sys2Proof.Machine

/-- Settles O25: jump-ahead is that many steps, then the forms of the generator, and lane control form by form. -/
theorem laneGeneratorAndControl : Obligations.LaneGeneratorAndControl := by
  unfold Obligations.LaneGeneratorAndControl
  refine ⟨⟨lcgStep_eq_ofNat, lcgSkip_eq_iter, fun s t c r k rd h => ⟨fun h0 h1 => ?_, ?_, ?_, fun ra => ?_, fun ra rb ha0 ha1 hb0 hb1 => ?_,
    fun ra ha0 ha1 => ?_, fun h0 h1 => ?_, fun x g l hl => x.rngOf_putRng g hl⟩⟩,
    fun s t c r k h => ⟨fun f hf => ?_, ?_, fun l hl => ⟨?_, fun f hf => ?_, fun rd => ⟨?_, ?_, ?_, ?_, ?_⟩, fun rd => ?_, fun f hf => ?_⟩, ?_,
      fun u hu hne hbar => ?_⟩⟩
  · refine exec_laneOp_sheaf h rfl rfl (rngBad_none rfl (by simpa using runBad_eq_false h0 (by omega))) ?_
    simp only [Sheaf.rngDraw, setWidth_eq_ofNat, BitVec.toNat_ushiftRight, Nat.shiftRight_eq_div_pow]
  · refine exec_laneOp_sheaf h rfl rfl rfl ?_
    simp only [Sheaf.rngDraw, shiftRight_setWidth]
  · refine exec_laneOp_sheaf h rfl rfl rfl ?_
    simp only [Sheaf.rngDraw, lcgUniform]
  · refine exec_laneOp_sheaf h rfl rfl rfl ?_
    simp only [lcgSkip_setWidth]
  · refine exec_laneOp_sheaf h rfl rfl (rngBad_none rfl ?_) rfl
    simpa using ⟨runBad_eq_false ha0 (by omega), runBad_eq_false hb0 (by omega)⟩
  · exact exec_laneOp_sheaf h rfl rfl (rngBad_none rfl (by simpa using runBad_eq_false ha0 (by omega))) rfl
  · refine exec_laneOp_sheaf h rfl rfl (rngBad_none rfl (by simpa using runBad_eq_false h0 (by omega))) ?_
    simp only [rngWord, shiftRight_setWidth]
  · have hd : does (.lshfl (.sheaf t c r k) f) s.dev = s.dev.lshfl (.lshfl (.sheaf t c r k) f) (.sheaf t c r k) f := rfl
    unfold Dev.lshfl at hd
    exact exec_laneOp_sheaf h rfl hd (cause1_none (by simp [hf])) rfl
  · have hd : does (.sbar (.sheaf t c r k) ⟨0, 0, 0, 0⟩) s.dev = s.dev.sbar (.sbar (.sheaf t c r k) ⟨0, 0, 0, 0⟩) (.sheaf t c r k) ⟨0, 0, 0, 0⟩ := rfl
    unfold Dev.sbar at hd
    exact exec_sheafWaits h rfl (hd.trans (Dev.onlyL_eq ..)) rfl rfl
  · have hd : does (.ebreak (.sheaf t c r k) ⟨0, 0, 0⟩) s.dev = s.dev.ebreak (.ebreak (.sheaf t c r k) ⟨0, 0, 0⟩) (.sheaf t c r k) ⟨0, 0, 0⟩ := rfl
    unfold Dev.ebreak at hd
    exact exec_sheafTraps h rfl hd rfl (by simp only [hl])
  · have hd : does (.csrrw (.sheaf t c r k) f) s.dev = s.dev.csr (.csrrw (.sheaf t c r k) f) (.sheaf t c r k) .rw f := rfl
    unfold Dev.csr at hd
    exact exec_sheafTraps h rfl hd rfl (Dev.csrLane_refused hl rfl hf)
  · exact exec_csrRead_sheaf h rfl hl (fun j => j) rfl (by decide) (by decide) (fun j => rfl)
  · exact exec_csrRead_sheaf h rfl hl (fun _ => r) rfl (by decide) (by decide) (fun j => congrArg some (sheafKey_parts h.1).2.2.2.1)
  · exact exec_csrRead_sheaf h rfl hl (fun _ => c) rfl (by decide) (by decide) (fun j => congrArg some (sheafKey_parts h.1).2.1)
  · exact exec_csrRead_sheaf h rfl hl (fun _ => t) rfl (by decide) (by decide) (fun j => congrArg some (sheafKey_parts h.1).1)
  · exact exec_csrRead_sheaf h rfl hl (fun _ => k) rfl (by decide) (by decide) (fun j => congrArg some (sheafKey_parts h.1).2.2.2.2)
  · have hd : does (.timeloRead (.sheaf t c r k) rd) s.dev = s.dev.csr (.timeloRead (.sheaf t c r k) rd) (.sheaf t c r k) .rs ⟨8, 0, rd⟩ := rfl
    unfold Dev.csr at hd
    refine ⟨_, exec_sheafDoes (g := Sheaf.latchTime rd.toNat s.dev.time) h rfl hd rfl (Dev.csrLane_timelo hl) rfl, rfl,
      fun j hj ho => ⟨fun hrd => ?_, ?_⟩⟩ <;> simp only [sheafDoes, Dev.sheaf_setSheaf_same]
    · have hr : rd.toNat ≠ 0 := fun hz => hrd (BitVec.eq_of_toNat_eq hz)
      exact (Sheaf.getV_putV_on _ hr hj ho).trans (BitVec.eq_of_toNat_eq (by simp))
    · simp only [Sheaf.latchTime, lane_map _ _ hj, ho, if_true]
  · obtain ⟨n, ra, rd⟩ := f
    obtain rfl : n = 0x20 := hf
    have hd : does (.csrrw (.sheaf t c r k) ⟨0x20, ra, rd⟩) s.dev =
      s.dev.csr (.csrrw (.sheaf t c r k) ⟨0x20, ra, rd⟩) (.sheaf t c r k) .rw ⟨0x20, ra, rd⟩ := rfl
    unfold Dev.csr at hd
    refine ⟨_, exec_sheafDoes (g := Sheaf.swapLflags ra.toNat rd.toNat) h rfl hd rfl (Dev.csrLane_lflags hl) rfl, fun j hj => ?_⟩
    simp only [sheafDoes, Dev.sheaf_setSheaf_same, Sheaf.getL, Sheaf.swapLflags, lane_map _ _ hj]
  · exact exec_halt_sheaf h
  · refine ⟨_, exec_sbarComplete (r := ⟨t, c, r⟩) (decide_eq_true ⟨h.1.1, h.1.2.1, h.1.2.2.1⟩) hu hne hbar, fun j => ?_⟩
    exact Dev.sheaf_foldl_setSheaf _ _ (u.dev.rowSheaves_nodup _) _ _

end Sys2Proof
end

section
/-! Bytes and words, and the SRAM of a cluster as a sheaf reads and writes it (R94, R95). -/

namespace Sys2Proof.Machine

open Sys2Proof

/-! ## Bytes -/

@[simp] theorem length_leBytes (n x : Nat) : (leBytes n x).length = n := by simp [leBytes]

@[simp] theorem ofLe_cons (b : Byte) (l : List Byte) : ofLe (b :: l) = b.toNat + 256 * ofLe l := rfl

theorem ofLe_lt (l : List Byte) : ofLe l < 256 ^ l.length := by
  induction l with
  | nil => exact Nat.one_pos
  | cons b l ih =>
    have hb := b.isLt
    rw [ofLe_cons, List.length_cons, pow_succ]
    omega

theorem ofLe_div (k : Nat) (l : List Byte) : ofLe l / 256 ^ k = ofLe (l.drop k) := by
  induction k generalizing l with
  | zero => simp
  | succ k ih =>
    cases l with
    | nil => simp [ofLe]
    | cons b l =>
      have hb := b.isLt
      rw [List.drop_succ_cons, ← ih, ofLe_cons, pow_succ', ← Nat.div_div_eq_div_mul]
      congr 1
      omega

theorem ofLe_mod (k : Nat) (l : List Byte) : ofLe l % 256 ^ k = ofLe (l.take k) := by
  induction k generalizing l with
  | zero => simp [Nat.mod_one, ofLe]
  | succ k ih =>
    cases l with
    | nil => simp [ofLe]
    | cons b l =>
      have hb := b.isLt
      have hq : (b.toNat + 256 * ofLe l) / 256 = ofLe l := by omega
      rw [List.take_succ_cons, ofLe_cons, ofLe_cons, ← ih, pow_succ', Nat.mod_mul, hq]
      omega

/-- A word of 32 bits of a transfer. -/
theorem ofNat_ofLe_word (l : List Byte) (i : Nat) :
    BitVec.ofNat 32 (ofLe l / 2 ^ (32 * i)) = BitVec.ofNat 32 (ofLe ((l.drop (4 * i)).take 4)) := by
  apply BitVec.eq_of_toNat_eq
  have hp : (2 : Nat) ^ (32 * i) = 256 ^ (4 * i) := by rw [show (256 : Nat) = 2 ^ 8 from rfl, ← pow_mul]; congr 1; omega
  rw [BitVec.toNat_ofNat, BitVec.toNat_ofNat, hp, ofLe_div, ← ofLe_mod 4]
  exact (Nat.mod_mod _ _).symm

/-- One of some blocks of one length. -/
theorem take_drop_flatMap {α : Type} {k n i : Nat} (g : Nat → List α) (hg : ∀ j, (g j).length = k) (hi : i < n) :
    (((List.range n).flatMap g).drop (k * i)).take k = g i := by
  have hlen : ∀ m, ((List.range m).flatMap g).length = k * m := fun m => by simp [List.length_flatMap, hg, Nat.mul_comm]
  obtain ⟨m, rfl⟩ : ∃ m, n = i + (1 + m) := ⟨n - i - 1, by omega⟩
  rw [List.range_add, List.flatMap_append, List.drop_append, List.range_add, List.map_append, List.flatMap_append]
  rw [List.drop_eq_nil_of_le (by rw [hlen]), hlen, Nat.sub_self, List.drop_zero, List.nil_append]
  simp [hg]

/-! ## The first of the lanes, and all of them -/

theorem Sheaf.lanes_sorted (x : Sheaf) : x.lanes.Pairwise (· < ·) := List.pairwise_lt_range.filter _

theorem Sheaf.mem_lanes {x : Sheaf} {l : Nat} : l ∈ x.lanes ↔ l < 256 ∧ x.on l = true := by simp [Sheaf.lanes]

/-- In a sorted list, what lies before and after an element. -/
theorem sorted_split {ls : List Nat} (hs : ls.Pairwise (· < ·)) {l : Nat} (hl : l ∈ ls) :
    ∃ pre post, ls = pre ++ l :: post ∧ (∀ j ∈ pre, j < l) ∧ ∀ j ∈ post, l < j := by
  obtain ⟨pre, post, rfl⟩ := List.append_of_mem hl
  obtain ⟨-, hpost, hpre⟩ := List.pairwise_append.1 hs
  exact ⟨pre, post, rfl, fun j hj => hpre j hj l (by simp), (List.pairwise_cons.1 hpost).1⟩

/-- The first of a sorted list that gives something. -/
theorem findSome?_sorted {α : Type} {ls : List Nat} (hs : ls.Pairwise (· < ·)) {f : Nat → Option α} {l : Nat} {v : α} (hl : l ∈ ls)
    (hf : f l = some v) (hn : ∀ j ∈ ls, j < l → f j = none) : ls.findSome? f = some v := by
  obtain ⟨pre, post, rfl, hpre, -⟩ := sorted_split hs hl
  have hp : pre.findSome? f = none := List.findSome?_eq_none_iff.2 fun j hj => hn j (by simp [hj]) (hpre j hj)
  rw [List.findSome?_append, hp, List.findSome?_cons, hf]
  rfl

/-- A fold whose every step keeps what it starts from. -/
theorem foldl_fixed_mem {α β : Type} {f : β → α → β} {b : β} {l : List α} (h : ∀ a ∈ l, f b a = b) : l.foldl f b = b := by
  induction l with
  | nil => rfl
  | cons a l ih => rw [List.foldl_cons, h a (by simp), ih fun x hx => h x (by simp [hx])]

/-- A map filled from a list. -/
theorem SMap.get_foldl_set {α : Type} (z : α) (g : Nat → α) (ls : List Nat) (m : SMap α) (l : Nat) :
    (ls.foldl (fun (m : SMap α) l => m.set l (g l)) m).get z l = if l ∈ ls then g l else m.get z l := by
  induction ls generalizing m with
  | nil => rfl
  | cons k ls ih =>
    rw [List.foldl_cons, ih]
    by_cases hk : k = l
    · subst hk; simp
    · simp [SMap.get_set_other _ _ _ hk, Ne.symm hk]

/-- Writes of a run of registers. -/
def Sheaf.putRun (x : Sheaf) (rd n : Nat) (g : Nat → Nat → BitVec 32) : Sheaf := (List.range n).foldl (fun s i => s.putV (rd + i) (g i)) x

theorem Sheaf.putRun_succ (x : Sheaf) (rd n : Nat) (g : Nat → Nat → BitVec 32) :
    x.putRun rd (n + 1) g = (x.putRun rd n g).putV (rd + n) (g n) := by
  simp [Sheaf.putRun, List.range_succ]

theorem Sheaf.putRun_mask (x : Sheaf) (rd n : Nat) (g : Nat → Nat → BitVec 32) : (x.putRun rd n g).mask = x.mask := by
  induction n with
  | zero => rfl
  | succ n ih => rw [Sheaf.putRun_succ, Sheaf.putV_mask, ih]

/-- A register of a run of registers after it is written. -/
theorem Sheaf.getV_putRun (x : Sheaf) {rd n i l : Nat} (g : Nat → Nat → BitVec 32) (hi : i < n) (hr : rd + i ≠ 0) (hl : l ∈ x.lanes) :
    (x.putRun rd n g).getV (rd + i) l = g i l := by
  obtain ⟨hl, ho⟩ := Sheaf.mem_lanes.1 hl
  induction n with
  | zero => omega
  | succ n ih =>
    rw [Sheaf.putRun_succ]
    by_cases hn : i = n
    · subst hn
      exact Sheaf.getV_putV_on _ hr hl (by rwa [Sheaf.on, Sheaf.putRun_mask])
    · rw [Sheaf.getV_putV_other _ (by omega), ih (by omega)]

/-! ## The SRAM of a cluster -/

@[simp] theorem Dev.length_sramRead (d : Dev) (k o n : Nat) : (d.sramRead k o n).length = n := by simp [Dev.sramRead]

/-- A part of a read. -/
theorem Dev.take_drop_sramRead (d : Dev) (k o : Nat) {n i m : Nat} (h : i + m ≤ n) :
    ((d.sramRead k o n).drop i).take m = d.sramRead k (o + i) m := by
  apply List.ext_getElem
  · simp; omega
  · intro j h1 h2
    simp [Dev.sramRead, Nat.add_assoc]

/-- A write of a cluster leaves what lies beside it. -/
theorem Dev.sramRead_sramWrite_beside (d : Dev) {k j o a n : Nat} {l : List Byte} (h : k ≠ j ∨ a + n ≤ o ∨ o + l.length ≤ a) :
    (d.sramWrite k o l).sramRead j a n = d.sramRead j a n := by
  by_cases hk : k = j
  · subst hk
    refine List.map_congr_left fun i hi => ?_
    have hi := List.mem_range.1 hi
    have hm : Memory.read ((d.sramWrite k o l).ms.sram.get [] k) (a + i) = Memory.read (d.ms.sram.get [] k) (a + i) := by
      simp only [Dev.sramWrite, SMap.get_upd_same]
      exact Memory.read_writeN_other (by simp; omega)
    rw [hm]; rfl
  · exact d.sramRead_sramWrite_other hk o a n l

/-- R147: a store of less than a line to cluster SRAM. -/
theorem Dev.storeLine_sram (d : Dev) (v : Via) (t c o : Nat) {l : List Byte} (hl : l.length < 128) :
    d.storeLine v (.sram t c o) l = (d.clearResv ((Home.sram t c o).mark / 128)).sramWrite (84 * t + c) o l := by
  have hn : ¬ (o % 128 = 0 ∧ 128 ≤ l.length) := by omega
  simp only [Dev.storeLine, Dev.storeHome, Home.line, if_neg hn]

theorem Dev.sramRead_storeLine_same (d : Dev) (v : Via) (t c o : Nat) {l : List Byte} (hl : l.length < 128) :
    (d.storeLine v (.sram t c o) l).sramRead (84 * t + c) o l.length = l := by
  rw [d.storeLine_sram v t c o hl, Dev.sramRead_sramWrite_same]

theorem Dev.sramRead_storeLine_beside (d : Dev) (v : Via) {t c o j a n : Nat} {l : List Byte} (hl : l.length < 128)
    (h : 84 * t + c ≠ j ∨ a + n ≤ o ∨ o + l.length ≤ a) : (d.storeLine v (.sram t c o) l).sramRead j a n = d.sramRead j a n := by
  rw [d.storeLine_sram v t c o hl, Dev.sramRead_sramWrite_beside _ h]
  exact Dev.sramRead_congr rfl rfl j a n

/-- R94: the stores of some lanes, one after the other. -/
def Dev.sramStores (v : Via) (t c : Nat) (a : Nat → Nat) (b : Nat → List Byte) (ls : List Nat) (d : Dev) : Dev :=
  ls.foldl (fun d l => d.storeLine v (.sram t c (a l)) (b l)) d

section Stores
variable {v : Via} {t c n : Nat} {a : Nat → Nat} {b : Nat → List Byte} (hb : ∀ l, (b l).length = n) (hn : n < 128)
include hb hn

theorem Dev.sramStores_mem (ls : List Nat) (d : Dev) : (d.sramStores v t c a b ls).ms.mem = d.ms.mem := by
  induction ls generalizing d with
  | nil => rfl
  | cons l ls ih =>
    have he := congrArg (fun e : Dev => e.ms.mem) (d.storeLine_sram v t c (a l) (l := b l) (by rw [hb]; exact hn))
    exact (ih _).trans he

theorem Dev.sramRead_sramStores_beside {j o m : Nat} (ls : List Nat) (h : ∀ l ∈ ls, 84 * t + c ≠ j ∨ o + m ≤ a l ∨ a l + n ≤ o) (d : Dev) :
    (d.sramStores v t c a b ls).sramRead j o m = d.sramRead j o m := by
  induction ls generalizing d with
  | nil => rfl
  | cons l ls ih =>
    refine (ih (fun k hk => h k (by simp [hk])) _).trans ?_
    exact d.sramRead_storeLine_beside v (by rw [hb]; exact hn) (by rw [hb]; exact h l (by simp))

/-- The bytes of a lane stay when no higher lane stores over them. -/
theorem Dev.sramRead_sramStores {l : Nat} {ls : List Nat} (hs : ls.Pairwise (· < ·)) (hl : l ∈ ls)
    (h : ∀ j ∈ ls, l < j → a j + n ≤ a l ∨ a l + n ≤ a j) (d : Dev) :
    (d.sramStores v t c a b ls).sramRead (84 * t + c) (a l) n = b l := by
  obtain ⟨pre, post, rfl, -, hpost⟩ := sorted_split hs hl
  have hd : d.sramStores v t c a b (pre ++ l :: post) =
      (((d.sramStores v t c a b pre).storeLine v (.sram t c (a l)) (b l)).sramStores v t c a b post) := by
    simp [Dev.sramStores]
  have hd' := (d.sramStores v t c a b pre).sramRead_storeLine_same v t c (a l) (l := b l) (by rw [hb]; exact hn)
  rw [hb] at hd'
  rw [hd, Dev.sramRead_sramStores_beside hb hn post (fun j hj => .inr ((h j (by simp [hj]) (hpost j hj)).symm)), hd']

end Stores

end Sys2Proof.Machine
end

section
/-! Local loads and stores of a sheaf (R83, R94, R95). -/

namespace Sys2Proof.Machine

open Sys2Proof

/-- A legal instruction that leaves the part `e`: the sheaf goes on at the next word. -/
theorem exec_sheafLeaves {s : State} {t c r k lvl : Nat} {i : Instr} {badC : Bool} {bad : Option Nat} {fC : Nat → Dev → CEnd × Dev}
    {f : Nat → Dev → LEnd × Dev} (h : SheafRuns s t c r k) (hw : i.wf = (Agent.sheaf t c r k).wf)
    (hd : does i s.dev = s.dev.ghety i (.sheaf t c r k) lvl badC fC bad f) {e : Dev} (hb : bad = none)
    (hf : f (sheafKey t c r k) s.dev = (.next, e)) :
    exec i s = .next (leaves s (e.setSheaf (sheafKey t c r k) (fun x => { x with pc := (s.dev.sheaf (sheafKey t c r k)).pc + 4 }))) := by
  subst hb
  rw [exec_onSheaf h hw hd]
  simp only [Dev.onSheaf, h.2, hf, Bool.not_true, Bool.false_eq_true, if_false, Dev.sheafGo, ofNat_toNat_add]
  rfl

/-- R83: LLW names any register, LLQ a run of four. -/
theorem quadRun_none {n : Nat} {f : IF} (h : n = 4 → 0 < f.rd.toNat ∧ f.rd.toNat ≤ 28) : quadRun n f = none := by
  by_cases hn : n = 4
  · obtain ⟨h0, h1⟩ := h hn
    simp [quadRun, runBad_eq_false h0 (show f.rd.toNat + 4 ≤ 32 by omega)]
  · simp [quadRun, hn]

theorem localBad_none {x : Sheaf} {f : IF} {m : Nat} (h : ∀ l ∈ x.lanes, localOff x f l < 0x200000 ∧ localOff x f l % m = 0) :
    localBad x f m = none := by
  refine List.findSome?_eq_none_iff.2 fun l hl => ?_
  obtain ⟨h1, h2⟩ := h l hl
  simp only [if_neg (Nat.not_le.2 h1), h2, ne_eq, not_true_eq_false, if_false]

/-- The lowest lane whose access is refused. -/
theorem localBad_some {x : Sheaf} {f : IF} {m l : Nat} (hl : l ∈ x.lanes)
    (hj : ∀ j ∈ x.lanes, j < l → localOff x f j < 0x200000 ∧ localOff x f j % m = 0) (hb : 0x200000 ≤ localOff x f l ∨ localOff x f l % m ≠ 0) :
    localBad x f m = some (if 0x200000 ≤ localOff x f l then (0x21, .protection, l) else (0x20, .misaligned, l)) := by
  refine findSome?_sorted x.lanes_sorted hl ?_ fun j h hlt => ?_
  · by_cases ho : 0x200000 ≤ localOff x f l
    · simp only [ho, if_true]
    · simp only [ho, hb.resolve_left ho, ne_eq, not_false_eq_true, if_true, if_false]
  · obtain ⟨h1, h2⟩ := hj j h hlt
    simp only [if_neg (Nat.not_le.2 h1), h2, ne_eq, not_true_eq_false, if_false]

section Access
variable {s : State} {t c r k n : Nat} {i : Instr} {f : IF} (h : SheafRuns s t c r k) (hw : i.wf = (Agent.sheaf t c r k).wf)
  (hq : n = 4 → 0 < f.rd.toNat ∧ f.rd.toNat ≤ 28)
include h hw hq

/-- A local access that the lowest such lane may not make: no lane has an effect. -/
theorem exec_local_refused {g : Nat → Dev → LEnd × Dev} {l : Nat}
    (hd : does i s.dev = s.dev.onlyL i (.sheaf t c r k) (quadRun n f) g)
    (hg : ∀ e st l, localBad (s.dev.sheaf (sheafKey t c r k)) f (4 * n) = some (e, st, l) → g (sheafKey t c r k) s.dev = (.exc e st l, s.dev))
    (hl : l ∈ (s.dev.sheaf (sheafKey t c r k)).lanes)
    (hj : ∀ j ∈ (s.dev.sheaf (sheafKey t c r k)).lanes, j < l →
      localOff (s.dev.sheaf (sheafKey t c r k)) f j < 0x200000 ∧ localOff (s.dev.sheaf (sheafKey t c r k)) f j % (4 * n) = 0)
    (hb : 0x200000 ≤ localOff (s.dev.sheaf (sheafKey t c r k)) f l ∨ localOff (s.dev.sheaf (sheafKey t c r k)) f l % (4 * n) ≠ 0) :
    exec i s = .next (leaves s (if 0x200000 ≤ localOff (s.dev.sheaf (sheafKey t c r k)) f l
      then s.dev.laneException (sheafKey t c r k) 0x21 .protection l (wordNat i)
      else s.dev.laneException (sheafKey t c r k) 0x20 .misaligned l (wordNat i))) := by
  have hs := localBad_some hl hj hb
  split at hs
  case isTrue ho => rw [if_pos ho]; exact exec_sheafTraps h hw (hd.trans (Dev.onlyL_eq ..)) (quadRun_none hq) (hg _ _ _ hs)
  case isFalse ho => rw [if_neg ho]; exact exec_sheafTraps h hw (hd.trans (Dev.onlyL_eq ..)) (quadRun_none hq) (hg _ _ _ hs)

/-- LLW and LLQ. -/
theorem exec_localLd (hd : does i s.dev = s.dev.onlyL i (.sheaf t c r k) (quadRun n f) (Dev.localLd n f))
    (ha : ∀ l ∈ (s.dev.sheaf (sheafKey t c r k)).lanes,
      localOff (s.dev.sheaf (sheafKey t c r k)) f l < 0x200000 ∧ localOff (s.dev.sheaf (sheafKey t c r k)) f l % (4 * n) = 0)
    (hp : ∀ l ∈ (s.dev.sheaf (sheafKey t c r k)).lanes,
      s.dev.badHome (.sram t c (localOff (s.dev.sheaf (sheafKey t c r k)) f l)) (4 * n) = false) :
    ∃ v : SMap Nat, (∀ l ∈ (s.dev.sheaf (sheafKey t c r k)).lanes,
        v.get 0 l = ofLe (s.dev.sramRead (84 * t + c) (localOff (s.dev.sheaf (sheafKey t c r k)) f l) (4 * n))) ∧
      exec i s = .next (sheafDoes s (sheafKey t c r k) (fun x => x.putRun f.rd.toNat n (fun i l => BitVec.ofNat 32 (v.get 0 l / 2 ^ (32 * i))))) := by
  obtain ⟨ht, hc, -⟩ := sheafKey_parts h.1
  have hfind : (s.dev.sheaf (sheafKey t c r k)).lanes.find? (fun l =>
      s.dev.badHome (.sram t c (localOff (s.dev.sheaf (sheafKey t c r k)) f l)) (4 * n)) = none :=
    List.find?_eq_none.2 fun l hl => by simp [hp l hl]
  refine ⟨_, fun l hl => ?_, exec_sheafDoes h hw (hd.trans (Dev.onlyL_eq ..)) (quadRun_none hq)
    (by simp only [Dev.localLd, localBad_none ha, ht, hc, hfind]; rfl) rfl⟩
  exact (SMap.get_foldl_set 0 _ _ _ l).trans (if_pos hl)

/-- SLW and SLQ. -/
theorem exec_localSt (hd : does i s.dev = s.dev.onlyL i (.sheaf t c r k) (quadRun n f) (Dev.localSt n f))
    (ha : ∀ l ∈ (s.dev.sheaf (sheafKey t c r k)).lanes,
      localOff (s.dev.sheaf (sheafKey t c r k)) f l < 0x200000 ∧ localOff (s.dev.sheaf (sheafKey t c r k)) f l % (4 * n) = 0) :
    exec i s = .next (leaves s ((s.dev.sramStores (.til t c) t c (localOff (s.dev.sheaf (sheafKey t c r k)) f)
      (fun l => (List.range n).flatMap (fun i => leBytes 4 ((s.dev.sheaf (sheafKey t c r k)).getV (f.rd.toNat + i) l).toNat))
      (s.dev.sheaf (sheafKey t c r k)).lanes).setSheaf (sheafKey t c r k)
        (fun x => { x with pc := (s.dev.sheaf (sheafKey t c r k)).pc + 4 }))) := by
  obtain ⟨ht, hc, -⟩ := sheafKey_parts h.1
  exact exec_sheafLeaves h hw (hd.trans (Dev.onlyL_eq ..)) (quadRun_none hq) (by simp only [Dev.localSt, localBad_none ha, ht, hc]; rfl)

end Access

end Sys2Proof.Machine

namespace Sys2Proof

open Sys2Proof.Machine

/-- Settles O26: the loads read each lane's words, the stores put them lane after lane, and a refused access is that of the lowest
such lane. -/
theorem laneLocalAccesses : Obligations.LaneLocalAccesses := by
  unfold Obligations.LaneLocalAccesses
  intro p hp s t c r k f h hq
  have hn : 4 * p.2.2 < 128 := by fin_cases hp <;> decide
  have hwL : (p.1 (.sheaf t c r k) f).wf = (Agent.sheaf t c r k).wf := by fin_cases hp <;> rfl
  have hwS : (p.2.1 (.sheaf t c r k) f).wf = (Agent.sheaf t c r k).wf := by fin_cases hp <;> rfl
  have hL : does (p.1 (.sheaf t c r k) f) s.dev = s.dev.onlyL (p.1 (.sheaf t c r k) f) (.sheaf t c r k) (quadRun p.2.2 f) (Dev.localLd p.2.2 f) := by
    fin_cases hp <;> rfl
  have hS : does (p.2.1 (.sheaf t c r k) f) s.dev = s.dev.onlyL (p.2.1 (.sheaf t c r k) f) (.sheaf t c r k) (quadRun p.2.2 f) (Dev.localSt p.2.2 f) := by
    fin_cases hp <;> rfl
  refine ⟨fun ha => ⟨fun hbad => ?_, ?_⟩, fun l hl hj hb => ⟨?_, ?_⟩⟩
  · obtain ⟨v, hv, he⟩ := exec_localLd h hwL hq hL ha hbad
    refine ⟨_, he, rfl, ?_, fun l hl i hi hr => ?_⟩ <;> simp only [sheafDoes, Dev.sheaf_setSheaf_same]
    refine (Sheaf.getV_putRun _ _ hi hr hl).trans ?_
    rw [hv l hl, ofNat_ofLe_word, Dev.take_drop_sramRead _ _ _ (by omega)]
    rfl
  · have hb : ∀ l, ((List.range p.2.2).flatMap (fun i => leBytes 4 ((s.dev.sheaf (sheafKey t c r k)).getV (f.rd.toNat + i) l).toNat)).length =
        4 * p.2.2 := fun l => by simp [List.length_flatMap, Nat.mul_comm]
    have hset : ∀ (e : Dev) (g : Sheaf → Sheaf) (j o n : Nat), (e.setSheaf (sheafKey t c r k) g).sramRead j o n = e.sramRead j o n :=
      fun e g => Dev.sramRead_congr rfl rfl
    refine ⟨_, exec_localSt h hwS hq hS ha, Dev.sramStores_mem hb hn _ s.dev, ?_, fun l hl hj i hi => ?_, fun j o hjo => ?_⟩
    · simp only [leaves, Dev.sheaf_setSheaf_same]
    · have hl' := Dev.sramRead_sramStores (v := .til t c) (t := t) (c := c) hb hn (Sheaf.lanes_sorted _) hl hj s.dev
      refine (hset _ _ _ _ _).trans ?_
      rw [← Dev.take_drop_sramRead _ _ _ (show 4 * i + 4 ≤ 4 * p.2.2 by omega)]
      refine (congrArg (fun b : List Byte => (b.drop (4 * i)).take 4) hl').trans ?_
      exact take_drop_flatMap _ (fun j => length_leBytes 4 _) hi
    · refine (hset _ _ _ _ _).trans (Dev.sramRead_sramStores_beside hb hn _ (fun l hl => ?_) s.dev)
      have hl' : 84 * t + c ≠ j ∨ ¬ (localOff (s.dev.sheaf (sheafKey t c r k)) f l ≤ o ∧ o < localOff (s.dev.sheaf (sheafKey t c r k)) f l + 4 * p.2.2) :=
        hjo.imp_right fun ho => ho l hl
      omega
  · exact exec_local_refused h hwL hq hL (fun e st l hb => by simp only [Dev.localLd, hb]) hl hj hb
  · exact exec_local_refused h hwS hq hS (fun e st l hb => by simp only [Dev.localSt, hb]) hl hj hb

end Sys2Proof
end

section
/-! Issue of row instructions (R108 to R120). -/

namespace Sys2Proof.Machine

open Sys2Proof

theorem bitsOf_eq (x hi lo : Nat) : bitsOf x hi lo = x / 2 ^ lo % 2 ^ (hi + 1 - lo) := by rw [bitsOf, Nat.shiftRight_eq_div_pow]

/-- R83: the pair of a base register. -/
theorem runBad_pair (r : BitVec 5) : (if runBad r.toNat 2 = true then some 2 else none) = if r = 0 ∨ r = 31 then some 2 else none := by
  refine if_congr ?_ rfl rfl
  simp only [runBad, Bool.or_eq_true, beq_iff_eq, decide_eq_true_eq]
  bv_omega

section Sheaf
variable {s : State} {t c r k : Nat} {i : Instr} (h : SheafRuns s t c r k) (hw : i.wf = (Agent.sheaf t c r k).wf)
include h hw

/-- With an empty mask an instruction of a sheaf that then does nothing goes on. -/
theorem exec_onlyL_masked {bad : Option Nat} {f : Nat → Dev → LEnd × Dev} (hd : does i s.dev = s.dev.onlyL i (.sheaf t c r k) bad f)
    (hl : (s.dev.sheaf (sheafKey t c r k)).first = none) (hf : f (sheafKey t c r k) s.dev = (.next, s.dev)) :
    exec i s = .next (sheafDoes s (sheafKey t c r k) id) := by
  cases bad with
  | none => exact exec_sheafKeeps h hw (hd.trans (Dev.onlyL_eq ..)) rfl hf
  | some n => exact exec_sheafSkips h hw (hd.trans (Dev.onlyL_eq ..)) rfl hl

theorem exec_rowIssue_masked {bad : Option Nat} {mk : Sheaf → Nat → Row → Nat → Nat ⊕ RowOp}
    (hd : does i s.dev = s.dev.rowIssue i (.sheaf t c r k) bad mk) (hl : (s.dev.sheaf (sheafKey t c r k)).first = none) :
    exec i s = .next (sheafDoes s (sheafKey t c r k) id) := by
  unfold Dev.rowIssue at hd
  exact exec_onlyL_masked h hw hd hl (by simp only [hl])

/-- R108: a row instruction with an active lane: the first of its causes, a wait for a place in the queue, or its entry. -/
theorem exec_rowIssue {bad bad' cause : Option Nat} {o : RowOp} {mk : Sheaf → Nat → Row → Nat → Nat ⊕ RowOp} {l : Nat}
    (hd : does i s.dev = s.dev.rowIssue i (.sheaf t c r k) bad mk) (hl : (s.dev.sheaf (sheafKey t c r k)).first = some l)
    (hb : bad = bad') (hm : mk (s.dev.sheaf (sheafKey t c r k)) l (s.dev.row (rowKey t c r)) k = orOp cause o) :
    (∀ n, orCause bad' cause = some n →
      exec i s = .next (leaves s (s.dev.laneException (sheafKey t c r k) n (causeStatus n) l (wordNat i)))) ∧
    (orCause bad' cause = none →
      ((8 ≤ (s.dev.row (rowKey t c r)).queue.length ∨ (o.isFill = true ∧ ∃ e ∈ (s.dev.row (rowKey t c r)).queue, e.op.isFill = true)) →
        exec i s = .next s) ∧
      (¬ (8 ≤ (s.dev.row (rowKey t c r)).queue.length ∨ (o.isFill = true ∧ ∃ e ∈ (s.dev.row (rowKey t c r)).queue, e.op.isFill = true)) →
        exec i s = .next (leaves s (((s.dev.setRow (rowKey t c r) (fun y => y.issue o)).rowSettle 8 (rowKey t c r)).sheafGo (sheafKey t c r k)
          ((s.dev.sheaf (sheafKey t c r k)).pc.toNat + 4))))) := by
  subst hb
  unfold Dev.rowIssue at hd
  obtain ⟨-, -, hrow, -, hslot⟩ := sheafKey_parts h.1
  have hg := hd.trans (Dev.onlyL_eq ..)
  cases bad with
  | some m =>
    refine ⟨fun n hn => ?_, fun hn => (nomatch hn)⟩
    obtain rfl : m = n := Option.some.inj hn
    exact exec_sheafIllegal h hw hg rfl hl
  | none =>
    cases cause with
    | some m =>
      refine ⟨fun n hn => ?_, fun hn => (nomatch hn)⟩
      obtain rfl : m = n := Option.some.inj hn
      exact exec_sheafTraps h hw hg rfl (by simp only [hl, hrow, hslot, hm, orOp])
    | none =>
      have held : ((s.dev.row (rowKey t c r)).queueFull || (o.isFill && (s.dev.row (rowKey t c r)).fillWaiting)) = true ↔
          (8 ≤ (s.dev.row (rowKey t c r)).queue.length ∨ (o.isFill = true ∧ ∃ e ∈ (s.dev.row (rowKey t c r)).queue, e.op.isFill = true)) := by
        simp [Row.queueFull, Row.fillWaiting]
      refine ⟨fun n hn => (nomatch hn), fun _ => ⟨fun hh => ?_, fun hh => ?_⟩⟩
      · exact exec_sheafWaits h hw hg rfl (by simp only [hl, hrow, hslot, hm, orOp, held.2 hh, if_true])
      · rw [exec_onSheaf h hw hg]
        simp only [Dev.onSheaf, h.2, hl, hrow, hslot, hm, orOp, if_neg (mt held.1 hh), Bool.not_true, Bool.false_eq_true, if_false]

end Sheaf

/-- R115: the oldest chunk of a sheaf's stream. -/
theorem Row.takeChunk_append {y : Row} {u v : List (Nat × BitVec 64)} {k : Nat} {n : BitVec 64} (hr : y.rx = u ++ (k, n) :: v)
    (hu : ∀ e ∈ u, e.1 ≠ k) : y.takeChunk k = some (n, { y with rx := u ++ v }) := by
  have hu' : ∀ e ∈ u, ¬ (e.1 == k) = true := fun e he => by simpa using hu e he
  have hfind : (u ++ (k, n) :: v).find? (fun e => e.1 == k) = some (k, n) := by
    rw [List.find?_append, List.find?_eq_none.2 hu']
    simp
  have herase : (u ++ (k, n) :: v).eraseP (fun e => e.1 == k) = u ++ v := by
    rw [List.eraseP_append_right _ (by simpa using hu), List.eraseP_cons_of_pos (by simp)]
  simp only [Row.takeChunk, hr, hfind, herase]

theorem Row.takeChunk_none {y : Row} {k : Nat} (hr : ∀ e ∈ y.rx, e.1 ≠ k) : y.takeChunk k = none := by
  have hfind : y.rx.find? (fun e => e.1 == k) = none := List.find?_eq_none.2 fun e he => by simpa using hr e he
  simp only [Row.takeChunk, hfind]

theorem Dev.setRow_congr {d : Dev} {k : Nat} {f g : Row → Row} (h : f (d.row k) = g (d.row k)) : d.setRow k f = d.setRow k g := by
  unfold Dev.setRow
  rw [SMap.upd_congr h]

/-- R110: the control word of a pass. -/
theorem passArgs_eq (x : Sheaf) (l k : Nat) (f : MF) (z reuse tr : Bool) (kind : Nat) :
    passArgs x l k f z reuse tr kind =
      { slot := k, addr := (x.getV f.ra.toNat l).toNat, scaleAddr := (x.getV (f.ra.toNat + 1) l).toNat,
        anchor := passAnchor ((x.getV f.rb.toNat l).toNat / 2 ^ 12 % 256) ((x.getV f.rb.toNat l).toNat / 2 ^ 20 % 4)
          (toSigned 10 ((x.getV f.rb.toNat l).toNat / 2 ^ 22)),
        smode := (x.getV f.rb.toNat l).toNat / 2 ^ 20 % 4, pair := (x.getV f.rb.toNat l).toNat / 2 ^ 12 % 256,
        abase := (x.getV f.rb.toNat l).toNat / 2 ^ 6 % 64, b := (x.getV f.rb.toNat l).toNat % 64 + 1, zero := z, reuse := reuse,
        tr := tr, kind := kind } := by
  have ht : ∀ v : Nat, toSigned 10 (v % 1024) = toSigned 10 v := fun v => by simp [toSigned]
  simp [passArgs, bitsOf_eq, ht]

/-- R116: the control word of a drain. -/
theorem drainArgs_eq (x : Sheaf) (l k : Nat) (f : MF) :
    drainArgs x l k f =
      { slot := k, rd := f.rd.toNat, addr := (x.getV f.ra.toNat l).toNat,
        dscale := if f.flags = 0 then 0x3F800000 else x.getV f.flags.toNat l,
        f16 := (x.getV f.rb.toNat l).toNat.testBit 20, gauss := (x.getV f.rb.toNat l).toNat.testBit 19,
        dest := (x.getV f.rb.toNat l).toNat.testBit 18, rtz := (x.getV f.rb.toNat l).toNat.testBit 17,
        sat := (x.getV f.rb.toNat l).toNat.testBit 16, target := (x.getV f.rb.toNat l).toNat / 2 ^ 12 % 16,
        n := (x.getV f.rb.toNat l).toNat / 2 ^ 6 % 64 + 1, acc := (x.getV f.rb.toNat l).toNat % 64 } := by
  simp [drainArgs, bitsOf_eq]

end Sys2Proof.Machine

namespace Sys2Proof

open Sys2Proof.Machine

/-- Settles O27: each row instruction by its causes and its entry, then BRD and RWAIT. -/
theorem rowIssue : Obligations.RowIssue := by
  unfold Obligations.RowIssue
  intro s t c r k f h
  obtain ⟨-, -, hrow, -, hslot⟩ := sheafKey_parts h.1
  have hwfill : does (.wfill (.sheaf t c r k) f) s.dev = s.dev.wfill (.wfill (.sheaf t c r k) f) (.sheaf t c r k) f := rfl
  have hmpass : does (.mpass (.sheaf t c r k) f) s.dev = s.dev.mpass (.mpass (.sheaf t c r k) f) (.sheaf t c r k) f := rfl
  have hmstep : does (.mstep (.sheaf t c r k) f) s.dev = s.dev.mstep (.mstep (.sheaf t c r k) f) (.sheaf t c r k) f := rfl
  have hbcast : does (.bcast (.sheaf t c r k) f) s.dev = s.dev.bcast (.bcast (.sheaf t c r k) f) (.sheaf t c r k) f := rfl
  have haccrd : does (.accrd (.sheaf t c r k) f) s.dev = s.dev.accrd (.accrd (.sheaf t c r k) f) (.sheaf t c r k) f := rfl
  have haccld : does (.accld (.sheaf t c r k) f) s.dev = s.dev.accld (.accld (.sheaf t c r k) f) (.sheaf t c r k) f := rfl
  have htld : does (.tld (.sheaf t c r k) f) s.dev = s.dev.tld (.tld (.sheaf t c r k) f) (.sheaf t c r k) f := rfl
  have hbrd : does (.brd (.sheaf t c r k) f) s.dev = s.dev.brd (.brd (.sheaf t c r k) f) (.sheaf t c r k) f := rfl
  have hrwait : does (.rwait (.sheaf t c r k) f) s.dev = s.dev.rwait (.rwait (.sheaf t c r k) f) (.sheaf t c r k) f := rfl
  unfold Dev.wfill at hwfill
  unfold Dev.mpass at hmpass
  unfold Dev.mstep at hmstep
  unfold Dev.bcast at hbcast
  unfold Dev.accrd at haccrd
  unfold Dev.accld at haccld
  unfold Dev.tld at htld
  unfold Dev.brd at hbrd
  unfold Dev.rwait at hrwait
  refine ⟨fun hl i hi => ?_, fun l hl => ⟨?_, fun hf ha hb h0 h1 u v n hr hu => ?_, fun hf ha hb h1 h0 hr hp => ?_, fun hf => ?_⟩⟩
  · fin_cases hi
    · exact exec_rowIssue_masked h rfl hwfill hl
    · exact exec_rowIssue_masked h rfl hmpass hl
    · exact exec_rowIssue_masked h rfl hmstep hl
    · exact exec_rowIssue_masked h rfl hbcast hl
    · exact exec_rowIssue_masked h rfl haccrd hl
    · exact exec_rowIssue_masked h rfl haccld hl
    · exact exec_rowIssue_masked h rfl htld hl
    · exact exec_onlyL_masked h rfl hbrd hl (by simp only [hl])
    · exact exec_onlyL_masked h rfl hrwait hl (by simp [hl])
  · dsimp only
    simp only [List.forall_mem_cons, List.not_mem_nil, false_implies, implies_true, and_true]
    refine ⟨exec_rowIssue h rfl hwfill hl (runBad_pair _) rfl, exec_rowIssue h rfl hmpass hl ?_ ?_, exec_rowIssue h rfl hmstep hl ?_ ?_,
      exec_rowIssue h rfl hbcast hl rfl ?_, exec_rowIssue h rfl haccrd hl rfl ?_, exec_rowIssue h rfl haccld hl rfl ?_,
      exec_rowIssue h rfl htld hl ?_ rfl⟩
    · rw [runBad_pair, decide_eq_decide.2 (show 7 < f.flags.toNat ↔ 8 ≤ f.flags.toNat from Iff.rfl)]; rfl
    · simp only [passArgs_eq]
    · rw [runBad_pair, ← Bool.decide_or]; rfl
    · have hp : ∀ v : Nat, v / 2 ^ 12 % 256 / 16 = v / 2 ^ 16 % 16 := fun v => by omega
      simp only [passArgs_eq, hp]
    · simp [bitsOf_eq]
    · simp only [drainArgs_eq]
    · simp only [drainArgs_eq]
    · rfl
  · have hb' : orCause (cause1 (f.flags != 0 || f.ra != 0 || f.rb != 0)) (if runBad f.rd.toNat 2 = true then some 2 else none) = none := by
      simp [hf, ha, hb, orCause, cause1, runBad_eq_false h0 (show f.rd.toNat + 2 ≤ 32 by omega)]
    rw [exec_onSheaf h rfl (hbrd.trans (Dev.onlyL_eq ..)), hb']
    simp only [Dev.onSheaf, h.2, hl, hrow, hslot, Row.takeChunk_append hr hu, Bool.not_true, Bool.false_eq_true, if_false]
    rw [Dev.setRow_congr]
    rfl
  · have hb' : orCause (cause1 (f.flags != 0 || f.ra != 0 || f.rb != 0)) (if runBad f.rd.toNat 2 = true then some 2 else none) = none := by
      simp [hf, ha, hb, orCause, cause1, runBad_eq_false h0 (show f.rd.toNat + 2 ≤ 32 by omega)]
    exact exec_sheafTraps h rfl (hbrd.trans (Dev.onlyL_eq ..)) hb'
      (by simp only [hl, hrow, hslot, Row.takeChunk_none hr, hp, Bool.false_eq_true, if_false])
  · subst hf
    have hg := hrwait.trans (Dev.onlyL_eq ..)
    cases hbusy : (s.dev.row (rowKey t c r)).busyFor k with
    | false => exact exec_sheafKeeps h rfl hg rfl (by simp [hl, hrow, hslot, hbusy])
    | true => exact exec_sheafWaits h rfl hg rfl (by simp [hl, hrow, hslot, hbusy])

end Sys2Proof
end

section
/-! What translation, reads and stores of HBM leave of the part (R189, R192, R203, R219, R235, R241). -/

namespace Sys2Proof.Machine

open Sys2Proof

/-! ## Translation -/

/-- From d to e only the translation caches may have changed. -/
def OnlyTlb (d e : Dev) : Prop := ∃ t, e = { d with ms := { d.ms with tlb := t } }

theorem OnlyTlb.refl (d : Dev) : OnlyTlb d d := ⟨d.ms.tlb, rfl⟩

theorem OnlyTlb.trans {a b c : Dev} (h : OnlyTlb a b) (h' : OnlyTlb b c) : OnlyTlb a c := by
  obtain ⟨t, rfl⟩ := h
  obtain ⟨t', rfl⟩ := h'
  exact ⟨t', rfl⟩

theorem Dev.translateBy_onlyTlb (d : Dev) (k ctx va : Nat) (a : Acc3) (w : Walk) : OnlyTlb d (d.translateBy k ctx va a w).2 := by
  unfold Dev.translateBy
  dsimp only
  split_ifs
  · exact .refl d
  · cases d.tlbFind k ctx va with
    | some e => exact .refl d
    | none =>
      cases w with
      | leaf e level => exact ⟨_, rfl⟩
      | fault | status | wait => exact .refl d

theorem Dev.coreXlt_onlyTlb (d : Dev) (n va : Nat) (a : Acc3) : OnlyTlb d (d.coreXlt n va a).2 := by
  unfold Dev.coreXlt
  split_ifs
  · exact .refl d
  · cases (d.core n).mapOf va with
    | perm => exact .refl d
    | phys => exact .refl d
    | tables root ctx =>
      dsimp only
      have ht := d.translateBy_onlyTlb (32 + n) ctx va a (d.walkFrom ctx va root [(1, 55, 42), (2, 41, 29), (3, 28, 16)])
      generalize d.translateBy (32 + n) ctx va a _ = r at ht
      obtain ⟨r, e⟩ := r
      cases r <;> exact ht

/-! ## Bytes of memory -/

theorem leBytes_ofLe (l : List Byte) : leBytes l.length (ofLe l) = l := by
  refine List.ext_getElem (length_leBytes _ _) fun i h1 h2 => ?_
  have hd : l.drop i = l[i] :: l.drop (i + 1) := List.drop_eq_getElem_cons h2
  have hp : (2 : Nat) ^ (8 * i) = 256 ^ i := by rw [pow_mul]; rfl
  simp only [leBytes, List.getElem_map, List.getElem_range, Nat.shiftRight_eq_div_pow, hp, ofLe_div, hd, ofLe_cons]
  exact BitVec.eq_of_toNat_eq (by simpa using l[i].isLt)

@[simp] theorem Memory.length_readN (m : Memory) (a n : Nat) : (m.readN a n).length = n := by simp [Memory.readN]

theorem leBytes_ofLe_readN (m : Memory) (a n : Nat) : leBytes n (ofLe (m.readN a n)) = m.readN a n := by
  have h := leBytes_ofLe (m.readN a n)
  rwa [Memory.length_readN] at h

theorem Dev.place_hbm (d : Dev) {pa : Nat} (h : pa < 0x9000000000) : d.place pa = pa := by
  unfold Dev.place
  rw [if_neg (by omega)]

theorem Dev.readHome_hbm (d : Dev) {pa : Nat} (h : pa < 0x9000000000) (n : Nat) : d.readHome (.hbm pa) n = d.ms.mem.readN pa n := by
  simp only [Dev.readHome, Home.key, d.place_hbm h]

/-! ## Reads -/

theorem Dev.only_poisonRead (d : Dev) (v : Via) (h : Home) (n : Nat) : OnlyCaches d (d.poisonRead v h n) := by
  have hrec : ∀ (e : Dev) (g rec loc : Nat), OnlyCaches e (e.keepRecord g rec loc) := by
    intro e g rec loc
    unfold Dev.keepRecord
    exact .ite (.refl e) ((e.only_setReg _ _).trans (Dev.only_setReg _ _ _))
  unfold Dev.poisonRead
  split
  · refine List.foldlRecOn _ _ (.refl d) fun e he i _ => ?_
    dsimp only
    split
    · exact he.trans (hrec e _ _ _)
    · exact he
  · exact .refl d

theorem Dev.only_loadLine (d : Dev) (v : Via) (h : Home) (na : Bool) : OnlyCaches d (d.loadLine v h na) := by
  unfold Dev.loadLine
  cases h with
  | sram | ctrl | fabric | outside => exact .refl d
  | hbm | core | host =>
    cases v with
    | engine => exact .refl d
    | til t src => exact (d.only_sharedLoad _ _ _).trans (Dev.only_setCache _ _ _)
    | core n => exact d.only_coreLoad _ _ _

/-- A read of HBM that passes its checks. -/
theorem Dev.readPiece_hbm (d : Dev) {w : Who} {pa n : Nat} (na : Bool) (hpa : pa < 0x9000000000) (hv : d.verdict (.hbm pa) w.ctx false = .pass)
    (hb : d.badHome (.hbm pa) n = false) :
    ∃ e, OnlyCaches d e ∧ d.readPiece w (.hbm pa) n na = (.ok, d.ms.mem.readN pa n, false, e) := by
  refine ⟨_, (d.only_poisonRead w.via (.hbm pa) n).trans (Dev.only_loadLine _ w.via (.hbm pa) na), ?_⟩
  simp only [Dev.readPiece, hv, hb, d.readHome_hbm hpa]

/-! ## Stores -/

theorem SMap.find_mapVals {α : Type} (m : SMap α) (f : Nat → α → α) (k : Nat) : SMap.find (SMap.mapVals m f) k = (SMap.find m k).map (f k) := by
  induction m with
  | nil => rfl
  | cons e r ih =>
    obtain ⟨j, v⟩ := e
    by_cases hj : j = k
    · subst hj; simp [SMap.mapVals, SMap.find]
    · simpa [SMap.mapVals, SMap.find, hj] using ih

theorem SMap.get_mapVals {α : Type} (z : α) (m : SMap α) (f : Nat → α → α) (k : Nat) (hz : f k z = z) :
    SMap.get z (SMap.mapVals m f) k = f k (SMap.get z m k) := by
  cases hm : SMap.find m k <;> simp [SMap.get, SMap.find_mapVals, hm, hz]

/-- R241: a reservation on a line. -/
def resvOn (line : Nat) (r : Option Resv) : Bool :=
  match r with
  | some v => v.addr / 128 == line
  | none => false

/-- R241: of a core, losing a reservation changes nothing else. -/
theorem Dev.core_clearResv (d : Dev) (line : Nat) (a : Option Nat) (b : Option (Nat × Nat)) (n : Nat) :
    ∃ r, (d.clearResv line a b).core n = { d.core n with resv := r } := by
  obtain ⟨p, hp⟩ : ∃ p : Bool, (d.clearResv line a b).core n = if p then { d.core n with resv := none } else d.core n :=
    ⟨_, SMap.get_mapVals ({} : CoreSt) d.cores (fun n c =>
      if (resvOn line c.resv && a != some n) = true then { c with resv := none } else c) n rfl⟩
  cases p
  · exact ⟨(d.core n).resv, hp⟩
  · exact ⟨none, hp⟩

/-- R241: of a sheaf, losing reservations changes nothing else. -/
theorem Dev.sheaf_clearResv (d : Dev) (line : Nat) (a : Option Nat) (b : Option (Nat × Nat)) (k : Nat) :
    ∃ r, (d.clearResv line a b).sheaf k = { d.sheaf k with resv := r } := by
  obtain ⟨p, r, hp⟩ : ∃ (p : Bool) (r : List (Option Resv)), (d.clearResv line a b).sheaf k = if p then { d.sheaf k with resv := r } else d.sheaf k :=
    ⟨_, _, SMap.get_mapVals ({} : Sheaf) d.sheaves (fun k s => if s.resv.any (resvOn line) = true then
      { s with resv := (s.resv.zipIdx).map (fun e => if resvOn line e.1 && b != some (k, e.2) then none else e.1) } else s) k rfl⟩
  cases p
  · exact ⟨(d.sheaf k).resv, hp⟩
  · exact ⟨r, hp⟩

/-- What a store of a line leaves beside the bytes: cores and sheaves keep all but reservations. -/
theorem Dev.storeLine_hbm_units (d : Dev) (v : Via) (pa : Nat) (l : List Byte) (stn na : Bool) :
    (∀ n, ∃ r, (d.storeLine v (.hbm pa) l stn na).core n = { d.core n with resv := r }) ∧
      ∀ k, ∃ r, (d.storeLine v (.hbm pa) l stn na).sheaf k = { d.sheaf k with resv := r } := by
  have hk : ∃ e, OnlyCaches d e ∧ d.storeLine v (.hbm pa) l stn na = (e.clearResv ((Home.hbm pa).mark / 128)).storeHome (.hbm pa) l := by
    unfold Dev.storeLine
    simp only [Home.key]
    cases v with
    | engine => exact ⟨_, d.only_uncachedWrite _ _, rfl⟩
    | til t src => exact ⟨_, d.only_sharedStore _ _ _ _ _ _, rfl⟩
    | core n =>
      cases stn with
      | true => exact ⟨_, d.only_uncachedWrite _ _, rfl⟩
      | false => exact ⟨_, d.only_coreStore _ _ _, rfl⟩
  obtain ⟨e, ⟨r, st, cs, rfl⟩, he⟩ := hk
  rw [he]
  have hs : ∀ x : Dev, (x.storeHome (.hbm pa) l).cores = x.cores ∧ (x.storeHome (.hbm pa) l).sheaves = x.sheaves := by
    intro x
    unfold Dev.storeHome
    simp only [Home.key, Home.line, Option.map]
    split_ifs <;> exact ⟨rfl, rfl⟩
  refine ⟨fun n => ?_, fun k => ?_⟩
  · simp only [Dev.core, (hs _).1]
    exact Dev.core_clearResv _ _ none none n
  · simp only [Dev.sheaf, (hs _).2]
    exact Dev.sheaf_clearResv _ _ none none k

end Sys2Proof.Machine
end

section
/-! Loads, stores, atomics and reservations of a core on HBM (R94, R95, R98, R99, R203, R235, R241, R243, R257). -/

namespace Sys2Proof.Machine

open Sys2Proof

/-- A legal instruction that leaves the part `e`: the core goes on at the next word. -/
theorem exec_coreLeaves {s : State} {n : Nat} {i : Instr} {bad : Bool} {badL : Option Nat} {f : Nat → Dev → CEnd × Dev}
    {fL : Nat → Dev → LEnd × Dev} (h : CoreRuns s n 0) (hw : i.wf = (Agent.core n).wf)
    (hd : does i s.dev = s.dev.ghety i (.core n) 0 bad f badL fL) {e : Dev} (hb : bad = false) (hf : f n s.dev = (.next, e)) :
    exec i s = .next (leaves s (e.setCore n (fun c => { c with pc := c.pc + 4, retired := c.retired + 1 }))) := by
  subst hb
  have hl : decide ((s.dev.core n).level < 0) = false := by simp
  rw [exec_onCore h hw hd]
  simp only [Dev.onCore, h.2.1, hl, hf, Bool.not_true, Bool.or_self, Bool.false_eq_true, if_false, Dev.coreRetire, ofNat_toNat_add]
  exact congrArg (fun d => Host.Outcome.next (leaves s d)) (Dev.setCore_congr rfl)

/-- R235: a core whose combining buffer holds no entry of a line. -/
theorem Dev.ntReady_free (d : Dev) {n pa : Nat} (h : (d.core n).nt.all (fun x => x.line != pa / 128) = true) :
    d.ntReady n (.hbm pa) = (true, d) := by
  have hne : ∀ e ∈ (d.core n).nt, (e.line == pa / 128) = false := fun e he => by
    simpa using List.all_eq_true.1 h e he
  have hdrain : d.ntDrainLine n (pa / 128) = d := foldl_fixed_mem fun e he => if_neg (by simp only [hne e he, Bool.false_eq_true, not_false_eq_true])
  have hany : (d.core n).nt.any (fun e => e.line == pa / 128) = false := List.any_eq_false.2 fun e he => by simp [hne e he]
  simp only [Dev.ntReady, Home.ntLine, hdrain, hany, Bool.not_false]

section Access
variable {s : State} {n : Nat} {i : Instr} {f : IF} {pa a ctx size va : Nat} {na : Bool} {e : Dev}
  (hal : va % size = 0) (hpa : pa < 0x9000000000) (hnt : (s.dev.core n).nt.all (fun x => x.line != pa / 128) = true)

include hal hpa hnt

/-- R94: the one piece of an aligned load. -/
theorem Dev.coreLoads_hbm (hx : s.dev.coreXlt n va .read = (.ok (.hbm pa) a ctx na, e)) (hv : s.dev.verdict (.hbm pa) ctx false = .pass)
    (hb : s.dev.badHome (.hbm pa) size = false) :
    ∃ e', OnlyTlb s.dev e ∧ OnlyCaches e e' ∧
      s.dev.coreLoads n (decide (va % size = 0)) (corePieces va size) false = (.next, s.dev.ms.mem.readN pa size, e') := by
  have ht := s.dev.coreXlt_onlyTlb n va .read
  rw [hx] at ht
  obtain ⟨t, rfl⟩ := ht
  have hr := Dev.ntReady_free { s.dev with ms := { s.dev.ms with tlb := t } } (n := n) (pa := pa) hnt
  obtain ⟨e', he', hp⟩ := Dev.readPiece_hbm { s.dev with ms := { s.dev.ms with tlb := t } } (w := coreWho n ctx) (n := size) na hpa hv hb
  refine ⟨e', ⟨t, rfl⟩, he', ?_⟩
  simp only [corePieces, hal, if_true, Dev.coreLoads, Dev.coreMap, hx, hr, hp, Bool.false_eq_true, if_false, List.append_nil]

omit hpa in
/-- R94: the one piece of an aligned store. -/
theorem Dev.coreSt_hbm {v : Nat} (hx : s.dev.coreXlt n va .write = (.ok (.hbm pa) a ctx na, e))
    (hv : s.dev.verdict (.hbm pa) ctx true = .pass) (hfence : (s.dev.core n).fence = []) :
    OnlyTlb s.dev e ∧ s.dev.coreSt n va size v = (.next, e.storeLine (.core n) (.hbm pa) (leBytes size v) false na) := by
  have ht := s.dev.coreXlt_onlyTlb n va .write
  rw [hx] at ht
  obtain ⟨t, rfl⟩ := ht
  refine ⟨⟨t, rfl⟩, ?_⟩
  have hr := Dev.ntReady_free { s.dev with ms := { s.dev.ms with tlb := t } } (n := n) (pa := pa) hnt
  have hv' : Dev.verdict { s.dev with ms := { s.dev.ms with tlb := t } } (.hbm pa) (coreWho n ctx).ctx true = .pass := hv
  have hf : (Dev.core { s.dev with ms := { s.dev.ms with tlb := t } } n).fence = [] := hfence
  have hp : part (leBytes size v) va va size = leBytes size v := by simp [part]
  simp only [Dev.coreSt, corePieces, hal, if_true, Dev.coreStoreMap, Dev.coreMap, hx, reduceCtorEq, if_false, hp, hf, List.any_cons, List.any_nil,
    Dev.fenceHolds, Bool.or_self, Bool.false_eq_true, Dev.corePuts, Dev.corePut, hr, Dev.coreWrite, Dev.writePiece, hv']
  rfl

end Access

/-- LDL, STC and the atomics on HBM that passes its checks, with nothing to drain or order first. -/
theorem Dev.coreAtomic_hbm {d e : Dev} {n pa x ctx misaligned : Nat} {f : RF} {acc : Acc3} {na : Bool} {go : Dev → Home → Nat → Bool → CEnd × Dev}
    (hal : (d.x n f.ra.toNat).toNat % amoWidth f = 0) (hx : d.coreXlt n (d.x n f.ra.toNat).toNat acc = (.ok (.hbm pa) x ctx na, e))
    (hv : d.verdict (.hbm pa) ctx acc.stores = .pass) (hb : acc = .write ∨ d.badHome (.hbm pa) (amoWidth f) = false)
    (hnt : (d.core n).nt = []) (hfence : (d.core n).fence = []) (hfab : d.fabStores (· == .core n) = []) :
    OnlyTlb d e ∧ d.coreAtomic n f misaligned acc go = go e (.hbm pa) ctx na := by
  have ht := d.coreXlt_onlyTlb n (d.x n f.ra.toNat).toNat acc
  rw [hx] at ht
  obtain ⟨t, rfl⟩ := ht
  refine ⟨⟨t, rfl⟩, ?_⟩
  have hr := Dev.ntReady_free { d with ms := { d.ms with tlb := t } } (n := n) (pa := pa) (by simp [Dev.core] at hnt ⊢; simp [hnt])
  have hv' : Dev.verdict { d with ms := { d.ms with tlb := t } } (.hbm pa) ctx acc.stores = .pass := hv
  have hf : (Dev.core { d with ms := { d.ms with tlb := t } } n).fence = [] := hfence
  have hdrain : Dev.ntDrainAll { d with ms := { d.ms with tlb := t } } n = { d with ms := { d.ms with tlb := t } } := by
    simp only [Dev.ntDrainAll, Dev.ntDrain]
    rw [show (Dev.core { d with ms := { d.ms with tlb := t } } n).nt = [] from hnt]
    rfl
  have hq : Dev.coreQuiet { d with ms := { d.ms with tlb := t } } n = true := by
    simp only [Dev.coreQuiet, Dev.ntEmpty]
    rw [show (Dev.core { d with ms := { d.ms with tlb := t } } n).nt = [] from hnt,
      show Dev.fabStores { d with ms := { d.ms with tlb := t } } (· == .core n) = [] from hfab]
    rfl
  have hb' : (acc != .write && Dev.badHome { d with ms := { d.ms with tlb := t } } (.hbm pa) (amoWidth f)) = false := by
    rcases hb with rfl | hb
    · rfl
    · rw [show Dev.badHome { d with ms := { d.ms with tlb := t } } (.hbm pa) (amoWidth f) = false from hb, Bool.and_false]
  simp only [Dev.coreAtomic, hal, ne_eq, not_true_eq_false, if_false, Dev.coreMap, hx, atomicPlace, hdrain, ite_self, hq, hr, hv', hb', hf,
    Dev.fenceHolds, List.any_nil, Bool.not_true, Bool.and_false, Bool.false_eq_true]

/-- A misaligned LDL, STC or atomic. -/
theorem Dev.coreAtomic_misaligned {d : Dev} {n misaligned : Nat} {f : RF} {acc : Acc3} {go : Dev → Home → Nat → Bool → CEnd × Dev}
    (hal : (d.x n f.ra.toNat).toNat % amoWidth f ≠ 0) :
    d.coreAtomic n f misaligned acc go = (.exc misaligned (d.x n f.ra.toNat).toNat 0, d) := by
  simp only [Dev.coreAtomic, ne_eq, hal, not_false_eq_true, if_true]

/-- What an access that changes only caches leaves of a core and of memory. -/
theorem core_of_onlyCaches {d e e' : Dev} (ht : OnlyTlb d e) (hc : OnlyCaches e e') (n : Nat) : e'.core n = d.core n ∧ e'.ms.mem = d.ms.mem := by
  obtain ⟨t, rfl⟩ := ht
  obtain ⟨r, st, cs, rfl⟩ := hc
  exact ⟨rfl, rfl⟩

section Forms
variable {s : State} {n pa a ctx size : Nat} {i : Instr} {f : IF} {na : Bool} {e : Dev}
  (h : CoreRuns s n 0) (hw : i.wf = (Agent.core n).wf) (hal : s.dev.coreAddr n f % size = 0) (hpa : pa < 0x9000000000)
  (hnt : (s.dev.core n).nt.all (fun x => x.line != pa / 128) = true)
include h hw hal hpa hnt

/-- R94: an aligned load of HBM. -/
theorem exec_coreLd {signed : Bool} (hd : does i s.dev = s.dev.onCore n 0 false (Dev.coreLd size signed f n))
    (hx : s.dev.coreXlt n (s.dev.coreAddr n f) .read = (.ok (.hbm pa) a ctx na, e)) (hv : s.dev.verdict (.hbm pa) ctx false = .pass)
    (hb : s.dev.badHome (.hbm pa) size = false) :
    ∃ e' : Dev, e'.core n = s.dev.core n ∧ e'.ms.mem = s.dev.ms.mem ∧
      exec i s = .next (coreDoes (leaves s e') n (fun c => c.setX f.rd.toNat (extend64 size signed (ofLe (s.dev.ms.mem.readN pa size))))) := by
  obtain ⟨e', ht, hc, hl⟩ := Dev.coreLoads_hbm hal hpa hnt hx hv hb
  obtain ⟨hcore, hmem⟩ := core_of_onlyCaches ht hc n
  refine ⟨e'.fabDone (.core n), hcore, hmem, exec_coreDoesOn (f := Dev.coreLd size signed f) (badL := none) (fL := fun _ d => (.next, d)) h hw hd rfl
    (g' := fun c => c.setX f.rd.toNat (extend64 size signed (ofLe (s.dev.ms.mem.readN pa size)))) ?_ hcore rfl (by simp) (by simp)⟩
  simp only [Dev.coreLd, hl, Dev.coreEnd]
  rfl

/-- R94: an aligned store to HBM. -/
theorem exec_coreSt (hd : does i s.dev = s.dev.onCore n 0 false (Dev.coreStI size f n))
    (hx : s.dev.coreXlt n (s.dev.coreAddr n f) .write = (.ok (.hbm pa) a ctx na, e)) (hv : s.dev.verdict (.hbm pa) ctx true = .pass)
    (hfence : (s.dev.core n).fence = []) :
    ∃ e' : Dev, (∃ r, e'.core n = { s.dev.core n with resv := r }) ∧
      e'.ms.mem = s.dev.ms.mem.writeN pa (leBytes size ((s.dev.core n).getX f.rd.toNat).toNat) ∧
      exec i s = .next (leaves s (e'.setCore n (fun c => { c with pc := c.pc + 4, retired := c.retired + 1 }))) := by
  obtain ⟨⟨t, rfl⟩, hst⟩ := Dev.coreSt_hbm (v := ((s.dev.core n).getX f.rd.toNat).toNat % 2 ^ (8 * size)) hal hnt hx hv hfence
  refine ⟨_, ?_, ?_, exec_coreLeaves (f := Dev.coreStI size f) (badL := none) (fL := fun _ d => (.next, d)) h hw hd rfl hst⟩
  · exact (Dev.storeLine_hbm_units _ _ _ _ _ _).1 n
  · rw [Dev.storeLine_hbm_mem _ _ _ _ _ _ hpa, leBytes_mod]

end Forms

end Sys2Proof.Machine

namespace Sys2Proof

open Sys2Proof.Machine

/-- A write of memory leaves what lies beside it. -/
theorem keepsMemory_writeN {s t : State} {pa size : Nat} {l : List Byte} (hl : l.length = size) (hm : t.dev.ms.mem = s.dev.ms.mem.writeN pa l) :
    KeepsMemory s t (fun b => pa ≤ b ∧ b < pa + size) := by
  intro b hb
  rw [hm]
  exact Memory.read_writeN_other (by omega)

/-- Settles O19: the one piece of an aligned load and of an aligned store. -/
theorem coreLoadsAndStores : Obligations.CoreLoadsAndStores := by
  unfold Obligations.CoreLoadsAndStores
  refine ⟨fun p hp s n f pa a ctx na e h hal hx hpa hv hb hnt => ?_, fun p hp s n f pa a ctx na e h hal hx hpa hv hnt hfence => ?_⟩
  · have hw : (p.1 (.core n) f).wf = (Agent.core n).wf := by fin_cases hp <;> rfl
    have hd : does (p.1 (.core n) f) s.dev = s.dev.onCore n 0 false (Dev.coreLd p.2.1 p.2.2 f n) := by fin_cases hp <;> rfl
    obtain ⟨e', hcore, hmem, he⟩ := exec_coreLd h hw hal hpa hnt hd hx hv hb
    refine ⟨_, he, ?_, fun b _ => congrArg (fun m => Memory.read m b) hmem, rfl⟩
    simp only [coreDoes, leaves, Dev.core_setCore_same, hcore]
    rfl
  · have hw : (p.1 (.core n) f).wf = (Agent.core n).wf := by fin_cases hp <;> rfl
    have hd : does (p.1 (.core n) f) s.dev = s.dev.onCore n 0 false (Dev.coreStI p.2 f n) := by fin_cases hp <;> rfl
    obtain ⟨e', ⟨r, hcore⟩, hmem, he⟩ := exec_coreSt h hw hal hpa hnt hd hx hv hfence
    have hlen : (leBytes p.2 ((s.dev.core n).getX f.rd.toNat).toNat).length = p.2 := length_leBytes _ _
    refine ⟨_, he, ?_, keepsMemory_writeN hlen hmem, fun hm => ?_, ?_⟩
    · refine (congrArg (fun m => Memory.readN m pa p.2) hmem).trans ?_
      have hr := Memory.readN_writeN s.dev.ms.mem pa (leBytes p.2 ((s.dev.core n).getX f.rd.toNat).toNat)
      rwa [hlen] at hr
    · exact (congrArg Memory.wf hmem).trans (Memory.wf_writeN hm)
    · simp only [leaves, Dev.core_setCore_same, hcore, and_self]

end Sys2Proof
end

section
/-! Atomics and reservations of a core on HBM (R95, R98, R99, R241, R243). -/

namespace Sys2Proof.Machine

open Sys2Proof

theorem Dev.x_of_resv {c : CoreSt} {d : Dev} {n : Nat} {r : Option Resv} (h : d.core n = { c with resv := r }) (k : Nat) : d.x n k = c.getX k := by
  rw [Dev.x_eq, h]; rfl

/-- R98, R243: an atomic on HBM: the value found, and what memory then holds. -/
theorem Dev.amoAt_hbm {d e : Dev} (ht : OnlyTlb d e) {pa : Nat} (hpa : pa < 0x9000000000) (op : AmoOp) (w rb rd : Nat) :
    ∃ e' : Dev, (∀ n, ∃ r, e'.core n = { d.core n with resv := r }) ∧
      (e'.ms.mem = match op.eval w (ofLe (d.ms.mem.readN pa w)) (rb % 2 ^ (8 * w)) (rd % 2 ^ (8 * w)) with
        | some v => d.ms.mem.writeN pa (leBytes w v)
        | none => d.ms.mem) ∧
      e.amoAt op (.hbm pa) w rb rd = (ofLe (d.ms.mem.readN pa w), e') := by
  have hc := e.only_recall (pa / 128) true
  have hread : (e.recall (pa / 128) true).readHome (.hbm pa) w = d.ms.mem.readN pa w := by
    rw [Dev.readHome_hbm _ hpa, (core_of_onlyCaches ht hc 0).2]
  have hcore := fun n => (core_of_onlyCaches ht hc n).1
  have hmem := (core_of_onlyCaches ht hc 0).2
  cases hop : op.eval w (ofLe (d.ms.mem.readN pa w)) (rb % 2 ^ (8 * w)) (rd % 2 ^ (8 * w)) with
  | some v =>
    refine ⟨(e.recall (pa / 128) true).storeLine .engine (.hbm pa) (leBytes w v), fun n => ?_, ?_, ?_⟩
    · rw [← hcore n]
      exact (Dev.storeLine_hbm_units _ _ _ _ _ _).1 n
    · rw [Dev.storeLine_hbm_mem _ _ _ _ _ _ hpa, hmem]
    · simp only [Dev.amoAt, Home.key, hread, hop]
  | none =>
    refine ⟨(e.recall (pa / 128) true).clearResv ((Home.hbm pa).mark / 128), fun n => ?_, ?_, ?_⟩
    · rw [← hcore n]
      exact Dev.core_clearResv _ _ none none n
    · rw [Dev.clearResv_ms, hmem]
    · simp only [Dev.amoAt, Home.key, hread, hop]

/-- Memory after the bytes of a value are stored, or nothing is. -/
theorem Memory.readN_stored {m m' : Memory} {pa w : Nat} {new : Option Nat}
    (hm : m' = match new with | some v => m.writeN pa (leBytes w v) | none => m) :
    m'.readN pa w = leBytes w (new.getD (ofLe (m.readN pa w))) ∧ ∀ b, ¬ (pa ≤ b ∧ b < pa + w) → m'.read b = m.read b := by
  subst hm
  cases new with
  | none => exact ⟨(leBytes_ofLe_readN m pa w).symm, fun b _ => rfl⟩
  | some v =>
    have hr := Memory.readN_writeN m pa (leBytes w v)
    rw [length_leBytes] at hr
    exact ⟨hr, fun b hb => Memory.read_writeN_other (by rw [length_leBytes]; omega)⟩

/-- A write of a register depends on the registers alone. -/
theorem CoreSt.setX_x_congr {c c' : CoreSt} {v v' : BitVec 64} (hv : v = v') (h : c.x = c'.x) (r : Nat) : (c.setX r v).x = (c'.setX r v').x := by
  subst hv
  unfold CoreSt.setX
  split
  · exact h
  · rw [h]

section Forms
variable {s : State} {n pa a ctx : Nat} {i : Instr} {f : RF} {na bad : Bool} {e : Dev}
  (h : CoreRuns s n 0) (hw : i.wf = (Agent.core n).wf)
include h hw

/-- R95: a misaligned LDL, STC or atomic. -/
theorem exec_coreAtomic_misaligned {g : Dev → CEnd × Dev} {code : Nat} {acc : Acc3} {go : Dev → Home → Nat → Bool → CEnd × Dev}
    (hd : does i s.dev = s.dev.onCore n 0 bad g) (hbad : bad = false) (hg : g s.dev = s.dev.coreAtomic n f code acc go)
    (hal : (s.dev.x n f.ra.toNat).toNat % amoWidth f ≠ 0) : exec i s = .next (coreTraps s n code (s.dev.x n f.ra.toNat).toNat 0) :=
  exec_coreTraps (f := fun _ => g) (badL := none) (fL := fun _ d => (.next, d)) h hw hd hbad (hg.trans (Dev.coreAtomic_misaligned hal))

section Aligned
variable (hal : (s.dev.x n f.ra.toNat).toNat % amoWidth f = 0) (hpa : pa < 0x9000000000) (hnt : (s.dev.core n).nt = [])
  (hfence : (s.dev.core n).fence = []) (hfab : s.dev.fabStores (· == .core n) = [])
include hal hpa hnt hfence hfab

/-- R98: an atomic. -/
theorem exec_coreAmo {op : AmoOp} (hd : does i s.dev = s.dev.onCore n 0 bad (Dev.coreAmo op f n)) (hbad : bad = false)
    (hx : s.dev.coreXlt n (s.dev.x n f.ra.toNat).toNat .atomic = (.ok (.hbm pa) a ctx na, e)) (hv : s.dev.verdict (.hbm pa) ctx true = .pass)
    (hb : s.dev.badHome (.hbm pa) (amoWidth f) = false) :
    ∃ (e' : Dev) (r : Option Resv), e'.core n = { s.dev.core n with resv := r } ∧
      (e'.ms.mem = match op.eval (amoWidth f) (ofLe (s.dev.ms.mem.readN pa (amoWidth f)))
          (((s.dev.core n).getX f.rb.toNat).toNat % 2 ^ (8 * amoWidth f)) (((s.dev.core n).getX f.rd.toNat).toNat % 2 ^ (8 * amoWidth f)) with
        | some v => s.dev.ms.mem.writeN pa (leBytes (amoWidth f) v)
        | none => s.dev.ms.mem) ∧
      exec i s = .next (leaves s ((e'.putX n f.rd.toNat (extend64 (amoWidth f) true (ofLe (s.dev.ms.mem.readN pa (amoWidth f))))).setCore n
        (fun c => { c with pc := c.pc + 4, retired := c.retired + 1 }))) := by
  obtain ⟨ht, hgo⟩ := Dev.coreAtomic_hbm (misaligned := 0x08) (go := fun d h _ _ =>
    let (old, d) := d.amoAt op h (amoWidth f) (s.dev.x n f.rb.toNat).toNat (s.dev.x n f.rd.toNat).toNat
    (.next, d.putX n f.rd.toNat (extend64 (amoWidth f) true old))) hal hx hv (.inr hb) hnt hfence hfab
  obtain ⟨e', hcore, hmem, ham⟩ := Dev.amoAt_hbm ht hpa op (amoWidth f) (s.dev.x n f.rb.toNat).toNat (s.dev.x n f.rd.toNat).toNat
  obtain ⟨r, hr⟩ := hcore n
  refine ⟨e', r, hr, hmem, exec_coreLeaves (f := Dev.coreAmo op f) (badL := none) (fL := fun _ d => (.next, d)) h hw hd hbad ?_⟩
  rw [Dev.coreAmo, hgo]
  simp only [ham]

/-- R99: LDL. -/
theorem exec_coreLdl (hd : does i s.dev = s.dev.onCore n 0 bad (Dev.coreLdl f n)) (hbad : bad = false)
    (hx : s.dev.coreXlt n (s.dev.x n f.ra.toNat).toNat .read = (.ok (.hbm pa) a ctx na, e)) (hv : s.dev.verdict (.hbm pa) ctx false = .pass)
    (hb : s.dev.badHome (.hbm pa) (amoWidth f) = false) :
    ∃ e' : Dev, e'.core n = s.dev.core n ∧ e'.ms.mem = s.dev.ms.mem ∧
      exec i s = .next (coreDoes (leaves s e') n (fun c =>
        { c with resv := some ⟨pa, amoWidth f⟩ }.setX f.rd.toNat (extend64 (amoWidth f) true (ofLe (s.dev.ms.mem.readN pa (amoWidth f)))))) := by
  obtain ⟨ht, hgo⟩ := Dev.coreAtomic_hbm (misaligned := 0x08) (go := fun d h _ na =>
    let v := ofLe (d.readHome h (amoWidth f))
    let d := (d.loadLine (.core n) h na).setCore n (fun c => { c with resv := some ⟨h.mark, (amoWidth f)⟩ })
    (.next, d.putX n f.rd.toNat (extend64 (amoWidth f) true v))) hal hx hv (.inr hb) hnt hfence hfab
  obtain ⟨hcore, hmem⟩ := core_of_onlyCaches ht (e.only_loadLine (.core n) (.hbm pa) na) n
  refine ⟨e.loadLine (.core n) (.hbm pa) na, hcore, hmem, ?_⟩
  have hread : e.readHome (.hbm pa) (amoWidth f) = s.dev.ms.mem.readN pa (amoWidth f) := by
    rw [Dev.readHome_hbm _ hpa, (core_of_onlyCaches ht (.refl e) n).2]
  refine exec_coreDoesOn (f := Dev.coreLdl f) (badL := none) (fL := fun _ d => (.next, d)) h hw hd hbad
    (g' := fun c => { c with resv := some ⟨pa, amoWidth f⟩ }.setX f.rd.toNat (extend64 (amoWidth f) true (ofLe (s.dev.ms.mem.readN pa (amoWidth f)))))
    ?_ hcore rfl (by simp) (by simp)
  rw [Dev.coreLdl, hgo]
  simp only [hread, Dev.putX, Dev.setCore_setCore]
  rfl

/-- R99: STC. -/
theorem exec_coreStc (hd : does i s.dev = s.dev.onCore n 0 bad (Dev.coreStc f n)) (hbad : bad = false)
    (hx : s.dev.coreXlt n (s.dev.x n f.ra.toNat).toNat .write = (.ok (.hbm pa) a ctx na, e)) (hv : s.dev.verdict (.hbm pa) ctx true = .pass) :
    ∃ (e' : Dev) (r : Option Resv), e'.core n = { s.dev.core n with resv := r } ∧
      e'.ms.mem = (if (s.dev.core n).resv = some ⟨pa, amoWidth f⟩
        then s.dev.ms.mem.writeN pa (leBytes (amoWidth f) ((s.dev.core n).getX f.rb.toNat).toNat) else s.dev.ms.mem) ∧
      exec i s = .next (leaves s (((e'.setCore n (fun c => { c with resv := none })).putX n f.rd.toNat
        (if (s.dev.core n).resv = some ⟨pa, amoWidth f⟩ then 0 else 1)).setCore n
        (fun c => { c with pc := c.pc + 4, retired := c.retired + 1 }))) := by
  obtain ⟨⟨t, rfl⟩, hgo⟩ := Dev.coreAtomic_hbm (misaligned := 0x09) (go := fun d h _ na =>
    let held := (d.core n).resv == some ⟨h.mark, (amoWidth f)⟩
    let d := if held then d.storeLine (.core n) h (leBytes (amoWidth f) (s.dev.x n f.rb.toNat).toNat) false na else d
    let d := d.setCore n (fun c => { c with resv := none })
    (.next, d.putX n f.rd.toNat (if held then 0 else 1))) hal hx hv (.inl rfl) hnt hfence hfab
  have hh : ((Dev.core { s.dev with ms := { s.dev.ms with tlb := t } } n).resv == some ⟨(Home.hbm pa).mark, amoWidth f⟩) =
      decide ((s.dev.core n).resv = some ⟨pa, amoWidth f⟩) := beq_eq_decide _ _
  by_cases held : (s.dev.core n).resv = some ⟨pa, amoWidth f⟩
  · obtain ⟨r, hr⟩ := (Dev.storeLine_hbm_units { s.dev with ms := { s.dev.ms with tlb := t } } (.core n) pa
      (leBytes (amoWidth f) (s.dev.x n f.rb.toNat).toNat) false na).1 n
    refine ⟨_, r, hr, ?_, exec_coreLeaves (f := Dev.coreStc f) (badL := none) (fL := fun _ d => (.next, d)) h hw hd hbad ?_⟩
    · rw [if_pos held, Dev.storeLine_hbm_mem _ _ _ _ _ _ hpa]
      rfl
    · rw [Dev.coreStc, hgo]
      simp only [hh, held, decide_true, if_true]
  · refine ⟨{ s.dev with ms := { s.dev.ms with tlb := t } }, (s.dev.core n).resv, rfl, ?_,
      exec_coreLeaves (f := Dev.coreStc f) (badL := none) (fL := fun _ d => (.next, d)) h hw hd hbad ?_⟩
    · rw [if_neg held]
    · rw [Dev.coreStc, hgo]
      simp only [hh, held, decide_false, Bool.false_eq_true, if_false]

end Aligned

end Forms

end Sys2Proof.Machine

namespace Sys2Proof

open Sys2Proof.Machine

/-- Settles O20: the atomic functions one by one, then LDL and STC with the reservation held or not. -/
theorem coreAtomicsAndReservations : Obligations.CoreAtomicsAndReservations := by
  unfold Obligations.CoreAtomicsAndReservations
  refine ⟨fun p hp s n f h hf => ?_, fun s n f h hf => ⟨fun hal => ⟨?_, fun hb0 => ?_⟩, fun pa a ctx na e hal hpa hnt hfence hfab =>
    ⟨fun hb0 hx hv hb => ?_, fun hx hv => ?_⟩⟩⟩
  · have hw : (p.1 (.core n) f).wf = (Agent.core n).wf := by fin_cases hp <;> rfl
    obtain ⟨op, hne, hd, hop⟩ : ∃ op : AmoOp, op ≠ .fadd ∧
        does (p.1 (.core n) f) s.dev = s.dev.onCore n 0 ((op == .fadd && f.fn2.getLsbD 0) || decide (7 < f.fn2.toNat)) (Dev.coreAmo op f n) ∧
        ∀ w o b r, op.eval w o b r = p.2 w o b r := by
      fin_cases hp
      · exact ⟨.swap, nofun, rfl, fun _ _ _ _ => rfl⟩
      · exact ⟨.add, nofun, rfl, fun _ _ _ _ => rfl⟩
      · exact ⟨.band, nofun, rfl, fun _ _ _ _ => rfl⟩
      · exact ⟨.bor, nofun, rfl, fun _ _ _ _ => rfl⟩
      · exact ⟨.bxor, nofun, rfl, fun _ _ _ _ => rfl⟩
      · exact ⟨.min, nofun, rfl, fun w o b _ => by simp only [AmoOp.eval, ← not_le, ite_not]⟩
      · exact ⟨.max, nofun, rfl, fun w o b _ => by simp only [AmoOp.eval, ← not_le, ite_not]⟩
      · exact ⟨.minu, nofun, rfl, fun _ _ _ _ => rfl⟩
      · exact ⟨.maxu, nofun, rfl, fun _ _ _ _ => rfl⟩
      · exact ⟨.cas, nofun, rfl, fun _ _ _ _ => rfl⟩
    have hbad : ((op == .fadd && f.fn2.getLsbD 0) || decide (7 < f.fn2.toNat)) = false := by simp [hne]; omega
    refine ⟨fun hal => exec_coreAtomic_misaligned h hw hd hbad rfl hal, fun pa a ctx na e hal hx hpa hv hb hnt hfence hfab => ?_⟩
    obtain ⟨e', r, hcore, hmem, he⟩ := exec_coreAmo h hw hal hpa hnt hfence hfab hd hbad hx hv hb
    rw [hop] at hmem
    obtain ⟨hread, hkeep⟩ := Memory.readN_stored hmem
    refine ⟨_, he, hread, hkeep, ?_⟩
    simp only [leaves, Dev.putX, Dev.setCore_setCore, Dev.core_setCore_same, hcore, CoreSt.setX_pc, CoreSt.setX_f, CoreSt.setX_csr,
      CoreSt.setX_level, and_true]
    refine CoreSt.setX_x_congr ?_ ?_ _ <;> rfl
  · exact exec_coreAtomic_misaligned h rfl (bad := false || decide (7 < f.fn2.toNat)) (g := Dev.coreStc f n) rfl (by simp; omega) rfl hal
  · exact exec_coreAtomic_misaligned h rfl (bad := f.rb != 0 || decide (7 < f.fn2.toNat)) (g := Dev.coreLdl f n) rfl (by simp [hb0]; omega) rfl hal
  · obtain ⟨e', hcore, hmem, he⟩ := exec_coreLdl h rfl hal hpa hnt hfence hfab (i := .ldl (.core n) f) (bad := f.rb != 0 || decide (7 < f.fn2.toNat)) rfl
      (by simp [hb0]; omega) hx hv hb
    refine ⟨_, he, ?_, fun b _ => congrArg (fun m => Memory.read m b) hmem, ?_, ?_⟩ <;>
      simp only [coreDoes, leaves, Dev.core_setCore_same, hcore, CoreSt.setX_resv]
    · rfl
    · refine CoreSt.setX_x_congr ?_ ?_ _ <;> rfl
  · obtain ⟨e', r, hcore, hmem, he⟩ := exec_coreStc h rfl hal hpa hnt hfence hfab (i := .stc (.core n) f) (bad := false || decide (7 < f.fn2.toNat)) rfl
      (by simp; omega) hx hv
    refine ⟨_, he, ?_, ?_, fun held => ?_, fun held => ?_⟩
    · simp only [leaves, Dev.putX, Dev.setCore_setCore, Dev.core_setCore_same, hcore, CoreSt.setX_resv]
    · simp only [leaves, Dev.putX, Dev.setCore_setCore, Dev.core_setCore_same, hcore, CoreSt.setX_pc]
    · obtain ⟨hread, hkeep⟩ := Memory.readN_stored (new := some ((s.dev.core n).getX f.rb.toNat).toNat) (hmem.trans (if_pos held))
      refine ⟨hread, hkeep, ?_⟩
      simp only [leaves, Dev.putX, Dev.setCore_setCore, Dev.core_setCore_same, hcore]
      refine CoreSt.setX_x_congr ?_ ?_ _
      · exact if_pos held
      · rfl
    · refine ⟨fun b _ => congrArg (fun m => Memory.read m b) (hmem.trans (if_neg held)), ?_⟩
      simp only [leaves, Dev.putX, Dev.setCore_setCore, Dev.core_setCore_same, hcore]
      refine CoreSt.setX_x_congr ?_ ?_ _
      · exact if_neg held
      · rfl

end Sys2Proof
end

section
/-! Global loads of a sheaf on HBM (R83, R94, R106, R192, R203). -/

namespace Sys2Proof.Machine

open Sys2Proof

/-! ## The checks of HBM do not depend on what the caches change (R154, R203) -/

/-- From d to e only caches, and registers of Tillers and Culms, may have changed. -/
def KeepsChecks (d e : Dev) : Prop := OnlyCaches d e ∧ ∀ off, off < 0x1000000 ∨ 0x2000000 ≤ off → e.reg off = d.reg off

theorem KeepsChecks.refl (d : Dev) : KeepsChecks d d := ⟨.refl d, fun _ _ => rfl⟩

theorem KeepsChecks.trans {a b c : Dev} (h : KeepsChecks a b) (h' : KeepsChecks b c) : KeepsChecks a c :=
  ⟨h.1.trans h'.1, fun off ho => (h'.2 off ho).trans (h.2 off ho)⟩

theorem KeepsChecks.ite {d a b : Dev} {p : Prop} [Decidable p] (ha : KeepsChecks d a) (hb : KeepsChecks d b) : KeepsChecks d (if p then a else b) := by
  split
  · exact ha
  · exact hb

theorem KeepsChecks.setCache (d : Dev) (k : Nat) (f : Cache → Cache) : KeepsChecks d (d.setCache k f) := ⟨d.only_setCache k f, fun _ _ => rfl⟩

theorem KeepsChecks.writeHome (d : Dev) (line : Nat) : KeepsChecks d (d.writeHome line) := ⟨d.only_writeHome line, fun _ _ => rfl⟩

theorem KeepsChecks.addWrap (d : Dev) {r : Nat} (hr : 0x1000000 ≤ r ∧ r < 0x2000000) (hi lo n : Nat) : KeepsChecks d (d.addWrap r hi lo n) :=
  ⟨d.only_addWrap r hi lo n, fun _ ho => Dev.reg_setFld_other d _ _ _ (by omega)⟩

theorem KeepsChecks.verdict {d e : Dev} (h : KeepsChecks d e) {pa : Nat} (hpa : pa < 0x9000000000) (ctx : Nat) (write : Bool) :
    e.verdict (.hbm pa) ctx write = d.verdict (.hbm pa) ctx write := by
  have hstat : ∀ g, e.reg (rGlmStat g) = d.reg (rGlmStat g) := fun g => h.2 _ (.inr (by unfold rGlmStat; omega))
  have hgot : ∀ g j, e.reg (rGlmGot g j) = d.reg (rGlmGot g j) := fun g j => h.2 _ (.inr (by unfold rGlmGot; omega))
  have hdie : ∀ g, g < 12 → e.reg (rCrownDiestat (slotGlm g)) = d.reg (rCrownDiestat (slotGlm g)) :=
    fun g hg => h.2 _ (.inl (by unfold rCrownDiestat slotGlm; omega))
  have hset : e.setOnline (pa / 0x2400000000) = d.setOnline (pa / 0x2400000000) := by
    simp only [Dev.setOnline, Dev.dieActive, Dev.dieState, Dev.fld, hstat, List.all_cons, List.all_nil]
    rw [hdie _ (by omega), hdie _ (by omega), hdie _ (by omega)]
  simp only [Dev.verdict, hset, Dev.gotPass, Dev.fld, Dev.bit, hgot]
  rfl

section Til
variable (d : Dev) {k : Nat} (hk : k < 8) (line : Nat) (st : Bool)
include hk

theorem KeepsChecks.sharedMiss : KeepsChecks d (d.sharedMiss k line st) := by
  have hmiss : 0x1000000 ≤ rScmiss k ∧ rScmiss k < 0x2000000 := by simp only [rScmiss, hk, if_true, rTilScmiss]; omega
  have hdirty : 0x1000000 ≤ rScdirtywb k ∧ rScdirtywb k < 0x2000000 := by simp only [rScdirtywb, hk, if_true, rTilScdirtywb]; omega
  unfold Dev.sharedMiss
  refine (KeepsChecks.addWrap d hmiss 63 0 1).trans ?_
  generalize d.addWrap (rScmiss k) 63 0 1 = e
  dsimp only
  generalize (e.cache k).victim k (cacheSet k line) (e.fillWays k) = wc
  obtain ⟨w, c⟩ := wc
  refine (KeepsChecks.setCache e k (fun _ => c)).trans ?_
  generalize e.setCache k (fun _ => c) = e
  dsimp only
  cases w with
  | none => exact .refl e
  | some w =>
    refine KeepsChecks.trans ?_ (.setCache _ k _)
    cases c.inWay k (cacheSet k line) w with
    | none => exact .refl e
    | some ve =>
      refine KeepsChecks.trans ?_ (.setCache _ k _)
      exact .ite ((KeepsChecks.writeHome e ve.1).trans (.addWrap _ hdirty _ _ _)) (.refl e)

theorem KeepsChecks.sharedLoad : KeepsChecks d (d.sharedLoad k line st) := by
  have hhits : 0x1000000 ≤ rSchits k ∧ rSchits k < 0x2000000 := by simp only [rSchits, hk, if_true, rTilSchits]; omega
  unfold Dev.sharedLoad
  cases d.cached k line with
  | some e => exact (KeepsChecks.addWrap d hhits _ _ _).trans (.setCache _ k _)
  | none =>
    refine (KeepsChecks.sharedMiss d hk line st).trans ?_
    dsimp only
    unfold Dev.fillReturn
    split
    · exact .refl _
    · exact .setCache _ k _

end Til

/-- R146: a read that meets no poison leaves no record. -/
theorem Dev.poisonRead_clean (d : Dev) (v : Via) {pa n : Nat} (hb : d.badHome (.hbm pa) n = false) : d.poisonRead v (.hbm pa) n = d := by
  refine foldl_fixed_mem fun i hi => ?_
  have hl : d.lineBad (pa / 128 + i) = false := by simpa using List.any_eq_false.1 hb i hi
  simp only [hl, Bool.false_and, Bool.false_eq_true, if_false]

/-- A read of HBM by a lane. -/
theorem Dev.readPiece_lane (d : Dev) {w : Who} {t src pa n : Nat} (na : Bool) (hw : w.via = .til t src) (ht : t < 8) (hpa : pa < 0x9000000000)
    (hv : d.verdict (.hbm pa) w.ctx false = .pass) (hb : d.badHome (.hbm pa) n = false) :
    ∃ e, KeepsChecks d e ∧ d.readPiece w (.hbm pa) n na = (.ok, d.ms.mem.readN pa n, false, e) := by
  refine ⟨_, (KeepsChecks.sharedLoad d ht (pa / 128) na).trans (.setCache _ t (fun c => c.seqBreak (pa / 4096))), ?_⟩
  simp only [Dev.readPiece, hv, hb, d.readHome_hbm hpa, hw, d.poisonRead_clean (.til t src) hb]
  rfl

/-! ## The lanes' accesses (R106, R192, R193) -/

/-- Every active lane's aligned access reaches HBM, and passes its checks, by an entry its translation cache holds. -/
def Dev.LanesReach (d : Dev) (k : Nat) (op : Acc3) (size : Nat) (adr pa : Nat → Nat) : Prop :=
  ∀ l ∈ (d.sheaf k).lanes, adr l < 2 ^ 56 ∧ adr l % size = 0 ∧ pa l % size = 0 ∧ pa l < 0x9000000000 ∧
    d.verdict (.hbm (pa l)) (d.whoLane k l).ctx op.stores = .pass ∧
    ∃ e lv, d.translate (keyTil k) (d.whoLane k l).ctx (adr l) op = (.ok e lv, d) ∧ d.leafHome e lv (adr l) = .hbm (pa l)

theorem Dev.LanesReach.home_lt {d : Dev} {k size : Nat} {op : Acc3} {adr pa : Nat → Nat} (h : d.LanesReach k op size adr pa) {l : Nat}
    (hl : l ∈ (d.sheaf k).lanes) : pa l < 0x9000000000 := (h l hl).2.2.2.1

theorem Dev.LanesReach.aligned {d : Dev} {k size : Nat} {op : Acc3} {adr pa : Nat → Nat} (h : d.LanesReach k op size adr pa) {l : Nat}
    (hl : l ∈ (d.sheaf k).lanes) : adr l % size = 0 ∧ pa l % size = 0 := ⟨(h l hl).2.1, (h l hl).2.2.1⟩

theorem Dev.whoLane_via (d : Dev) (k l : Nat) : (d.whoLane k l).via = .til (keyTil k) (keyC k) ∧ (d.whoLane k l).tlb = keyTil k := by
  unfold Dev.whoLane
  dsimp only
  split <;> exact ⟨rfl, rfl⟩

/-- The plan of lanes whose every access passes. -/
def hbmPlan (size : Nat) (pa : Nat → Nat) (na : Nat → Bool) (ls : List Nat) : List (Nat × List (Home × Bool × Nat)) :=
  ls.map (fun l => (l, [(.hbm (pa l), na l, size)]))

/-- The check of one lane, as `lanePlan` folds it. -/
def planStep (k : Nat) (a : Acc3) (size : Nat) (align place : Bool) (addr : Nat → Nat) (acc : LPlan × Dev) (l : Nat) : LPlan × Dev :=
  if 2 ^ 56 ≤ addr l then ({ acc.1 with exc := acc.1.exc <|> some (0x21, .protection, l) }, acc.2)
  else if align && addr l % size != 0 then ({ acc.1 with exc := acc.1.exc <|> some (0x20, .misaligned, l) }, acc.2)
  else match acc.2.laneCheck (acc.2.whoLane k l) (corePieces (addr l) size) a place with
    | (.ok x, d) => ({ acc.1 with plan := acc.1.plan ++ [(l, x)] }, d)
    | (.exc c s, d) => ({ acc.1 with exc := acc.1.exc <|> some (c, s, l) }, d)
    | (.fault c lv v, d) => ({ acc.1 with faults := acc.1.faults ++ [(c, lv, v)] }, d)
    | (.wait, d) => ({ acc.1 with wait := true }, d)

section Lanes
variable {d : Dev} {k size : Nat} {op : Acc3} {adr pa : Nat → Nat} (h : d.LanesReach k op size adr pa)
include h

theorem Dev.laneCheck_hbm {l : Nat} (hl : l ∈ (d.sheaf k).lanes) :
    ∃ na, ∀ place, d.laneCheck (d.whoLane k l) [(adr l, size)] op place = (.ok [(.hbm (pa l), na, size)], d) := by
  obtain ⟨-, -, -, -, hv, e, lv, htr, hleaf⟩ := h l hl
  refine ⟨pteNa e, fun place => ?_⟩
  have hplace : (place && !atomicPlace (.hbm (pa l)) && (Home.hbm (pa l) != .outside)) = false := by simp [atomicPlace]
  simp only [Dev.laneCheck, (d.whoLane_via k l).2, htr, hleaf, Dev.laneCheck1, hplace, hv, Bool.false_eq_true, if_false]

/-- What the checks of all lanes give. -/
theorem Dev.laneDo_hbm : ∃ na : Nat → Bool, ∀ (align place : Bool) (go : Dev → List (Nat × List (Home × Bool × Nat)) → LEnd × Dev),
    d.laneDo k op size align place adr go = go d (hbmPlan size pa na (d.sheaf k).lanes) := by
  choose! na hna using fun l hl => Dev.laneCheck_hbm h (l := l) hl
  have hfold : ∀ (align place : Bool) (ls : List Nat) (p : List (Nat × List (Home × Bool × Nat))), (∀ l ∈ ls, l ∈ (d.sheaf k).lanes) →
      ls.foldl (planStep k op size align place adr) ({ plan := p }, d) = ({ plan := p ++ hbmPlan size pa na ls }, d) := by
    intro align place ls
    induction ls with
    | nil => intro p _; simp [hbmPlan]
    | cons l ls ih =>
      intro p hls
      obtain ⟨h56, hal, -⟩ := h l (hls l (by simp))
      have hc := hna l (hls l (by simp)) place
      have hp : corePieces (adr l) size = [(adr l, size)] := if_pos hal
      have hstep : planStep k op size align place adr ({ plan := p }, d) l = ({ plan := p ++ [(l, [(.hbm (pa l), na l, size)])] }, d) := by
        have hal' : (align && adr l % size != 0) = false := by simp [hal]
        simp only [planStep, if_neg (Nat.not_le.2 h56), hal', Bool.false_eq_true, if_false, hp, hc]
      rw [List.foldl_cons, hstep, ih _ fun j hj => hls j (by simp [hj])]
      simp [hbmPlan]
  refine ⟨na, fun align place go => ?_⟩
  have hplan : d.lanePlan k op size align place adr = ({ plan := hbmPlan size pa na (d.sheaf k).lanes }, d) :=
    (hfold align place _ [] fun _ hl => hl).trans (by rw [List.nil_append])
  simp only [Dev.laneDo, hplan, List.isEmpty_nil, Bool.not_true, Bool.false_eq_true, if_false]

end Lanes

end Sys2Proof.Machine
end

section
/-! Global loads of a sheaf on HBM (R83, R94, R106). -/

namespace Sys2Proof.Machine

open Sys2Proof

theorem KeepsChecks.whoLane {d e : Dev} (h : KeepsChecks d e) (k l : Nat) : e.whoLane k l = d.whoLane k l := by
  obtain ⟨⟨r, st, cs, rfl⟩, -⟩ := h; rfl

theorem KeepsChecks.badHome {d e : Dev} (h : KeepsChecks d e) (pa n : Nat) : e.badHome (.hbm pa) n = d.badHome (.hbm pa) n := by
  obtain ⟨⟨r, st, cs, rfl⟩, -⟩ := h
  rfl

/-- The load of one lane, as `laneLoads` folds it. -/
def loadStep (k size : Nat) (addr : Nat → Nat) (acc : LLoad × Dev) (e : Nat × List (Home × Bool × Nat)) : LLoad × Dev :=
  match acc.2.laneLoad1 (acc.2.whoLane k e.1) (decide (addr e.1 % size = 0)) false e.2 with
  | (.ok, l, bad, d) =>
    if bad then ({ acc.1 with exc := acc.1.exc <|> some (0x40, .poison, e.1) }, d)
    else ({ acc.1 with vals := acc.1.vals.set e.1 (ofLe l) }, d)
  | (.fail s, _, _, d) => ({ acc.1 with exc := acc.1.exc <|> some (0x40, s, e.1) }, d)
  | (_, _, _, d) => ({ acc.1 with wait := true }, d)

/-- The end of the lanes' loads, as `laneLoads` gives it. -/
def loadsEnd (k : Nat) (put : Sheaf → SMap Nat → Sheaf) (r : LLoad × Dev) : LEnd × Dev :=
  match r.1.exc with
  | some (c, s, l) => (.exc c s l, r.2.laneFabDone k)
  | none => if r.1.wait then (.wait, r.2) else (.next, (r.2.laneFabDone k).setSheaf k (fun s => put s r.1.vals))

theorem Dev.laneLoads_eq (d : Dev) (k size : Nat) (adr : Nat → Nat) (put : Sheaf → SMap Nat → Sheaf) : d.laneLoads k size adr put =
    d.laneDo k .read size false false adr (fun d plan => loadsEnd k put (plan.foldl (loadStep k size adr) ({}, d))) := rfl

/-- What the lanes read, by lane. -/
def laneVals (m : Memory) (size : Nat) (pa : Nat → Nat) (ls : List Nat) (v : SMap Nat) : SMap Nat :=
  ls.foldl (fun v l => v.set l (ofLe (m.readN (pa l) size))) v

section Loads
variable {d : Dev} {k size : Nat} {adr pa : Nat → Nat} (hk : keyTil k < 8) (h : d.LanesReach k .read size adr pa)
  (hb : ∀ l ∈ (d.sheaf k).lanes, d.badHome (.hbm (pa l)) size = false)
include hk h hb

/-- One lane's load, whatever the loads before it changed in the caches. -/
theorem Dev.loadStep_hbm {e : Dev} (he : KeepsChecks d e) (na : Nat → Bool) {l : Nat} (hl : l ∈ (d.sheaf k).lanes) (v : SMap Nat) :
    ∃ e', KeepsChecks d e' ∧ loadStep k size adr ({ vals := v }, e) (l, [(.hbm (pa l), na l, size)]) =
      ({ vals := v.set l (ofLe (d.ms.mem.readN (pa l) size)) }, e') := by
  obtain ⟨-, -, -, hpa, hv, -⟩ := h l hl
  obtain ⟨e', he', hr⟩ := e.readPiece_lane (w := d.whoLane k l) (na l) (d.whoLane_via k l).1 hk hpa
    ((he.verdict hpa _ _).trans hv) ((he.badHome _ _).trans (hb l hl))
  rw [he.1.mem] at hr
  refine ⟨e', he.trans he', ?_⟩
  simp only [loadStep, he.whoLane, Dev.laneLoad1, hr, List.append_nil, Bool.or_self, Bool.false_eq_true, if_false]

theorem Dev.loads_hbm (na : Nat → Bool) (ls : List Nat) (hls : ∀ l ∈ ls, l ∈ (d.sheaf k).lanes) {e : Dev} (he : KeepsChecks d e) (v : SMap Nat) :
    ∃ e', KeepsChecks d e' ∧ (hbmPlan size pa na ls).foldl (loadStep k size adr) ({ vals := v }, e) =
      ({ vals := laneVals d.ms.mem size pa ls v }, e') := by
  induction ls generalizing e v with
  | nil => exact ⟨e, he, rfl⟩
  | cons l ls ih =>
    obtain ⟨e', he', hs⟩ := Dev.loadStep_hbm hk h hb he na (hls l (by simp)) v
    obtain ⟨e'', he'', hf⟩ := ih (fun j hj => hls j (by simp [hj])) he' (v.set l (ofLe (d.ms.mem.readN (pa l) size)))
    refine ⟨e'', he'', ?_⟩
    rw [hbmPlan, List.map_cons, List.foldl_cons, hs]
    exact hf

/-- R94: the load of every active lane. -/
theorem Dev.laneLoads_hbm : ∃ e', OnlyCaches d e' ∧ ∀ put : Sheaf → SMap Nat → Sheaf, d.laneLoads k size adr put =
    (.next, (e'.laneFabDone k).setSheaf k (fun x => put x (laneVals d.ms.mem size pa (d.sheaf k).lanes []))) := by
  obtain ⟨na, hgo⟩ := Dev.laneDo_hbm h
  obtain ⟨e', he', hf⟩ := Dev.loads_hbm hk h hb na _ (fun _ hl => hl) (.refl d) []
  refine ⟨e', he'.1, fun put => ?_⟩
  rw [Dev.laneLoads_eq, hgo, hf]
  rfl

end Loads

/-- The low word of a load of at most a word. -/
theorem setWidth_extend64 {size : Nat} (signed : Bool) (v : Nat) :
    (extend64 size signed v).setWidth 32 = if signed then BitVec.ofInt 32 (toSigned (8 * size) v) else BitVec.ofNat 32 v := by
  cases signed with
  | false => exact BitVec.setWidth_ofNat_of_le (by decide) v
  | true =>
    have hi : ∀ i : Int, (BitVec.ofInt 64 i).setWidth 32 = BitVec.ofInt 32 i := fun i => BitVec.eq_of_toNat_eq (by
      simp only [BitVec.toNat_setWidth, BitVec.toNat_ofInt]; omega)
    exact hi _

end Sys2Proof.Machine
end

section
/-! Stores of the lanes to one line, combined (R94, R97, R212). -/

namespace Sys2Proof.Machine

open Sys2Proof

/-! ## The bytes of an entry -/

/-- Byte i of an entry's data. -/
def NtEntry.byteOf (e : NtEntry) (i : Nat) : Byte := BitVec.ofNat 8 (e.data.toNat >>> (8 * i))

theorem NtEntry.bytes_eq (e : NtEntry) {a n : Nat} (h : a + n ≤ 128) : e.bytes (a, n) = (List.range n).map (fun j => e.byteOf (a + j)) := by
  refine List.ext_getElem (by simp [NtEntry.bytes]; omega) fun i h1 h2 => ?_
  simp [NtEntry.bytes, leBytes, NtEntry.byteOf]

/-- A byte of an entry after bytes are put. -/
theorem NtEntry.byteOf_put (e : NtEntry) {o i : Nat} {l : List Byte} (hl : o + l.length ≤ 128) (hi : i < 128) :
    (e.put o l).byteOf i = if h : o ≤ i ∧ i < o + l.length then l[i - o] else e.byteOf i := by
  have hlen : ((leBytes 128 e.data.toNat).take o ++ l ++ (leBytes 128 e.data.toNat).drop (o + l.length)).length = 128 := by simp; omega
  have hlt := ofLe_lt ((leBytes 128 e.data.toNat).take o ++ l ++ (leBytes 128 e.data.toNat).drop (o + l.length))
  have hp : (256 : Nat) ^ 128 = 2 ^ 1024 := by rw [show (256 : Nat) = 2 ^ 8 from rfl, ← pow_mul]
  rw [hlen, hp] at hlt
  have hd : (e.put o l).data.toNat = ofLe ((leBytes 128 e.data.toNat).take o ++ l ++ (leBytes 128 e.data.toNat).drop (o + l.length)) := by
    simp only [NtEntry.put, BitVec.toNat_ofNat, Nat.mod_eq_of_lt hlt]
  have hb : leBytes 128 (e.put o l).data.toNat = (leBytes 128 e.data.toNat).take o ++ l ++ (leBytes 128 e.data.toNat).drop (o + l.length) := by
    rw [hd]
    have h := leBytes_ofLe ((leBytes 128 e.data.toNat).take o ++ l ++ (leBytes 128 e.data.toNat).drop (o + l.length))
    rwa [hlen] at h
  have hbyte : ∀ x : NtEntry, (leBytes 128 x.data.toNat)[i]? = some (x.byteOf i) := fun x => by simp [leBytes, hi, NtEntry.byteOf]
  have hput := hbyte (e.put o l)
  rw [hb] at hput
  refine (Option.some.inj ?_).symm
  rw [← hput]
  split
  case isTrue h =>
    rw [List.getElem?_append_left (by simp; omega), List.getElem?_append_right (by simp; omega)]
    simp [show min o 128 = o by omega]
  case isFalse h =>
    rw [← hbyte e]
    by_cases ho : i < o
    · rw [List.getElem?_append_left (by simp; omega), List.getElem?_append_left (by simp; omega), List.getElem?_take_of_lt ho]
    · rw [List.getElem?_append_right (by simp; omega), List.getElem?_drop]
      congr 1
      simp
      omega

theorem NtEntry.mask_put (e : NtEntry) (o : Nat) (l : List Byte) {i : Nat} (hi : i < 128) :
    (e.put o l).mask.getLsbD i = (e.mask.getLsbD i || decide (o ≤ i ∧ i < o + l.length)) := by
  simp only [NtEntry.put, BitVec.getLsbD_or, BitVec.getLsbD_ofNat, hi, decide_true, Bool.true_and, Nat.testBit_shiftLeft,
    Nat.testBit_two_pow_sub_one, ge_iff_le, ← Bool.decide_and]
  congr 2
  simp only [eq_iff_iff]
  omega

/-! ## The runs of a mask -/

theorem of_lt_length_takeWhile_range {p : Nat → Bool} {n j : Nat} (h : j < ((List.range n).takeWhile p).length) : j < n ∧ p j = true := by
  have hpre := List.takeWhile_prefix p (l := List.range n)
  have hj : ((List.range n).takeWhile p)[j] = j := by rw [hpre.getElem h, List.getElem_range]
  have hm := List.getElem_mem h
  rw [hj] at hm
  exact ⟨List.mem_range.1 (hpre.subset hm), List.mem_takeWhile_imp hm⟩

theorem lt_length_takeWhile_range {p : Nat → Bool} {n k : Nat} (hk : k < n) (hp : ∀ i ≤ k, p i = true) : k < ((List.range n).takeWhile p).length := by
  obtain ⟨m, rfl⟩ := Nat.exists_eq_add_of_le (show k + 1 ≤ n from hk)
  rw [List.range_add, List.takeWhile_append_of_pos (fun i hi => hp i (by simp at hi; omega))]
  simp
  omega

theorem fst_lt_of_mem_maskRuns {m : BitVec 128} {r : Nat × Nat} (h : r ∈ maskRuns m) : r.1 < 128 := by
  obtain ⟨i, hi, rfl⟩ := List.mem_map.1 h
  exact List.mem_range.1 (List.mem_filter.1 hi).1

/-- A run has bytes of the mask only. -/
theorem bits_of_mem_maskRuns {m : BitVec 128} {r : Nat × Nat} (h : r ∈ maskRuns m) : r.1 + r.2 ≤ 128 ∧ ∀ j < r.2, m.getLsbD (r.1 + j) = true := by
  obtain ⟨i, hi, rfl⟩ := List.mem_map.1 h
  have hlen : ∀ j < ((List.range (128 - i)).takeWhile (fun j => m.getLsbD (i + j))).length, j < 128 - i ∧ m.getLsbD (i + j) = true :=
    fun j hj => of_lt_length_takeWhile_range hj
  refine ⟨?_, fun j hj => (hlen j hj).2⟩
  have hi := fst_lt_of_mem_maskRuns h
  by_contra hgt
  have := (hlen (128 - i) (by simp only at hgt; omega)).1
  omega

/-- The run that begins where the bits up to i do. -/
theorem exists_runStart {p : Nat → Bool} {i : Nat} (h : p i = true) :
    ∃ a ≤ i, p a = true ∧ (a = 0 ∨ p (a - 1) = false) ∧ ∀ j, a ≤ j → j ≤ i → p j = true := by
  induction i with
  | zero => exact ⟨0, le_rfl, h, .inl rfl, fun j _ hj => by rwa [Nat.le_zero.1 hj]⟩
  | succ i ih =>
    cases hp : p i with
    | false => exact ⟨i + 1, le_rfl, h, .inr hp, fun j h1 h2 => by rwa [Nat.le_antisymm h2 h1]⟩
    | true =>
      obtain ⟨a, ha, hpa, hs, hj⟩ := ih hp
      refine ⟨a, by omega, hpa, hs, fun j h1 h2 => ?_⟩
      rcases Nat.lt_or_ge i j with hij | hij
      · rwa [show j = i + 1 by omega]
      · exact hj j h1 hij

/-- The runs have every byte of the mask. -/
theorem exists_mem_maskRuns {m : BitVec 128} {i : Nat} (hi : i < 128) (h : m.getLsbD i = true) : ∃ r ∈ maskRuns m, r.1 ≤ i ∧ i < r.1 + r.2 := by
  obtain ⟨a, ha, hpa, hs, hj⟩ := exists_runStart (p := m.getLsbD) h
  have hlen : i - a < ((List.range (128 - a)).takeWhile (fun j => m.getLsbD (a + j))).length :=
    lt_length_takeWhile_range (by omega) fun k hk => hj _ (by omega) (by omega)
  refine ⟨(a, ((List.range (128 - a)).takeWhile (fun j => m.getLsbD (a + j))).length), List.mem_map.2 ⟨a, ?_, rfl⟩, ha, ?_⟩
  · simp only [List.mem_filter, List.mem_range, hpa, Bool.true_and, Bool.or_eq_true, beq_iff_eq, Bool.not_eq_true']
    exact ⟨by omega, hs⟩
  · simp only
    omega

/-! ## An entry written to memory -/

/-- Runs of an entry written from the base of its line on. -/
def NtEntry.writeRuns (e : NtEntry) (base : Nat) (rs : List (Nat × Nat)) (m : Memory) : Memory :=
  rs.foldl (fun m r => m.writeN (base + r.1) (e.bytes r)) m

/-- A byte of memory after the runs are written. -/
theorem NtEntry.read_writeRuns (e : NtEntry) (base : Nat) {rs : List (Nat × Nat)} (hrs : ∀ r ∈ rs, r.1 + r.2 ≤ 128) (m : Memory) (b : Nat) :
    (e.writeRuns base rs m).read b = if ∃ r ∈ rs, base + r.1 ≤ b ∧ b < base + r.1 + r.2 then e.byteOf (b - base) else m.read b := by
  induction rs generalizing m with
  | nil => simp [NtEntry.writeRuns]
  | cons r rs ih =>
    obtain ⟨a, n⟩ := r
    have hb := e.bytes_eq (hrs (a, n) (by simp))
    have hlen : (e.bytes (a, n)).length = n := by simp [hb]
    have hstep : (m.writeN (base + a) (e.bytes (a, n))).read b = if base + a ≤ b ∧ b < base + a + n then e.byteOf (b - base) else m.read b := by
      split
      case isTrue h =>
        obtain ⟨i, rfl⟩ := Nat.exists_eq_add_of_le h.1
        rw [Memory.read_writeN_same (by omega)]
        simp only [hb, List.getElem_map, List.getElem_range]
        congr 1
        omega
      case isFalse h => exact Memory.read_writeN_other (by omega)
    refine (ih (fun r hr => hrs r (by simp [hr])) _).trans ?_
    simp only [hstep, List.mem_cons, exists_eq_or_imp, or_comm (a := base + a ≤ b ∧ b < base + a + n)]
    exact (ite_or _ _ _ _).symm

/-- An entry written to its line. -/
theorem NtEntry.read_writeMask (e : NtEntry) (line : Nat) (m : Memory) (b : Nat) :
    (e.writeRuns (line * 128) (maskRuns e.mask) m).read b =
      if b / 128 = line ∧ e.mask.getLsbD (b % 128) = true then e.byteOf (b % 128) else m.read b := by
  rw [e.read_writeRuns _ fun r hr => (bits_of_mem_maskRuns hr).1]
  by_cases h : b / 128 = line ∧ e.mask.getLsbD (b % 128) = true
  · obtain ⟨r, hr, h1, h2⟩ := exists_mem_maskRuns (Nat.mod_lt b (by decide)) h.2
    have hline := h.1
    rw [if_pos h, if_pos ⟨r, hr, by omega, by omega⟩]
    congr 1
    omega
  · rw [if_neg h, if_neg]
    rintro ⟨r, hr, h1, h2⟩
    obtain ⟨h3, h4⟩ := bits_of_mem_maskRuns hr
    refine h ⟨by omega, ?_⟩
    have hbit := h4 (b - line * 128 - r.1) (by omega)
    rwa [show r.1 + (b - line * 128 - r.1) = b % 128 by omega] at hbit

end Sys2Proof.Machine
end

section
/-! Global stores of a sheaf to HBM (R83, R94, R97, R212). -/

namespace Sys2Proof.Machine

open Sys2Proof

/-! ## The bytes the lanes leave -/

/-- Byte b of memory, first z, after some lanes have stored, one after the other. -/
def overlaid (size : Nat) (pa val : Nat → Nat) (ls : List Nat) (b : Nat) (z : Byte) : Byte :=
  ls.foldl (fun z l => if pa l ≤ b ∧ b < pa l + size then BitVec.ofNat 8 (val l >>> (8 * (b - pa l))) else z) z

section Overlaid
variable {size : Nat} {pa : Nat → Nat} (val : Nat → Nat) {b : Nat}

theorem overlaid_of_none {ls : List Nat} (h : ∀ l ∈ ls, ¬ (pa l ≤ b ∧ b < pa l + size)) (z : Byte) : overlaid size pa val ls b z = z :=
  foldl_fixed_mem fun l hl => if_neg (h l hl)

theorem overlaid_append (ls ls' : List Nat) (z : Byte) :
    overlaid size pa val (ls ++ ls') b z = overlaid size pa val ls' b (overlaid size pa val ls b z) := List.foldl_append

/-- A byte that a lane stores and no lane after it. -/
theorem overlaid_of_last {pre post : List Nat} {l : Nat} (hl : pa l ≤ b ∧ b < pa l + size) (h : ∀ j ∈ post, ¬ (pa j ≤ b ∧ b < pa j + size))
    (z : Byte) :
    overlaid size pa val (pre ++ l :: post) b z = BitVec.ofNat 8 (val l >>> (8 * (b - pa l))) := by
  rw [overlaid_append]
  exact (overlaid_of_none val h _).trans (if_pos hl)

/-- What the byte was before does not matter when a lane stores it. -/
theorem overlaid_const {ls : List Nat} (h : ∃ l ∈ ls, pa l ≤ b ∧ b < pa l + size) (z z' : Byte) :
    overlaid size pa val ls b z = overlaid size pa val ls b z' := by
  induction ls using List.reverseRecOn with
  | nil => simp at h
  | append_singleton ls l ih =>
    by_cases hl : pa l ≤ b ∧ b < pa l + size
    · rw [overlaid_of_last val hl (by simp), overlaid_of_last val hl (by simp)]
    · have hls : ∃ l ∈ ls, pa l ≤ b ∧ b < pa l + size := by
        obtain ⟨j, hj, hc⟩ := h
        rcases List.mem_append.1 hj with hj | hj
        · exact ⟨j, hj, hc⟩
        · rw [List.mem_singleton.1 hj] at hc
          exact absurd hc hl
      rw [overlaid_append, overlaid_append, ih hls]

theorem overlaid_overlaid (ls : List Nat) (z : Byte) :
    overlaid size pa val ls b (overlaid size pa val ls b z) = overlaid size pa val ls b z := by
  by_cases h : ∃ l ∈ ls, pa l ≤ b ∧ b < pa l + size
  · exact overlaid_const val h _ _
  · have hn : ∀ l ∈ ls, ¬ (pa l ≤ b ∧ b < pa l + size) := fun l hl hc => h ⟨l, hl, hc⟩
    rw [overlaid_of_none val hn, overlaid_of_none val hn]

/-- Only the stores to a byte's line count. -/
theorem overlaid_line {ls : List Nat} (hfit : ∀ l ∈ ls, pa l % 128 + size ≤ 128) (z : Byte) :
    overlaid size pa val (ls.filter (fun l => pa l / 128 == b / 128)) b z = overlaid size pa val ls b z := by
  induction ls generalizing z with
  | nil => rfl
  | cons l ls ih =>
    have ih := ih fun j hj => hfit j (by simp [hj])
    have hf := hfit l (by simp)
    by_cases h : pa l / 128 = b / 128
    · rw [List.filter_cons_of_pos (by simpa using h)]
      exact ih _
    · rw [List.filter_cons_of_neg (by simpa using h), ih]
      exact congrArg (overlaid size pa val ls b) (if_neg (by omega)).symm

end Overlaid

/-! ## The stores to one line -/

/-- The store of one lane. -/
def laneWrite (size : Nat) (pa : Nat → Nat) (na : Nat → Bool) (val : Nat → Nat) (l : Nat) : LWrite :=
  { lane := l, h := .hbm (pa l), na := na l, bytes := leBytes size (val l) }

/-- The stores of an instruction to one line, combined. -/
def laneEntry (line : Nat) (ws : List LWrite) : NtEntry := ws.foldl (fun e w => e.put (w.h.key.getD 0 % 128) w.bytes) ⟨line, 0, 0, 0⟩

/-- From d to e stores may have changed memory, which keeps its form; of the sheaves only reservations. -/
def OnlyStores (d e : Dev) : Prop :=
  (Memory.wf d.ms.mem = true → Memory.wf e.ms.mem = true) ∧ ∀ k, ∃ r, e.sheaf k = { d.sheaf k with resv := r }

theorem OnlyStores.refl (d : Dev) : OnlyStores d d := ⟨id, fun k => ⟨(d.sheaf k).resv, rfl⟩⟩

theorem OnlyStores.trans {a b c : Dev} (h : OnlyStores a b) (h' : OnlyStores b c) : OnlyStores a c :=
  ⟨h'.1 ∘ h.1, fun k => by
    obtain ⟨r, hr⟩ := h.2 k
    obtain ⟨r', hr'⟩ := h'.2 k
    exact ⟨r', by rw [hr', hr]⟩⟩

theorem Dev.storeLine_onlyStores (d : Dev) (v : Via) {pa : Nat} (hpa : pa < 0x9000000000) (l : List Byte) (stn na : Bool) :
    OnlyStores d (d.storeLine v (.hbm pa) l stn na) :=
  ⟨fun h => (congrArg Memory.wf (d.storeLine_hbm_mem v pa l stn na hpa)).trans (Memory.wf_writeN h), (d.storeLine_hbm_units v pa l stn na).2⟩

/-- Runs of an entry stored to HBM. -/
theorem Dev.storeRuns (d : Dev) (e : NtEntry) (t c : Nat) (na stn : Bool) {line : Nat} (hl : line * 128 < 0x9000000000) {rs : List (Nat × Nat)}
    (hrs : ∀ r ∈ rs, r.1 < 128) :
    OnlyStores d (rs.foldl (fun d r => d.storeLine (.til t c) (.hbm (line * 128 + r.1)) (e.bytes r) stn na) d) ∧
      (rs.foldl (fun d r => d.storeLine (.til t c) (.hbm (line * 128 + r.1)) (e.bytes r) stn na) d).ms.mem =
        e.writeRuns (line * 128) rs d.ms.mem := by
  induction rs generalizing d with
  | nil => exact ⟨.refl d, rfl⟩
  | cons r rs ih =>
    have hr : line * 128 + r.1 < 0x9000000000 := by
      have := hrs r (by simp)
      omega
    obtain ⟨ihs, ihm⟩ := ih (d.storeLine (.til t c) (.hbm (line * 128 + r.1)) (e.bytes r) stn na) fun r hr => hrs r (by simp [hr])
    exact ⟨(d.storeLine_onlyStores _ hr _ _ _).trans ihs, ihm.trans (by rw [d.storeLine_hbm_mem _ _ _ _ _ hr]; rfl)⟩

section Line
variable {size : Nat} {pa : Nat → Nat} (na : Nat → Bool) (val : Nat → Nat) {ls : List Nat} {line : Nat}
  (hline : ∀ l ∈ ls, pa l / 128 = line ∧ pa l % 128 + size ≤ 128)
include hline

/-- A byte of the combined stores, and whether it is one of them. -/
theorem laneEntry_byteOf (e : NtEntry) {i : Nat} (hi : i < 128) :
    ((ls.map (laneWrite size pa na val)).foldl (fun e w => e.put (w.h.key.getD 0 % 128) w.bytes) e).byteOf i =
        overlaid size pa val ls (line * 128 + i) (e.byteOf i) ∧
      ((ls.map (laneWrite size pa na val)).foldl (fun e w => e.put (w.h.key.getD 0 % 128) w.bytes) e).mask.getLsbD i =
        (e.mask.getLsbD i || ls.any (fun l => decide (pa l ≤ line * 128 + i ∧ line * 128 + i < pa l + size))) := by
  induction ls generalizing e with
  | nil => simp [overlaid]
  | cons l ls ih =>
    obtain ⟨h1, h2⟩ := hline l (by simp)
    have hlen : (leBytes size (val l)).length = size := length_leBytes _ _
    have hiff : (pa l % 128 ≤ i ∧ i < pa l % 128 + size) ↔ (pa l ≤ line * 128 + i ∧ line * 128 + i < pa l + size) := by omega
    obtain ⟨ihb, ihm⟩ := ih (fun j hj => hline j (by simp [hj])) (e.put (pa l % 128) (leBytes size (val l)))
    refine ⟨ihb.trans (congrArg (overlaid size pa val ls (line * 128 + i)) ?_), ihm.trans ?_⟩
    · rw [e.byteOf_put (by omega) hi]
      simp only [hlen, hiff]
      split
      case isTrue h =>
        simp only [leBytes, List.getElem_map, List.getElem_range]
        congr 3
        omega
      case isFalse => rfl
    · rw [e.mask_put _ _ hi]
      simp only [hlen, hiff, List.any_cons, Bool.or_assoc]

/-- R212: memory after the stores to one line. -/
theorem Dev.laneLine_hbm (hpa : ∀ l ∈ ls, pa l < 0x9000000000) (d : Dev) (t c : Nat) (stn : Bool) :
    OnlyStores d (d.laneLine t c line (ls.map (laneWrite size pa na val)) stn) ∧
      ∀ b, (d.laneLine t c line (ls.map (laneWrite size pa na val)) stn).ms.mem.read b =
        if b / 128 = line then overlaid size pa val ls b (d.ms.mem.read b) else d.ms.mem.read b := by
  cases hls : ls with
  | nil => exact ⟨.refl d, fun b => by simp [Dev.laneLine, overlaid]⟩
  | cons l0 ls' =>
    rw [← hls]
    have hl0 := hpa l0 (by simp [hls])
    have hline0 := (hline l0 (by simp [hls])).1
    obtain ⟨na', hfold⟩ : ∃ na', d.laneLine t c line (ls.map (laneWrite size pa na val)) stn =
        (maskRuns (laneEntry line (ls.map (laneWrite size pa na val))).mask).foldl (fun d r =>
          d.storeLine (.til t c) (.hbm (line * 128 + r.1)) ((laneEntry line (ls.map (laneWrite size pa na val))).bytes r) stn na') d := by
      rw [hls]
      exact ⟨_, rfl⟩
    obtain ⟨hs, hm⟩ := d.storeRuns (laneEntry line (ls.map (laneWrite size pa na val))) t c na' stn
      (show line * 128 < 0x9000000000 by omega) fun r hr => fst_lt_of_mem_maskRuns hr
    rw [hfold]
    refine ⟨hs, fun b => ?_⟩
    rw [hm, NtEntry.read_writeMask]
    by_cases hb : b / 128 = line
    · obtain ⟨h1, h2⟩ := laneEntry_byteOf na val hline ⟨line, 0, 0, 0⟩ (Nat.mod_lt b (by decide : 0 < 128))
      have hb' : line * 128 + b % 128 = b := by omega
      rw [hb'] at h1 h2
      have hz : (0 : BitVec 128).getLsbD (b % 128) = false := BitVec.getLsbD_zero
      rw [hz, Bool.false_or] at h2
      rw [laneEntry, h1, h2]
      simp only [hb, true_and, if_true, List.any_eq_true, decide_eq_true_eq]
      split
      case isTrue h => exact overlaid_const val h _ _
      case isFalse h => exact (overlaid_of_none val (fun l hl hc => h ⟨l, hl, hc⟩) _).symm
    · simp only [hb, false_and, if_false]

end Line

end Sys2Proof.Machine
end

section
/-! A store of every active lane to HBM (R94, R97, R212). -/

namespace Sys2Proof.Machine

open Sys2Proof

/-- The stores of an instruction to some lines, line after line. -/
def Dev.storeLines (d : Dev) (t c : Nat) (stn : Bool) (ws : List LWrite) (lines : List Nat) : Dev :=
  lines.foldl (fun (d : Dev) n => d.laneLine t c n (ws.filter (fun w => w.h.key.getD 0 / 128 == n)) stn) d

section Lines
variable {size : Nat} {pa : Nat → Nat} (na : Nat → Bool) (val : Nat → Nat) {ls : List Nat}
  (hfit : ∀ l ∈ ls, pa l % 128 + size ≤ 128) (hpa : ∀ l ∈ ls, pa l < 0x9000000000) (d : Dev) (t c : Nat) (stn : Bool)
include hfit hpa

theorem Dev.storeLines_hbm (lines : List Nat) : OnlyStores d (d.storeLines t c stn (ls.map (laneWrite size pa na val)) lines) ∧
    ∀ b, (d.storeLines t c stn (ls.map (laneWrite size pa na val)) lines).ms.mem.read b =
      if b / 128 ∈ lines then overlaid size pa val ls b (d.ms.mem.read b) else d.ms.mem.read b := by
  induction lines generalizing d with
  | nil => exact ⟨.refl d, fun b => by simp [Dev.storeLines]⟩
  | cons n lines ih =>
    have hf : (ls.map (laneWrite size pa na val)).filter (fun w => w.h.key.getD 0 / 128 == n) =
        (ls.filter (fun l => pa l / 128 == n)).map (laneWrite size pa na val) := List.filter_map
    have hmem : ∀ l ∈ ls.filter (fun l => pa l / 128 == n), l ∈ ls ∧ pa l / 128 = n := fun l hl => by simpa using hl
    obtain ⟨hs, hr⟩ := Dev.laneLine_hbm na val (fun l hl => ⟨(hmem l hl).2, hfit l (hmem l hl).1⟩) (fun l hl => hpa l (hmem l hl).1) d t c stn
    obtain ⟨ihs, ihr⟩ := ih (d.laneLine t c n ((ls.filter (fun l => pa l / 128 == n)).map (laneWrite size pa na val)) stn)
    rw [Dev.storeLines, List.foldl_cons, hf]
    refine ⟨hs.trans ihs, fun b => (ihr b).trans ?_⟩
    rw [hr b]
    by_cases hb : b / 128 = n
    · subst hb
      rw [if_pos rfl, overlaid_line val hfit, overlaid_overlaid]
      simp
    · simp [hb]

/-- The stores of all lanes of an instruction. -/
theorem Dev.storeAllLines_hbm : ∃ e, OnlyStores d e ∧ (∀ b, e.ms.mem.read b = overlaid size pa val ls b (d.ms.mem.read b)) ∧
    d.storeLines t c stn (ls.map (laneWrite size pa na val)) ((ls.map (laneWrite size pa na val)).map (fun w => w.h.key.getD 0 / 128)).eraseDups = e := by
  obtain ⟨hs, hr⟩ := Dev.storeLines_hbm na val hfit hpa d t c stn ((ls.map (laneWrite size pa na val)).map (fun w => w.h.key.getD 0 / 128)).eraseDups
  refine ⟨_, hs, fun b => (hr b).trans ?_, rfl⟩
  split
  case isTrue => rfl
  case isFalse h =>
    refine (overlaid_of_none val (fun l hl hc => h ?_) _).symm
    have hf := hfit l hl
    simp only [List.mem_eraseDups, List.mem_map, exists_exists_and_eq_and]
    exact ⟨l, hl, show pa l / 128 = b / 128 by omega⟩

end Lines

/-- R94: the store of every active lane. -/
theorem Dev.laneStores_hbm {d : Dev} {k size : Nat} {adr pa : Nat → Nat} (h : d.LanesReach k .write size adr pa)
    (hfit : ∀ l ∈ (d.sheaf k).lanes, pa l % 128 + size ≤ 128) (hfence : (d.sheaf k).fence = []) (val : Nat → Nat) (stn : Bool) :
    ∃ e, OnlyStores d e ∧ (∀ b, e.ms.mem.read b = overlaid size pa val (d.sheaf k).lanes b (d.ms.mem.read b)) ∧
      d.laneStores k size adr val stn = (.next, e) := by
  obtain ⟨na, hgo⟩ := Dev.laneDo_hbm h
  obtain ⟨e, hs, hr, he⟩ := Dev.storeAllLines_hbm na val hfit (fun l hl => h.home_lt hl) d (keyTil k) (keyC k) stn
  refine ⟨e, hs, hr, ?_⟩
  have hws : (hbmPlan size pa na (d.sheaf k).lanes).flatMap (fun x =>
      ((corePieces (adr x.1) size).zip x.2).map (fun p =>
        ({ lane := x.1, h := p.2.1, na := p.2.2.1, bytes := part (leBytes size (val x.1)) (adr x.1) p.1.1 p.1.2 } : LWrite))) =
      (d.sheaf k).lanes.map (laneWrite size pa na val) := by
    rw [hbmPlan, List.flatMap_map, List.map_eq_flatMap]
    refine List.flatMap_congr fun l hl => ?_
    simp [corePieces, (h.aligned hl).1, part, laneWrite]
  have hlined : ((d.sheaf k).lanes.map (laneWrite size pa na val)).filter (fun w => w.h.key.isSome) = (d.sheaf k).lanes.map (laneWrite size pa na val) :=
    List.filter_eq_self.2 fun w hw => by
      obtain ⟨l, -, rfl⟩ := List.mem_map.1 hw
      rfl
  have hloose : ((d.sheaf k).lanes.map (laneWrite size pa na val)).filter (fun w => w.h.key.isNone) = [] :=
    List.filter_eq_nil_iff.2 fun w hw => by
      obtain ⟨l, -, rfl⟩ := List.mem_map.1 hw
      exact Bool.false_ne_true
  have hheld : ((d.sheaf k).lanes.map (laneWrite size pa na val)).any (fun w => d.fenceHolds [] w.h) = false :=
    List.any_eq_false.2 fun w _ => by simp [Dev.fenceHolds]
  rw [Dev.laneStores, hgo]
  simp only [hws, hfence, hheld, hlined, hloose, List.foldl_nil, Bool.false_eq_true, if_false]
  exact congrArg (LEnd.next, ·) he

end Sys2Proof.Machine
end

section
/-! Atomics of the lanes on HBM (R83, R98, R243). -/

namespace Sys2Proof.Machine

open Sys2Proof

theorem sheaf_of_onlyCaches {d e : Dev} (h : OnlyCaches d e) (k : Nat) : e.sheaf k = d.sheaf k := by
  simp only [Dev.sheaf, h.sheaves]

/-- What an atomic leaves beside the bytes: cores and sheaves keep all but reservations. -/
theorem Dev.amoAt_onlyStores (d : Dev) (op : AmoOp) {pa : Nat} (hpa : pa < 0x9000000000) (w rb rd : Nat) :
    OnlyStores d (d.amoAt op (.hbm pa) w rb rd).2 := by
  have hc := d.only_recall (pa / 128) true
  have hr : OnlyStores d (d.recall (pa / 128) true) :=
    ⟨fun h => (congrArg Memory.wf hc.mem).trans h, fun k => ⟨(d.sheaf k).resv, sheaf_of_onlyCaches hc k⟩⟩
  refine hr.trans ?_
  simp only [Dev.amoAt, Home.key]
  split
  · exact Dev.storeLine_onlyStores _ _ hpa _ _ _
  · exact ⟨fun h => (congrArg (fun m : MemSys => Memory.wf m.mem) (Dev.clearResv_ms _ _ none none)).trans h, Dev.sheaf_clearResv _ _ none none⟩

/-- The atomic of one lane, as `laneAtomics` folds it. -/
def amoStep (op : AmoOp) (w : Nat) (rb rd : Nat → Nat) (acc : SMap Nat × Dev) (x : Nat × Home × Bool) : SMap Nat × Dev :=
  (acc.1.set x.1 (acc.2.amoAt op x.2.1 w (rb x.1) (rd x.1)).1, (acc.2.amoAt op x.2.1 w (rb x.1) (rd x.1)).2)

/-- What an atomic leaves at its address. -/
def amoNew (op : AmoOp) (w : Nat) (m : Memory) (pa rb rd : Nat) : Nat :=
  (op.eval w (ofLe (m.readN pa w)) (rb % 2 ^ (8 * w)) (rd % 2 ^ (8 * w))).getD (ofLe (m.readN pa w))

/-- A read beside what changed. -/
theorem Memory.readN_congr {m m' : Memory} {a n : Nat} (h : ∀ b, a ≤ b ∧ b < a + n → m'.read b = m.read b) : m'.readN a n = m.readN a n :=
  List.map_congr_left fun i hi => h _ (by simp at hi; omega)

section Fold
variable {w : Nat} {pa : Nat → Nat} (op : AmoOp) (na : Nat → Bool) (rb rd : Nat → Nat)

/-- R243: the atomics of some lanes on addresses that do not overlap, one after the other. -/
theorem Dev.amos_hbm {ls : List Nat} (hpa : ∀ l ∈ ls, pa l < 0x9000000000)
    (hdis : ls.Pairwise (fun l j => pa l + w ≤ pa j ∨ pa j + w ≤ pa l)) (d : Dev) (v : SMap Nat) :
    ∃ e, OnlyStores d e ∧ (∀ b, (∀ l ∈ ls, ¬ (pa l ≤ b ∧ b < pa l + w)) → e.ms.mem.read b = d.ms.mem.read b) ∧
      (∀ l ∈ ls, e.ms.mem.readN (pa l) w = leBytes w (amoNew op w d.ms.mem (pa l) (rb l) (rd l))) ∧
      (ls.map (fun l => (l, Home.hbm (pa l), na l))).foldl (amoStep op w rb rd) (v, d) = (laneVals d.ms.mem w pa ls v, e) := by
  induction ls generalizing d v with
  | nil => exact ⟨d, .refl d, fun _ _ => rfl, by simp, rfl⟩
  | cons l ls ih =>
    obtain ⟨hl, hls⟩ := List.pairwise_cons.1 hdis
    have hpal := hpa l (by simp)
    obtain ⟨e', -, hm, ha⟩ := Dev.amoAt_hbm (.refl d) hpal op w (rb l) (rd l)
    obtain ⟨hnew, hkeep⟩ := Memory.readN_stored hm
    have hs := d.amoAt_onlyStores op hpal w (rb l) (rd l)
    rw [ha] at hs
    obtain ⟨e, hse, hk, hr, hf⟩ := ih (fun j hj => hpa j (by simp [hj])) hls e' (v.set l (ofLe (d.ms.mem.readN (pa l) w)))
    have hread : ∀ j ∈ ls, e'.ms.mem.readN (pa j) w = d.ms.mem.readN (pa j) w := fun j hj => by
      have := hl j hj
      exact Memory.readN_congr fun b hb => hkeep b (by omega)
    refine ⟨e, hs.trans hse, fun b hb => ?_, fun j hj => ?_, ?_⟩
    · rw [hk b fun j hj => hb j (by simp [hj]), hkeep b (hb l (by simp))]
    · rcases List.mem_cons.1 hj with rfl | hj
      · refine (Memory.readN_congr fun b hb => hk b fun i hi => ?_).trans hnew
        have := hl i hi
        omega
      · rw [hr j hj, amoNew, hread j hj]
        rfl
    · rw [List.map_cons, List.foldl_cons, amoStep, ha]
      refine hf.trans (congrArg (·, e) ?_)
      exact List.foldl_ext _ _ _ fun m j hj => by rw [hread j hj]

end Fold

/-- R98: an atomic of every active lane, with nothing to order first. -/
theorem Dev.laneAmo_hbm {d : Dev} {k : Nat} {f : RF} {pa : Nat → Nat} (op : AmoOp)
    (h : d.LanesReach k .atomic (amoWidth f) (fun l => (d.sheaf k).getPair f.ra.toNat l) pa)
    (hb : ∀ l ∈ (d.sheaf k).lanes, d.badHome (.hbm (pa l)) (amoWidth f) = false) (hfence : (d.sheaf k).fence = [])
    (hfab : d.fabStores (fun o => o.thread == .sheaf k) = [])
    (hdis : (d.sheaf k).lanes.Pairwise (fun l j => pa l + amoWidth f ≤ pa j ∨ pa j + amoWidth f ≤ pa l)) :
    ∃ e, OnlyStores d e ∧ (∀ b, (∀ l ∈ (d.sheaf k).lanes, ¬ (pa l ≤ b ∧ b < pa l + amoWidth f)) → e.ms.mem.read b = d.ms.mem.read b) ∧
      (∀ l ∈ (d.sheaf k).lanes, e.ms.mem.readN (pa l) (amoWidth f) = leBytes (amoWidth f) (amoNew op (amoWidth f) d.ms.mem (pa l)
        ((d.sheaf k).getW (amoWidth f) f.rb.toNat l) ((d.sheaf k).getW (amoWidth f) f.rd.toNat l))) ∧
      d.laneAmo op f k = (.next, e.setSheaf k (fun x => x.putW (amoWidth f) f.rd.toNat
        (fun l => (laneVals d.ms.mem (amoWidth f) pa (d.sheaf k).lanes []).get 0 l))) := by
  obtain ⟨na, hgo⟩ := Dev.laneDo_hbm h
  obtain ⟨e, hs, hk, hr, hf⟩ := Dev.amos_hbm op na ((d.sheaf k).getW (amoWidth f) f.rb.toNat) ((d.sheaf k).getW (amoWidth f) f.rd.toNat)
    (fun l hl => h.home_lt hl) hdis d []
  refine ⟨e, hs, hk, hr, ?_⟩
  have hacts : (hbmPlan (amoWidth f) pa na (d.sheaf k).lanes).flatMap (fun x => x.2.map (fun p => (x.1, p.1, p.2.1))) =
      (d.sheaf k).lanes.map (fun l => (l, Home.hbm (pa l), na l)) := by
    rw [hbmPlan, List.flatMap_map, List.map_eq_flatMap]
    rfl
  have hclean : ((d.sheaf k).lanes.map (fun l => (l, Home.hbm (pa l), na l))).find? (fun x => d.badHome x.2.1 (amoWidth f)) = none :=
    List.find?_eq_none.2 fun x hx => by
      obtain ⟨l, hl, rfl⟩ := List.mem_map.1 hx
      simp [hb l hl]
  have hheld : ((d.sheaf k).lanes.map (fun l => (l, Home.hbm (pa l), na l))).any (fun x => d.fenceHolds [] x.2.1) = false :=
    List.any_eq_false.2 fun x _ => by simp [Dev.fenceHolds]
  rw [Dev.laneAmo, Dev.laneAtomics, hgo]
  simp only [hacts, reduceCtorEq, if_false, hclean, hfab, hfence, hheld, List.isEmpty_nil, Bool.not_true, Bool.and_false, Bool.or_self,
    Bool.false_eq_true]
  exact congrArg (fun r : SMap Nat × Dev => (LEnd.next, r.2.setSheaf k (fun x => x.putW (amoWidth f) f.rd.toNat (fun l => r.1.get 0 l)))) hf

theorem Sheaf.getW_lt (x : Sheaf) {w : Nat} (hw : w = 8 ∨ w = 4) (r l : Nat) : x.getW w r l < 2 ^ (8 * w) := by
  have hlo := (x.getV r l).isLt
  have hhi := (x.getV (r + 1) l).isLt
  rcases hw with rfl | rfl
  · simp only [Sheaf.getW, if_true, Sheaf.getPair]
    omega
  · rw [Sheaf.getW, if_neg (by decide)]
    omega

/-- R83: a register or a pair of an active lane after it is written. -/
theorem Sheaf.getV_putW (x : Sheaf) {w r l : Nat} (v : Nat → Nat) (hr : r ≠ 0) (hl : l ∈ x.lanes) :
    (x.putW w r v).getV r l = BitVec.ofNat 32 (v l) ∧ (w = 8 → (x.putW w r v).getV (r + 1) l = BitVec.ofNat 32 (v l / 2 ^ 32)) := by
  obtain ⟨hl, ho⟩ := Sheaf.mem_lanes.1 hl
  unfold Sheaf.putW
  by_cases hw : w = 8
  · rw [if_pos hw]
    refine ⟨?_, fun _ => Sheaf.getV_putV_on _ (by omega) hl (by rwa [Sheaf.on, Sheaf.putV_mask])⟩
    rw [Sheaf.getV_putV_other _ (by omega)]
    exact Sheaf.getV_putV_on _ hr hl ho
  · rw [if_neg hw]
    exact ⟨Sheaf.getV_putV_on _ hr hl ho, fun h => absurd h hw⟩

end Sys2Proof.Machine
end

section
/-! Global accesses and barriers of a sheaf as instructions (R83, R94, R97, R98, R106, R237). -/

namespace Sys2Proof.Machine

open Sys2Proof

theorem basePair_none {ra : BitVec 5} (h : ra ≠ 31) : basePair ra = none := by
  have hn : ¬ ra.toNat = 31 := fun hn => h (BitVec.eq_of_toNat_eq hn)
  simp [basePair, pairBad, hn]

/-- Aligned accesses of at most eight bytes stay in their line and do not overlap. -/
theorem aligned_apart {size a b : Nat} (hs : size = 1 ∨ size = 2 ∨ size = 4 ∨ size = 8) (ha : a % size = 0) (hb : b % size = 0) :
    a % 128 + size ≤ 128 ∧ (a ≠ b → a + size ≤ b ∨ b + size ≤ a) := by
  rcases hs with rfl | rfl | rfl | rfl <;> omega

theorem laneVals_get {m : Memory} {size : Nat} {pa : Nat → Nat} {ls : List Nat} {l : Nat} (hl : l ∈ ls) :
    (laneVals m size pa ls []).get 0 l = ofLe (m.readN (pa l) size) := (SMap.get_foldl_set 0 _ _ _ l).trans (if_pos hl)

/-- R83: what makes an atomic legal in a lane. -/
theorem atomicRuns_none {f : RF} (hra : f.ra ≠ 31)
    (hp : amoWidth f = 8 → 0 < f.rb.toNat ∧ f.rb.toNat ≤ 30 ∧ 0 < f.rd.toNat ∧ f.rd.toNat ≤ 30) : atomicRuns f [f.rb, f.rd] = none := by
  have hn : pairBad f.ra = false := by simpa [basePair] using basePair_none hra
  by_cases h8 : amoWidth f = 8
  · obtain ⟨hb0, hb, hd0, hd⟩ := hp h8
    simp [atomicRuns, hn, runBad_eq_false hb0 (show f.rb.toNat + 2 ≤ 32 by omega), runBad_eq_false hd0 (show f.rd.toNat + 2 ≤ 32 by omega)]
  · simp [atomicRuns, hn, h8]

theorem Dev.lanesReach_iff {d : Dev} {k t size : Nat} {op : Acc3} {adr pa : Nat → Nat} (ht : keyTil k = t) : d.LanesReach k op size adr pa ↔
    ∀ l ∈ (d.sheaf k).lanes, adr l < 2 ^ 56 ∧ adr l % size = 0 ∧ pa l % size = 0 ∧ pa l < 0x9000000000 ∧
      d.verdict (.hbm (pa l)) (d.whoLane k l).ctx op.stores = .pass ∧
      ∃ e lv, d.translate t (d.whoLane k l).ctx (adr l) op = (.ok e lv, d) ∧ d.leafHome e lv (adr l) = .hbm (pa l) := by
  subst ht
  rfl

/-- R94: what memory holds at the address of a lane, when no higher lane stores there. -/
theorem readN_overlaid {m m' : Memory} {size : Nat} {pa val : Nat → Nat} {ls : List Nat} (hls : ls.Pairwise (· < ·))
    (hm : ∀ b, m'.read b = overlaid size pa val ls b (m.read b)) {l : Nat} (hl : l ∈ ls)
    (hlast : ∀ j ∈ ls, l < j → pa j + size ≤ pa l ∨ pa l + size ≤ pa j) : m'.readN (pa l) size = leBytes size (val l) := by
  obtain ⟨pre, post, rfl, -, hpost⟩ := sorted_split hls hl
  refine List.map_congr_left fun i hi => ?_
  have hi : i < size := List.mem_range.1 hi
  rw [hm, overlaid_of_last val (by omega) fun j hj hc => ?_, Nat.add_sub_cancel_left]
  have := hlast j (by simp [hj]) (hpost j hj)
  omega

section Forms
variable {s : State} {t c r k : Nat} {i : Instr} {pa : Nat → Nat} (h : SheafRuns s t c r k) (hw : i.wf = (Agent.sheaf t c r k).wf)
include h hw

/-- R94: a load of the lanes. -/
theorem exec_laneLd {f : IF} {size : Nat} {signed : Bool} (hd : does i s.dev = s.dev.loadI i (.sheaf t c r k) f size signed) (hra : f.ra ≠ 31)
    (hr : s.dev.LanesReach (sheafKey t c r k) .read size (laneAddr (s.dev.sheaf (sheafKey t c r k)) f) pa)
    (hb : ∀ l ∈ (s.dev.sheaf (sheafKey t c r k)).lanes, s.dev.badHome (.hbm (pa l)) size = false) :
    ∃ e : Dev, e.ms.mem = s.dev.ms.mem ∧ e.sheaf (sheafKey t c r k) = s.dev.sheaf (sheafKey t c r k) ∧
      exec i s = .next (sheafDoes (leaves s e) (sheafKey t c r k) (fun x => x.putV f.rd.toNat (fun l =>
        (extend64 size signed ((laneVals s.dev.ms.mem size pa (s.dev.sheaf (sheafKey t c r k)).lanes []).get 0 l)).setWidth 32))) := by
  obtain ⟨ht, -⟩ := sheafKey_parts h.1
  obtain ⟨e, he, hl⟩ := Dev.laneLoads_hbm (by rw [ht]; exact h.1.1) hr hb
  refine ⟨e.laneFabDone (sheafKey t c r k), he.mem, sheaf_of_onlyCaches he _, ?_⟩
  rw [exec_sheafLeaves h hw hd (basePair_none hra) (hl _), Dev.setSheaf_setSheaf, sheafDoes]
  refine congrArg (fun d => Host.Outcome.next (leaves s d)) (Dev.setSheaf_congr ?_)
  have hs : (e.laneFabDone (sheafKey t c r k)).sheaf (sheafKey t c r k) = s.dev.sheaf (sheafKey t c r k) := sheaf_of_onlyCaches he _
  simp only [hs]

/-- R94, R97: a store of the lanes. -/
theorem exec_laneSt {f : IF} {size lvl : Nat} {stn badC : Bool} {fC : Nat → Dev → CEnd × Dev} (hsz : size = 1 ∨ size = 2 ∨ size = 4 ∨ size = 8)
    (hd : does i s.dev = s.dev.ghety i (.sheaf t c r k) lvl badC fC (basePair f.ra) (Dev.laneSt size stn f)) (hra : f.ra ≠ 31)
    (hr : s.dev.LanesReach (sheafKey t c r k) .write size (laneAddr (s.dev.sheaf (sheafKey t c r k)) f) pa)
    (hfence : (s.dev.sheaf (sheafKey t c r k)).fence = []) :
    ∃ e : Dev, OnlyStores s.dev e ∧ (∀ b, e.ms.mem.read b = overlaid size pa
        (fun l => ((s.dev.sheaf (sheafKey t c r k)).getV f.rd.toNat l).toNat % 2 ^ (8 * size)) (s.dev.sheaf (sheafKey t c r k)).lanes b
        (s.dev.ms.mem.read b)) ∧
      exec i s = .next (leaves s (e.setSheaf (sheafKey t c r k) (fun x => { x with pc := (s.dev.sheaf (sheafKey t c r k)).pc + 4 }))) := by
  obtain ⟨e, hs, hm, he⟩ := Dev.laneStores_hbm hr (fun l hl => (aligned_apart hsz (hr.aligned hl).2 (hr.aligned hl).2).1) hfence
    (fun l => ((s.dev.sheaf (sheafKey t c r k)).getV f.rd.toNat l).toNat % 2 ^ (8 * size)) stn
  exact ⟨e, hs, hm, exec_sheafLeaves h hw hd (basePair_none hra) he⟩

/-- R98: an atomic of the lanes. -/
theorem exec_laneAmo {f : RF} {op : AmoOp} (hop : op ≠ .fadd) (hd : does i s.dev = s.dev.amo i (.sheaf t c r k) op f) (hfn : f.fn2.toNat < 8)
    (hra : f.ra ≠ 31) (hp : amoWidth f = 8 → 0 < f.rb.toNat ∧ f.rb.toNat ≤ 30 ∧ 0 < f.rd.toNat ∧ f.rd.toNat ≤ 30)
    {e : Dev} (he : s.dev.laneAmo op f (sheafKey t c r k) = (.next, e)) :
    exec i s = .next (leaves s (e.setSheaf (sheafKey t c r k) (fun x => { x with pc := (s.dev.sheaf (sheafKey t c r k)).pc + 4 }))) := by
  have hbad : ((op == .fadd && f.fn2.getLsbD 0) || decide (7 < f.fn2.toNat)) = false := by simp [hop]; omega
  unfold Dev.amo Dev.atomic at hd
  refine exec_sheafLeaves h hw hd ?_ he
  rw [cause1_none hbad]
  exact atomicRuns_none hra hp

/-- R237: a barrier of a sheaf with an active lane. -/
theorem exec_laneBarrier {z : RF} {onC : Nat → Dev → CEnd × Dev} {onL : Nat → Dev → LEnd × Dev} {g : Sheaf → Sheaf}
    (hd : does i s.dev = s.dev.barrier i (.sheaf t c r k) z onC onL) (hz : syncUsed z = false)
    (hf : (s.dev.sheaf (sheafKey t c r k)).first ≠ none) (ho : onL (sheafKey t c r k) s.dev = (.next, s.dev.setSheaf (sheafKey t c r k) g)) :
    exec i s = .next (sheafDoes s (sheafKey t c r k) g) := by
  unfold Dev.barrier at hd
  exact exec_sheafDoes h hw hd (cause1_none hz) ((if_neg (by simpa using hf)).trans ho) rfl

end Forms

end Sys2Proof.Machine

namespace Sys2Proof

open Sys2Proof.Machine

/-- Settles O32: loads, then stores, atomics, an illegal base pair and the barriers. -/
theorem laneGlobalAccesses : Obligations.LaneGlobalAccesses := by
  unfold Obligations.LaneGlobalAccesses
  intro s t c r k h
  obtain ⟨ht, hc, -⟩ := sheafKey_parts h.1
  refine ⟨fun p hp f pa hra hr hb => ?_, fun p hp f pa hra hr hfence => ?_, fun p hp f pa hfn hra hpair hr hb hfence hfab hne => ?_,
    fun f l hra hl => ?_, ?_⟩
  · have hw : (p.1 (.sheaf t c r k) f).wf = (Agent.sheaf t c r k).wf := by fin_cases hp <;> rfl
    have hd : does (p.1 (.sheaf t c r k) f) s.dev = s.dev.loadI (p.1 (.sheaf t c r k) f) (.sheaf t c r k) f p.2.1 p.2.2 := by fin_cases hp <;> rfl
    obtain ⟨e, hmem, hsheaf, he⟩ := exec_laneLd h hw hd hra ((Dev.lanesReach_iff ht).2 hr) hb
    refine ⟨_, he, fun b _ => congrArg (fun m => Memory.read m b) hmem, ?_, rfl, fun n hn l hl => ?_, fun l hl hrd => ?_⟩ <;>
      simp only [sheafDoes, leaves, Dev.sheaf_setSheaf_same, hsheaf]
    · rcases hn with hn | rfl
      · exact Sheaf.getV_putV_other _ hn.symm
      · rfl
    · have hrd : f.rd.toNat ≠ 0 := fun h0 => hrd (BitVec.eq_of_toNat_eq h0)
      split
      case isTrue ho =>
        refine (Sheaf.getV_putV_on _ hrd hl ho).trans ?_
        rw [setWidth_extend64, laneVals_get (Sheaf.mem_lanes.2 ⟨hl, ho⟩)]
      case isFalse ho => exact Sheaf.getV_putV_off _ hl (by simpa using ho)
  · have hsz : p.2 = 1 ∨ p.2 = 2 ∨ p.2 = 4 ∨ p.2 = 8 := by fin_cases hp <;> decide
    have hw : (p.1 (.sheaf t c r k) f).wf = (Agent.sheaf t c r k).wf := by fin_cases hp <;> rfl
    obtain ⟨stn, hd⟩ : ∃ stn, does (p.1 (.sheaf t c r k) f) s.dev = s.dev.ghety (p.1 (.sheaf t c r k) f) (.sheaf t c r k) 0 false
        (fun _ d => (.next, d)) (basePair f.ra) (Dev.laneSt p.2 stn f) := by
      fin_cases hp
      · exact ⟨false, rfl⟩
      · exact ⟨false, rfl⟩
      · exact ⟨false, rfl⟩
      · exact ⟨true, rfl⟩
    have hreach : s.dev.LanesReach (sheafKey t c r k) .write p.2 (laneAddr (s.dev.sheaf (sheafKey t c r k)) f) pa := (Dev.lanesReach_iff ht).2 hr
    obtain ⟨e, ⟨hwf, hsh⟩, hmem, he⟩ := exec_laneSt h hw hsz hd hra hreach hfence
    obtain ⟨v, hv⟩ := hsh (sheafKey t c r k)
    refine ⟨_, he, ?_, ?_, rfl, hwf, fun b hb => ?_, fun l hl hlast => ?_⟩
    · simp only [leaves, Dev.sheaf_setSheaf_same]
    · simp only [leaves, Dev.sheaf_setSheaf_same, hv]
    · exact (hmem b).trans (overlaid_of_none _ (fun l hl hc => hb ⟨l, hl, hc⟩) _)
    · rw [← leBytes_mod]
      exact readN_overlaid (Sheaf.lanes_sorted _) hmem hl fun j hj hlt => (aligned_apart hsz (hreach.aligned hj).2 (hreach.aligned hl).2).2
        (hlast j hj hlt)
  · have hw : (p.1 (.sheaf t c r k) f).wf = (Agent.sheaf t c r k).wf := by fin_cases hp <;> rfl
    obtain ⟨op, hop, hd, heval⟩ : ∃ op : AmoOp, op ≠ .fadd ∧ does (p.1 (.sheaf t c r k) f) s.dev =
        s.dev.amo (p.1 (.sheaf t c r k) f) (.sheaf t c r k) op f ∧ ∀ w o b r, op.eval w o b r = p.2 w o b r := by
      fin_cases hp
      · exact ⟨.swap, nofun, rfl, fun _ _ _ _ => rfl⟩
      · exact ⟨.add, nofun, rfl, fun _ _ _ _ => rfl⟩
      · exact ⟨.cas, nofun, rfl, fun _ _ _ _ => rfl⟩
    have hwd : amoWidth f = 8 ∨ amoWidth f = 4 := by unfold amoWidth; split <;> simp
    have hreach : s.dev.LanesReach (sheafKey t c r k) .atomic (amoWidth f)
      (fun l => (s.dev.sheaf (sheafKey t c r k)).getPair f.ra.toNat l) pa := (Dev.lanesReach_iff ht).2 hr
    have hdis : (s.dev.sheaf (sheafKey t c r k)).lanes.Pairwise (fun l j => pa l + amoWidth f ≤ pa j ∨ pa j + amoWidth f ≤ pa l) :=
      (Sheaf.lanes_sorted _).imp_of_mem fun {l j} hl hj hlt =>
        (aligned_apart (by omega) (hreach.aligned hl).2 (hreach.aligned hj).2).2 (hne l hl j hj (Nat.ne_of_lt hlt))
    obtain ⟨e, ⟨-, hsh⟩, hkeep, hread, he⟩ := Dev.laneAmo_hbm op hreach hb hfence hfab hdis
    obtain ⟨v, hv⟩ := hsh (sheafKey t c r k)
    refine ⟨_, exec_laneAmo h hw hop hd hfn hra hpair he, ?_, fun b hb => ?_, fun l hl => ⟨?_, fun hrd => ?_, fun h8 => ?_⟩⟩
    · simp only [leaves, Dev.sheaf_setSheaf_same]
    · exact hkeep b fun l hl hc => hb ⟨l, hl, hc⟩
    · refine (hread l hl).trans ?_
      rw [amoNew, heval, Nat.mod_eq_of_lt (Sheaf.getW_lt _ hwd _ _), Nat.mod_eq_of_lt (Sheaf.getW_lt _ hwd _ _)]
      rfl
    · have hrd : f.rd.toNat ≠ 0 := fun h0 => hrd (BitVec.eq_of_toNat_eq h0)
      simp only [leaves, Dev.setSheaf_setSheaf, Dev.sheaf_setSheaf_same, hv]
      refine (Sheaf.getV_putW { s.dev.sheaf (sheafKey t c r k) with resv := v } _ hrd hl).1.trans ?_
      rw [laneVals_get hl]
      rfl
    · have hrd : f.rd.toNat ≠ 0 := by have := (hpair h8).2.2.1; omega
      simp only [leaves, Dev.setSheaf_setSheaf, Dev.sheaf_setSheaf_same, hv]
      refine ((Sheaf.getV_putW { s.dev.sheaf (sheafKey t c r k) with resv := v } _ hrd hl).2 h8).trans ?_
      rw [laneVals_get hl]
      rfl
  · have hb : basePair f.ra = some 2 := by rw [hra]; rfl
    exact ⟨exec_sheafIllegal h rfl (fC := Dev.coreLd 4 true f) (f := Dev.laneLd 4 true f) (badC := false) (lvl := 0) rfl hb hl,
      exec_sheafIllegal h rfl (fC := Dev.coreStI 4 f) (f := Dev.laneSt 4 false f) (badC := false) (lvl := 0) rfl hb hl⟩
  · have hz : syncUsed (⟨0, 0, 0, 0⟩ : RF) = false := by decide
    refine ⟨?_, fun hfab hf => ?_, fun hf => exec_laneBarrier h rfl (onL := Dev.laneSyncS) rfl hz hf rfl⟩
    · have hd : does (.syncL (.sheaf t c r k) ⟨0, 0, 0, 0⟩) s.dev =
        s.dev.barrier (.syncL (.sheaf t c r k) ⟨0, 0, 0, 0⟩) (.sheaf t c r k) ⟨0, 0, 0, 0⟩ (fun _ d => (.next, d)) (fun _ d => (.next, d)) := rfl
      unfold Dev.barrier at hd
      exact exec_sheafKeeps h rfl hd (cause1_none hz) (ite_self _)
    · have ho : s.dev.laneSync (sheafKey t c r k) = (.next, s.dev.setSheaf (sheafKey t c r k) (fun x => { x with fence := [] })) := by
        simp only [Dev.laneSync, hfab, List.isEmpty_nil, if_true]
      exact ⟨exec_laneBarrier h rfl (onL := Dev.laneSync) rfl hz hf ho, exec_laneBarrier h rfl (onL := Dev.laneSync) rfl hz hf ho⟩

end Sys2Proof
end

section
/-! What the command processor's shared operations leave: runs, kernels, contexts, and the rest of the part (R84, R106, R198, R285,
R308, R319, R321). -/

namespace Sys2Proof.Machine

open Sys2Proof

/-! ## Maps -/

@[simp] theorem SMap.find_del_same {α : Type} (m : SMap α) (k : Nat) : SMap.find (SMap.del m k) k = none := by
  induction m with
  | nil => rfl
  | cons e r ih =>
    obtain ⟨j, v⟩ := e
    by_cases hj : j = k
    · subst hj; simpa [SMap.del] using ih
    · simpa [SMap.del, SMap.find, hj] using ih

/-! ## Runs (R285, R308) -/

section Runs
variable {d : Dev} {r : Nat} {v : Run} (hr : d.run? r = some v)
include hr

theorem Dev.run_setRun (f : Run → Run) : (d.setRun r f).run? r = some (f v) := by
  refine (SMap.find_adj_same _ _ _).trans ?_
  rw [show SMap.find d.cp.runs r = some v from hr]
  rfl

theorem Dev.runCmd_eq : d.runCmd r = v.cmd := by simp only [Dev.runCmd, hr]

theorem Dev.run_runStatus (s : Status) (i : Nat) :
    (d.runStatus r s i).run? r = some (if v.status = none then { v with status := some s.code, info := i } else v) := by
  have hf : SMap.find d.cp.runs r = some v := hr
  simp only [Dev.run?, Dev.runStatus, SMap.find_mapVals, hf, Option.map_some, true_and]

/-- R285: a run's end keeps its status. -/
theorem Dev.run_endRun (hd : v.done = false) : ∃ u, (d.endRun r).run? r = some u ∧ u.done = true ∧ u.status = v.status ∧ u.info = v.info := by
  have hrun := Dev.run_setRun hr fun v => { v with done := true, began := true, fin := d.time, order := d.cp.ended }
  refine ⟨{ v with done := true, began := true, fin := d.time, order := d.cp.ended }, ?_, rfl, rfl, rfl⟩
  simp only [Dev.endRun, hr, hd, Bool.false_eq_true, if_false]
  split <;> exact hrun

end Runs

theorem Dev.endRun_kernels (d : Dev) (r : Nat) : (d.endRun r).cp.kernels = d.cp.kernels := by
  unfold Dev.endRun
  split
  · rfl
  · split
    · rfl
    · dsimp only
      split <;> rfl

/-! ## Sheaves that stop (R84, R106, R198) -/

theorem Dev.freeSheaves_only (d : Dev) (r : Nat) : ∃ h, d.freeSheaves r = { d with sheaves := h } :=
  List.foldlRecOn (motive := fun e : Dev => ∃ h, e = { d with sheaves := h }) _ _ ⟨d.sheaves, rfl⟩ (fun e he k _ => by
    obtain ⟨h, rfl⟩ := he
    exact ⟨_, rfl⟩)

theorem Dev.faultOpen_cp (d : Dev) (f : PageFault) (w : Waiter) : (d.faultOpen f w).cp = d.cp := by
  unfold Dev.faultOpen
  split
  · rfl
  · split <;> rfl

theorem Dev.faultFree_cp (d : Dev) (i : Nat) : (d.faultFree i).cp = d.cp := by
  unfold Dev.faultFree Dev.faultAdmit
  split
  · rfl
  · dsimp only
    split
    · exact Dev.faultOpen_cp _ _ _
    · rfl

theorem Dev.faultLeave_cp (d : Dev) (w : Waiter) : (d.faultLeave w).cp = d.cp :=
  foldl_keeps (g := fun e : Dev => e.cp) Dev.faultFree_cp _ _

theorem Dev.stopSheaves_cp (d : Dev) (r : Nat) : (d.stopSheaves r).cp = d.cp :=
  foldl_keeps (g := fun e : Dev => e.cp) (fun e k => Dev.faultLeave_cp (e.setSheaf k _) (.sheaf k)) _ _

/-! ## Contexts (R319, R321) -/

theorem Dev.ctxSt_setCtx (d : Dev) (x y : Nat) (f : CtxSt → CtxSt) : (d.setCtx x f).ctxSt y = if x = y then f (d.ctxSt y) else d.ctxSt y := by
  by_cases h : x = y
  · subst h
    simp [Dev.ctxSt, Dev.setCtx]
  · simp [Dev.ctxSt, Dev.setCtx, SMap.get_upd_other _ _ _ h, h]

/-- From d to e only the waiting list and the contexts' waiting counts may have changed. -/
def OnlyWaits (d e : Dev) : Prop :=
  ∃ cs ws, e = { d with cp := { d.cp with ctxs := cs, waits := ws } } ∧ ∀ x, ∃ n, e.ctxSt x = { d.ctxSt x with waited := n }

theorem OnlyWaits.refl (d : Dev) : OnlyWaits d d := ⟨d.cp.ctxs, d.cp.waits, rfl, fun x => ⟨(d.ctxSt x).waited, rfl⟩⟩

theorem OnlyWaits.trans {a b c : Dev} (h : OnlyWaits a b) (h' : OnlyWaits b c) : OnlyWaits a c := by
  obtain ⟨cs, ws, rfl, hx⟩ := h
  obtain ⟨cs', ws', rfl, hx'⟩ := h'
  refine ⟨cs', ws', rfl, fun x => ?_⟩
  obtain ⟨n, hn⟩ := hx x
  obtain ⟨n', hn'⟩ := hx' x
  exact ⟨n', by rw [hn', hn]⟩

theorem Dev.setWaited_only (d : Dev) (y n : Nat) : OnlyWaits d (d.setCtx y (fun c => { c with waited := n })) := by
  refine ⟨_, d.cp.waits, rfl, fun x => ?_⟩
  rw [Dev.ctxSt_setCtx]
  split
  · exact ⟨n, rfl⟩
  · exact ⟨_, rfl⟩

/-- Contexts begin to wait. -/
def Dev.beginWaits (d : Dev) (l : List Nat) : Dev := l.foldl (fun d x => d.setCtx x (fun c => { c with waited := 0 })) d

theorem Dev.beginWaits_only (d : Dev) (l : List Nat) : OnlyWaits d (d.beginWaits l) :=
  List.foldlRecOn (motive := OnlyWaits d) l _ (.refl d) fun e he y _ => he.trans (e.setWaited_only y 0)

/-- R319: what the upkeep of the waiting list changes. -/
theorem Dev.refreshWaits_only (d : Dev) : OnlyWaits d d.refreshWaits := by
  obtain ⟨l, ws, h⟩ : ∃ l ws, d.refreshWaits = { d.beginWaits l with cp := { (d.beginWaits l).cp with waits := ws } } := ⟨_, _, rfl⟩
  rw [h]
  exact (d.beginWaits_only l).trans ⟨_, ws, rfl, fun x => ⟨_, rfl⟩⟩

theorem OnlyWaits.ms {d e : Dev} (h : OnlyWaits d e) : e.ms = d.ms := by
  obtain ⟨cs, ws, rfl, -⟩ := h; rfl

theorem OnlyWaits.cpRuns {d e : Dev} (h : OnlyWaits d e) : e.cpRuns = d.cpRuns := by
  obtain ⟨cs, ws, rfl, -⟩ := h; rfl

theorem OnlyWaits.time {d e : Dev} (h : OnlyWaits d e) : e.time = d.time := by
  obtain ⟨cs, ws, rfl, -⟩ := h; rfl

theorem OnlyWaits.runs {d e : Dev} (h : OnlyWaits d e) : e.cp.runs = d.cp.runs := by
  obtain ⟨cs, ws, rfl, -⟩ := h; rfl

theorem OnlyWaits.kernels {d e : Dev} (h : OnlyWaits d e) : e.cp.kernels = d.cp.kernels := by
  obtain ⟨cs, ws, rfl, -⟩ := h; rfl

theorem OnlyWaits.reg {d e : Dev} (h : OnlyWaits d e) (off : Nat) : e.reg off = d.reg off := by
  obtain ⟨cs, ws, rfl, -⟩ := h; rfl

theorem OnlyWaits.geom {d e : Dev} (h : OnlyWaits d e) : e.cp.geom = d.cp.geom := by
  obtain ⟨cs, ws, rfl, -⟩ := h; rfl

theorem OnlyWaits.held {d e : Dev} (h : OnlyWaits d e) :
    (∀ x, (e.ctxSt x).groups = (d.ctxSt x).groups) ∧ ∀ x, (e.ctxSt x).preempting = (d.ctxSt x).preempting := by
  obtain ⟨cs, ws, -, hx⟩ := h
  exact ⟨fun x => by obtain ⟨n, hn⟩ := hx x; rw [hn], fun x => by obtain ⟨n, hn⟩ := hx x; rw [hn]⟩

/-- R321: a release changes the context, and what the clusters' SRAM holds. -/
theorem Dev.releaseGroups_only (d : Dev) (x : Nat) : ∃ g s, d.releaseGroups x =
    { d.setCtx x (fun c => { c with groups := [], last := if (d.ctxSt x).groups.isEmpty then c.last else (d.ctxSt x).groups }) with
      ms := { d.ms with sram := s, sramGen := g } } :=
  List.foldlRecOn (motive := fun e : Dev => ∃ g s, e =
    { d.setCtx x (fun c => { c with groups := [], last := if (d.ctxSt x).groups.isEmpty then c.last else (d.ctxSt x).groups }) with
      ms := { d.ms with sram := s, sramGen := g } }) _ _ ⟨_, _, rfl⟩ (fun e he k _ => by
    obtain ⟨g, s, rfl⟩ := he
    exact ⟨_, _, rfl⟩)

/-- R321: after the groups of a context are released and the waiting list is kept up. -/
theorem Dev.released (d : Dev) (x : Nat) : ∃ e, (d.releaseGroups x).refreshWaits = e ∧ (e.ctxSt x).groups = [] ∧
    (e.ctxSt x).preempting = (d.ctxSt x).preempting ∧ e.ms.mem = d.ms.mem ∧ e.cp.kernels = d.cp.kernels ∧ ∀ off, e.reg off = d.reg off := by
  have hw := (d.releaseGroups x).refreshWaits_only
  obtain ⟨g, s, he⟩ := d.releaseGroups_only x
  have hx : (d.releaseGroups x).ctxSt x =
      { d.ctxSt x with groups := [], last := if (d.ctxSt x).groups.isEmpty then (d.ctxSt x).last else (d.ctxSt x).groups } := by
    rw [he]
    exact (Dev.ctxSt_setCtx d x x _).trans (if_pos rfl)
  refine ⟨_, rfl, ?_, ?_, ?_, ?_, fun off => ?_⟩
  · rw [hw.held.1, hx]
  · rw [hw.held.2, hx]
  · rw [hw.ms, he]
  · rw [hw.kernels, he]; rfl
  · rw [hw.reg, he]; rfl

end Sys2Proof.Machine
end

section
/-! A KERNEL starts, completes, and loses a cluster (R84, R106, R304, R305, R323). -/

namespace Sys2Proof.Machine

open Sys2Proof

/-- A command that leaves the part as it is. -/
theorem exec_keeps {i : Instr} {s : State} (h : i.wf = true) (hd : does i s.dev = s.dev) : exec i s = .next s := by
  rw [exec_next s h, hd]

/-- A command that leaves the part `e`. -/
theorem exec_leaves {i : Instr} {s : State} {e : Dev} (h : i.wf = true) (hd : does i s.dev = e) : exec i s = .next (leaves s e) := by
  rw [exec_next s h, hd]
  rfl

theorem keepsMemory_of_eq {s t : State} {p : Nat → Prop} (h : t.dev.ms.mem = s.dev.ms.mem) : KeepsMemory s t p := fun a _ =>
  congrArg (fun m => Memory.read m a) h

/-! ## KERNEL at each of its invocations (R305) -/

section Kernel
variable {d : Dev} {r : Nat} {v : Run} (hr : d.run? r = some v)
include hr

theorem Dev.kernel_over (h : v.cmd.op ≠ 0x30 ∨ v.done = true ∨ d.cpRuns = false ∨ d.faultHeld (.cmd r) = true) : d.kernel r = d := by
  simp only [Dev.kernel, hr]
  rw [if_pos]
  obtain h | h | h | h := h <;> simp [h]

variable (hop : v.cmd.op = 0x30) (hd : v.done = false) (hc : d.cpRuns = true) (hf : d.faultHeld (.cmd r) = false) (hk : d.cp.kernels.find r = none)
include hop hd hc hf hk

theorem Dev.kernel_bad {st : Status} {i : Nat} (hb : kernelBad v.cmd = some (st, i)) : d.kernel r = d.failRun r st i := by
  simp [Dev.kernel, hr, hop, hd, hc, hf, hk, hb]

variable (hb : kernelBad v.cmd = none)
include hb

theorem Dev.kernel_waits (h : d.refreshWaits.ctxState (v.qid / 256) ≠ 1 ∨ (d.refreshWaits.ctxSt (v.qid / 256)).groups = [] ∨
    (d.refreshWaits.ctxSt (v.qid / 256)).preempting = true ∨ 255 ≤ (d.refreshWaits.ctxLive (v.qid / 256)).length) : d.kernel r = d.refreshWaits := by
  simp only [Dev.kernel, hr, hop, hd, hc, hf, hk, hb, bne_self_eq_false, Bool.not_true, Bool.or_self, Bool.false_eq_true, if_false, Option.isSome_none]
  rw [if_pos]
  obtain h | h | h | h := h <;> simp [h]

variable (h1 : d.refreshWaits.ctxState (v.qid / 256) = 1) (h2 : (d.refreshWaits.ctxSt (v.qid / 256)).groups ≠ [])
  (h3 : (d.refreshWaits.ctxSt (v.qid / 256)).preempting = false) (h4 : (d.refreshWaits.ctxLive (v.qid / 256)).length < 255)
include h1 h2 h3 h4

theorem Dev.kernel_small (hcls : d.refreshWaits.kernelClusters (v.qid / 256) v.cmd = none) :
    d.kernel r = d.refreshWaits.failRun r .noResource := by
  simp [Dev.kernel, hr, hop, hd, hc, hf, hk, hb, h1, h2, h3, Nat.not_le.2 h4, hcls]

variable {cls : List Nat} (hcls : d.refreshWaits.kernelClusters (v.qid / 256) v.cmd = some cls)
include hcls

theorem Dev.kernel_busy (hs : d.refreshWaits.slotsBusy v.cmd cls = true) : d.kernel r = d.refreshWaits := by
  simp [Dev.kernel, hr, hop, hd, hc, hf, hk, hb, h1, h2, h3, Nat.not_le.2 h4, hcls, hs]

theorem Dev.kernel_starts (hs : d.refreshWaits.slotsBusy v.cmd cls = false) {ks : List (BitVec 32)} {f : Dev}
    (ha : d.refreshWaits.readKargs r = (some ks, f)) :
    d.kernel r = cls.foldl (fun d k => d.launchCluster r k 0 0 cls.length)
      { f.beginRun r (128 * (cls.headD 0 / 84) + cls.headD 0 % 84) with cp :=
        { (f.beginRun r (128 * (cls.headD 0 / 84) + cls.headD 0 % 84)).cp with
          kernels := (f.beginRun r (128 * (cls.headD 0 / 84) + cls.headD 0 % 84)).cp.kernels.set r { clusters := cls, kargs := ks } } } := by
  simp [Dev.kernel, hr, hop, hd, hc, hf, hk, hb, h1, h2, h3, Nat.not_le.2 h4, hcls, hs, ha]

end Kernel

/-! ## The sheaves of a launch (R84, R305) -/

/-- A sheaf that a launch of run r has started. -/
def Launched (c : Cmd) (r : Nat) (x : Sheaf) : Prop :=
  x.st = .running ∧ x.cmd = some r ∧ x.pc = BitVec.ofNat 64 (c.dw 4) ∧ x.stack = [] ∧
    ∀ l, l < 256 → x.mask.getLsbD l = decide (c.f 3 23 16 ≤ l ∧ l ≤ c.f 3 23 16 + c.f 3 15 8)

theorem Sheaf.launched_launch (x : Sheaf) (c : Cmd) (r : Nat) : Launched c r (x.launch c r) :=
  ⟨rfl, rfl, rfl, rfl, fun _ hl => getLsbD_maskOf _ hl⟩

theorem Dev.launched_setSheaves (c : Cmd) (r : Nat) {j : Nat} {ks : List Nat} {d : Dev} (h : j ∈ ks ∨ Launched c r (d.sheaf j)) :
    Launched c r ((ks.foldl (fun d k => d.setSheaf k (fun s => s.launch c r)) d).sheaf j) := by
  induction ks generalizing d with
  | nil => exact h.resolve_left (by simp)
  | cons k ks ih =>
    refine ih ?_
    by_cases hk : k = j
    · subst hk
      rw [Dev.sheaf_setSheaf_same]
      exact .inr ((d.sheaf k).launched_launch c r)
    · rw [Dev.sheaf_setSheaf_other _ _ hk]
      exact h.imp_left fun hj => (List.mem_cons.1 hj).resolve_left (Ne.symm hk)

theorem Dev.launchSheaves_keeps (c : Cmd) (r : Nat) (ks : List Nat) (d : Dev) :
    (ks.foldl (fun d k => d.setSheaf k (fun s => s.launch c r)) d).cp = d.cp ∧ (ks.foldl (fun d k => d.setSheaf k (fun s => s.launch c r)) d).ms = d.ms :=
  ⟨foldl_keeps (f := fun (d : Dev) k => d.setSheaf k (fun s => s.launch c r)) (g := Dev.cp) (fun _ _ => rfl) ks d,
    foldl_keeps (f := fun (d : Dev) k => d.setSheaf k (fun s => s.launch c r)) (g := Dev.ms) (fun _ _ => rfl) ks d⟩

theorem Dev.freshRow_keeps (d : Dev) (row r : Nat) :
    (d.freshRow row r).cp = d.cp ∧ (d.freshRow row r).ms = d.ms ∧ (d.freshRow row r).sheaves = d.sheaves := by
  unfold Dev.freshRow
  split <;> exact ⟨rfl, rfl, rfl⟩

theorem Dev.freshRows_keeps (d : Dev) (cls r : Nat) (rows : List Nat) :
    (rows.foldl (fun d w => d.freshRow (16 * cls + w) r) d).cp = d.cp ∧ (rows.foldl (fun d w => d.freshRow (16 * cls + w) r) d).ms = d.ms ∧
      (rows.foldl (fun d w => d.freshRow (16 * cls + w) r) d).sheaves = d.sheaves :=
  ⟨foldl_keeps (g := fun e : Dev => e.cp) (fun e _ => (e.freshRow_keeps _ r).1) _ _,
    foldl_keeps (g := fun e : Dev => e.ms) (fun e _ => (e.freshRow_keeps _ r).2.1) _ _,
    foldl_keeps (g := fun e : Dev => e.sheaves) (fun e _ => (e.freshRow_keeps _ r).2.2) _ _⟩

/-- What a launch on one cluster leaves: the command processor's part and memory; a sheaf that was launched, or is here, is. -/
theorem Dev.launchCluster_keeps (d : Dev) (r cls reason launch n : Nat) :
    (d.launchCluster r cls reason launch n).cp = d.cp ∧ (d.launchCluster r cls reason launch n).ms.mem = d.ms.mem ∧
      ∀ j, j ∈ (d.runCmd r).kSheaves cls ∨ Launched (d.runCmd r) r (d.sheaf j) →
        Launched (d.runCmd r) r ((d.launchCluster r cls reason launch n).sheaf j) := by
  have hblock : ∀ b : Bool, (if b then d.controlBlock cls reason launch n else d).cp = d.cp ∧
      (if b then d.controlBlock cls reason launch n else d).ms.mem = d.ms.mem ∧
      (if b then d.controlBlock cls reason launch n else d).sheaves = d.sheaves := fun b => by cases b <;> exact ⟨rfl, rfl, rfl⟩
  obtain ⟨hcp, hmem, hsh⟩ := hblock (d.runCmd r).kYields
  obtain ⟨hcp', hms', hsh'⟩ := Dev.freshRows_keeps (if (d.runCmd r).kYields then d.controlBlock cls reason launch n else d) cls r (d.runCmd r).kRows
  refine ⟨(Dev.launchSheaves_keeps _ r _ _).1.trans (hcp'.trans hcp),
    (congrArg MemSys.mem ((Dev.launchSheaves_keeps _ r _ _).2.trans hms')).trans hmem, fun j h => ?_⟩
  · refine Dev.launched_setSheaves _ _ (h.imp_right fun h => ?_)
    rw [Dev.sheaf, hsh', hsh]
    exact h

/-- A launch on some clusters. -/
theorem Dev.launchClusters_keeps (d : Dev) (r n : Nat) (cls : List Nat) :
    (cls.foldl (fun d k => d.launchCluster r k 0 0 n) d).cp = d.cp ∧ (cls.foldl (fun d k => d.launchCluster r k 0 0 n) d).ms.mem = d.ms.mem ∧
      ∀ j, (∃ k ∈ cls, j ∈ (d.runCmd r).kSheaves k) ∨ Launched (d.runCmd r) r (d.sheaf j) →
        Launched (d.runCmd r) r ((cls.foldl (fun d k => d.launchCluster r k 0 0 n) d).sheaf j) := by
  induction cls generalizing d with
  | nil => exact ⟨rfl, rfl, fun j h => h.resolve_left (by simp)⟩
  | cons k cls ih =>
    obtain ⟨hcp, hmem, hj⟩ := d.launchCluster_keeps r k 0 0 n
    obtain ⟨ihcp, ihmem, ihj⟩ := ih (d.launchCluster r k 0 0 n)
    have hcmd : (d.launchCluster r k 0 0 n).runCmd r = d.runCmd r := by simp only [Dev.runCmd, Dev.run?, hcp]
    rw [hcmd] at ihj
    refine ⟨ihcp.trans hcp, ihmem.trans hmem, fun j h => ihj j ?_⟩
    rcases h with ⟨k', hk', hjk⟩ | h
    · rcases List.mem_cons.1 hk' with rfl | hk'
      · exact .inr (hj j (.inl hjk))
      · exact .inl ⟨k', hk', hjk⟩
    · exact .inr (hj j (.inr h))

/-- R305: a launch that reads no argument block: the run is live, and its sheaves stand at their entry. -/
theorem Dev.kernel_launched {d : Dev} {r : Nat} {v : Run} {cls : List Nat} (hr : d.run? r = some v) (hop : v.cmd.op = 0x30) (hd : v.done = false)
    (hc : d.cpRuns = true) (hf : d.faultHeld (.cmd r) = false) (hk : d.cp.kernels.find r = none) (hb : kernelBad v.cmd = none)
    (h1 : d.refreshWaits.ctxState (v.qid / 256) = 1) (h2 : (d.refreshWaits.ctxSt (v.qid / 256)).groups ≠ [])
    (h3 : (d.refreshWaits.ctxSt (v.qid / 256)).preempting = false) (h4 : (d.refreshWaits.ctxLive (v.qid / 256)).length < 255)
    (hcls : d.refreshWaits.kernelClusters (v.qid / 256) v.cmd = some cls) (hs : d.refreshWaits.slotsBusy v.cmd cls = false) (hz : v.cmd.dw 6 = 0) :
    (d.kernel r).runLive r = true ∧ (d.kernel r).ms.mem = d.ms.mem ∧
      ∀ k ∈ cls, ∀ j ∈ v.cmd.kSheaves k, Launched v.cmd r ((d.kernel r).sheaf j) := by
  have hw := d.refreshWaits_only
  have hr' : d.refreshWaits.run? r = some v := by rw [Dev.run?, hw.runs]; exact hr
  have hargs : d.refreshWaits.readKargs r = (some (List.replicate 16 0), d.refreshWaits) := by
    rw [Dev.readKargs, Dev.runCmd_eq hr']
    exact if_pos hz
  rw [Dev.kernel_starts hr hop hd hc hf hk hb h1 h2 h3 h4 hcls hs hargs]
  have hbegun := Dev.run_setRun hr' (fun v => { v with began := true, inst := 128 * (cls.headD 0 / 84) + cls.headD 0 % 84, start := d.refreshWaits.time })
  generalize hg : ({ d.refreshWaits.beginRun r (128 * (cls.headD 0 / 84) + cls.headD 0 % 84) with cp :=
        { (d.refreshWaits.beginRun r (128 * (cls.headD 0 / 84) + cls.headD 0 % 84)).cp with
          kernels := (d.refreshWaits.beginRun r (128 * (cls.headD 0 / 84) + cls.headD 0 % 84)).cp.kernels.set r
            { clusters := cls, kargs := List.replicate 16 0 } } } : Dev) = g
  have hrun : g.run? r = some { v with began := true, inst := 128 * (cls.headD 0 / 84) + cls.headD 0 % 84, start := d.refreshWaits.time } := by
    rw [← hg]
    exact hbegun
  have hmem : g.ms.mem = d.ms.mem := by
    rw [← hg]
    exact congrArg MemSys.mem hw.ms
  obtain ⟨hcp, hm, hj⟩ := g.launchClusters_keeps r cls.length cls
  rw [Dev.runCmd_eq hrun] at hj
  refine ⟨?_, hm.trans hmem, fun k hk j hjk => hj j (.inl ⟨k, hk, hjk⟩)⟩
  rw [Dev.runLive, Dev.run?, hcp, show SMap.find g.cp.runs r = _ from hrun]
  simp [hd]

/-! ## Completion (R106, R305) -/

section Complete
variable {d : Dev} {r : Nat} {v : Run} {k : KernelRun} (hr : d.run? r = some v) (hk : d.cp.kernels.find r = some k)
include hr hk

theorem Dev.kernelComplete_waits
    (h : v.done = true ∨ k.saved = true ∨ d.kernelHit r = true ∨ k.mid ≠ [] ∨ ∃ q ∈ k.clusters, d.clusterQuiet r q = false) :
    d.kernelComplete r = d := by
  simp only [Dev.kernelComplete, hr, hk]
  rw [if_pos]
  obtain h | h | h | h | ⟨q, hq, h⟩ := h
  · simp [h]
  · simp [h]
  · simp [h]
  · simp [h]
  · have hall : k.clusters.all (fun c => d.clusterQuiet r c) = false := List.all_eq_false.2 ⟨q, hq, by simp [h]⟩
    simp [hall]

/-- The status a kernel's run has before it ends: that of its lanes, else ABORTED when it is being aborted. -/
def Dev.kernelVerdict (d : Dev) (r : Nat) (v : Run) (k : KernelRun) : Dev :=
  let d := match k.lane with
    | some (s, c) => d.setRun r (fun v => if v.status = none then { v with status := some s, info := c } else v)
    | none => d
  if v.aborting then d.runStatus r .aborted else d

theorem Dev.kernelComplete_ends (hd : v.done = false) (hs : k.saved = false) (hh : d.kernelHit r = false) (hm : k.mid = []) (hy : k.yielded = [])
    (hq : ∀ q ∈ k.clusters, d.clusterQuiet r q = true) : d.kernelComplete r = ((d.kernelVerdict r v k).dropKernel r).endRun r := by
  have hall : k.clusters.all (fun c => d.clusterQuiet r c) = true := List.all_eq_true.2 hq
  simp only [Dev.kernelComplete, hr, hk, hd, hs, hh, hm, hy, hall, List.isEmpty_nil, Bool.not_true, Bool.false_and, Bool.or_self, Bool.false_eq_true,
    if_false]
  rfl

omit hk in
theorem Dev.run_kernelVerdict (hd : v.done = false) (hst : v.status = none) : (d.kernelVerdict r v k).ms = d.ms ∧
    ∃ u, (d.kernelVerdict r v k).run? r = some u ∧ u.done = false ∧ (∀ st i, k.lane = some (st, i) → u.status = some st ∧ u.info = i) ∧
      (k.lane = none → u.status = if v.aborting then some Status.aborted.code else none) := by
  have hms : ∀ (e : Dev) (p : Bool), (if p then e.runStatus r .aborted else e).ms = e.ms := fun e p => by cases p <;> rfl
  have habort : ∀ (e : Dev) (u : Run), e.run? r = some u → ∃ u', (if v.aborting then e.runStatus r .aborted else e).run? r = some u' ∧
      u'.done = u.done ∧ (u.status ≠ none → u'.status = u.status ∧ u'.info = u.info) ∧
      (u.status = none → u'.status = if v.aborting then some Status.aborted.code else none) := by
    intro e u hu
    cases v.aborting with
    | false => exact ⟨u, hu, rfl, fun _ => ⟨rfl, rfl⟩, fun h => h⟩
    | true =>
      refine ⟨_, Dev.run_runStatus hu .aborted 0, ?_, fun h => ?_, fun h => ?_⟩
      · split <;> rfl
      · rw [if_neg h]; exact ⟨rfl, rfl⟩
      · rw [if_pos h]; rfl
  cases hl : k.lane with
  | none =>
    obtain ⟨u, hu, hdone, -, hnone⟩ := habort d v hr
    simp only [Dev.kernelVerdict, hl]
    exact ⟨hms _ _, u, hu, hdone.trans hd, nofun, fun _ => hnone hst⟩
  | some p =>
    obtain ⟨st, i⟩ := p
    obtain ⟨u, hu, hdone, hsome, -⟩ := habort _ _ (Dev.run_setRun hr (fun v => if v.status = none then { v with status := some st, info := i } else v))
    simp only [Dev.kernelVerdict, hl]
    simp only [hst, if_true] at hdone hsome
    refine ⟨hms _ _, u, hu, hdone.trans hd, fun st' i' h => ?_, nofun⟩
    obtain ⟨rfl, rfl⟩ := Prod.mk.inj (Option.some.inj h)
    exact hsome (by simp)

end Complete

theorem Dev.dropKernel_keeps (d : Dev) (r : Nat) : (d.dropKernel r).ms = d.ms ∧ (d.dropKernel r).cp.runs = d.cp.runs ∧
    (d.dropKernel r).cp.kernels.find r = none := by
  obtain ⟨h, he⟩ := d.freeSheaves_only r
  rw [Dev.dropKernel, he]
  exact ⟨rfl, rfl, SMap.find_del_same _ _⟩

/-- R106, R305: the end of a kernel. -/
theorem Dev.kernelComplete_status {d : Dev} {r : Nat} {v : Run} {k : KernelRun} (hr : d.run? r = some v) (hk : d.cp.kernels.find r = some k)
    (hd : v.done = false) (hs : k.saved = false) (hh : d.kernelHit r = false) (hm : k.mid = []) (hy : k.yielded = [])
    (hq : ∀ q ∈ k.clusters, d.clusterQuiet r q = true) (hst : v.status = none) :
    (d.kernelComplete r).ms = d.ms ∧ (d.kernelComplete r).cp.kernels.find r = none ∧
      ∃ u, (d.kernelComplete r).run? r = some u ∧ u.done = true ∧ (∀ st i, k.lane = some (st, i) → u.status = some st ∧ u.info = i) ∧
        (k.lane = none → u.status = if v.aborting then some Status.aborted.code else none) := by
  obtain ⟨hms, u, hu, hdone, hlane, hnone⟩ := Dev.run_kernelVerdict (k := k) hr hd hst
  obtain ⟨hdms, hdruns, hdk⟩ := (d.kernelVerdict r v k).dropKernel_keeps r
  have hu' : ((d.kernelVerdict r v k).dropKernel r).run? r = some u := by rw [Dev.run?, hdruns]; exact hu
  obtain ⟨w, hw, hwd, hws, hwi⟩ := Dev.run_endRun hu' hdone
  rw [Dev.kernelComplete_ends hr hk hd hs hh hm hy hq]
  refine ⟨?_, ?_, w, hw, hwd, ?_, ?_⟩
  · rw [Dev.endRun_ms, hdms, hms]
  · rw [Dev.endRun_kernels, hdk]
  · rwa [hws, hwi]
  · rwa [hws]

/-! ## A cluster lost (R323) -/

theorem Dev.kernelLost_stopped (d : Dev) (r : Nat) : ((d.stopSheaves r).freeSheaves r).cp = d.cp := by
  obtain ⟨h, he⟩ := (d.stopSheaves r).freeSheaves_only r
  rw [he]
  exact d.stopSheaves_cp r

section Lost
variable {d : Dev} {r : Nat} {v : Run} (hr : d.run? r = some v)
include hr

/-- R323: with RESTART the kernel is kept, to be replayed. -/
theorem Dev.kernelLost_replays (hre : v.cmd.kRestart = true) (hk : d.cp.kernels.find r ≠ none) :
    ∃ k, (d.kernelLost r).cp.kernels.find r = some k ∧ k.saved = true ∧ k.replay = true ∧ k.lane = none := by
  obtain ⟨k, hk⟩ := Option.ne_none_iff_exists'.1 hk
  have hcp := d.kernelLost_stopped r
  have hcmd : ((d.stopSheaves r).freeSheaves r).runCmd r = v.cmd := Dev.runCmd_eq (by rw [Dev.run?, hcp]; exact hr)
  simp only [Dev.kernelLost, hcmd, hre, if_true, Dev.setKern, SMap.find_adj_same, hcp, hk, Option.map_some]
  exact ⟨_, rfl, rfl, rfl, rfl⟩

/-- R323: without RESTART it ends with DIE_LOST. -/
theorem Dev.kernelLost_ends (hre : v.cmd.kRestart = false) (hd : v.done = false) (hst : v.status = none) :
    (d.kernelLost r).cp.kernels.find r = none ∧
      ∃ u, (d.kernelLost r).run? r = some u ∧ u.done = true ∧ u.status = some Status.dieLost.code := by
  have hcp := d.kernelLost_stopped r
  have hcmd : ((d.stopSheaves r).freeSheaves r).runCmd r = v.cmd := Dev.runCmd_eq (by rw [Dev.run?, hcp]; exact hr)
  have hr' : (((d.stopSheaves r).freeSheaves r).forgetKernel r).run? r = some v := (congrArg (fun c : Cp => c.runs.find r) hcp).trans hr
  have hfail := Dev.run_runStatus hr' .dieLost 0
  rw [if_pos hst] at hfail
  obtain ⟨u, hu, hdone, hus, -⟩ := Dev.run_endRun hfail hd
  have he : d.kernelLost r = (((d.stopSheaves r).freeSheaves r).forgetKernel r).failRun r .dieLost := by
    simp only [Dev.kernelLost, hcmd, hre, Bool.false_eq_true, if_false]
  rw [he, Dev.failRun]
  refine ⟨?_, u, hu, hdone, hus⟩
  rw [Dev.endRun_kernels]
  exact SMap.find_del_same _ _

end Lost

end Sys2Proof.Machine
end

section
/-! Grants, slices, preemption, saves and changes of geometry (R319 to R331). -/

namespace Sys2Proof.Machine

open Sys2Proof

/-! ## Grants and slices (R319, R320) -/

/-- The groups l are granted to a context. -/
def Dev.grantTo (d : Dev) (x : Nat) (l : List Group) : Dev :=
  let d := d.setCtx x (fun c => { c with groups := l, grantAt := d.time, waited := 0, preempting := false })
  { d with cp := { d.cp with waits := d.cp.waits.filter (· != x) } }

theorem Dev.grantTo_saved (d : Dev) (x : Nat) (l : List Group) : (d.grantTo x l).ctxSaved x = d.ctxSaved x := rfl

theorem Dev.grantTo_ctx (d : Dev) (x : Nat) (l : List Group) : ((d.grantTo x l).ctxSt x).groups = l ∧ ((d.grantTo x l).ctxSt x).grantAt = d.time ∧
    x ∉ (d.grantTo x l).cp.waits ∧ (d.grantTo x l).ms = d.ms := by
  have hst : (d.grantTo x l).ctxSt x = { d.ctxSt x with groups := l, grantAt := d.time, waited := 0, preempting := false } :=
    (Dev.ctxSt_setCtx d x x (fun c => { c with groups := l, grantAt := d.time, waited := 0, preempting := false })).trans (if_pos rfl)
  rw [hst]
  exact ⟨rfl, rfl, by simp [Dev.grantTo], rfl⟩

theorem Dev.groupGrant_stopped {d : Dev} (hc : d.cpRuns = false) : d.groupGrant = d.refreshWaits := by
  simp [Dev.groupGrant, d.refreshWaits_only.cpRuns, hc]

theorem Dev.sliceEnd_stopped {d : Dev} (hc : d.cpRuns = false) : d.sliceEnd = d.refreshWaits := by
  simp [Dev.sliceEnd, d.refreshWaits_only.cpRuns, hc]

theorem Dev.groupGrant_noWaiter {d : Dev} (hh : d.refreshWaits.headWaiter = none) : d.groupGrant = d.refreshWaits := by
  simp [Dev.groupGrant, hh]

theorem Dev.sliceEnd_noWaiter {d : Dev} (hh : d.refreshWaits.headWaiter = none) : d.sliceEnd = d.refreshWaits := by
  simp [Dev.sliceEnd, hh]

section Grant
variable {d : Dev} {x : Nat} (hc : d.cpRuns = true) (hh : d.refreshWaits.headWaiter = some x)
include hc hh

theorem Dev.groupGrant_none (hn : d.refreshWaits.chooseGroups x d.refreshWaits.freeGroups = none) : d.groupGrant = d.refreshWaits := by
  simp [Dev.groupGrant, d.refreshWaits_only.cpRuns, hc, hh, hn]

/-- R319: a context with no saved kernel is granted its groups, and no longer waits. -/
theorem Dev.groupGrant_some {l : List Group} (hl : d.refreshWaits.chooseGroups x d.refreshWaits.freeGroups = some l)
    (hs : d.refreshWaits.ctxSaved x = []) : d.groupGrant = d.refreshWaits.grantTo x l := by
  have he : d.groupGrant = ((d.refreshWaits.grantTo x l).ctxSaved x).foldl Dev.restoreKernel (d.refreshWaits.grantTo x l) := by
    unfold Dev.groupGrant
    simp only [d.refreshWaits_only.cpRuns, hc, hh, hl, Bool.not_true, Bool.false_eq_true, if_false]
    rfl
  rw [he, Dev.grantTo_saved, hs]
  rfl

theorem Dev.sliceEnd_preempts : d.sliceEnd = (d.refreshWaits.cp.waits.foldl (fun d y => d.setCtx y (fun c => { c with waited := c.waited + 1 }))
    d.refreshWaits).preemptFor x (d.refreshWaits.preemptable (d.refreshWaits.waitPrio x)) := by
  simp only [Dev.sliceEnd, d.refreshWaits_only.cpRuns, hc, hh, Bool.not_true, Bool.false_eq_true, if_false]

end Grant

/-- R319: a grant has the size the context's groups ask for. -/
theorem Dev.length_chooseGroups {d : Dev} {x : Nat} {avail l : List Group} (h : d.chooseGroups x avail = some l) : l.length = d.grantSize x := by
  unfold Dev.chooseGroups at h
  dsimp only at h
  generalize (if d.savedIntact x = true then (d.ctxSt x).savedGroups else (d.ctxSt x).last) = pref at h
  split at h
  · exact absurd h (by simp)
  · split at h
    case isTrue hn =>
      rw [← Option.some.inj h, sortGroups, List.length_mergeSort]
      exact hn
    case isFalse => exact absurd h (by simp)

/-! ## Changes of geometry (R323) -/

theorem Dev.msix_cp (d : Dev) (p vec : Nat) : (d.msix p vec).cp = d.cp := by
  unfold Dev.msix
  dsimp only
  split_ifs <;> rfl

theorem Dev.interrupt_cp (d : Dev) (dest vec : Nat) : (d.interrupt dest vec).cp = d.cp := by
  unfold Dev.interrupt
  split
  · exact d.msix_cp 0 vec
  · exact d.msix_cp 1 vec
  · rfl
  · rfl

theorem Dev.crownWrite_cp (d : Dev) (pa : Nat) (l : List Byte) : (d.crownWrite pa l).cp = d.cp :=
  foldl_keeps (f := fun (d : Dev) (p : Nat × Nat) => d.storeLine .engine (d.home p.1) (part l pa p.1 p.2)) (g := Dev.cp) (fun e p => by
    obtain ⟨m, c, h, he⟩ := e.storeLine_engine_stored (e.home p.1) (part l pa p.1 p.2)
    rw [he]) _ d

theorem Dev.writeEntry_geom (d : Dev) (k : Nat) (words : Nat → List Nat) (irq held : Bool) : (d.writeEntry k words irq held).cp.geom = d.cp.geom := by
  unfold Dev.writeEntry
  dsimp only
  generalize (fun c : Cq => if held then { c with reserved := c.reserved - 1 } else c) = free
  split
  · split
    · simp only [Dev.interrupt_cp, Dev.crownWrite_cp]
    · simp only [Dev.crownWrite_cp]
  · rfl

theorem Dev.noticeWrite_geom (d : Dev) (x : Nat) : (d.noticeWrite x).cp.geom = d.cp.geom := by
  unfold Dev.noticeWrite
  dsimp only
  split
  · rfl
  · split
    · exact Dev.writeEntry_geom _ _ _ _ _
    · rfl

theorem Dev.noticeFlush_geom (d : Dev) : d.noticeFlush.cp.geom = d.cp.geom :=
  foldl_keeps (g := fun e : Dev => e.cp.geom) Dev.noticeWrite_geom _ d

theorem Dev.geometryHandle_over {d : Dev} (h : d.cp.geom = false ∨ d.cpRuns = false) : d.geometryHandle = d := by
  rw [Dev.geometryHandle, if_pos]
  obtain h | h := h <;> simp [h]

/-- R323: with no kernel and no group, a change of geometry only leaves notices. -/
theorem Dev.geometryHandle_geom {d : Dev} (hg : d.cp.geom = true) (hc : d.cpRuns = true) (hk : d.cp.kernels = [])
    (hx : ∀ c ∈ d.cp.ctxs, c.2.groups = []) : d.geometryHandle.cp.geom = false := by
  have hx' : d.cp.ctxs.keysP (fun _ c => !c.groups.isEmpty) = [] := by
    simp only [SMap.keysP, List.map_eq_nil_iff, List.filter_eq_nil_iff]
    exact fun c hc => by simp [hx c hc]
  have hhit : ∀ p : Nat → KernelRun → Bool, d.cp.kernels.keysP p = [] := fun p => by rw [hk]; rfl
  simp only [Dev.geometryHandle, hg, hc, Bool.not_true, Bool.or_self, Bool.false_eq_true, if_false, hhit, hx', List.foldl_nil]
  rw [(Dev.refreshWaits_only _).geom, Dev.noticeFlush_geom]
  have hn : ∀ (l : List Nat) (e : Dev),
      (l.foldl (fun d x => d.setCtx x (fun c => { c with notice := true, noticeTime := d.time })) e).cp.geom = e.cp.geom := fun l e =>
    foldl_keeps (f := fun (d : Dev) x => d.setCtx x (fun c => { c with notice := true, noticeTime := d.time })) (g := fun e : Dev => e.cp.geom)
      (fun _ _ => rfl) l e
  rw [hn]

end Sys2Proof.Machine
end

section
/-! The end of a preemption: yields, saves, releases (R320, R321, R326 to R331). -/

namespace Sys2Proof.Machine

open Sys2Proof

/-! ## Idle contexts (R320, R321) -/

theorem Dev.idleRelease_over {d : Dev} {x : Nat}
    (h : d.cpRuns = false ∨ d.runnable x = true ∨ (d.ctxSt x).groups = [] ∨ d.ctxLive x ≠ []) : d.idleRelease x = d := by
  rw [Dev.idleRelease, if_pos]
  obtain h | h | h | h := h <;> simp [h]

theorem Dev.idleRelease_releases {d : Dev} {x : Nat} (hc : d.cpRuns = true) (hr : d.runnable x = false) (hg : (d.ctxSt x).groups ≠ [])
    (hl : d.ctxLive x = []) : d.idleRelease x = (d.releaseGroups x).refreshWaits := by
  simp [Dev.idleRelease, hc, hr, hg, hl]

/-! ## Yields (R326, R327) -/

section Preempting
variable {d : Dev} {x : Nat}

theorem Dev.yieldWaitExpiry_over (h : (d.ctxSt x).preempting = false ∨ d.cpRuns = false) : d.yieldWaitExpiry x = d := by
  rw [Dev.yieldWaitExpiry, if_pos]
  obtain h | h := h <;> simp [h]

theorem Dev.saveComplete_over (h : (d.ctxSt x).preempting = false ∨ d.cpRuns = false) : d.saveComplete x = d := by
  rw [Dev.saveComplete, if_pos]
  obtain h | h := h <;> simp [h]

variable (hp : (d.ctxSt x).preempting = true) (hc : d.cpRuns = true)
include hp hc

section One
variable {r : Nat} (hl : d.ctxLive x = [r])
include hl

/-- Kernels that have ended on every cluster have nothing to wait for. -/
theorem Dev.yieldWaitExpiry_quiet (h : ∀ q ∈ (d.kern r).clusters, d.clusterQuiet r q = true) : d.yieldWaitExpiry x = d := by
  have hall : (d.kern r).clusters.all (fun c => d.clusterQuiet r c) = true := List.all_eq_true.2 h
  have hrs : (d.ctxLive x).filter (fun r => (d.kern r).lane.isNone && !(d.kern r).clusters.all (fun c => d.clusterQuiet r c)) = [] := by
    rw [hl]
    simp [hall]
  simp only [Dev.yieldWaitExpiry, hp, hc, hrs, Bool.not_true, Bool.or_self, Bool.false_eq_true, if_false, List.foldl_nil, List.all_nil, if_true]

/-- R327, R328, R330: clusters that have not yielded are saved mid-kernel where the area takes the save. -/
theorem Dev.yieldWaitExpiry_saves (hlane : (d.kern r).lane = none) (hq : ∃ q ∈ (d.kern r).clusters, d.clusterQuiet r q = false)
    (hy : (d.kern r).late.foldl Dev.clusterYielded d = d) (hlate : (d.kern r).late ≠ []) :
    d.yieldWaitExpiry x = if d.saveFits x ((d.kern r).clusters.length * d.imageSize r ((d.kern r).late ++ (d.kern r).mid))
      then (d.kern r).late.foldl (fun d q => d.midSave x r q) d else d.addSat (rCpCtxstat x) 47 40 1 := by
  obtain ⟨q, hq, hqq⟩ := hq
  have hall : (d.kern r).clusters.all (fun c => d.clusterQuiet r c) = false := List.all_eq_false.2 ⟨q, hq, by simp [hqq]⟩
  have hrs : (d.ctxLive x).filter (fun r => (d.kern r).lane.isNone && !(d.kern r).clusters.all (fun c => d.clusterQuiet r c)) = [r] := by
    rw [hl]
    simp [hall, hlane]
  have hempty : (d.kern r).late.isEmpty = false := by simpa using hlate
  simp only [Dev.yieldWaitExpiry, hp, hc, hrs, hy, hempty, Bool.not_true, Bool.or_self, Bool.false_eq_true, if_false, List.foldl_cons, List.foldl_nil,
    List.all_cons, List.all_nil, Bool.and_true, List.map_cons, List.map_nil, List.sum_cons, List.sum_nil, Nat.add_zero, Bool.not_eq_true']
  cases d.saveFits x ((d.kern r).clusters.length * d.imageSize r ((d.kern r).late ++ (d.kern r).mid)) <;> rfl

/-! ## Saves (R327, R330, R331) -/

omit hp hc in
theorem Dev.saveComplete_late (hlate : (d.kern r).late ≠ []) : d.saveComplete x = d := by
  have hempty : (d.kern r).late.isEmpty = false := by simpa using hlate
  rw [Dev.saveComplete, if_pos]
  simp [hl, hempty]

theorem Dev.saveComplete_saves (hlate : (d.kern r).late = []) :
    d.saveComplete x = (((((if d.saveFits x ((d.kern r).clusters.length * d.imageSize r (d.kern r).mid) then d.writeSave x [r]
      else d.addSat (rCpCtxstat x) 47 40 1).freeSheaves r).setKern r (fun k => { k with saved := true, yielding := false })).setCtx x
        (fun c => { c with preempting := false, savedGroups := c.groups })).releaseGroups x).refreshWaits := by
  simp only [Dev.saveComplete, hl, hp, hc, hlate, List.any_cons, List.any_nil, List.isEmpty_nil, List.isEmpty_cons, Bool.not_true, Bool.or_self,
    Bool.false_eq_true, if_false, List.foldl_cons, List.foldl_nil, List.map_cons, List.map_nil, List.sum_cons, List.sum_nil, Nat.add_zero]

/-- R330: an area too small for a save is counted; the kernel is kept all the same, and the groups are released. -/
theorem Dev.saveComplete_small (hlate : (d.kern r).late = [])
    (hfit : d.saveFits x ((d.kern r).clusters.length * d.imageSize r (d.kern r).mid) = false) :
    ((d.saveComplete x).ctxSt x).groups = [] ∧ ((d.saveComplete x).ctxSt x).preempting = false ∧
      (d.cp.kernels.find r ≠ none → ((d.saveComplete x).kern r).saved = true) ∧
      (d.saveComplete x).fld (rCpCtxstat x) 47 40 = min (d.fld (rCpCtxstat x) 47 40 + 1) 255 ∧ (d.saveComplete x).ms.mem = d.ms.mem := by
  rw [Dev.saveComplete_saves hp hc hl hlate, hfit]
  obtain ⟨h, hh⟩ := (d.addSat (rCpCtxstat x) 47 40 1).freeSheaves_only r
  simp only [Bool.false_eq_true, if_false, hh]
  obtain ⟨u, hu, hg, hpre, hmem, hk, hreg⟩ := Dev.released ((Dev.setKern { d.addSat (rCpCtxstat x) 47 40 1 with sheaves := h } r
    (fun k => { k with saved := true, yielding := false })).setCtx x (fun c => { c with preempting := false, savedGroups := c.groups })) x
  rw [hu]
  refine ⟨hg, hpre.trans (congrArg CtxSt.preempting ((Dev.ctxSt_setCtx _ x x _).trans (if_pos rfl))), fun hn => ?_, ?_, hmem⟩
  · obtain ⟨k, hkr⟩ := Option.ne_none_iff_exists'.1 hn
    have hfind : u.cp.kernels.find r = some { k with saved := true, yielding := false } := by
      rw [hk]
      exact (SMap.find_adj_same d.cp.kernels r (fun k => { k with saved := true, yielding := false })).trans (by rw [hkr]; rfl)
    simp only [Dev.kern, SMap.get, hfind, Option.getD_some]
  · have hfld := d.fld_setFld_same (r := rCpCtxstat x) (hi := 47) (lo := 40) (v := min (d.fld (rCpCtxstat x) 47 40 + 1) (2 ^ (47 + 1 - 40) - 1)) (by decide)
    rw [Dev.fld, hreg]
    refine hfld.trans (Nat.mod_eq_of_lt ?_)
    omega

end One

/-- A preemption that no kernel is left to save ends with the release of the groups. -/
theorem Dev.saveComplete_none (hl : d.ctxLive x = []) : d.saveComplete x =
    ((d.setCtx x (fun c => { c with preempting := false, savedGroups := c.savedGroups })).releaseGroups x).refreshWaits := by
  simp only [Dev.saveComplete, hl, hp, hc, List.any_nil, List.isEmpty_nil, Bool.not_true, Bool.or_self, Bool.false_eq_true, if_false, if_true,
    List.foldl_nil]

end Preempting

/-! ## A cluster yields (R326) -/

/-- The kernels that have been asked to yield a cluster. -/
def Dev.asked (d : Dev) (cls : Nat) : List Nat :=
  d.cp.kernels.keysP (fun _ k => k.yielding && !k.saved && k.clusters.contains cls && !k.yielded.contains cls && !k.mid.contains cls)

/-- One of them is noted once it has ended on the cluster. -/
def Dev.noteYield (cls : Nat) (d : Dev) (r : Nat) : Dev :=
  if (d.kern r).lane.isNone && d.clusterQuiet r cls && ((d.runCmd r).kSheaves cls).all (fun k => (d.sheaf k).st == .halted) then
    d.setKern r (fun k => { k with yielded := k.yielded ++ [cls] })
  else d

theorem Dev.clusterYielded_eq (d : Dev) (cls : Nat) : d.clusterYielded cls = (d.asked cls).foldl (Dev.noteYield cls) d := rfl

/-- What it takes for a yield to be noted. -/
theorem Dev.noteYield_iff {d : Dev} {cls r : Nat} :
    ((d.kern r).lane.isNone && d.clusterQuiet r cls && ((d.runCmd r).kSheaves cls).all (fun k => (d.sheaf k).st == .halted)) = true ↔
      (d.kern r).lane = none ∧ d.clusterQuiet r cls = true ∧ ∀ k ∈ (d.runCmd r).kSheaves cls, (d.sheaf k).st = .halted := by
  simp only [Bool.and_eq_true, Option.isNone_iff_eq_none, List.all_eq_true, beq_iff_eq, and_assoc]

end Sys2Proof.Machine

namespace Sys2Proof

open Sys2Proof.Machine

/-- Settles O51: KERNEL at each of its invocations, its completion and its loss; then grants, slices, preemption, saves and changes
of geometry. -/
theorem kernelsAndGroups : Obligations.KernelsAndGroups := by
  unfold Obligations.KernelsAndGroups
  refine ⟨fun s r v hr => ⟨fun h => exec_keeps rfl (Dev.kernel_over hr h), fun hop hd hc hf hk => ⟨fun st i hb => ?_, fun hb h => ?_, fun hb h1 h2 h3 h4 => ?_⟩,
    fun k hk => ⟨fun h => exec_keeps rfl (Dev.kernelComplete_waits hr hk h), fun hd hs hh hm hy hq hst => ?_⟩, fun hd hst => ⟨fun hre hk => ?_, fun hre => ?_⟩⟩,
    fun s => ⟨fun hc => ?_, fun hc hh => ?_, fun x hc hh => ⟨fun hn => ?_, fun l hl => ⟨Dev.length_chooseGroups hl, fun hs => ?_⟩, ?_⟩, fun h => ?_,
      fun hg hc hk hx => ?_, fun x hx => ⟨fun h => ?_, fun hc hr hg hl => ?_, fun h => ?_, fun r hp hc hl => ?_, fun hp hc hl => ?_⟩,
      fun t c ht hc => ⟨fun h => ?_, fun r h => ?_⟩⟩⟩
  · exact exec_leaves rfl (Dev.kernel_bad hr hop hd hc hf hk hb)
  · exact exec_leaves rfl (Dev.kernel_waits hr hop hd hc hf hk hb h)
  · refine ⟨fun hcls => exec_leaves rfl (Dev.kernel_small hr hop hd hc hf hk hb h1 h2 h3 h4 hcls),
      fun cls hcls hs => exec_leaves rfl (Dev.kernel_busy hr hop hd hc hf hk hb h1 h2 h3 h4 hcls hs),
      fun cls ks f hcls hs ha => exec_leaves rfl (Dev.kernel_starts hr hop hd hc hf hk hb h1 h2 h3 h4 hcls hs ha), fun cls hcls hs hz => ?_⟩
    obtain ⟨hlive, hmem, hj⟩ := Dev.kernel_launched hr hop hd hc hf hk hb h1 h2 h3 h4 hcls hs hz
    exact ⟨_, exec_next s rfl, hlive, keepsMemory_of_eq hmem, hj⟩
  · obtain ⟨hms, hnone, u, hu, hdone, hlane, hno⟩ := Dev.kernelComplete_status hr hk hd hs hh hm hy hq hst
    exact ⟨_, u, exec_next s rfl, hu, hdone, hnone, keepsMemory_of_eq (congrArg MemSys.mem hms), hlane, hno⟩
  · exact Dev.kernelLost_replays hr hre hk
  · exact Dev.kernelLost_ends hr hre hd hst
  · exact ⟨exec_leaves rfl (Dev.groupGrant_stopped hc), exec_leaves rfl (Dev.sliceEnd_stopped hc)⟩
  · exact ⟨exec_leaves rfl (Dev.groupGrant_noWaiter hh), exec_leaves rfl (Dev.sliceEnd_noWaiter hh)⟩
  · exact exec_leaves rfl (Dev.groupGrant_none hc hh hn)
  · obtain ⟨hg, hat, hw, hms⟩ := s.dev.refreshWaits.grantTo_ctx x l
    exact ⟨_, exec_leaves rfl (Dev.groupGrant_some hc hh hl hs), hg, hat.trans s.dev.refreshWaits_only.time, hw,
      keepsMemory_of_eq (congrArg MemSys.mem (hms.trans s.dev.refreshWaits_only.ms))⟩
  · exact exec_leaves rfl (Dev.sliceEnd_preempts hc hh)
  · exact exec_keeps rfl (Dev.geometryHandle_over h)
  · exact ⟨_, exec_next s rfl, Dev.geometryHandle_geom hg hc hk hx⟩
  · exact exec_keeps (decide_eq_true hx) (Dev.idleRelease_over h)
  · obtain ⟨u, hu, hgr, -, hmem, -⟩ := s.dev.released x
    exact ⟨_, exec_leaves (decide_eq_true hx) ((Dev.idleRelease_releases hc hr hg hl).trans hu), hgr, keepsMemory_of_eq hmem⟩
  · exact ⟨exec_keeps (decide_eq_true hx) (Dev.yieldWaitExpiry_over h), exec_keeps (decide_eq_true hx) (Dev.saveComplete_over h)⟩
  · refine ⟨fun hq => exec_keeps (decide_eq_true hx) (Dev.yieldWaitExpiry_quiet hp hc hl hq), fun hlane hq hy hlate => ?_,
      fun hlate => exec_keeps (decide_eq_true hx) (Dev.saveComplete_late hl hlate), fun hlate hfit => ?_, fun hlate hfit => ?_⟩
    · have hy := Dev.yieldWaitExpiry_saves hp hc hl hlane hq hy hlate
      exact ⟨fun hfit => exec_leaves (decide_eq_true hx) (hy.trans (if_neg (by simp [hfit]))),
        fun hfit => exec_leaves (decide_eq_true hx) (hy.trans (if_pos hfit))⟩
    · obtain ⟨hg, hpre, hk, hfld, hmem⟩ := Dev.saveComplete_small hp hc hl hlate hfit
      exact ⟨_, exec_next s (decide_eq_true hx), hg, hpre, hk, hfld, keepsMemory_of_eq hmem⟩
    · refine exec_leaves (decide_eq_true hx) ((Dev.saveComplete_saves hp hc hl hlate).trans ?_)
      rw [if_pos hfit]
  · obtain ⟨u, hu, hg, hpre, hmem, -⟩ := Dev.released (s.dev.setCtx x (fun c => { c with preempting := false, savedGroups := c.savedGroups })) x
    exact ⟨_, exec_leaves (decide_eq_true hx) ((Dev.saveComplete_none hp hc hl).trans hu), hg,
      hpre.trans (congrArg CtxSt.preempting ((Dev.ctxSt_setCtx _ x x _).trans (if_pos rfl))), keepsMemory_of_eq hmem⟩
  · exact exec_keeps (by simp [Instr.wf, ht, hc]) ((s.dev.clusterYielded_eq _).trans (congrArg (List.foldl _ s.dev) h))
  · have hy : s.dev.clusterYielded (clsKey t c) = Dev.noteYield (clsKey t c) s.dev r :=
      (s.dev.clusterYielded_eq _).trans (congrArg (List.foldl _ s.dev) h)
    exact ⟨fun hq => exec_leaves (by simp [Instr.wf, ht, hc]) (hy.trans (if_pos (Dev.noteYield_iff.2 hq))),
      fun hn => exec_keeps (by simp [Instr.wf, ht, hc]) (hy.trans (if_neg fun hb => hn (Dev.noteYield_iff.1 hb)))⟩

end Sys2Proof
end

section
/-! What a NEARMEM command does at each of its invocations (R157 to R176). -/

namespace Sys2Proof.Machine

open Sys2Proof

/-! ## The invocations both commands share (R154, R157, R175) -/

section Nearmem
variable {d : Dev} {r op : Nat} {v : Run} {bad : Cmd → Chk} {step : Dev → Run → Nat → Dev} (hr : d.run? r = some v)
include hr

/-- A run of another opcode, and one that is over, is not touched. -/
theorem Dev.nearmem_over (h : v.done = true ∨ v.cmd.op ≠ op) : d.nearmem r op bad step = d := by
  simp only [Dev.nearmem, hr]
  rw [if_pos]
  obtain h | h := h <;> simp [h]

variable (hop : v.cmd.op = op) (hd : v.done = false) (hf : d.faultHeld (.cmd r) = false)
include hop hd hf

/-- R175: a command that breaks a check of its own ends with the status of the first. -/
theorem Dev.nearmem_bad {st : Status} {i : Nat} (hb : v.began = false) (hbad : bad v.cmd = some (st, i)) :
    d.nearmem r op bad step = d.failAt r (if 11 < v.cmd.f 2 27 24 then 0 else v.cmd.f 2 27 24) st i := by
  simp [Dev.nearmem, hr, hop, hd, hf, hb, hbad, firstBad]

/-- R175: one whose NMV is not enabled ends BUSY. -/
theorem Dev.nearmem_disabled (hb : v.began = false) (hbad : bad v.cmd = none) (hen : d.bit (rGlmNmvctl (v.cmd.f 2 27 24)) 31 = false) :
    d.nearmem r op bad step = d.failAt r (if 11 < v.cmd.f 2 27 24 then 0 else v.cmd.f 2 27 24) .busy 0 := by
  have hgate : d.nmvGate (v.cmd.f 2 27 24) = some (.busy, 0) := by simp [Dev.nmvGate, hen]
  simp [Dev.nearmem, hr, hop, hd, hf, hb, hbad, hgate, firstBad]

/-- R157: one that passes its checks takes its NMV when its turn has come, with nothing staged. -/
theorem Dev.nearmem_starts (hb : v.began = false) (hbad : bad v.cmd = none) (hen : d.bit (rGlmNmvctl (v.cmd.f 2 27 24)) 31 = true)
    (hon : d.setOnline (v.cmd.f 2 27 24 / 3) = true) (hturn : d.nmvTurn r (v.cmd.f 2 27 24) = true) :
    d.nearmem r op bad step = (d.beginRun r (v.cmd.f 2 27 24)).setGlume (v.cmd.f 2 27 24) (fun x => { x with stage := [] }) := by
  have hgate : d.nmvGate (v.cmd.f 2 27 24) = none := by simp [Dev.nmvGate, hen, hon]
  simp [Dev.nearmem, hr, hop, hd, hf, hb, hbad, hgate, hturn, firstBad]

/-- One that has begun takes its next step. -/
theorem Dev.nearmem_steps (hb : v.began = true) (hon : d.setOnline (v.cmd.f 2 27 24 / 3) = true) (hs : d.atSafePoint r v = false) :
    d.nearmem r op bad step = step d v (v.cmd.f 2 27 24) := by
  simp [Dev.nearmem, hr, hop, hd, hf, hb, hon, hs]

end Nearmem

/-! ## Steps of a GEMV (R158 to R166) -/

/-- R163: the stream ranges of strip k: its tiles, and their scales where it has some. -/
def Gemv.stripRanges (x : Gemv) (k : Nat) : List (Nat × Nat) :=
  if x.smode = 0 then [(x.tileAddr k 0, x.kt * tileBytes x.cls)]
  else [(x.tileAddr k 0, x.kt * tileBytes x.cls), (x.scaleTileAddr k 0, x.kt * x.scaleTile)]

/-- The flags of a strip's accumulators and outputs, of every vector and column. -/
def Gemv.stripFlags (x : Gemv) (acc : Nat → Nat → AccV) : Nat :=
  ((List.range x.b).flatMap (fun vec => (List.range 128).map (fun col => stripFlag (acc vec col) (stripOut x (acc vec col))))).foldl (· ||| ·) 0

section Gemv
variable {d e : Dev} {r g : Nat} {v : Run}

/-- R158, R164: the first step stages the vectors and their scales. -/
theorem Dev.gemvStep_stages {l : List Byte} (h0 : v.step = 0)
    (hread : d.readPieces (d.whoNmv r g) (cut 128 (gemvOf v.cmd.words).xbase (gemvOf v.cmd.words).vecBytes ++
      cut 128 (gemvOf v.cmd.words).xsbase (gemvOf v.cmd.words).sclBytes) = (.ok, l, false, e)) :
    d.gemvStep v r g = ((e.fabDone (d.whoNmv r g).waiter).setGlume g (fun y => { y with stage := l })).nextStep r := by
  simp [Dev.gemvStep, h0, hread]

/-- R164: a strip whose stream is admitted and unpoisoned writes what its accumulators drain to. -/
theorem Dev.gemvStep_strip {k : Nat} {pages : List (Nat × Nat)} (hk : v.step = k + 1) (hc : (gemvOf v.cmd.words).cont = false)
    (hs : d.stream (d.whoNmv r g) g ((gemvOf v.cmd.words).stripRanges k) = (.ok pages false, e)) :
    d.gemvStep v r g =
      let x := gemvOf v.cmd.words
      let y := e.fabDone (d.whoNmv r g).waiter
      let acc := fun vec col => stripAcc (y.nmvRead pages ((y.glume g).stage ++ [])) x k col vec
      y.gemvWrite r (d.whoNmv r g) x k (x.stripFlags acc) false (gemvRows x k (fun vec col => (stripOut x (acc vec col)).bits)) := by
  unfold Gemv.stripRanges at hs
  simp only [Dev.gemvStep, hk, hc, Nat.succ_ne_zero, Nat.add_sub_cancel, if_false, Bool.false_eq_true, hs, Bool.or_self, Gemv.stripFlags]

end Gemv

/-! ## Steps of an ATTEND (R158, R167 to R172) -/

section Attend
variable {d e : Dev} {r g : Nat} {v : Run}

/-- R158, R170: the first step stages the queries and the entries of the page list that are read. -/
theorem Dev.attendStep_stages {l : List Byte} (h0 : v.step = 0)
    (hread : d.readPieces (d.whoNmv r g) (cut 128 (attendOf v.cmd.words).qbase (attendOf v.cmd.words).queryBytes ++
      (attendOf v.cmd.words).entries.flatMap (fun i => cut 128 ((attendOf v.cmd.words).entryAddr i) 32)) = (.ok, l, false, e)) :
    d.attendStep v r g = ((e.fabDone (d.whoNmv r g).waiter).setGlume g (fun y => { y with stage := l })).nextStep r := by
  simp [Dev.attendStep, h0, hread]

/-- R172: when every page has been met, the outputs are written. -/
theorem Dev.attendStep_finishes {pages : List (Nat × Nat)} (hk : (attendOf v.cmd.words).entries.length < v.step)
    (hs : d.stream (d.whoNmv r g) g ((List.range (attendOf v.cmd.words).entries.length).flatMap (fun k =>
      attendRanges (attendOf v.cmd.words) ((attendOf v.cmd.words).entries.getD k 0)
        (attendPage (attendOf v.cmd.words) (d.glume g).stage k))) = (.ok pages false, e)) :
    d.attendStep v r g = e.attendFinish r (d.whoNmv r g) (attendOf v.cmd.words) pages := by
  have h0 : v.step ≠ 0 := by omega
  have hlast : ¬ v.step - 1 < (attendOf v.cmd.words).entries.length := by omega
  simp only [Dev.attendStep, h0, hlast, if_false, hs, Bool.false_eq_true]

end Attend

/-! ## As commands -/

theorem does_nearmemGemv (r : Nat) (d : Dev) : does (.nearmemGemv r) d = d.nearmem r 0x40 gemvBad (fun d v g => d.gemvStep v r g) := rfl

theorem does_nearmemAttend (r : Nat) (d : Dev) : does (.nearmemAttend r) d = d.nearmem r 0x41 attendBad (fun d v g => d.attendStep v r g) := rfl

section Commands
variable {s : State} {i : Instr} {r op : Nat} {v : Run} {bad : Cmd → Chk} {step : Dev → Run → Nat → Dev} (hwf : i.wf = true)
  (hi : does i s.dev = s.dev.nearmem r op bad step) (hr : s.dev.run? r = some v)
include hwf hi hr

/-- R157, R175: how a NEARMEM command that has not begun starts, or ends. -/
theorem exec_nearmem_first (hop : v.cmd.op = op) (hd : v.done = false) (hf : s.dev.faultHeld (.cmd r) = false) (hb : v.began = false) :
    (bad v.cmd = none → s.dev.bit (rGlmNmvctl (v.cmd.f 2 27 24)) 31 = true → s.dev.setOnline (v.cmd.f 2 27 24 / 3) = true →
      s.dev.nmvTurn r (v.cmd.f 2 27 24) = true →
        exec i s = .next (leaves s ((s.dev.beginRun r (v.cmd.f 2 27 24)).setGlume (v.cmd.f 2 27 24) (fun x => { x with stage := [] })))) ∧
    (∀ st n, bad v.cmd = some (st, n) →
      exec i s = .next (leaves s (s.dev.failAt r (if 11 < v.cmd.f 2 27 24 then 0 else v.cmd.f 2 27 24) st n))) ∧
    (bad v.cmd = none → s.dev.bit (rGlmNmvctl (v.cmd.f 2 27 24)) 31 = false →
      exec i s = .next (leaves s (s.dev.failAt r (if 11 < v.cmd.f 2 27 24 then 0 else v.cmd.f 2 27 24) .busy 0))) :=
  ⟨fun hbad hen hon hturn => exec_leaves hwf (hi.trans (Dev.nearmem_starts hr hop hd hf hb hbad hen hon hturn)),
    fun _ _ hbad => exec_leaves hwf (hi.trans (Dev.nearmem_bad hr hop hd hf hb hbad)),
    fun hbad hen => exec_leaves hwf (hi.trans (Dev.nearmem_disabled hr hop hd hf hb hbad hen))⟩

theorem exec_nearmem_over (h : v.done = true ∨ v.cmd.op ≠ op) : exec i s = .next s :=
  exec_keeps hwf (hi.trans (Dev.nearmem_over hr h))

/-- A NEARMEM command that has begun leaves what its step leaves. -/
theorem exec_nearmem_steps {e : Dev} (hop : v.cmd.op = op) (hd : v.done = false) (hb : v.began = true) (hf : s.dev.faultHeld (.cmd r) = false)
    (hon : s.dev.setOnline (v.cmd.f 2 27 24 / 3) = true) (hs : s.dev.atSafePoint r v = false) (he : step s.dev v (v.cmd.f 2 27 24) = e) :
    exec i s = .next (leaves s e) :=
  exec_leaves hwf (hi.trans ((Dev.nearmem_steps hr hop hd hf hb hon hs).trans he))

end Commands

end Sys2Proof.Machine

namespace Sys2Proof

open Sys2Proof.Machine

/-- Settles O40: what a NEARMEM command does at its first invocation, and what each of its steps leaves. -/
theorem nearMemoryCommands : Obligations.NearMemoryCommands := by
  unfold Obligations.NearMemoryCommands
  intro s r v
  have hg := does_nearmemGemv r s.dev
  have ha := does_nearmemAttend r s.dev
  dsimp only
  intro hr
  refine ⟨exec_nearmem_over rfl hg hr, exec_nearmem_over rfl ha hr, ?_, fun hd hb hf hon hs => ⟨fun hop => ?_, fun hop => ?_⟩⟩
  · simp only [List.forall_mem_cons]
    exact ⟨exec_nearmem_first rfl hg hr, exec_nearmem_first rfl ha hr, fun _ h => absurd h List.not_mem_nil⟩
  · exact ⟨fun _ _ h0 hread => exec_nearmem_steps rfl hg hr hop hd hb hf hon hs (Dev.gemvStep_stages h0 hread),
      fun _ _ _ hk hc hst => exec_nearmem_steps rfl hg hr hop hd hb hf hon hs (Dev.gemvStep_strip hk hc hst)⟩
  · exact ⟨fun _ _ h0 hread => exec_nearmem_steps rfl ha hr hop hd hb hf hon hs (Dev.attendStep_stages h0 hread),
      fun _ _ hk hst => exec_nearmem_steps rfl ha hr hop hd hb hf hon hs (Dev.attendStep_finishes hk hst)⟩

end Sys2Proof
end

section
/-! What the events of a Glume's stack do (R146 to R153, R203). -/

namespace Sys2Proof.Machine

open Sys2Proof

/-! ## Fields of one register -/

section Fields
variable (d : Dev) {r : Nat}

/-- Another field of a register is left as it is. -/
theorem Dev.fld_setFld_other {hi lo a b : Nat} (v : Nat) (hhi : hi < 64) (h : a < lo ∨ lo + (hi + 1 - lo) ≤ b) :
    (d.setFld r hi lo v).fld r a b = d.fld r a b := by
  have hlt : putBits (d.reg r) hi lo v < 2 ^ 64 := putBits_lt (d.reg_lt r) hhi
  simp only [Dev.fld, Dev.setFld, Dev.reg_setReg_same, Nat.mod_eq_of_lt hlt, bitsOf_putBits_other h]

/-- A bit is a field of its own. -/
theorem Dev.bit_eq_fld (i : Nat) : d.bit r i = (d.fld r i i).testBit 0 := by
  rw [Dev.bit, Dev.fld, testBit_bitsOf]
  simp

theorem Dev.bit_setBit_same {i : Nat} (hi : i < 64) (b : Bool) : (d.setBit r i b).bit r i = b := by
  rw [Dev.bit_eq_fld, Dev.setBit, Dev.fld_setFld_same d hi]
  cases b <;> simp

/-- A counter that saturates. -/
theorem Dev.fld_addSat_same {hi lo : Nat} (hhi : hi < 64) (n : Nat) :
    (d.addSat r hi lo n).fld r hi lo = min (d.fld r hi lo + n) (2 ^ (hi + 1 - lo) - 1) := by
  rw [Dev.addSat, Dev.fld_setFld_same d hhi]
  refine Nat.mod_eq_of_lt ?_
  have hpos : 0 < 2 ^ (hi + 1 - lo) := by positivity
  omega

end Fields

/-! ## Poison marks (R147) -/

theorem mem_insertNat_self (l : List Nat) (x : Nat) : x ∈ insertNat l x := by
  induction l with
  | nil => simp [insertNat]
  | cons y r ih =>
    simp only [insertNat]
    split_ifs with h1 h2
    · exact List.mem_cons_of_mem _ ih
    · simp [h2]
    · simp

/-- The marks stand in memory alone. -/
theorem Dev.lineBad_congr {d e : Dev} (h : e.ms = d.ms) (line : Nat) : e.lineBad line = d.lineBad line := by
  simp only [Dev.lineBad, Dev.lineLost, h]

theorem Dev.lineBad_poisonLine (d : Dev) (line : Nat) : (d.poisonLine line).lineBad line = true := by
  have h : (d.poisonLine line).lineBad line =
      ((if d.lineLost line then d.ms.poison.filter (· != line) else insertNat d.ms.poison line).contains line != d.lineLost line) := rfl
  rw [h]
  cases d.lineLost line <;> simp [mem_insertNat_self]

theorem Dev.lineBad_cleanLine (d : Dev) (line : Nat) : (d.cleanLine line).lineBad line = false := by
  have h : (d.cleanLine line).lineBad line =
      ((if d.lineLost line then insertNat d.ms.poison line else d.ms.poison.filter (· != line)).contains line != d.lineLost line) := rfl
  rw [h]
  cases d.lineLost line <;> simp [mem_insertNat_self]

theorem Dev.mem_poisonLine (d : Dev) (line : Nat) : (d.poisonLine line).ms.mem = d.ms.mem := rfl

theorem Dev.fld_poisonLine (d : Dev) (line r hi lo : Nat) : (d.poisonLine line).fld r hi lo = d.fld r hi lo := rfl

/-- A store of a whole line of HBM clears its mark. -/
theorem Dev.storeLine_hbm_cleans (d : Dev) (v : Via) {pa : Nat} {l : List Byte} (hpa : pa % 128 = 0) (hl : 128 ≤ l.length) :
    (d.storeLine v (.hbm pa) l).lineBad (pa / 128) = false := by
  obtain ⟨e, he⟩ : ∃ e : Dev, d.storeLine v (.hbm pa) l = e.storeHome (.hbm pa) l := ⟨_, rfl⟩
  rw [he]
  simp only [Dev.storeHome, Home.key, Home.line, Option.map, hpa, hl, and_self, if_true]
  exact Dev.lineBad_cleanLine _ _

/-! ## What records and repairs leave as it is (R146, R151) -/

/-- From d to e memory is the same, and every register but the two that keep a Glume's record and the one of its repairs. -/
def OnlyRecords (g : Nat) (d e : Dev) : Prop :=
  e.ms = d.ms ∧ ∀ off, off ≠ rGlmErrrec g → off ≠ rGlmErraddr g → off ≠ rGlmRepstat g → e.reg off = d.reg off

section Records
variable {g : Nat}

theorem OnlyRecords.refl (d : Dev) : OnlyRecords g d d := ⟨rfl, fun _ _ _ _ => rfl⟩

theorem OnlyRecords.trans {a b c : Dev} (h : OnlyRecords g a b) (h' : OnlyRecords g b c) : OnlyRecords g a c :=
  ⟨h'.1.trans h.1, fun off h1 h2 h3 => (h'.2 off h1 h2 h3).trans (h.2 off h1 h2 h3)⟩

theorem OnlyRecords.ite {d a b : Dev} {p : Prop} [Decidable p] (ha : OnlyRecords g d a) (hb : OnlyRecords g d b) :
    OnlyRecords g d (if p then a else b) := by
  split
  · exact ha
  · exact hb

theorem OnlyRecords.fld_ecccnt {d e : Dev} (h : OnlyRecords g d e) (hi lo : Nat) : e.fld (rGlmEcccnt g) hi lo = d.fld (rGlmEcccnt g) hi lo := by
  unfold Dev.fld
  rw [h.2 _ (by unfold rGlmEcccnt rGlmErrrec; omega) (by unfold rGlmEcccnt rGlmErraddr; omega) (by unfold rGlmEcccnt rGlmRepstat; omega)]

theorem OnlyRecords.bit_repctl {d e : Dev} (h : OnlyRecords g d e) (i : Nat) : e.bit (rGlmRepctl g) i = d.bit (rGlmRepctl g) i := by
  unfold Dev.bit
  rw [h.2 _ (by unfold rGlmRepctl rGlmErrrec; omega) (by unfold rGlmRepctl rGlmErraddr; omega) (by unfold rGlmRepctl rGlmRepstat; omega)]

variable (d : Dev)

theorem Dev.glumeRecord_only (kind symbols loc : Nat) (r : DramRow) : OnlyRecords g d (d.glumeRecord g kind symbols loc r) := by
  unfold Dev.glumeRecord Dev.keepRecord
  exact .ite (.refl d) ⟨rfl, fun off h1 h2 _ => by rw [Dev.reg_setReg_other _ _ h2.symm, Dev.reg_setReg_other _ _ h1.symm]⟩

/-- R483: an error record stands neither in memory nor in a register. -/
theorem Dev.error_only (kind slot unit status addr detail : Nat) : OnlyRecords g d (d.error kind slot unit status addr detail) :=
  ⟨rfl, fun _ _ _ _ => rfl⟩

theorem Dev.glumeError_only (kind rec loc : Nat) (r : DramRow) : OnlyRecords g d (d.glumeError kind g rec loc r) :=
  d.error_only _ _ _ _ _ _

theorem Dev.setGlume_only (f : Glume → Glume) : OnlyRecords g d (d.setGlume g f) := ⟨rfl, fun _ _ _ _ => rfl⟩

theorem Dev.setRepstat_only (i : Nat) (b : Bool) : OnlyRecords g d (d.setBit (rGlmRepstat g) i b) :=
  ⟨rfl, fun _ _ _ h => Dev.reg_setFld_other d _ _ _ h.symm⟩

theorem Dev.requestRepair_only (r : Repair) : OnlyRecords g d (d.requestRepair g r) := by
  unfold Dev.requestRepair
  dsimp only
  refine .ite (.refl d) ?_
  split
  · exact d.setGlume_only _
  · exact (d.setGlume_only _).trans (Dev.setRepstat_only _ _ _)

theorem Dev.rowError_only (row : DramRow) (addr : Nat) (uncorr : Bool) : OnlyRecords g d (d.rowError g row addr uncorr) := by
  have hcount : ∀ f : Glume → Glume, OnlyRecords g d (if uncorr = true then d else d.setGlume g f) := fun f => .ite (.refl d) (d.setGlume_only f)
  unfold Dev.rowError
  exact .ite ((hcount _).trans (Dev.requestRepair_only _ _)) (hcount _)

theorem Dev.nextRepair_only : OnlyRecords g d (d.nextRepair g) := by
  unfold Dev.nextRepair
  split
  · exact (d.setGlume_only _).trans (Dev.setRepstat_only _ _ _)
  · exact d.setGlume_only _

end Records

/-! ## Errors of a stack (R146, R147) -/

section Errors
variable (d : Dev) (g line : Nat) (row : DramRow) (scrub : Bool)

@[simp] theorem Dev.stackError_none : d.stackError g line 0 row scrub = d := by simp [Dev.stackError]

/-- Up to 3 bad symbols are corrected: counted, recorded, and counted for their row. -/
theorem Dev.stackError_corrected {errs : Nat} (h0 : 0 < errs) (h3 : errs ≤ 3) :
    d.stackError g line errs row scrub =
      ((d.addSat (rGlmEcccnt g) 31 0 1).glumeRecord g 0 errs (line * 128) row).rowError g row (line * 128 / 256 * 256) false := by
  simp only [Dev.stackError, h0.ne', h3, if_true, if_false]

/-- More are uncorrectable: the line is marked and the error counted, recorded, and its row repaired where SOFTAUTO asks. -/
theorem Dev.stackError_uncorrected {errs : Nat} (h : 3 < errs) :
    d.stackError g line errs row scrub =
      ((((d.addSat (rGlmEcccnt g) 63 32 1).poisonLine (glmLine g line)).glumeRecord g (if scrub then 4 else 1) 255 (line * 128) row).glumeError
        (if scrub then 0x02 else 0x01) g (glmRecord (if scrub then 4 else 1) 255 (line * 128) row) (line * 128) row).rowError g row
          (line * 128 / 256 * 256) true := by
  simp only [Dev.stackError, show errs ≠ 0 by omega, show ¬ errs ≤ 3 by omega, if_false]

/-- What an uncorrectable error leaves: memory keeps its bytes. -/
theorem Dev.stackError_poisons {errs : Nat} (h : 3 < errs) :
    (d.stackError g line errs row scrub).lineBad (glmLine g line) = true ∧
      (d.stackError g line errs row scrub).fld (rGlmEcccnt g) 63 32 = min (d.fld (rGlmEcccnt g) 63 32 + 1) (2 ^ 32 - 1) ∧
      (d.stackError g line errs row scrub).ms.mem = d.ms.mem := by
  have hcount := d.fld_addSat_same (r := rGlmEcccnt g) (hi := 63) (lo := 32) (by norm_num) 1
  have honly : OnlyRecords g ((d.addSat (rGlmEcccnt g) 63 32 1).poisonLine (glmLine g line)) (d.stackError g line errs row scrub) := by
    rw [d.stackError_uncorrected g line row scrub h]
    exact ((Dev.glumeRecord_only _ _ _ _ _).trans (Dev.glumeError_only _ _ _ _ _)).trans (Dev.rowError_only _ _ _ _)
  refine ⟨?_, ?_, ?_⟩
  · rw [Dev.lineBad_congr honly.1, Dev.lineBad_poisonLine]
  · rw [honly.fld_ecccnt, Dev.fld_poisonLine]
    simpa using hcount
  · rw [honly.1, Dev.mem_poisonLine, Dev.addSat_ms]

end Errors

/-! ## Reads and writes (R146, R147, R150, R203) -/

theorem hbmInter_lt {g line : Nat} (hg : g < 12) (hl : line < 0x18000000) : hbmInter g (line * 128) < 0x9000000000 := by
  unfold hbmInter
  omega

theorem hbmInter_aligned (g line : Nat) : hbmInter g (line * 128) % 128 = 0 := by
  unfold hbmInter
  omega

section Lines
variable {d : Dev} {g ctx line : Nat} {row : DramRow}

theorem Dev.glumeRead_refused (errs : Nat) (hv : d.verdict (.hbm (hbmInter g (line * 128))) ctx false ≠ .pass) :
    d.glumeRead g ctx line errs row = d := by
  simp [Dev.glumeRead, hv]

section Admitted
variable (errs : Nat) (hv : d.verdict (.hbm (hbmInter g (line * 128))) ctx false = .pass) (hh : d.bankHeld g row = false)
include hv hh

/-- A line that is not poisoned is checked and returned. -/
theorem Dev.glumeRead_clean (hb : d.lineBad (glmLine g line) = false) :
    d.glumeRead g ctx line errs row =
      { d.stackError g line errs row false with out := (d.stackError g line errs row false).readHome (.hbm (hbmInter g (line * 128))) 128 } := by
  simp [Dev.glumeRead, hv, hh, hb]

/-- The read of a poisoned one is recorded. -/
theorem Dev.glumeRead_poisoned (hb : d.lineBad (glmLine g line) = true) :
    d.glumeRead g ctx line errs row =
      { d.glumeRecord g 2 0 (line * 128) row with
        out := (d.glumeRecord g 2 0 (line * 128) row).readHome (.hbm (hbmInter g (line * 128))) 128 } := by
  simp [Dev.glumeRead, hv, hh, hb]

end Admitted

/-- R150: a scrub read finds what a read would. -/
theorem Dev.scrubRead_reads (errs : Nat) (hen : d.bit (rGlmScrub g) 31 = true) (hon : d.setOnline (g / 3) = true) (hh : d.bankHeld g row = false)
    (hb : d.lineBad (glmLine g line) = false) : d.scrubRead g line errs row = d.stackError g line errs row true := by
  simp [Dev.scrubRead, hen, hon, hh, hb]

theorem Dev.scrubRead_skips (errs : Nat) (hb : d.lineBad (glmLine g line) = true) : d.scrubRead g line errs row = d := by
  simp [Dev.scrubRead, hb]

theorem Dev.glumeWrite_refused (n : Nat) (l : List Byte) (hv : d.verdict (.hbm (hbmInter g (line * 128))) ctx true ≠ .pass) :
    d.glumeWrite g ctx line n l = d := by
  simp [Dev.glumeWrite, hv]

theorem Dev.glumeWrite_stores {l : List Byte} (hl : l.length ≤ 128) (hv : d.verdict (.hbm (hbmInter g (line * 128))) ctx true = .pass) :
    d.glumeWrite g ctx line l.length l = d.storeLine .engine (.hbm (hbmInter g (line * 128))) l := by
  simp [Dev.glumeWrite, hv, Nat.min_eq_left hl]

end Lines

/-! ## Temperature (R148) -/

/-- R148: the refresh rate that a temperature gives. -/
def Dev.refreshFor (d : Dev) (g : Nat) (t : Int) : Dev :=
  if 85 < t then (d.setGlume g (fun x => { x with coolSince := none })).setFld (rGlmStat g) 19 18 1
  else if 83 < t then d.setGlume g (fun x => { x with coolSince := none })
  else
    match (d.glume g).coolSince with
    | none => d.setGlume g (fun x => { x with coolSince := some d.time })
    | some s => if 10000000 ≤ d.time - s then d.setFld (rGlmStat g) 19 18 0 else d

section Temperature
variable {d : Dev} {g : Nat}

/-- A Glume that runs shows the temperature and whether it is hot, and sets its refresh rate. -/
theorem Dev.stackTemp_active (ha : d.dieActive (slotGlm g) = true) (t : Int) :
    d.stackTemp g t = ((d.setFld (rGlmStat g) 31 24 (min 255 t.toNat)).setBit (rGlmStat g) 17 (decide (95 < t))).refreshFor g t := by
  simp only [Dev.stackTemp, ha, Bool.not_true, Bool.false_eq_true, if_false]
  rfl

/-- The refresh rate has two bits of GLM_STAT. -/
theorem Dev.fld_refreshFor_other (d : Dev) (g : Nat) (t : Int) {a b : Nat} (h : a < 18 ∨ 20 ≤ b) :
    (d.refreshFor g t).fld (rGlmStat g) a b = d.fld (rGlmStat g) a b := by
  have hset : ∀ (e : Dev) (v : Nat), (e.setFld (rGlmStat g) 19 18 v).fld (rGlmStat g) a b = e.fld (rGlmStat g) a b := fun e v =>
    e.fld_setFld_other v (by norm_num) h
  unfold Dev.refreshFor
  split_ifs
  · exact hset _ 1
  · rfl
  · split
    · rfl
    · split_ifs
      · exact hset _ 0
      · rfl

theorem Dev.fld_refreshFor_hot {t : Int} (d : Dev) (g : Nat) (ht : 85 < t) : (d.refreshFor g t).fld (rGlmStat g) 19 18 = 1 := by
  rw [Dev.refreshFor, if_pos ht]
  exact Dev.fld_setFld_same _ (by norm_num)

/-- What GLM_STAT shows of a temperature. -/
theorem Dev.stackTemp_stat (ha : d.dieActive (slotGlm g) = true) (t : Int) :
    (d.stackTemp g t).fld (rGlmStat g) 31 24 = min 255 t.toNat ∧ (d.stackTemp g t).bit (rGlmStat g) 17 = decide (95 < t) ∧
      (85 < t → (d.stackTemp g t).fld (rGlmStat g) 19 18 = 1) := by
  rw [Dev.stackTemp_active ha]
  refine ⟨?_, ?_, Dev.fld_refreshFor_hot _ g⟩
  · rw [Dev.fld_refreshFor_other _ _ _ (by norm_num), Dev.setBit, Dev.fld_setFld_other _ _ (by norm_num) (by norm_num),
      Dev.fld_setFld_same _ (by norm_num)]
    exact Nat.mod_eq_of_lt (by omega)
  · rw [Dev.bit_eq_fld, Dev.fld_refreshFor_other _ _ _ (by norm_num), ← Dev.bit_eq_fld, Dev.bit_setBit_same _ (by norm_num)]

end Temperature

/-! ## Repairs (R151 to R153) -/

@[simp] theorem Dev.glume_setGlume_same (d : Dev) (g : Nat) (f : Glume → Glume) : (d.setGlume g f).glume g = f (d.glume g) := by
  simp [Dev.glume, Dev.setGlume]

section Start
variable {d : Dev} {g : Nat} {q : Repair} (hq : (d.glume g).busy = some q) (hs : q.started = false) (ha : d.dieActive (slotGlm g) = true)
include hq hs ha

/-- A repair starts when its bank has a spare row, or its row has one already. -/
theorem Dev.repairStart_starts (h : (d.glume g).usedIn q.row < Config.spareRows ∨ (q.hard = true ∧ q.row ∈ (d.glume g).soft)) :
    d.repairStart g q.row q.hard = d.setGlume g (fun x => { x with busy := some { q with started := true } }) := by
  have hspare : (!(q.hard && (d.glume g).soft.contains q.row) && decide (Config.spareRows ≤ (d.glume g).usedIn q.row)) = false := by
    obtain h | ⟨h1, h2⟩ := h
    · simp [h]
    · simp [h1, h2]
  simp only [Dev.repairStart, hq, hs, ha, hspare]
  simp

/-- Without a spare row it fails. -/
theorem Dev.repairStart_noSpare (hn : Config.spareRows ≤ (d.glume g).usedIn q.row) (hsoft : q.hard = true → q.row ∉ (d.glume g).soft) :
    d.repairStart g q.row q.hard = d.repairFailed g q true := by
  have hspare : (!(q.hard && (d.glume g).soft.contains q.row) && decide (Config.spareRows ≤ (d.glume g).usedIn q.row)) = true := by
    simpa [hn, imp_iff_not_or] using hsoft
  simp only [Dev.repairStart, hq, hs, ha, hspare]
  simp

end Start

/-- R151, R152: what a Glume keeps of a row once it is repaired; a row that was soft-repaired has its spare. -/
def Glume.mapRow (x : Glume) (q : Repair) (was : Bool) : Glume :=
  let x := if was then x else x.useSpare q.row
  { x with soft := if q.hard then x.soft.filter (· != q.row) else x.soft ++ [q.row],
           rowErrs := x.rowErrs.filter (fun e => e.1 != q.row) }

/-- R151, R152: a repaired row is mapped, and the repair record names it. -/
def Dev.mapRow (d : Dev) (g : Nat) (q : Repair) : Dev :=
  let e := d.setGlume g (fun x => x.mapRow q ((d.glume g).soft.contains q.row))
  { e with nv := { e.nv with
      hard := if q.hard then e.nv.hard.upd [] g (· ++ [q.row]) else e.nv.hard,
      soft := if q.hard then e.nv.soft.upd [] g (fun l => l.filter (· != q.row)) else e.nv.soft.upd [] g (· ++ [q.row]) } }

theorem Glume.mapRow_keeps (x : Glume) (q : Repair) (was : Bool) : (x.mapRow q was).queue = x.queue ∧
    (x.mapRow q was).soft = if q.hard then x.soft.filter (· != q.row) else x.soft ++ [q.row] := by
  cases was <;> exact ⟨rfl, rfl⟩

section Map
variable (d : Dev) (g : Nat) (q : Repair)

theorem Dev.mapRow_only : OnlyRecords g d (d.mapRow g q) := ⟨rfl, fun _ _ _ _ => rfl⟩

theorem Dev.glume_mapRow : (d.mapRow g q).glume g = (d.glume g).mapRow q ((d.glume g).soft.contains q.row) :=
  d.glume_setGlume_same g (fun x => x.mapRow q ((d.glume g).soft.contains q.row))

theorem Dev.mapRow_hard (h : q.hard = true) : q.row ∈ (d.mapRow g q).nv.hard.get [] g := by
  simp [Dev.mapRow, h]

theorem Dev.mapRow_soft (h : q.hard = false) : q.row ∈ (d.mapRow g q).nv.soft.get [] g := by
  simp [Dev.mapRow, h]

end Map

/-- With none queued the Glume's repairs are over. -/
theorem Dev.nextRepair_last {d : Dev} {g : Nat} (h : (d.glume g).queue = []) :
    d.nextRepair g = (d.setGlume g (fun x => { x with busy := none })).setBit (rGlmRepstat g) 0 false := by
  simp only [Dev.nextRepair, h]

section Done
variable {d : Dev} {g : Nat} {q : Repair} (hq : (d.glume g).busy = some q) (hs : q.started = true) (ha : d.dieActive (slotGlm g) = true)
include hq hs ha

theorem Dev.repairDone_failed : d.repairDone g true = d.repairFailed g q false := by
  simp [Dev.repairDone, hq, hs, ha]

/-- R152: without HARDAUTO a repair that ends maps its row and lets the next take its turn. -/
theorem Dev.repairDone_maps (hauto : d.bit (rGlmRepctl g) 30 = false) :
    d.repairDone g false = ((d.mapRow g q).repairError 0x03 g q.addr q.row).nextRepair g := by
  have honly : OnlyRecords g d (((d.mapRow g q).repairError 0x03 g q.addr q.row).nextRepair g) :=
    ((d.mapRow_only g q).trans (Dev.error_only _ _ _ _ _ _ _)).trans (Dev.nextRepair_only _)
  have hrun : d.repairDone g false =
      if (!q.hard && (((d.mapRow g q).repairError 0x03 g q.addr q.row).nextRepair g).bit (rGlmRepctl g) 30) = true then
        (((d.mapRow g q).repairError 0x03 g q.addr q.row).nextRepair g).requestRepair g { row := q.row, hard := true, addr := q.addr }
      else ((d.mapRow g q).repairError 0x03 g q.addr q.row).nextRepair g := by
    simp only [Dev.repairDone, hq, hs, ha, Bool.not_true, Bool.or_self, Bool.false_eq_true, if_false]
    rfl
  rw [hrun, if_neg (by simp [honly.bit_repctl, hauto])]

/-- The last of a Glume's repairs leaves its row in the repair record, and none in progress. -/
theorem Dev.repairDone_last (hauto : d.bit (rGlmRepctl g) 30 = false) (hlast : (d.glume g).queue = []) :
    ((d.repairDone g false).glume g).busy = none ∧ (d.repairDone g false).bit (rGlmRepstat g) 0 = false ∧
      (d.repairDone g false).ms.mem = d.ms.mem ∧
      (q.hard = true → q.row ∈ (d.repairDone g false).nv.hard.get [] g ∧ q.row ∉ ((d.repairDone g false).glume g).soft) ∧
      (q.hard = false → q.row ∈ (d.repairDone g false).nv.soft.get [] g ∧ q.row ∈ ((d.repairDone g false).glume g).soft) := by
  have hkeeps := (d.glume g).mapRow_keeps q ((d.glume g).soft.contains q.row)
  rw [← Dev.glume_mapRow] at hkeeps
  obtain ⟨hqueue, hsoft⟩ := hkeeps
  have hend : d.repairDone g false =
      (((d.mapRow g q).repairError 0x03 g q.addr q.row).setGlume g (fun x => { x with busy := none })).setBit (rGlmRepstat g) 0 false :=
    (Dev.repairDone_maps hq hs ha hauto).trans (Dev.nextRepair_last (hqueue.trans hlast))
  have hglume : (d.repairDone g false).glume g = { (d.mapRow g q).glume g with busy := none } := by
    rw [hend]
    exact Dev.glume_setGlume_same ((d.mapRow g q).repairError 0x03 g q.addr q.row) g (fun x => { x with busy := none })
  have hnv : (d.repairDone g false).nv = (d.mapRow g q).nv := by rw [hend]; rfl
  rw [hglume, hnv, hsoft]
  refine ⟨rfl, ?_, ?_, fun h => ⟨d.mapRow_hard g q h, by simp [h]⟩, fun h => ⟨d.mapRow_soft g q h, by simp [h]⟩⟩
  · rw [hend]
    exact Dev.bit_setBit_same _ (by norm_num) false
  · rw [hend]
    rfl

end Done

end Sys2Proof.Machine

namespace Sys2Proof

open Sys2Proof.Machine

/-- Settles O39: the events of a stack one by one, each at the branch of its trigger. -/
theorem glumeStacks : Obligations.GlumeStacks := by
  unfold Obligations.GlumeStacks
  intro s g hg
  have hwf : decide (g < 12) = true := decide_eq_true hg
  dsimp only
  refine ⟨fun ctx line errs row hctx hrow hline => ?_, fun ha temp => ?_, fun ch hch => ?_, fun q hard hq hh hs hrow ha => ?_, fun q hq hs ha => ?_⟩
  · have hread : (Instr.glumeRead g ctx line errs row).wf = true := by simp [Instr.wf, hg, hctx, hrow]
    have hscrub : (Instr.scrubRead g line errs row).wf = true := by simp [Instr.wf, hg, hrow]
    have hpa := hbmInter_lt hg hline
    refine ⟨fun hv => exec_keeps hread (Dev.glumeRead_refused errs hv), fun hv hb hl => ⟨fun h0 => ?_, fun h0 h3 => ?_, fun h3 => ?_⟩,
      fun hv hb hl => exec_leaves hread (Dev.glumeRead_poisoned errs hv hb hl),
      fun hen hon hb hl => exec_leaves hscrub (Dev.scrubRead_reads errs hen hon hb hl),
      fun hl => exec_keeps hscrub (Dev.scrubRead_skips errs hl), fun l hpos hlen => ?_⟩
    · subst h0
      exact exec_leaves hread ((Dev.glumeRead_clean 0 hv hb hl).trans (by rw [Dev.stackError_none]))
    · exact exec_leaves hread ((Dev.glumeRead_clean errs hv hb hl).trans (by rw [Dev.stackError_corrected _ _ _ _ _ h0 h3]))
    · obtain ⟨hbad, hcount, hmem⟩ := s.dev.stackError_poisons g line row false h3
      exact ⟨_, exec_leaves hread (Dev.glumeRead_clean errs hv hb hl), hbad, hcount, keepsMemory_of_eq hmem⟩
    · have hwrite : (Instr.glumeWrite g ctx line l.length l).wf = true := by simp [Instr.wf, hg, hctx, hpos, hlen]
      refine ⟨fun hv => exec_keeps hwrite (Dev.glumeWrite_refused _ l hv), fun hv => ?_⟩
      have hmem := s.dev.storeLine_hbm_mem .engine _ l false false hpa
      refine ⟨_, exec_leaves hwrite (Dev.glumeWrite_stores hlen hv), ?_, keepsMemory_writeN rfl hmem,
        fun hl => Dev.storeLine_hbm_cleans _ _ (hbmInter_aligned g line) hl.ge⟩
      exact (congrArg (fun m => Memory.readN m _ _) hmem).trans (Memory.readN_writeN _ _ _)
  · exact ⟨_, exec_next s hwf, Dev.stackTemp_stat ha temp⟩
  · exact exec_keeps (by simp [Instr.wf, hg, hch]) rfl
  · have hdo : ∀ e : Dev, s.dev.repairStart g q.row q.hard = e →
        exec (if hard = true then Instr.hardRepair g q.row else .softRepair g q.row) s = .next (leaves s e) := by
      intro e he
      subst hh
      cases hk : q.hard <;> rw [hk] at he <;> exact exec_leaves (by simp [Instr.wf, hg, hrow]) he
    subst hh
    exact ⟨fun h => hdo _ (Dev.repairStart_starts hq hs ha h), fun ⟨hn, hsoft⟩ => hdo _ (Dev.repairStart_noSpare hq hs ha hn hsoft)⟩
  · refine ⟨exec_leaves hwf (Dev.repairDone_failed hq hs ha), fun hauto hlast => ?_⟩
    obtain ⟨hbusy, hbit, hmem, hhard, hsoft⟩ := Dev.repairDone_last hq hs ha hauto hlast
    exact ⟨_, exec_next s hwf, hbusy, hbit, keepsMemory_of_eq hmem, hhard, hsoft⟩

end Sys2Proof
end

section
/-! Lending of memory to other devices, and INVALIDATE (R185, R199 to R201). -/

namespace Sys2Proof.Machine

open Sys2Proof

/-! ## Fields of registers that an update leaves -/

section Fields
variable (d : Dev) {r r' : Nat}

/-- Another register keeps its fields. -/
theorem Dev.fld_setFld_apart (h : r ≠ r') (hi lo v a b : Nat) : (d.setFld r hi lo v).fld r' a b = d.fld r' a b :=
  congrArg (fun x => bitsOf x a b) (d.reg_setFld_other hi lo v h)

/-- Another bit of a register is left as it is. -/
theorem Dev.bit_setFld_other {hi lo i : Nat} (v : Nat) (hhi : hi < 64) (h : i < lo ∨ lo + (hi + 1 - lo) ≤ i) :
    (d.setFld r hi lo v).bit r i = d.bit r i := by
  rw [Dev.bit_eq_fld, Dev.bit_eq_fld, Dev.fld_setFld_other d v hhi h]

end Fields

/-! ## Lending (R185) -/

section Lending
variable {d : Dev} {n v : Nat}

/-- R185: MODE as a write gives it: 3 counts as 0. -/
def fadmitMode (v : Nat) : Nat := if bitsOf v 31 30 = 3 then 0 else bitsOf v 31 30

theorem fadmitMode_lt (v : Nat) : fadmitMode v < 4 := by
  have := bitsOf_lt v 31 30
  unfold fadmitMode
  split <;> omega

/-- During a reclaim a write of NONE revokes. -/
theorem Dev.fadmitWrite_revokes (h : d.bit (rCrownFadmit n) 29 = true) (hm : fadmitMode v = 0) : d.fadmitWrite n v = d.revoke n := by
  simp only [Dev.fadmitWrite, h, if_true]
  exact if_pos hm

/-- Any other write is ignored then. -/
theorem Dev.fadmitWrite_ignored (h : d.bit (rCrownFadmit n) 29 = true) (hm : fadmitMode v ≠ 0) : d.fadmitWrite n v = d := by
  simp only [Dev.fadmitWrite, h, if_true]
  exact if_neg hm

/-- Without RECLAIM it stores MODE and DEV. -/
theorem Dev.fadmitWrite_stores (h : d.bit (rCrownFadmit n) 29 = false) (hv : v.testBit 29 = false) :
    d.fadmitWrite n v = (d.setFld (rCrownFadmit n) 31 30 (fadmitMode v)).setFld (rCrownFadmit n) 14 0 v := by
  simp only [Dev.fadmitWrite, fadmitMode, h, hv, Bool.false_eq_true, if_false]

/-- What a write without RECLAIM leaves in the register, and that it leaves the others. -/
theorem Dev.fadmitWrite_fields (h : d.bit (rCrownFadmit n) 29 = false) (hv : v.testBit 29 = false) :
    (d.fadmitWrite n v).fld (rCrownFadmit n) 31 30 = fadmitMode v ∧ (d.fadmitWrite n v).fld (rCrownFadmit n) 14 0 = v % 32768 ∧
      ∀ m, m ≠ rCrownFadmit n → (d.fadmitWrite n v).reg m = d.reg m := by
  rw [Dev.fadmitWrite_stores h hv]
  refine ⟨?_, Dev.fld_setFld_same _ (by norm_num), fun m hm => ?_⟩
  · rw [Dev.fld_setFld_other _ _ (by norm_num) (by norm_num), Dev.fld_setFld_same _ (by norm_num)]
    exact Nat.mod_eq_of_lt (fadmitMode_lt v)
  · rw [Dev.reg_setFld_other _ _ _ _ hm.symm, Dev.reg_setFld_other _ _ _ _ hm.symm]

/-- R185: a reclaim begins with a notice to the borrower. -/
def Dev.tellBorrower (d : Dev) (n : Nat) : Dev :=
  { d with fe := { d.fe with tx := d.fe.tx ++ [.reclaim (d.fld (rCrownFadmit n) 14 0) n (d.fld rCrownLendcfg 15 0)] } }

section Reclaim
variable (h : d.bit (rCrownFadmit n) 29 = false) (hv : v.testBit 29 = true)
include h hv

theorem Dev.fadmitWrite_tells (hm : d.fld (rCrownFadmit n) 31 30 = 1)
    (hr : d.routed (d.fld (rCrownFadmit n) 14 0) = true ∨ d.ownId = some (d.fld (rCrownFadmit n) 14 0)) :
    d.fadmitWrite n v = (d.setBit (rCrownFadmit n) 29 true).tellBorrower n := by
  have hreach : (d.routed (d.fld (rCrownFadmit n) 14 0) || d.ownId == some (d.fld (rCrownFadmit n) 14 0)) = true := by
    simpa using hr
  simp only [Dev.fadmitWrite, h, hv, hm, hreach, Bool.false_eq_true, if_false, if_true, Dev.tellBorrower]

/-- A borrower that cannot be reached loses the unit at once. -/
theorem Dev.fadmitWrite_unreached (hm : d.fld (rCrownFadmit n) 31 30 = 1) (hr : d.routed (d.fld (rCrownFadmit n) 14 0) = false)
    (ho : d.ownId ≠ some (d.fld (rCrownFadmit n) 14 0)) : d.fadmitWrite n v = d.revoke n := by
  have hreach : (d.routed (d.fld (rCrownFadmit n) 14 0) || d.ownId == some (d.fld (rCrownFadmit n) 14 0)) = false := by
    simp [hr, ho]
  simp only [Dev.fadmitWrite, h, hv, hm, hreach, Bool.false_eq_true, if_false, if_true]

theorem Dev.fadmitWrite_any (hm : d.fld (rCrownFadmit n) 31 30 = 2) : d.fadmitWrite n v = d.setBit (rCrownFadmit n) 29 true := by
  simp only [Dev.fadmitWrite, h, hv, hm, Bool.false_eq_true, if_false, if_true]

theorem Dev.fadmitWrite_none (hm : d.fld (rCrownFadmit n) 31 30 = 0) : d.fadmitWrite n v = d := by
  simp only [Dev.fadmitWrite, h, hv, hm, Bool.false_eq_true, if_false, if_true]

end Reclaim

/-- What a reclaim's notice says, and that RECLAIM stands. -/
theorem Dev.tellBorrower_tx (d : Dev) (hn : n < 1152) :
    ((d.setBit (rCrownFadmit n) 29 true).tellBorrower n).bit (rCrownFadmit n) 29 = true ∧
      ((d.setBit (rCrownFadmit n) 29 true).tellBorrower n).fe.tx =
        d.fe.tx ++ [.reclaim (d.fld (rCrownFadmit n) 14 0) n (d.fld rCrownLendcfg 15 0)] := by
  have hcfg : rCrownFadmit n ≠ rCrownLendcfg := by unfold rCrownFadmit rCrownLendcfg; omega
  have hdev : (d.setBit (rCrownFadmit n) 29 true).fld (rCrownFadmit n) 14 0 = d.fld (rCrownFadmit n) 14 0 :=
    Dev.fld_setFld_other d _ (by norm_num) (by norm_num)
  have hnotice : (d.setBit (rCrownFadmit n) 29 true).fld rCrownLendcfg 15 0 = d.fld rCrownLendcfg 15 0 := d.fld_setFld_apart hcfg _ _ _ _ _
  refine ⟨Dev.bit_setBit_same d (by norm_num) true, ?_⟩
  simp only [Dev.tellBorrower, hdev, hnotice, Dev.setBit_fe]

/-- R185: a release names a unit of the window by its address. -/
theorem Dev.lendRelease_unit (d : Dev) {dev n : Nat} (hd : dev < 32768) (hn : n < 1152) :
    d.lendRelease (2 ^ 55 + dev * 2 ^ 40 + n * 2 ^ 29) = { d with fe := { d.fe with tx := d.fe.tx ++ [.release dev n] } } := by
  have hdev : bitsOf (2 ^ 55 + dev * 2 ^ 40 + n * 2 ^ 29) 54 40 = dev := by
    simp only [bitsOf, Nat.shiftRight_eq_div_pow]; omega
  have hoff : bitsOf (2 ^ 55 + dev * 2 ^ 40 + n * 2 ^ 29) 39 0 = n * 2 ^ 29 := by
    simp only [bitsOf, Nat.shiftRight_eq_div_pow]; omega
  have hwin : (2 ^ 55 + dev * 2 ^ 40 + n * 2 ^ 29) / 2 ^ 55 = 1 := by omega
  simp only [Dev.lendRelease, hdev, hoff, hwin]
  rw [if_pos ⟨trivial, by omega, by omega⟩, Nat.mul_div_cancel _ (by norm_num)]

/-- R195, R196: a record of FAULTID 0 that its ring takes. -/
theorem Dev.looseRecord_written {q : Nat} {ws : List Nat} (h : (d.ringWrite q (wordBytes ws)).1 = .written) :
    d.looseRecord q ws = (d.ringWrite q (wordBytes ws)).2 := by
  unfold Dev.looseRecord
  generalize d.ringWrite q (wordBytes ws) = x at h ⊢
  obtain ⟨w, e⟩ := x
  obtain rfl : w = .written := h
  rfl

/-- One that its ring does not take waits. -/
theorem Dev.looseRecord_waits {q : Nat} {ws : List Nat} (h : (d.ringWrite q (wordBytes ws)).1 ≠ .written) :
    d.looseRecord q ws = { (d.ringWrite q (wordBytes ws)).2 with
      flt := { (d.ringWrite q (wordBytes ws)).2.flt with notices := (d.ringWrite q (wordBytes ws)).2.flt.notices ++ [(q, ws)] } } := by
  unfold Dev.looseRecord
  generalize d.ringWrite q (wordBytes ws) = x at h ⊢
  obtain ⟨w, e⟩ := x
  cases w with
  | written => exact absurd rfl h
  | off | full | refused => rfl

end Lending

/-! ## INVALIDATE (R199 to R201) -/

/-- Dropping the entries whose keys satisfy `p` leaves what is found at any other key. -/
theorem SMap.find_filter_key {α : Type} (m : SMap α) (p : Nat → Bool) (k : Nat) :
    SMap.find (m.filter (fun e => !p e.1)) k = if p k then none else SMap.find m k := by
  induction m with
  | nil => cases p k <;> rfl
  | cons e r ih =>
    obtain ⟨j, v⟩ := e
    by_cases hj : j = k
    · subst hj
      cases hp : p j <;> simp [SMap.find, hp] at ih ⊢
      exact ih
    · cases hp : p j <;> simp [SMap.find, hp, hj, ih]

/-- R200: what each translation cache holds after a drop. -/
theorem Dev.tlbDrop_find (d : Dev) (p : Nat → Bool) (k key : Nat) :
    SMap.find ((d.tlbDrop p).ms.tlb.get [] k) key = if p key then none else SMap.find (d.ms.tlb.get [] k) key :=
  (congrArg (SMap.find · key) (SMap.get_mapVals [] d.ms.tlb (fun _ t => t.filter (fun e => !p e.1)) k rfl)).trans
    (SMap.find_filter_key _ p key)

section Invalidate
variable {d : Dev} {r : Nat} {v : Run} (hr : d.run? r = some v)
include hr

theorem Dev.invalidate_over (h : v.cmd.op ≠ 0x18 ∨ v.began = true ∨ d.cp.inval ≠ none) : d.invalidate r = d := by
  simp only [Dev.invalidate, hr]
  rw [if_pos]
  obtain h | h | h := h
  · simp [h]
  · simp [h]
  · simp [Option.isSome_iff_ne_none.2 h]

section Begins
variable (hop : v.cmd.op = 0x18) (hb : v.began = false) (hi : d.cp.inval = none) (hc : d.cpRuns = true)
include hop hb hi hc

theorem Dev.invalidate_bad {st : Status} {i : Nat} (hbad : invalidateBad v.cmd = some (st, i)) : d.invalidate r = (d.runStatus r st i).endRun r := by
  simp [Dev.invalidate, hr, hop, hb, hi, hc, hbad, Dev.failRun]

/-- R200 step 1: one that passes its checks drops the matching translations, and is the INVALIDATE that runs. -/
theorem Dev.invalidate_begins (hbad : invalidateBad v.cmd = none) :
    d.invalidate r = { ((d.beginRun r 0).tlbDrop (invalidateHits v.cmd)).setRun r (fun v => { v with step := d.fe.nextId }) with
      cp := { (((d.beginRun r 0).tlbDrop (invalidateHits v.cmd)).setRun r (fun v => { v with step := d.fe.nextId })).cp with inval := some r } } := by
  simp only [Dev.invalidate, hr, hop, hb, hi, hc, hbad, bne_self_eq_false, Option.isSome_none, Bool.not_true, Bool.or_self, Bool.false_eq_true, if_false]
  rfl

/-- The run, the translation caches and memory once it has begun. -/
theorem Dev.invalidate_drops (hbad : invalidateBad v.cmd = none) :
    (d.invalidate r).cp.inval = some r ∧
      (d.invalidate r).run? r = some { v with began := true, inst := 0, start := d.time, step := d.fe.nextId } ∧
      (∀ k key, SMap.find ((d.invalidate r).ms.tlb.get [] k) key =
        if invalidateHits v.cmd key then none else SMap.find (d.ms.tlb.get [] k) key) ∧
      (d.invalidate r).ms.mem = d.ms.mem := by
  rw [Dev.invalidate_begins hr hop hb hi hc hbad]
  have hbegun : ((d.beginRun r 0).tlbDrop (invalidateHits v.cmd)).run? r = some { v with began := true, inst := 0, start := d.time } :=
    Dev.run_setRun hr fun v => { v with began := true, inst := 0, start := d.time }
  exact ⟨rfl, Dev.run_setRun hbegun fun v => { v with step := d.fe.nextId }, (d.beginRun r 0).tlbDrop_find _, rfl⟩

end Begins

theorem Dev.invalidateComplete_waits (h : d.cp.inval ≠ some r ∨ v.began = false ∨ v.done = true ∨ d.drained v.step = false) :
    d.invalidateComplete r = d := by
  simp only [Dev.invalidateComplete, Dev.runLive, hr]
  rw [if_neg]
  obtain h | h | h | h := h <;> simp [h]

/-- R285: a run's end keeps its status and notes the time. -/
theorem Dev.run_endRun_eq (hd : v.done = false) :
    (d.endRun r).run? r = some { v with done := true, began := true, fin := d.time, order := d.cp.ended } := by
  have hrun := Dev.run_setRun hr fun v => { v with done := true, began := true, fin := d.time, order := d.cp.ended }
  simp only [Dev.endRun, hr, hd, Bool.false_eq_true, if_false]
  split <;> exact hrun

/-- R200: the one that runs ends once every earlier request has been answered. -/
theorem Dev.invalidateComplete_ends (hi : d.cp.inval = some r) (hb : v.began = true) (hd : v.done = false) (hdr : d.drained v.step = true) :
    d.invalidateComplete r = { d.endRun r with cp := { (d.endRun r).cp with inval := none } } := by
  simp [Dev.invalidateComplete, Dev.runLive, hr, hi, hb, hd, hdr]

end Invalidate

end Sys2Proof.Machine

namespace Sys2Proof

open Sys2Proof.Machine

/-- Settles O42: each write and each event of a unit's lending at its branch; then INVALIDATE's two commands. -/
theorem lendingAndInvalidation : Obligations.LendingAndInvalidation := by
  unfold Obligations.LendingAndInvalidation
  refine ⟨fun s n hn => ?_, fun s r v hr => ?_⟩
  · dsimp only
    have hexp : (Instr.lendNoticeExpiry n).wf = true := decide_eq_true hn
    refine ⟨fun v => ⟨Dev.fadmitWrite_revokes, Dev.fadmitWrite_ignored, Dev.fadmitWrite_fields, fun h hv => ⟨fun hm hr => ?_,
      Dev.fadmitWrite_unreached h hv, Dev.fadmitWrite_any h hv, Dev.fadmitWrite_none h hv⟩⟩,
      fun h => exec_leaves hexp (if_pos h), fun h => exec_keeps hexp (if_neg (by simp [h])), fun dev hd => ?_⟩
    · rw [Dev.fadmitWrite_tells h hv hm hr]
      exact s.dev.tellBorrower_tx hn
    · have hrel : (Instr.lendReleaseReceived dev n).wf = true := by simp [Instr.wf, hd, hn]
      refine ⟨fun h => exec_leaves hrel (if_pos h), fun h => exec_keeps hrel (if_neg h), s.dev.lendRelease_unit hd hn, fun notice hnot => ?_⟩
      have hwf : (Instr.reclaimNotice dev n notice).wf = true := by simp [Instr.wf, hd, hn, hnot]
      exact ⟨fun h => exec_leaves hwf (Dev.looseRecord_written h), fun h => exec_leaves hwf (Dev.looseRecord_waits h)⟩
  · refine ⟨fun hop hb hi hc => ⟨fun hbad => ?_, fun st i hbad => exec_leaves rfl (Dev.invalidate_bad hr hop hb hi hc hbad)⟩,
      fun h => exec_keeps rfl (Dev.invalidate_over hr h), fun hi hb hd hdr => ?_, fun h => exec_keeps rfl (Dev.invalidateComplete_waits hr h)⟩
    · obtain ⟨hinval, hrun, htlb, hmem⟩ := Dev.invalidate_drops hr hop hb hi hc hbad
      exact ⟨_, exec_next s rfl, hinval, hrun, htlb, keepsMemory_of_eq hmem⟩
    · exact ⟨_, exec_leaves rfl (Dev.invalidateComplete_ends hr hi hb hd hdr), rfl, ⟨_, Dev.run_endRun_eq hr hd, rfl, rfl, rfl⟩,
        keepsMemory_of_eq (congrArg MemSys.mem (s.dev.endRun_ms r))⟩

end Sys2Proof
end

section
/-! Record rings and the fault table: what a record write leaves (R194 to R198, R253, R483, R520). -/

namespace Sys2Proof.Machine

open Sys2Proof

/-! ## Interrupts (R264, R396) -/

/-- Registers that no interrupt changes: those below the event routes, and those between them and the host ports. -/
def Quiet (off : Nat) : Prop := off < 0x10000 ∨ (0x12000 ≤ off ∧ off < 0x700000)

/-- From d to e only host ports, what goes to hosts, event routes and counters of host ports may have changed. -/
def OnlySignals (d e : Dev) : Prop :=
  ∃ r h t, e = { d with regs := r, hp := h, hostTx := t } ∧ ∀ off, Quiet off → e.reg off = d.reg off

theorem OnlySignals.refl (d : Dev) : OnlySignals d d := ⟨d.regs, d.hp, d.hostTx, rfl, fun _ _ => rfl⟩

theorem OnlySignals.ms {d e : Dev} (h : OnlySignals d e) : e.ms = d.ms := by
  obtain ⟨_, _, _, rfl, -⟩ := h; rfl

theorem OnlySignals.fe {d e : Dev} (h : OnlySignals d e) : e.fe = d.fe := by
  obtain ⟨_, _, _, rfl, -⟩ := h; rfl

theorem OnlySignals.ringPass {d e : Dev} (h : OnlySignals d e) : e.ringPass = d.ringPass := by
  obtain ⟨_, _, _, rfl, -⟩ := h; rfl

theorem OnlySignals.reg {d e : Dev} (h : OnlySignals d e) {off : Nat} (hq : Quiet off) : e.reg off = d.reg off := by
  obtain ⟨_, _, _, -, h⟩ := h; exact h off hq

theorem Dev.msix_only (d : Dev) {p : Nat} (hp : p < 6) (vec : Nat) : OnlySignals d (d.msix p vec) := by
  unfold Dev.msix
  dsimp only
  split_ifs
  · refine ⟨_, d.hp, d.hostTx, rfl, fun off hq => Dev.reg_setFld_other d _ _ _ ?_⟩
    unfold Quiet at hq
    unfold rHpPortcnt
    omega
  · exact ⟨d.regs, _, d.hostTx, rfl, fun _ _ => rfl⟩
  · exact ⟨d.regs, d.hp, _, rfl, fun _ _ => rfl⟩

theorem Dev.raiseEvent_only (d : Dev) (e : Nat) : OnlySignals d (d.raiseEvent e) := by
  refine ⟨_, d.hp, d.hostTx, rfl, fun off hq => Dev.reg_setFld_other d _ _ _ ?_⟩
  unfold Quiet at hq
  unfold rCrownEvroute
  omega

theorem Dev.interrupt_only (d : Dev) (dest vec : Nat) : OnlySignals d (d.interrupt dest vec) := by
  unfold Dev.interrupt
  split
  · exact d.msix_only (by norm_num) vec
  · exact d.msix_only (by norm_num) vec
  · exact d.raiseEvent_only vec
  · exact .refl d

/-! ## Stores at homes (R32, R35, R202) -/

/-- R207: every stack-local address of the twelve stacks has its place in HBM. -/
theorem hbmInter_place_lt {g loc : Nat} (hg : g < 12) (hl : loc < 0xC00000000) : hbmInter g loc < 0x9000000000 := by
  unfold hbmInter
  omega

/-- R32: what reaches HBM does so below its size. -/
theorem Dev.home_hbm_lt {d : Dev} {pa a : Nat} (h : d.home pa = .hbm a) : a < 0x9000000000 := by
  unfold Dev.home at h
  dsimp only at h
  split at h
  case isTrue h1 => exact Home.hbm.inj h ▸ h1
  split at h
  case isTrue h2 =>
    split at h
    case isTrue h3 => exact Home.hbm.inj h ▸ hbmInter_place_lt (by omega) h3
    case isFalse => cases h
  split at h
  case isTrue => split at h <;> cases h
  split at h
  case isTrue => split at h <;> cases h
  split at h
  case isTrue => cases h
  split at h
  case isTrue =>
    split at h
    case isTrue h3 => exact Home.hbm.inj h ▸ h3.2
    case isFalse => cases h
  case isFalse => cases h

/-- R32: core memory keeps its address. -/
theorem Dev.home_core_lt {d : Dev} {pa a p : Nat} (h : d.home pa = .core a p) : a < 0x200000000000 := by
  unfold Dev.home at h
  dsimp only at h
  split at h
  case isTrue => cases h
  split at h
  case isTrue => split at h <;> cases h
  split at h
  case isTrue h3 =>
    split at h
    · exact (Home.core.inj h).1 ▸ h3.2
    · cases h
  split at h
  case isTrue => split at h <;> cases h
  split at h
  case isTrue => cases h
  split at h
  case isTrue => split at h <;> cases h
  case isFalse => cases h

/-- R397: below host memory an address is its own place. -/
theorem Dev.place_low (d : Dev) {a : Nat} (h : a < 0x200000000000) : d.place a = a := by
  unfold Dev.place
  rw [if_neg (by omega)]

/-- A store of an uncached agent in HBM or core memory puts exactly its bytes. -/
theorem Dev.storeLine_engine_mem (d : Dev) {h : Home} {a : Nat} (hh : h = .hbm a ∨ ∃ p, h = .core a p) (ha : a < 0x200000000000) (l : List Byte) :
    (d.storeLine .engine h l).ms.mem = d.ms.mem.writeN a l := by
  have hs : ∀ x : Dev, (x.storeHome h l).ms.mem = x.ms.mem.writeN a l := by
    intro x
    obtain rfl | ⟨p, rfl⟩ := hh
    · unfold Dev.storeHome
      simp only [Home.key, Home.line, Option.map, x.place_low ha]
      split_ifs <;> rfl
    · exact congrArg (fun y => x.ms.mem.writeN y l) (x.place_low ha)
  have hk : d.storeLine .engine h l = ((d.uncachedWrite (a / 128) (decide (l.length = 128))).clearResv (h.mark / 128)).storeHome h l := by
    obtain rfl | ⟨p, rfl⟩ := hh <;> rfl
  rw [hk, hs, Dev.clearResv_ms, (d.only_uncachedWrite _ _).mem]

theorem Dev.crownWrite_stored (d : Dev) (pa : Nat) (l : List Byte) : OnlyStored d (d.crownWrite pa l) :=
  List.foldlRecOn (motive := OnlyStored d) _ _ (.refl d) fun e he p _ => he.trans (e.storeLine_engine_stored (e.home p.1) _)

theorem OnlyStored.reg {d e : Dev} (h : OnlyStored d e) (off : Nat) : e.reg off = d.reg off := by
  obtain ⟨_, _, _, rfl⟩ := h; rfl

/-- A write by the Crown within a line of HBM or core memory. -/
theorem Dev.crownWrite_mem (d : Dev) {pa a : Nat} {l : List Byte} (hn : 1 ≤ l.length) (hl : pa % 128 + l.length ≤ 128)
    (hh : d.home pa = .hbm a ∨ ∃ p, d.home pa = .core a p) (ha : a < 0x200000000000) : (d.crownWrite pa l).ms.mem = d.ms.mem.writeN a l := by
  have hp : part l pa pa l.length = l := by simp [part]
  simp only [Dev.crownWrite, cut_line hn hl, List.foldl_cons, List.foldl_nil, hp]
  exact d.storeLine_engine_mem hh ha l

/-! ## What a record write can do (R520) -/

/-- The address of the record a ring takes next. -/
def Dev.ringNext (d : Dev) (n : Nat) : Nat := d.ringBase n + (ringRegs n).bytes * d.ringProd n

/-- A record's bytes with a phase in bit 31 of its first word. -/
def phased (phase : Nat) (record : List Byte) : List Byte :=
  match record with
  | b0 :: b1 :: b2 :: b3 :: rest => b0 :: b1 :: b2 :: BitVec.ofNat 8 (b3.toNat % 128 + 128 * phase) :: rest
  | l => l

/-- PROD advances, back to 0 after the last record of a pass. -/
def Dev.ringStep (d : Dev) (n : Nat) : Dev :=
  if d.ringProd n + 1 = d.ringSize n then
    { d.setFld (ringRegs n).prod ((ringRegs n).prodLo + 15) (ringRegs n).prodLo 0 with ringPass := d.ringPass.upd 0 n (· + 1) }
  else d.setFld (ringRegs n).prod ((ringRegs n).prodLo + 15) (ringRegs n).prodLo (d.ringProd n + 1)

/-- The part once a record is written and PROD has advanced. -/
def Dev.ringPut (d : Dev) (n : Nat) (record : List Byte) : Dev :=
  (d.crownWrite (d.ringNext n) (phased (d.ringPhase n) record)).ringStep n

/-- The part after a refused write: the ring is off, and has left a RING_OFF record. -/
def Dev.ringShut (d : Dev) (n : Nat) (v : Verdict) : Dev :=
  if n = 17 then d.setBit (ringRegs n).ctl 31 false
  else (d.setBit (ringRegs n).ctl 31 false).error 0x1C 31 0 (match v with | .refuse s => s.code | _ => Status.protection.code)
    ((d.setBit (ringRegs n).ctl 31 false).ringBase n) n

section RingWrite
variable {d : Dev} {n : Nat} {l : List Byte}

theorem Dev.ringWrite_off (ho : d.ringOn n = false) : d.ringWrite n l = (.off, d) := by
  simp [Dev.ringWrite, ho]

variable (ho : d.ringOn n = true)
include ho

theorem Dev.ringWrite_full (hf : d.ringFull n = true) :
    d.ringWrite n l = (.full, if n < 16 then d.setBit (ringRegs n).ctl 30 true else d) := by
  simp [Dev.ringWrite, ho, hf]

variable (hf : d.ringFull n = false)
include hf

/-- A write that its checks let pass. A ring that was empty raises its interrupt. -/
theorem Dev.ringWrite_admitted (hv : d.rangeVerdict 0 (d.ringNext n) l.length true = .pass ∨ d.rangeVerdict 0 (d.ringNext n) l.length true = .wait)
    (ht : ringTier n (d.home (d.ringNext n)) = true) :
    d.ringWrite n l = (.written, if d.ringUnread n = 0 then
      (d.ringPut n l).interrupt ((d.ringPut n l).fld (ringRegs n).ctl 29 28) ((d.ringPut n l).fld (ringRegs n).ctl 26 16) else d.ringPut n l) := by
  unfold Dev.ringNext at hv ht
  simp only [Dev.ringWrite, ho, hf, hv, ht, Bool.not_true, Bool.false_eq_true, if_false, and_self, if_true, decide_eq_true_eq]
  rfl

theorem Dev.ringWrite_refused
    (h : ¬ ((d.rangeVerdict 0 (d.ringNext n) l.length true = .pass ∨ d.rangeVerdict 0 (d.ringNext n) l.length true = .wait) ∧
      ringTier n (d.home (d.ringNext n)) = true)) :
    d.ringWrite n l = (.refused, d.ringShut n (d.rangeVerdict 0 (d.ringNext n) l.length true)) := by
  unfold Dev.ringNext at h ⊢
  simp only [Dev.ringWrite, ho, hf, h, Bool.not_true, Bool.false_eq_true, if_false]
  rfl

end RingWrite

/-! ## PROD and the phase -/

theorem ringRegs_prodLo (n : Nat) : (ringRegs n).prodLo = 0 := by
  unfold ringRegs
  split_ifs <;> rfl

/-- A ring's registers are not among those an interrupt changes. -/
theorem ringRegs_quiet {n : Nat} (h : n < 20) : Quiet (ringRegs n).prod ∧ Quiet (ringRegs n).ctl := by
  unfold ringRegs Quiet
  split_ifs <;> simp only [rCrownFqprod, rCrownFqctl, rCrownSlprod, rCrownSlctl, rCrownErrprod, rCrownErrctl, rSeExptr, rSeExctl] <;> omega

theorem Dev.ringSize_le (d : Dev) (n : Nat) : d.ringSize n ≤ 65536 := by
  have h : nearest 6 16 (d.fld (ringRegs n).ctl 4 0) ≤ 16 := by unfold nearest; omega
  exact Nat.pow_le_pow_right (by norm_num) h

/-- Memory, the fabric and every register but PROD's stay. -/
theorem Dev.ringStep_keeps (d : Dev) (n : Nat) :
    (d.ringStep n).ms = d.ms ∧ (d.ringStep n).fe = d.fe ∧ ∀ off, off ≠ (ringRegs n).prod → (d.ringStep n).reg off = d.reg off := by
  unfold Dev.ringStep
  split <;> exact ⟨rfl, rfl, fun off h => Dev.reg_setFld_other d _ _ _ h.symm⟩

theorem Dev.ringStep_inside {d : Dev} {n : Nat} (h : d.ringProd n + 1 < d.ringSize n) :
    (d.ringStep n).ringProd n = d.ringProd n + 1 ∧ (d.ringStep n).ringPhase n = d.ringPhase n := by
  have hs := d.ringSize_le n
  have hlo := ringRegs_prodLo n
  rw [Dev.ringStep, if_neg (Nat.ne_of_lt h)]
  refine ⟨?_, rfl⟩
  have hset := d.fld_setFld_same (r := (ringRegs n).prod) (hi := (ringRegs n).prodLo + 15) (lo := (ringRegs n).prodLo) (v := d.ringProd n + 1) (by omega)
  refine hset.trans (Nat.mod_eq_of_lt ?_)
  rw [hlo]
  omega

theorem Dev.ringStep_wraps {d : Dev} {n : Nat} (h : d.ringProd n + 1 = d.ringSize n) :
    (d.ringStep n).ringProd n = 0 ∧ (d.ringStep n).ringPhase n = 1 - d.ringPhase n := by
  have hlo := ringRegs_prodLo n
  rw [Dev.ringStep, if_pos h]
  constructor
  · have hset := d.fld_setFld_same (r := (ringRegs n).prod) (hi := (ringRegs n).prodLo + 15) (lo := (ringRegs n).prodLo) (v := 0) (by omega)
    exact hset.trans (Nat.zero_mod _)
  · simp only [Dev.ringPhase, SMap.get_upd_same]
    omega

/-- Memory, the fabric and every register but the ring's control register stay. -/
theorem Dev.ringShut_keeps (d : Dev) (n : Nat) (v : Verdict) :
    (d.ringShut n v).ms = d.ms ∧ (d.ringShut n v).fe = d.fe ∧ ∀ off, off ≠ (ringRegs n).ctl → (d.ringShut n v).reg off = d.reg off := by
  unfold Dev.ringShut
  split <;> exact ⟨rfl, rfl, fun off h => Dev.reg_setFld_other d _ _ _ h.symm⟩

theorem Dev.ringShut_off (d : Dev) (n : Nat) (v : Verdict) : (d.ringShut n v).ringOn n = false := by
  have h : (d.setBit (ringRegs n).ctl 31 false).bit (ringRegs n).ctl 31 = false := Dev.bit_setBit_same d (by norm_num) false
  unfold Dev.ringShut
  split <;> exact h

/-! ## What a record write leaves -/

/-- The fabric, and every register but the ring's own and those of interrupts. -/
theorem Dev.ringWrite_keeps (d : Dev) {n : Nat} (l : List Byte) :
    (d.ringWrite n l).2.fe = d.fe ∧
      ∀ off, Quiet off → off ≠ (ringRegs n).prod → off ≠ (ringRegs n).ctl → (d.ringWrite n l).2.reg off = d.reg off := by
  cases ho : d.ringOn n with
  | false => rw [Dev.ringWrite_off ho]; exact ⟨rfl, fun _ _ _ _ => rfl⟩
  | true =>
    cases hf : d.ringFull n with
    | true =>
      rw [Dev.ringWrite_full ho hf]
      split
      · exact ⟨rfl, fun off _ _ h => Dev.reg_setFld_other d _ _ _ h.symm⟩
      · exact ⟨rfl, fun _ _ _ _ => rfl⟩
    | false =>
      by_cases hc : (d.rangeVerdict 0 (d.ringNext n) l.length true = .pass ∨ d.rangeVerdict 0 (d.ringNext n) l.length true = .wait) ∧
        ringTier n (d.home (d.ringNext n)) = true
      · rw [Dev.ringWrite_admitted ho hf hc.1 hc.2]
        have hst := d.crownWrite_stored (d.ringNext n) (phased (d.ringPhase n) l)
        obtain ⟨-, hfe, hregs⟩ := (d.crownWrite (d.ringNext n) (phased (d.ringPhase n) l)).ringStep_keeps n
        have hput : (d.ringPut n l).fe = d.fe ∧ ∀ off, off ≠ (ringRegs n).prod → (d.ringPut n l).reg off = d.reg off :=
          ⟨hfe.trans hst.fe, fun off h => (hregs off h).trans (hst.reg off)⟩
        dsimp only
        split
        · have hint := (d.ringPut n l).interrupt_only ((d.ringPut n l).fld (ringRegs n).ctl 29 28) ((d.ringPut n l).fld (ringRegs n).ctl 26 16)
          exact ⟨hint.fe.trans hput.1, fun off hoff hp _ => (hint.reg hoff).trans (hput.2 off hp)⟩
        · exact ⟨hput.1, fun off _ hp _ => hput.2 off hp⟩
      · rw [Dev.ringWrite_refused ho hf hc]
        obtain ⟨-, hfe, hregs⟩ := d.ringShut_keeps n (d.rangeVerdict 0 (d.ringNext n) l.length true)
        exact ⟨hfe, fun off _ _ h => hregs off h⟩

theorem getD_phased {ph : Nat} {l : List Byte} (hl : 4 ≤ l.length) (k : Nat) :
    (phased ph l).getD k 0 = if k = 3 then BitVec.ofNat 8 ((l.getD 3 0).toNat % 128 + 128 * ph) else l.getD k 0 := by
  obtain ⟨b0, b1, b2, b3, rest, rfl⟩ : ∃ b0 b1 b2 b3 rest, l = b0 :: b1 :: b2 :: b3 :: rest := by
    match l, hl with
    | b0 :: b1 :: b2 :: b3 :: rest, _ => exact ⟨b0, b1, b2, b3, rest, rfl⟩
  match k with
  | 0 | 1 | 2 | 3 => rfl
  | k + 4 => exact (if_neg (by omega)).symm

theorem length_phased (ph : Nat) (l : List Byte) : (phased ph l).length = l.length := by
  unfold phased
  split <;> rfl

/-- The rings whose records take 32 bytes: a record lies within a line. -/
theorem Dev.ringNext_line (d : Dev) {n : Nat} (hn : n < 18) : (ringRegs n).bytes = 32 ∧ d.ringNext n % 128 + 32 ≤ 128 := by
  have hb : (ringRegs n).bytes = 32 ∧ (ringRegs n).baseLo = 12 := by
    unfold ringRegs
    split_ifs
    · exact ⟨rfl, rfl⟩
    · exact ⟨rfl, rfl⟩
    · exact ⟨rfl, rfl⟩
    · omega
  refine ⟨hb.1, ?_⟩
  unfold Dev.ringNext Dev.ringBase
  rw [hb.1, hb.2]
  omega

section Written
variable {d : Dev} {n : Nat} {l : List Byte} (hn : n < 18) (hl : l.length = 32) (ho : d.ringOn n = true) (hf : d.ringFull n = false)
  (hv : d.rangeVerdict 0 (d.ringNext n) l.length true = .pass) (ht : ringTier n (d.home (d.ringNext n)) = true)
include hn hl ho hf hv ht

omit hn hl in
/-- A record that its checks let pass is written, and PROD advances; an interrupt leaves both. -/
theorem Dev.ringWrite_put : (d.ringWrite n l).1 = .written ∧ OnlySignals (d.ringPut n l) (d.ringWrite n l).2 := by
  rw [Dev.ringWrite_admitted ho hf (.inl hv) ht]
  refine ⟨rfl, ?_⟩
  dsimp only
  split
  · exact Dev.interrupt_only _ _ _
  · exact .refl _

/-- The record stands where PROD pointed, and no other byte has changed. -/
theorem Dev.ringWrite_mem {a : Nat} (hh : d.home (d.ringNext n) = .hbm a ∨ ∃ p, d.home (d.ringNext n) = .core a p) :
    a < 0x200000000000 ∧ (d.ringWrite n l).2.ms.mem = d.ms.mem.writeN a (phased (d.ringPhase n) l) := by
  have ha : a < 0x200000000000 := by
    obtain h | ⟨p, h⟩ := hh
    · exact lt_trans (Dev.home_hbm_lt h) (by norm_num)
    · exact Dev.home_core_lt h
  have hlen := length_phased (d.ringPhase n) l
  obtain ⟨-, hline⟩ := d.ringNext_line hn
  have hsig := (Dev.ringWrite_put ho hf hv ht).2
  obtain ⟨hstep, -, -⟩ := (d.crownWrite (d.ringNext n) (phased (d.ringPhase n) l)).ringStep_keeps n
  refine ⟨ha, (congrArg MemSys.mem (hsig.ms.trans hstep)).trans ?_⟩
  exact d.crownWrite_mem (by omega) (by omega) hh ha

omit hl in
/-- PROD and the phase after it. -/
theorem Dev.ringWrite_prod :
    (d.ringProd n + 1 < d.ringSize n → (d.ringWrite n l).2.ringProd n = d.ringProd n + 1 ∧ (d.ringWrite n l).2.ringPhase n = d.ringPhase n) ∧
      (d.ringProd n + 1 = d.ringSize n → (d.ringWrite n l).2.ringProd n = 0 ∧ (d.ringWrite n l).2.ringPhase n = 1 - d.ringPhase n) := by
  have hsig := (Dev.ringWrite_put ho hf hv ht).2
  obtain ⟨m, c, x, hst⟩ := d.crownWrite_stored (d.ringNext n) (phased (d.ringPhase n) l)
  have hprod : (d.ringWrite n l).2.ringProd n = (d.ringPut n l).ringProd n := by
    unfold Dev.ringProd Dev.fld
    rw [hsig.reg (ringRegs_quiet (by omega)).1]
  have hphase : (d.ringWrite n l).2.ringPhase n = (d.ringPut n l).ringPhase n := by
    simp only [Dev.ringPhase, hsig.ringPass]
  rw [hprod, hphase, Dev.ringPut, hst]
  exact ⟨fun h => Dev.ringStep_inside h, fun h => Dev.ringStep_wraps h⟩

end Written

end Sys2Proof.Machine
end

section
/-! The fault table (R194 to R198). -/

namespace Sys2Proof.Machine

open Sys2Proof

/-! ## The end of a run that met a status (R285, R308) -/

theorem Dev.endRun_only (d : Dev) (r : Nat) : ∃ c, d.endRun r = { d with cp := c } := by
  unfold Dev.endRun
  split
  · exact ⟨d.cp, rfl⟩
  · split
    · exact ⟨d.cp, rfl⟩
    · dsimp only
      split <;> exact ⟨_, rfl⟩

theorem Dev.failRun_only (d : Dev) (r : Nat) (st : Status) (i : Nat) : ∃ c, d.failRun r st i = { d with cp := c } := by
  obtain ⟨c, hc⟩ := (d.runStatus r st i).endRun_only r
  exact ⟨c, hc⟩

theorem Dev.run_failRun {d : Dev} {r : Nat} {v : Run} (hr : d.run? r = some v) (hd : v.done = false) (hst : v.status = none) (st : Status) (i : Nat) :
    (d.failRun r st i).run? r =
      some { v with status := some st.code, info := i, done := true, began := true, fin := d.time, order := d.cp.ended } := by
  have hs := Dev.run_runStatus hr st i
  rw [if_pos hst] at hs
  exact Dev.run_endRun_eq hs hd

theorem Dev.waiterFail_run {d : Dev} {r : Nat} {v : Run} (hr : d.run? r = some v) (st : Status) : d.waiterFail (.cmd r) st = d.failRun r st := by
  simp [Dev.waiterFail, hr]

/-! ## The record of a fault (R194, R195) -/

/-- R195: the bytes of the record of fault i, without their phase. -/
def PageFault.record (f : PageFault) (i : Nat) : List Byte :=
  wordBytes (faultWords (f.gen % 256 * 65536 + i) f.cause f.level f.access f.cls f.inst f.qid f.ctx f.tag f.va f.opened)

/-- R196: FULL of fault queue q follows the queue. -/
def Dev.markFull (d : Dev) (q : Nat) : Dev := d.setBit (rCrownFqctl q) 30 (d.ringOn q && d.ringFull q)

/-- R194: the fault queue of a context. -/
def Dev.faultQueue (d : Dev) (ctx : Nat) : Nat := d.fld (rCrownCtxxlt ctx) 63 60

theorem Dev.faultQueue_lt (d : Dev) (ctx : Nat) : d.faultQueue ctx < 16 := bitsOf_lt _ 63 60

/-- A record write leaves every context's choice of its queue. -/
theorem Dev.ringWrite_faultQueue (d : Dev) {q ctx : Nat} (hq : q < 16) (hc : ctx < 4096) (l : List Byte) :
    (d.ringWrite q l).2.faultQueue ctx = d.faultQueue ctx := by
  have hr : ringRegs q = ⟨rCrownFqbase q, rCrownFqctl q, rCrownFqprod q, 0, rCrownFqcons q, 0, 32, 12⟩ := if_pos hq
  have hreg := (d.ringWrite_keeps (n := q) l).2 (rCrownCtxxlt ctx) (by unfold Quiet rCrownCtxxlt; omega)
    (by rw [hr]; unfold rCrownCtxxlt rCrownFqprod; dsimp only; omega) (by rw [hr]; unfold rCrownCtxxlt rCrownFqctl; dsimp only; omega)
  exact congrArg (fun x => bitsOf x 63 60) hreg

section Fault
variable {d : Dev} {i : Nat} {f : PageFault} (hf : d.flt.table.find i = some f)
include hf

theorem Dev.faultRecordWrite_eq : d.faultRecordWrite i = (d.faultRecord i).markFull ((d.faultRecord i).faultQueue f.ctx) := by
  simp only [Dev.faultRecordWrite, hf, Dev.markFull, Dev.faultQueue]

theorem Dev.faultRecord_done (hr : f.recorded = true) : d.faultRecord i = d := by
  simp only [Dev.faultRecord, hf, hr, if_true]

section Unrecorded
variable (hr : f.recorded = false)
include hr

theorem Dev.faultRecord_written (hw : (d.ringWrite (d.faultQueue f.ctx) (f.record i)).1 = .written) :
    d.faultRecord i = { (d.ringWrite (d.faultQueue f.ctx) (f.record i)).2 with
      flt := { (d.ringWrite (d.faultQueue f.ctx) (f.record i)).2.flt with
        table := (d.ringWrite (d.faultQueue f.ctx) (f.record i)).2.flt.table.set i { f with recorded := true } } } := by
  unfold PageFault.record Dev.faultQueue at *
  simp only [Dev.faultRecord, hf, hr, Bool.false_eq_true, if_false]
  generalize d.ringWrite _ _ = x at hw ⊢
  obtain ⟨w, e⟩ := x
  obtain rfl : w = .written := hw
  rfl

/-- A record its queue does not take waits. -/
theorem Dev.faultRecord_waits (hw : (d.ringWrite (d.faultQueue f.ctx) (f.record i)).1 ≠ .written) :
    d.faultRecord i = (d.ringWrite (d.faultQueue f.ctx) (f.record i)).2 := by
  unfold PageFault.record Dev.faultQueue at *
  simp only [Dev.faultRecord, hf, hr, Bool.false_eq_true, if_false]

end Unrecorded

/-! ## Resumes and timeouts (R197, R198) -/

theorem Dev.faultFailed_eq : d.faultFailed i = f.waiters.foldl (fun d w => d.waiterFail w .faultUnserviced) (d.faultFree i) := by
  simp only [Dev.faultFailed, hf]

/-- A resume of the fault's generation: RETRY frees it, FAIL ends its waiters. -/
theorem Dev.faultResume_current {id : Nat} (hi : id % 65536 = i) (hg : id / 65536 % 256 = f.gen % 256) :
    d.faultResume 1 id = d.faultFree i ∧ d.faultResume 2 id = d.faultFailed i := by
  simp [Dev.faultResume, hi, hf, hg]

/-- One of another generation is stale. -/
theorem Dev.faultResume_stale {id a : Nat} (ha : a ∈ [1, 2]) (hi : id % 65536 = i) (hg : id / 65536 % 256 ≠ f.gen % 256) :
    d.faultResume a id = d.addSat rCrownFaultstat 63 48 1 := by
  have hact : (!(a == 1 || a == 2)) = false := by
    obtain rfl | rfl : a = 1 ∨ a = 2 := by simpa using ha
    · rfl
    · rfl
  simp [Dev.faultResume, hact, hi, hf, Ne.symm hg]

/-- R198: a fault that one run waits on ends that run. -/
theorem Dev.faultFailed_run {r : Nat} {v : Run} (hw : f.waiters = [.cmd r]) (ho : d.flt.overflow = []) (hr : d.run? r = some v) (hd : v.done = false)
    (hst : v.status = none) :
    (d.faultFailed i).fld rCrownFaultstat 16 0 = (d.flt.table.del i).length % 131072 ∧
      (∃ u, (d.faultFailed i).run? r = some u ∧ u.done = true ∧ u.status = some Status.faultUnserviced.code) ∧
      (d.faultFailed i).ms.mem = d.ms.mem := by
  have hfree : d.faultFree i = Dev.setFld { d with flt := { d.flt with table := d.flt.table.del i } } rCrownFaultstat 16 0 (d.flt.table.del i).length := by
    simp only [Dev.faultFree, Dev.faultAdmit, ho, Dev.faultCount]
  have hrun : (d.faultFree i).run? r = some v := by rw [Dev.run?, Dev.faultFree_cp]; exact hr
  have hfail : d.faultFailed i = (d.faultFree i).failRun r .faultUnserviced := by
    rw [Dev.faultFailed_eq hf, hw]
    exact Dev.waiterFail_run hrun _
  obtain ⟨c, hc⟩ := (d.faultFree i).failRun_only r .faultUnserviced 0
  have hu := Dev.run_failRun hrun hd hst .faultUnserviced 0
  refine ⟨?_, ⟨_, by rw [hfail]; exact hu, rfl, rfl⟩, ?_⟩
  · rw [hfail, hc, hfree]
    exact Dev.fld_setFld_same _ (by norm_num)
  · rw [hfail, hc, hfree]
    rfl

end Fault

/-- A resume of a fault that is not outstanding is stale. -/
theorem Dev.faultResume_unknown {d : Dev} {i a : Nat} (ha : a ∈ [1, 2]) (hi : i < 65536) (hf : d.flt.table.find i = none) :
    d.faultResume a i = d.addSat rCrownFaultstat 63 48 1 := by
  have hact : (!(a == 1 || a == 2)) = false := by
    obtain rfl | rfl : a = 1 ∨ a = 2 := by simpa using ha
    · rfl
    · rfl
  simp [Dev.faultResume, hact, Nat.mod_eq_of_lt hi, hf]

end Sys2Proof.Machine

namespace Sys2Proof

open Sys2Proof.Machine

/-- Settles O41: a record write at each of its four ends; then the record, the timeout and the resumes of a fault. -/
theorem recordsAndFaults : Obligations.RecordsAndFaults := by
  unfold Obligations.RecordsAndFaults
  refine ⟨fun s n l hn hl => ?_, fun s i f hi hf hctx => ?_, fun s i hi hf => ?_⟩
  · dsimp only
    refine ⟨Dev.ringWrite_off, fun ho hfull => ?_, fun ho hfull hv ht a hh hse => ?_, fun ho hfull ht => ?_⟩
    · rw [Dev.ringWrite_full ho hfull]
      refine ⟨rfl, keepsMemory_of_eq ?_⟩
      dsimp only [leaves]
      split <;> rfl
    · have hn' : n < 18 := by omega
      have hl' : l.length = 32 := hl.trans (s.dev.ringNext_line hn').1
      obtain ⟨ha, hmem⟩ := Dev.ringWrite_mem hn' hl' ho hfull hv ht hh
      obtain ⟨hin, hwrap⟩ := Dev.ringWrite_prod hn' ho hfull hv ht
      have hlen : (phased (s.dev.ringPhase n) l).length = 32 := (length_phased _ l).trans hl'
      have hread : ∀ k, k < 32 → (s.dev.ringWrite n l).2.ms.mem.read (s.dev.place a + k) = (phased (s.dev.ringPhase n) l).getD k 0 := fun k hk => by
        have hk' : k < (phased (s.dev.ringPhase n) l).length := by omega
        rw [hmem, s.dev.place_low ha, Memory.read_writeN_same hk', List.getD_eq_getElem _ _ hk']
      refine ⟨(Dev.ringWrite_put ho hfull hv ht).1, ?_, fun k hk h3 => ?_, ?_, hin, hwrap⟩
      · rw [hread 3 (by norm_num), getD_phased (by omega), if_pos rfl]
      · rw [hread k hk, getD_phased (by omega), if_neg h3]
      · rw [s.dev.place_low ha]
        exact keepsMemory_writeN hlen hmem
    · have hr : s.dev.ringWrite n l = _ := Dev.ringWrite_refused ho hfull fun h => absurd h.2 (by unfold Dev.ringNext; rw [ht]; decide)
      rw [hr]
      exact ⟨rfl, Dev.ringShut_off _ _ _, keepsMemory_of_eq (congrArg MemSys.mem (Dev.ringShut_keeps _ _ _).1)⟩
  · have hrec : (Instr.faultRecordWrite i).wf = true := decide_eq_true hi
    have htime : (Instr.faultTimeout i).wf = true := decide_eq_true hi
    have hq := s.dev.ringWrite_faultQueue (s.dev.faultQueue_lt f.ctx) hctx (f.record i)
    have heq := Dev.faultRecordWrite_eq hf
    dsimp only
    refine ⟨fun hr => exec_leaves hrec ?_, fun hr hw => exec_leaves hrec ?_, fun hr hw => exec_leaves hrec ?_,
      exec_leaves htime (Dev.faultFailed_eq hf), fun r v hw ho hr hd hst => ?_, fun id hid => ⟨fun hg => ?_, fun hg a ha => ?_⟩⟩
    · refine heq.trans ?_
      rw [Dev.faultRecord_done hf hr]
      rfl
    · refine heq.trans ?_
      rw [Dev.faultRecord_written hf hr hw]
      exact congrArg (Dev.markFull _) hq
    · refine heq.trans ?_
      rw [Dev.faultRecord_waits hf hr hw]
      exact congrArg (Dev.markFull _) hq
    · obtain ⟨hstat, hrun, hmem⟩ := Dev.faultFailed_run hf hw ho hr hd hst
      exact ⟨_, exec_next s htime, hstat, hrun, keepsMemory_of_eq hmem⟩
    · obtain ⟨hretry, hfail⟩ := Dev.faultResume_current hf hid hg
      exact ⟨hretry, exec_leaves htime hfail.symm⟩
    · exact Dev.faultResume_stale hf ha hid hg
  · refine ⟨exec_keeps (decide_eq_true hi) ?_, exec_keeps (decide_eq_true hi) ?_, fun a ha => Dev.faultResume_unknown ha hi hf⟩
    · simp only [does, Dev.faultRecordWrite, hf]
    · simp only [does, Dev.faultFailed, hf]

end Sys2Proof
end

section
/-! Events of the caches: misses, fills, evictions, idle regions (R209 to R221). -/

namespace Sys2Proof.Machine

open Sys2Proof

/-! ## The victim of a fill (R210) -/

/-- What a list's maximum is: the largest of its values, or the start. -/
theorem foldl_max_spec {α : Type} (f : α → Nat) (l : List α) (a : Nat) :
    a ≤ l.foldl (fun m x => max m (f x)) a ∧ (∀ x ∈ l, f x ≤ l.foldl (fun m x => max m (f x)) a) ∧
      (l.foldl (fun m x => max m (f x)) a = a ∨ ∃ x ∈ l, f x = l.foldl (fun m x => max m (f x)) a) := by
  induction l generalizing a with
  | nil => exact ⟨le_rfl, by simp, .inl rfl⟩
  | cons y l ih =>
    obtain ⟨hle, hall, heq⟩ := ih (max a (f y))
    simp only [List.foldl_cons]
    refine ⟨le_trans (le_max_left _ _) hle, fun x hx => ?_, ?_⟩
    · rcases List.mem_cons.1 hx with rfl | hx
      · exact le_trans (le_max_right _ _) hle
      · exact hall x hx
    · rcases heq with heq | ⟨x, hx, heq⟩
      · rcases max_choice a (f y) with h | h
        · exact .inl (heq.trans h)
        · exact .inr ⟨y, List.mem_cons_self, (heq.trans h).symm⟩
      · exact .inr ⟨x, List.mem_cons_of_mem _ hx, heq⟩

/-- The maximum over a list with values is one of them. -/
theorem exists_eq_foldl_max {α : Type} (f : α → Nat) {l : List α} (hl : l ≠ []) : ∃ x ∈ l, f x = l.foldl (fun m x => max m (f x)) 0 := by
  obtain ⟨-, hall, heq | h⟩ := foldl_max_spec f l 0
  · obtain ⟨x, hx⟩ := List.exists_mem_of_ne_nil l hl
    exact ⟨x, hx, le_antisymm (hall x hx) (heq.le.trans (Nat.zero_le _))⟩
  · exact h

section Victim
variable (c : Cache) (k set : Nat) (ways : List Nat)

/-- The age that stands in a way; an empty one counts as 3. -/
def Cache.ageIn (w : Nat) : Nat := match c.inWay k set w with | some e => e.2.age | none => 3

/-- The highest age among the ways. -/
def Cache.oldest : Nat := ways.foldl (fun a w => max a (c.ageIn k set w)) 0

/-- R210: an entry of those ways grows as old as the search makes it. -/
def Cache.grown (l : Nat) (e : CacheLine) : CacheLine :=
  if cacheSet k l == set && ways.contains e.way then { e with age := e.age + (3 - c.oldest k set ways) } else e

/-- The cache with the ages the search raised. -/
def Cache.aged : Cache := { c with lines := c.lines.mapVals (c.grown k set ways) }

theorem Cache.way_grown (l : Nat) (e : CacheLine) : (c.grown k set ways l e).way = e.way := by
  unfold Cache.grown
  split <;> rfl

/-- Ages change no place. -/
theorem Cache.inWay_aged (w : Nat) :
    (c.aged k set ways).inWay k set w = (c.inWay k set w).map (fun e => (e.1, c.grown k set ways e.1 e.2)) := by
  unfold Cache.inWay Cache.aged SMap.mapVals
  dsimp only
  rw [List.find?_map]
  congr 2
  funext e
  simp only [Function.comp, Cache.way_grown]

variable {c k set ways}

/-- With an entry in each way, one of the highest age grows to 3. -/
theorem Cache.ageIn_aged {w : Nat} (hw : w ∈ ways) (hin : (c.inWay k set w).isNone = false) (h3 : c.oldest k set ways ≤ 3)
    (hold : c.ageIn k set w = c.oldest k set ways) : (c.aged k set ways).ageIn k set w = 3 := by
  cases he : c.inWay k set w with
  | none => rw [he] at hin; cases hin
  | some e =>
    have hplace : (cacheSet k e.1 == set && e.2.way == w) = true :=
      List.find?_some (p := fun e : Nat × CacheLine => cacheSet k e.1 == set && e.2.way == w) he
    obtain ⟨hset, hway⟩ := Bool.and_eq_true_iff.1 hplace
    have hcond : (cacheSet k e.1 == set && ways.contains e.2.way) = true := by
      rw [hset, beq_iff_eq.1 hway]
      simpa using hw
    have hage : e.2.age = c.oldest k set ways := by
      rw [← hold, Cache.ageIn, he]
    simp only [Cache.ageIn, Cache.inWay_aged, he, Option.map_some, Cache.grown, hcond, if_true]
    omega

theorem Cache.victim_empty {w : Nat} (h : ways.find? (fun w => (c.inWay k set w).isNone) = some w) : c.victim k set ways = (some w, c) := by
  simp only [Cache.victim, h]

theorem Cache.victim_full (h : ways.find? (fun w => (c.inWay k set w).isNone) = none) :
    c.victim k set ways = (ways.find? (fun w => (c.aged k set ways).ageIn k set w == 3), c.aged k set ways) := by
  have hpick : ∀ w, (match (c.aged k set ways).inWay k set w with | some e => e.2.age == 3 | none => true) =
      ((c.aged k set ways).ageIn k set w == 3) := by
    intro w
    unfold Cache.ageIn
    split <;> rfl
  simp only [Cache.victim, h]
  rw [← funext hpick] <;> rfl

/-- R210, R215: while ages are in range a fill finds a way among those it may take; lines keep their places, and fills stand. -/
theorem Cache.victim_some (hways : ways ≠ []) (hage : ∀ e ∈ c.lines, e.2.age ≤ 3) :
    ∃ w c', c.victim k set ways = (some w, c') ∧ w ∈ ways ∧ c'.fills = c.fills ∧ ∀ line, c.lines.find line = none → c'.lines.find line = none := by
  cases h : ways.find? (fun w => (c.inWay k set w).isNone) with
  | some w => exact ⟨w, c, Cache.victim_empty h, List.mem_of_find?_eq_some h, rfl, fun _ h => h⟩
  | none =>
    have hin : ∀ w ∈ ways, (c.inWay k set w).isNone = false := fun w hw =>
      Bool.eq_false_iff.2 (List.find?_eq_none.1 h w hw)
    obtain ⟨x, hx, hold⟩ := exists_eq_foldl_max (c.ageIn k set) hways
    have h3 : c.oldest k set ways ≤ 3 := by
      unfold Cache.oldest
      rw [← hold, Cache.ageIn]
      split
      · next e he => exact hage e (List.mem_of_find?_eq_some he)
      · exact le_rfl
    have hx3 := Cache.ageIn_aged hx (hin x hx) h3 hold
    obtain ⟨w, hw⟩ : ∃ w, ways.find? (fun w => (c.aged k set ways).ageIn k set w == 3) = some w :=
      Option.isSome_iff_exists.1 (List.find?_isSome.2 ⟨x, hx, beq_iff_eq.2 hx3⟩)
    refine ⟨w, c.aged k set ways, by rw [Cache.victim_full h, hw], List.mem_of_find?_eq_some hw, rfl, fun line hl => ?_⟩
    exact (SMap.find_mapVals c.lines (c.grown k set ways) line).trans (by rw [hl]; rfl)

end Victim

/-! ## A cache after an update -/

@[simp] theorem Dev.cache_setCache_same (d : Dev) (k : Nat) (f : Cache → Cache) : (d.setCache k f).cache k = f (d.cache k) :=
  SMap.get_upd_same _ _ _ _

theorem SMap.find_del_other {α : Type} (m : SMap α) {k k' : Nat} (h : k ≠ k') : SMap.find (SMap.del m k) k' = SMap.find m k' := by
  induction m with
  | nil => rfl
  | cons e r ih =>
    obtain ⟨j, v⟩ := e
    by_cases hj : j = k
    · subst hj; simpa [SMap.del, SMap.find, h] using ih
    · by_cases hj' : j = k'
      · subst hj'; simp [SMap.del, SMap.find, hj]
      · simpa [SMap.del, SMap.find, hj, hj'] using ih

/-- Dropping a line holds no other back. -/
theorem SMap.find_del_none {α : Type} {m : SMap α} {k' : Nat} (k : Nat) (h : SMap.find m k' = none) : SMap.find (SMap.del m k) k' = none := by
  by_cases hk : k = k'
  · subst hk; exact SMap.find_del_same m k
  · rw [SMap.find_del_other m hk, h]

/-- A line written home leaves which lines a cache holds, and its fills. -/
theorem Dev.cache_writeHome (d : Dev) (k line : Nat) :
    ((d.writeHome line).cache k).fills = (d.cache k).fills ∧ ∀ l, d.cached k l = none → (d.writeHome line).cached k l = none := by
  have h : (d.writeHome line).cache k = { d.cache k with lines := (d.cache k).lines.mapVals (fun l e => if l = line then { e with dirty := false } else e) } :=
    SMap.get_mapVals ({} : Cache) d.ms.caches (fun _ c => { c with lines := c.lines.mapVals (fun l e => if l = line then { e with dirty := false } else e) }) k rfl
  refine ⟨by rw [h], fun l hl => ?_⟩
  rw [Dev.cached, h]
  have hf := SMap.find_mapVals (d.cache k).lines (fun l e => if l = line then { e with dirty := false } else e) l
  exact hf.trans (congrArg (Option.map _) hl)

/-! ## Misses and fills of a shared cache (R210, R214, R215) -/

/-- The registers of a shared cache are apart. -/
theorem rScmiss_apart (k : Nat) : rScmiss k ≠ rScctl k ∧ rScmiss k ≠ rScdirtywb k := by
  unfold rScmiss rScctl rScdirtywb
  split
  · unfold rTilScmiss rTilScctl rTilScdirtywb; omega
  · unfold rCulmScmiss rCulmScctl rCulmScdirtywb; omega

/-- R214: what stands in the chosen way leaves it, written home first where it is dirty. -/
def Dev.emptyWay (d : Dev) (k : Nat) (x : Option (Nat × CacheLine)) : Dev :=
  match x with
  | none => d
  | some (v, e) =>
    (if e.dirty then (d.writeHome v).addWrap (rScdirtywb k) 63 0 1 else d).setCache k (fun c => { c with lines := c.lines.del v })

theorem Dev.emptyWay_keeps {d : Dev} {k line : Nat} (x : Option (Nat × CacheLine)) (hl : d.cached k line = none) :
    (d.emptyWay k x).reg (rScmiss k) = d.reg (rScmiss k) ∧ (d.emptyWay k x).cached k line = none := by
  cases x with
  | none => exact ⟨rfl, hl⟩
  | some ve =>
    obtain ⟨v, e⟩ := ve
    have hwb : ((d.writeHome v).addWrap (rScdirtywb k) 63 0 1).reg (rScmiss k) = d.reg (rScmiss k) :=
      Dev.reg_setFld_other _ _ _ _ (rScmiss_apart k).2.symm
    have hdel : ∀ x : Dev, x.cached k line = none → (x.setCache k (fun c => { c with lines := c.lines.del v })).cached k line = none := fun x hx => by
      rw [Dev.cached, Dev.cache_setCache_same]
      exact SMap.find_del_none v hx
    cases he : e.dirty with
    | true =>
      simp only [Dev.emptyWay, he, if_true]
      exact ⟨hwb, hdel _ ((d.cache_writeHome k v).2 line hl)⟩
    | false =>
      simp only [Dev.emptyWay, he, Bool.false_eq_true, if_false]
      exact ⟨rfl, hdel d hl⟩

section Miss
variable {d : Dev} {k line : Nat} {st : Bool}

/-- A miss that finds a way: its fill is under way. -/
theorem Dev.sharedMiss_fill {w : Nat} {c : Cache}
    (hv : ((d.addWrap (rScmiss k) 63 0 1).cache k).victim k (cacheSet k line) ((d.addWrap (rScmiss k) 63 0 1).fillWays k) = (some w, c)) :
    d.sharedMiss k line st = (((d.addWrap (rScmiss k) 63 0 1).setCache k (fun _ => c)).emptyWay k (c.inWay k (cacheSet k line) w)).setCache k
      (fun c => { c with fills := c.fills.set line { streaming := st, way := w } }) := by
  simp only [Dev.sharedMiss, hv, Dev.emptyWay] <;> rfl

/-- R210, R214, R215: a miss counts, takes a way the lock rules allow, and waits for its fill. -/
theorem Dev.sharedMiss_waits (hl : d.cached k line = none) (hw : d.fillWays k ≠ []) (ha : ∀ e ∈ (d.cache k).lines, e.2.age ≤ 3) :
    (d.sharedMiss k line st).fld (rScmiss k) 63 0 = (d.fld (rScmiss k) 63 0 + 1) % 2 ^ 64 ∧
      (∃ f, ((d.sharedMiss k line st).cache k).fills.find line = some f ∧ f.streaming = st ∧ f.way ∈ d.fillWays k) ∧
      (d.sharedMiss k line st).cached k line = none := by
  have hways : (d.addWrap (rScmiss k) 63 0 1).fillWays k = d.fillWays k := by
    have hreg : (d.addWrap (rScmiss k) 63 0 1).reg (rScctl k) = d.reg (rScctl k) := Dev.reg_setFld_other _ _ _ _ (rScmiss_apart k).1
    unfold Dev.fillWays Dev.lockWays Dev.bit Dev.fld
    rw [hreg]
  obtain ⟨w, c, hv, hmem, -, hlines⟩ := Cache.victim_some (k := k) (set := cacheSet k line) hw ha
  have hv' : ((d.addWrap (rScmiss k) 63 0 1).cache k).victim k (cacheSet k line) ((d.addWrap (rScmiss k) 63 0 1).fillWays k) = (some w, c) := by
    rw [hways]; exact hv
  have hc : ((d.addWrap (rScmiss k) 63 0 1).setCache k (fun _ => c)).cached k line = none := by
    rw [Dev.cached, Dev.cache_setCache_same]
    exact hlines line hl
  obtain ⟨hreg, hline⟩ := Dev.emptyWay_keeps (c.inWay k (cacheSet k line) w) hc
  rw [Dev.sharedMiss_fill hv']
  refine ⟨?_, ⟨{ streaming := st, way := w }, ?_, rfl, hmem⟩, ?_⟩
  · have hcount : (d.addWrap (rScmiss k) 63 0 1).fld (rScmiss k) 63 0 = (d.fld (rScmiss k) 63 0 + 1) % 2 ^ 64 := d.fld_setFld_same (by norm_num)
    exact (congrArg (fun x => bitsOf x 63 0) hreg).trans hcount
  · rw [Dev.cache_setCache_same]
    exact SMap.find_set_same _ _ _
  · rw [Dev.cached, Dev.cache_setCache_same]
    exact hline

/-- R210: a fill that returns enters at age 2, or at 3 when it is streaming. -/
theorem Dev.fillReturn_enters {f : Fill} (hf : (d.cache k).fills.find line = some f) :
    ((d.fillReturn k line).cache k).fills.find line = none ∧
      (d.fillReturn k line).cached k line = some { way := f.way, age := if f.streaming then 3 else 2 } := by
  simp only [Dev.fillReturn, hf, Dev.cached, Dev.cache_setCache_same, SMap.find_del_same, SMap.find_set_same, and_self]

theorem Dev.fillReturn_none (hf : (d.cache k).fills.find line = none) : d.fillReturn k line = d := by
  simp only [Dev.fillReturn, hf]

end Miss

/-! ## Lines the directory evicts (R220) -/

section Evict
variable (d : Dev) (l : Nat)

theorem Dev.dirEvict_cache (j : Nat) :
    ((d.dirEvict l).cache j).fills = (d.cache j).fills ∧ (d.dirEvict l).cached j l = none := by
  have h : (d.dirEvict l).cache j = { (d.writeHome l).cache j with lines := ((d.writeHome l).cache j).lines.del l } :=
    SMap.get_mapVals ({} : Cache) (d.writeHome l).ms.caches (fun _ c => { c with lines := c.lines.del l }) j rfl
  refine ⟨(congrArg Cache.fills h).trans (d.cache_writeHome j l).1, ?_⟩
  rw [Dev.cached, h]
  exact SMap.find_del_same _ _

/-- Home has the coherent contents, and the eviction is counted. -/
theorem Dev.dirEvict_home : (d.dirEvict l).ms.stale.find l = none ∧
    (d.dirEvict l).fld rCrownDirstat 63 0 = (d.fld rCrownDirstat 63 0 + 1) % 2 ^ 64 ∧ (d.dirEvict l).ms.mem = d.ms.mem :=
  ⟨SMap.find_del_same _ _, Dev.fld_setFld_same _ (by norm_num), rfl⟩

end Evict

/-! ## The events as they act (R210, R214, R217, R218, R220, R221) -/

section Events
variable {d : Dev} {k line : Nat} (ha : d.cacheActs k = true)

theorem Dev.cacheInitDone_idle (h : d.bit (rScstat k) 31 = true) : d.cacheInitDone k = d := if_pos h

theorem Dev.cacheInitDone_ends (h : d.bit (rScstat k) 31 = false) :
    d.cacheInitDone k = (d.setCache k (fun _ => {})).setBit (rScstat k) 31 true := by
  simp only [Dev.cacheInitDone, h, Bool.false_eq_true, if_false]
  rfl

include ha

theorem Dev.sweepDone_ends (h : d.bit (rScstat k) 30 = true) :
    d.sweepDone k = (d.setCache k (fun c => { c with sweep := 0 })).setBit (rScstat k) 30 false := by
  simp only [Dev.sweepDone, ha, h, Bool.and_self, if_true]

omit ha in
theorem Dev.sweepDone_idle (h : d.bit (rScstat k) 30 = false) : d.sweepDone k = d := by
  simp only [Dev.sweepDone, h, Bool.and_false, Bool.false_eq_true, if_false]

section Shared
variable (hk : k < 10)
include hk

theorem Dev.cacheMiss_held (st : Bool) (vic : Option Nat) (h : d.cached k line ≠ none ∨ (d.cache k).fills.find line ≠ none) :
    d.cacheMiss k line st vic = d := by
  have hc : ((d.cached k line).isSome || ((d.cache k).fills.find line).isSome) = true := by
    simpa [Option.isSome_iff_ne_none] using h
  simp only [Dev.cacheMiss, ha, hk, hc, Bool.not_true, Bool.false_eq_true, if_false, if_true]

theorem Dev.cacheMiss_shared (st : Bool) (vic : Option Nat) (hl : d.cached k line = none) (hf : (d.cache k).fills.find line = none) :
    d.cacheMiss k line st vic = d.sharedMiss k line st := by
  simp only [Dev.cacheMiss, ha, hk, hl, hf, Bool.not_true, Bool.false_eq_true, if_false, if_true, Option.isSome_none, Bool.or_self]

theorem Dev.cacheFill_fills : d.cacheFill k line none = d.fillReturn k line := by
  simp only [Dev.cacheFill, ha, hk, Bool.not_true, Bool.false_eq_true, if_false, if_true]

end Shared

theorem Dev.cacheFill_evicts (l : Nat) (h : (d.cache k).fills.find line = none ∨ 10 ≤ k) : d.cacheFill k line (some l) = d.dirEvict l := by
  simp only [Dev.cacheFill, ha, Bool.not_true, Bool.false_eq_true, if_false]
  split
  · next hk =>
    refine Dev.fillReturn_none ?_
    rw [(d.dirEvict_cache l k).1]
    exact h.resolve_right (by omega)
  · rfl

/-- R221: a core's caches give up the line that the hardware chooses. -/
theorem Dev.cacheMiss_core (hk : 10 ≤ k) (st : Bool) (v : Nat) : d.cacheMiss k line st (some v) = d.coreEvict (k - 10) v := by
  have hk' : ¬ k < 10 := by omega
  simp only [Dev.cacheMiss, ha, hk', Bool.not_true, Bool.false_eq_true, if_false]

end Events

section CoreEvict
variable {d : Dev} {k v : Nat} (hk : 10 ≤ k)
include hk

theorem Dev.coreEvict_absent (h : d.cached k v = none) : d.coreEvict (k - 10) v = d := by
  have hk' : 10 + (k - 10) = k := by omega
  simp only [Dev.coreEvict, hk', h]

theorem Dev.coreEvict_clean {e : CacheLine} (h : d.cached k v = some e) (hd : e.dirty = false) :
    d.coreEvict (k - 10) v = d.setCache k (fun c => { c with lines := c.lines.del v }) := by
  have hk' : 10 + (k - 10) = k := by omega
  simp only [Dev.coreEvict, hk', h, hd, Bool.not_false, if_true]

theorem Dev.coreEvict_near {e : CacheLine} (h : d.cached k v = some e) (hd : e.dirty = true) (hna : e.na = true) :
    d.coreEvict (k - 10) v = (d.setCache k (fun c => { c with lines := c.lines.del v })).writeHome v := by
  have hk' : 10 + (k - 10) = k := by omega
  simp only [Dev.coreEvict, hk', h, hd, hna, Bool.not_true, Bool.false_eq_true, if_false, if_true]

end CoreEvict

end Sys2Proof.Machine
end

section
/-! A combining buffer that idles, page walks and accesses without an answer (R188 to R192, R235, R250). -/

namespace Sys2Proof.Machine

open Sys2Proof

/-! ## The entry of a combining buffer drains (R235) -/

theorem maskRuns_allOnes : maskRuns (BitVec.allOnes 128) = [(0, 128)] := by decide +kernel

theorem NtEntry.bytes_full (e : NtEntry) : e.bytes (0, 128) = leBytes 128 e.data.toNat := by
  have hl : (leBytes 128 e.data.toNat).length ≤ 128 := by simp
  exact List.take_of_length_le hl

theorem Dev.coreWrite_pass {d : Dev} {n ctx addr : Nat} {h : Home} {l : List Byte} {stn na : Bool} {a : Nat} (hh : h = .hbm a)
    (hv : d.verdict (.hbm a) ctx true = .pass) : d.coreWrite n ctx h addr l stn na = (.ok, d.storeLine (.core n) (.hbm a) l stn na) := by
  have hw : d.writePiece (coreWho n ctx) (.hbm a) l stn na = (.ok, d.storeLine (.core n) (.hbm a) l stn na) := by
    unfold Dev.writePiece
    exact congrArg (fun v => match v with | Verdict.refuse s => (Acs.fail s, d) | .wait => (.wait, d) | .pass => (.ok, d.storeLine (.core n) (.hbm a) l stn na)) hv
  rw [Dev.coreWrite, hh, hw]

section Drain
variable {d : Dev} {n a : Nat} {e : NtEntry} (hm : e.mask = BitVec.allOnes 128) (hh : d.home (e.line * 128) = .hbm a)
  (hv : d.verdict (.hbm a) e.ctx true = .pass)
include hm hh hv

/-- A full line is one write. -/
theorem Dev.ntEntryDrain_full : d.ntEntryDrain n e = some (d.storeLine (.core n) (.hbm a) (leBytes 128 e.data.toNat) true false) := by
  unfold Dev.ntEntryDrain
  rw [hm, maskRuns_allOnes, List.foldl_cons, List.foldl_nil, NtEntry.bytes_full]
  dsimp only
  rw [Nat.add_zero, Dev.coreWrite_pass hh hv]

theorem Dev.ntDrainAll_full (hn : (d.core n).nt = [e]) :
    d.ntDrainAll n = (d.storeLine (.core n) (.hbm a) (leBytes 128 e.data.toNat) true false).setCore n
      (fun c => { c with nt := c.nt.filter (fun x => x.line != e.line) }) := by
  rw [Dev.ntDrainAll, Dev.ntDrain, hn, List.foldl_cons, List.foldl_nil, if_pos rfl, Dev.ntEntryDrain_full hm hh hv]

/-- The buffer is empty, and its line in memory. -/
theorem Dev.ntDrainAll_drains (hn : (d.core n).nt = [e]) :
    ((d.ntDrainAll n).core n).nt = [] ∧ (d.ntDrainAll n).ms.mem = d.ms.mem.writeN a (leBytes 128 e.data.toNat) := by
  rw [Dev.ntDrainAll_full hm hh hv hn]
  obtain ⟨r, hr⟩ := (d.storeLine_hbm_units (.core n) a (leBytes 128 e.data.toNat) true false).1 n
  constructor
  · rw [Dev.core_setCore_same, hr]
    simp [hn]
  · exact d.storeLine_hbm_mem (.core n) a _ true false (Dev.home_hbm_lt hh)

end Drain

theorem Dev.ntDrainAll_empty {d : Dev} {n : Nat} (h : (d.core n).nt = []) : d.ntDrainAll n = d := by
  rw [Dev.ntDrainAll, Dev.ntDrain, h, List.foldl_nil]

/-! ## Walks (R189) -/

section Walks
variable {d : Dev} {ctx va table level hi lo e : Nat} {rest : List (Nat × Nat × Nat)}

theorem Dev.walkFrom_stop {w : Walk} (h : d.walkRead ctx (table + 8 * bitsOf va hi lo) level = .inr w) :
    d.walkFrom ctx va table ((level, hi, lo) :: rest) = w := by
  simp only [Dev.walkFrom, h]

variable (h : d.walkRead ctx (table + 8 * bitsOf va hi lo) level = .inl e)
include h

theorem Dev.walkFrom_invalid (hv : e.testBit 0 = false) : d.walkFrom ctx va table ((level, hi, lo) :: rest) = .fault 0 level := by
  simp only [Dev.walkFrom, h, hv, Bool.not_false, if_true]

variable (hv : e.testBit 0 = true)
include hv

theorem Dev.walkFrom_malformed (hm : pteMalformed e level = true) : d.walkFrom ctx va table ((level, hi, lo) :: rest) = .fault 2 level := by
  simp only [Dev.walkFrom, h, hv, hm, Bool.not_true, Bool.false_eq_true, if_false, if_true]

variable (hm : pteMalformed e level = false)
include hm

theorem Dev.walkFrom_leaf (hl : e.testBit 1 = true) : d.walkFrom ctx va table ((level, hi, lo) :: rest) = .leaf e level := by
  simp only [Dev.walkFrom, h, hv, hm, hl, Bool.not_true, Bool.false_eq_true, if_false, if_true]

theorem Dev.walkFrom_descends (hl : e.testBit 1 = false) :
    d.walkFrom ctx va table ((level, hi, lo) :: rest) = d.walkFrom ctx va (pteFrame e) rest := by
  simp only [Dev.walkFrom, h, hv, hm, hl, Bool.not_true, Bool.false_eq_true, if_false]

end Walks

/-- R188: an entry of level 1 is no leaf, one of level 3 is. -/
theorem not_leaf_of_level1 {e : Nat} (h : pteMalformed e 1 = false) : e.testBit 1 = false := by
  simp only [pteMalformed, Bool.or_eq_false_iff, Bool.and_eq_false_iff, beq_self_eq_true, Bool.true_eq_false, false_or] at h
  tauto

theorem leaf_of_level3 {e : Nat} (h : pteMalformed e 3 = false) : e.testBit 1 = true := by
  simp only [pteMalformed, Bool.or_eq_false_iff, Bool.and_eq_false_iff, beq_self_eq_true, Bool.true_eq_false, false_or, Bool.not_eq_false'] at h
  tauto

/-- The last level: the entry, if valid and well formed, is the leaf. -/
theorem Dev.walkFrom_level3 {d : Dev} {ctx va table hi lo e : Nat} (h : d.walkRead ctx (table + 8 * bitsOf va hi lo) 3 = .inl e) :
    d.walkFrom ctx va table [(3, hi, lo)] = if e.testBit 0 = false then .fault 0 3 else if pteMalformed e 3 then .fault 2 3 else .leaf e 3 := by
  cases hv : e.testBit 0 with
  | false => rw [if_pos rfl, Dev.walkFrom_invalid h hv]
  | true =>
    rw [if_neg (by decide)]
    cases hm : pteMalformed e 3 with
    | true => rw [if_pos rfl, Dev.walkFrom_malformed h hv hm]
    | false => rw [if_neg (by decide), Dev.walkFrom_leaf h hv hm (leaf_of_level3 hm)]

theorem Dev.walk_off {d : Dev} {ctx : Nat} (va : Nat) (h : d.bit (rCrownCtxxlt ctx) 0 = false) : d.walk ctx va = .fault 0 1 := by
  simp only [Dev.walk, h, Bool.not_false, if_true]

theorem Dev.walk_on {d : Dev} {ctx : Nat} (va : Nat) (h : d.bit (rCrownCtxxlt ctx) 0 = true) :
    d.walk ctx va = d.walkFrom ctx va (d.fld (rCrownCtxxlt ctx) 55 17 * 2 ^ 17) [(1, 55, 42), (2, 41, 29), (3, 28, 16)] := by
  simp only [Dev.walk, h, Bool.not_true, Bool.false_eq_true, if_false]

/-! ## A walk's result at its translation cache (R189, R192) -/

/-- The part with a leaf installed in a translation cache. -/
def Dev.cacheLeaf (d : Dev) (k ctx va e l : Nat) : Dev :=
  { d with ms := { d.ms with tlb := d.ms.tlb.upd [] k (fun t => SMap.set t (tlbKey ctx (l == 2) va) { pte := BitVec.ofNat 64 e, huge := l == 2 }) } }

/-- What the end of a translation does for who waits on it. -/
def Dev.walkEnds (o : Who) (va : Nat) (a : Acc3) (x : Trans × Dev) : Dev :=
  match x with
  | (.fault c l, d) => d.hold o c l va a
  | (.status s, d) => d.waiterFail o.waiter s
  | (_, d) => d

/-- What a walk's end does: for the translation cache, and for who waits on it. -/
def Dev.walked (d : Dev) (o : Who) (k ctx va : Nat) (a : Acc3) : Walk → Dev
  | .leaf e l => if ptePermits e a then d.cacheLeaf k ctx va e l else (d.cacheLeaf k ctx va e l).hold o 1 l va a
  | .fault c l => d.hold o c l va a
  | .status s => d.waiterFail o.waiter s
  | .wait => d

section PageWalk
variable {d : Dev} {cache ctx va : Nat} {w : Waiter} {o : Who} {wr : Bool} (hva : va < 2 ^ 56) (ho : d.walkWho w = some o) (ht : o.tlb = cache)
  (hc : o.ctx = ctx) (hmiss : d.tlbFind cache ctx va = none)

include ho ht hc in
/-- An engine's walk. -/
theorem Dev.pageWalk_eq :
    d.pageWalk cache ctx va wr w = Dev.walkEnds o va (if wr then .write else .read) (d.translate cache ctx va (if wr then .write else .read)) := by
  have hcond : ¬ (o.tlb ≠ cache ∨ o.ctx ≠ ctx) := by simp [ht, hc]
  cases w with
  | core n => cases ho
  | lane k l => simp only [Dev.pageWalk, ho, hcond, if_false]; rfl
  | sheaf k => simp only [Dev.pageWalk, ho, hcond, if_false]; rfl
  | cmd r => simp only [Dev.pageWalk, ho, hcond, if_false]; rfl
  | fetch q => simp only [Dev.pageWalk, ho, hcond, if_false]; rfl

include hva ho ht hc hmiss in
theorem Dev.pageWalk_walked : d.pageWalk cache ctx va wr w = d.walked o cache ctx va (if wr then .write else .read) (d.walk ctx va) := by
  have hva' : ¬ 2 ^ 56 ≤ va := Nat.not_le.2 hva
  rw [Dev.pageWalk_eq ho ht hc]
  simp only [Dev.translate, Dev.translateBy, hva', if_false, hmiss]
  cases d.walk ctx va with
  | leaf e l => cases hp : ptePermits e (if wr then .write else .read) <;> simp only [Dev.walked, hp, if_true, Bool.false_eq_true, if_false] <;> rfl
  | fault c l => rfl
  | status s => rfl
  | wait => rfl

end PageWalk

section Walked
variable {d : Dev} {o : Who} {k ctx va e l : Nat} {a : Acc3}

theorem Dev.walked_permitted (hp : ptePermits e a = true) : d.walked o k ctx va a (.leaf e l) = d.cacheLeaf k ctx va e l := if_pos hp

theorem Dev.walked_forbidden (hp : ptePermits e a = false) :
    d.walked o k ctx va a (.leaf e l) = (d.cacheLeaf k ctx va e l).hold o 1 l va a := if_neg (by simp [hp])

end Walked

/-! ## Accesses without an answer (R250) -/

theorem Dev.core_deferError_same (d : Dev) (n addr : Nat) (s : Status) : ∃ x, ((d.deferError n addr s).core n).deferred = some x := by
  rw [Dev.core, Dev.deferError, SMap.get_upd_same]
  exact ⟨_, rfl⟩

/-- Deferred errors change cores alone. -/
theorem Dev.deferErrors_keep (d : Dev) (n addr k : Nat) (s : Status) :
    ((List.range k).foldl (fun d _ => d.deferError n addr s) d).fe = d.fe ∧
      ((List.range k).foldl (fun d _ => d.deferError n addr s) d).regs = d.regs :=
  ⟨foldl_keeps (f := fun d _ => Dev.deferError d n addr s) (g := Dev.fe) (fun _ _ => rfl) _ d,
    foldl_keeps (f := fun d _ => Dev.deferError d n addr s) (g := Dev.regs) (fun _ _ => rfl) _ d⟩

theorem Dev.deferErrors_pending (d : Dev) (n addr : Nat) {k : Nat} (s : Status) (hk : 1 ≤ k) :
    ∃ x, (((List.range k).foldl (fun d _ => d.deferError n addr s) d).core n).deferred = some x := by
  obtain ⟨j, rfl⟩ := Nat.exists_eq_add_of_le' hk
  rw [List.range_succ, List.foldl_append]
  exact Dev.core_deferError_same _ n addr s

/-- R253: after a store-loss record is tried. One that its ring did not take is counted as well. -/
def RingWrite.countLoss (w : RingWrite) (d : Dev) : Dev := if w = .written then d else d.addSat rCrownSlstat 63 32 1

theorem RingWrite.countLoss_keeps (w : RingWrite) (d : Dev) : (w.countLoss d).fe = d.fe ∧ (w.countLoss d).fld rCrownSlstat 31 0 = d.fld rCrownSlstat 31 0 := by
  unfold RingWrite.countLoss
  split
  · exact ⟨rfl, rfl⟩
  · exact ⟨rfl, Dev.fld_setFld_other d _ (by norm_num) (by norm_num)⟩

theorem Dev.storeLoss_eq (d : Dev) (dev count : Nat) (s : Status) (cls inst qid ctx tag pa : Nat) :
    ∃ l, d.storeLoss dev count s cls inst qid ctx tag pa =
      ((d.addSat rCrownSlstat 31 0 count).ringWrite 16 l).1.countLoss ((d.addSat rCrownSlstat 31 0 count).ringWrite 16 l).2 := by
  refine ⟨wordBytes [dev % 2 ^ 15 * 2 ^ 16 + min 65535 count, s.code * 2 ^ 16 + cls * 2 ^ 12 + inst % 1024, qid % 2 ^ 20 * 2 ^ 12 + ctx, tag % 2 ^ 32,
    pa % 2 ^ 32, pa / 2 ^ 32 % 2 ^ 32, d.time % 2 ^ 32, d.time / 2 ^ 32 % 2 ^ 32], ?_⟩
  unfold Dev.storeLoss
  dsimp only
  rw [Dev.addSat_time]
  generalize (d.addSat rCrownSlstat 31 0 count).ringWrite 16 _ = x
  obtain ⟨w, e⟩ := x
  cases w <;> rfl

/-- R253: a lost store is counted, and the fabric is left as it is. -/
theorem Dev.storeLoss_counts (d : Dev) (dev count : Nat) (s : Status) (cls inst qid ctx tag pa : Nat) :
    (d.storeLoss dev count s cls inst qid ctx tag pa).fe = d.fe ∧
      (d.storeLoss dev count s cls inst qid ctx tag pa).fld rCrownSlstat 31 0 = min (d.fld rCrownSlstat 31 0 + count) (2 ^ 32 - 1) := by
  obtain ⟨l, hl⟩ := d.storeLoss_eq dev count s cls inst qid ctx tag pa
  obtain ⟨hfe, hreg⟩ := (d.addSat rCrownSlstat 31 0 count).ringWrite_keeps (n := 16) l
  have hslot := hreg rCrownSlstat (by unfold Quiet rCrownSlstat; omega) (by decide) (by decide)
  obtain ⟨hfe', hfld⟩ := ((d.addSat rCrownSlstat 31 0 count).ringWrite 16 l).1.countLoss_keeps ((d.addSat rCrownSlstat 31 0 count).ringWrite 16 l).2
  rw [hl]
  refine ⟨hfe'.trans hfe, hfld.trans ((congrArg (fun x => bitsOf x 31 0) hslot).trans ?_)⟩
  exact Dev.fld_addSat_same d (by norm_num) count

/-- R250: the stores of a thread to one destination. -/
def FabReq.alike (r e : FabReq) : Bool := !e.load && e.dev == r.dev && e.origin.thread == r.origin.thread

theorem Dev.fabLoadTimeout_answers {d : Dev} {id : Nat} {r : FabReq} (hr : d.fe.reqs.find id = some r) (hl : r.load = true) :
    d.fabLoadTimeout id = { d with fe := { d.fe with reqs := d.fe.reqs.del id, answers := d.fe.answers ++ [⟨r.origin, windowAddr r.dev r.off, Status.remoteDead.code, []⟩] } } := by
  simp only [Dev.fabLoadTimeout, hr, hl, if_true]

theorem Dev.fabStoreTimeout_drops {d : Dev} {id : Nat} {r : FabReq} (hr : d.fe.reqs.find id = some r) (hl : r.load = false) :
    d.fabStoreTimeout id = d.dropStores r .remoteDead := by
  simp only [Dev.fabStoreTimeout, hr, hl, Bool.false_eq_true, if_false]

/-- The part without the requests of a thread to a destination. -/
def Dev.withoutAlike (d : Dev) (r : FabReq) (bcasts : List Bcast) : Dev :=
  { d with fe := { d.fe with reqs := d.fe.reqs.filter (fun e => !r.alike e.2), bcasts := bcasts } }

section Stores
variable {d : Dev} {n : Nat} {r : FabReq} (ho : r.origin = .core n)
include ho

/-- A core's stores that are dropped leave a loss and deferred errors. -/
theorem Dev.dropStores_eq (s : Status) : ∃ b dev cls inst addr, d.dropStores r s =
    (List.range (d.fe.reqs.countP (fun _ e => r.alike e))).foldl (fun d _ => d.deferError n addr s)
      ((d.withoutAlike r b).storeLoss dev (d.fe.reqs.countP (fun _ e => r.alike e)) s cls inst r.qid r.ctx r.tag addr) := by
  cases r
  cases ho
  exact ⟨_, _, _, _, _, rfl⟩

/-- R250: a core's stores to one destination are dropped and counted, and the core has an error pending. -/
theorem Dev.dropStores_core (s : Status) (h1 : 1 ≤ d.fe.reqs.countP (fun _ e => r.alike e)) :
    (d.dropStores r s).fe.reqs = d.fe.reqs.filter (fun e => !r.alike e.2) ∧
      (d.dropStores r s).fld rCrownSlstat 31 0 = min (d.fld rCrownSlstat 31 0 + d.fe.reqs.countP (fun _ e => r.alike e)) (2 ^ 32 - 1) ∧
      ∃ x, ((d.dropStores r s).core n).deferred = some x := by
  obtain ⟨b, dev, cls, inst, addr, heq⟩ := Dev.dropStores_eq (d := d) ho s
  rw [heq]
  generalize d.fe.reqs.countP (fun _ e => r.alike e) = k at h1 ⊢
  obtain ⟨hfe, hcount⟩ := (d.withoutAlike r b).storeLoss_counts dev k s cls inst r.qid r.ctx r.tag addr
  obtain ⟨hfe', hregs⟩ := ((d.withoutAlike r b).storeLoss dev k s cls inst r.qid r.ctx r.tag addr).deferErrors_keep n addr k s
  refine ⟨congrArg (fun f => f.reqs) (hfe'.trans hfe), ?_, Dev.deferErrors_pending _ n addr s h1⟩
  refine Eq.trans ?_ hcount
  unfold Dev.fld Dev.reg
  rw [hregs]

end Stores

theorem FabReq.alike_self {r : FabReq} (hl : r.load = false) : r.alike r = true := by
  simp [FabReq.alike, hl]

/-- A request that is listed counts. -/
theorem countP_alike_pos {d : Dev} {id : Nat} {r : FabReq} (hr : d.fe.reqs.find id = some r) (hl : r.load = false) :
    1 ≤ d.fe.reqs.countP (fun _ e => r.alike e) :=
  List.length_pos_of_mem (List.mem_filter.2 ⟨SMap.mem_of_find hr, FabReq.alike_self hl⟩)

end Sys2Proof.Machine

namespace Sys2Proof

open Sys2Proof.Machine

/-- Settles O43: the caches' events, the combining buffer, walks with their levels, and accesses without an answer. -/
theorem cachesAndWalks : Obligations.CachesAndWalks := by
  unfold Obligations.CachesAndWalks
  refine ⟨fun s k line hk ha => ?_, fun s n e hn hact => ⟨fun hnt => ?_, fun a hnt hm hh hv => ?_⟩,
    fun s cache ctx va w o wr hcache hctx hva ho ht hc hmiss => ?_, fun d ctx va => ⟨fun hoff => Dev.walk_off va hoff, fun hon => ?_⟩,
    fun s id => ⟨fun hnone => ?_, fun r hr hl => ?_, fun r n hr hl ho => ?_⟩⟩
  · have hmiss : ∀ l str vic, (Instr.cacheMiss k l str vic).wf = true := fun _ _ _ => decide_eq_true hk
    have hfill : ∀ l e, (Instr.cacheFillReturn k l e).wf = true := fun _ _ => decide_eq_true hk
    dsimp only
    refine ⟨fun hk10 => ?_, fun l hl => ?_, fun region => exec_leaves (decide_eq_true hk) ?_, fun str v hk10 => ?_⟩
    · have hdone : (Instr.sccmdDone k).wf = true := decide_eq_true hk10
      have hinit : (Instr.cacheInitDone k).wf = true := decide_eq_true hk10
      refine ⟨fun h => exec_leaves hdone (Dev.sweepDone_ends ha h), fun h => exec_keeps hdone (Dev.sweepDone_idle h),
        fun h => exec_leaves hinit (Dev.cacheInitDone_ends h), fun h => exec_keeps hinit (Dev.cacheInitDone_idle h),
        fun str vic h => exec_keeps (hmiss _ _ _) (Dev.cacheMiss_held ha hk10 str vic h), fun str vic hl hf hw hage => ?_, fun f hf => ?_,
        fun hf => exec_keeps (hfill _ _) ((Dev.cacheFill_fills ha hk10).trans (Dev.fillReturn_none hf))⟩
      · obtain ⟨hcount, hfills, hcached⟩ := Dev.sharedMiss_waits (st := str) hl hw hage
        rw [exec_leaves (hmiss line str vic) (Dev.cacheMiss_shared ha hk10 str vic hl hf)]
        exact ⟨_, rfl, hcount, hfills, hcached, keepsMemory_of_eq (Dev.only_sharedMiss _ _ _ _).mem⟩
      · obtain ⟨hnone, henters⟩ := Dev.fillReturn_enters hf
        rw [exec_leaves (hfill line none) (Dev.cacheFill_fills ha hk10)]
        exact ⟨_, rfl, hnone, henters, keepsMemory_of_eq (Dev.only_fillReturn _ _ _).mem⟩
    · obtain ⟨hstale, hcount, hmem⟩ := s.dev.dirEvict_home l
      rw [exec_leaves (hfill line (some l)) (Dev.cacheFill_evicts ha l hl)]
      exact ⟨_, rfl, fun j => (s.dev.dirEvict_cache l j).2, hstale, hcount, keepsMemory_of_eq hmem⟩
    · rfl
    · have hcore := Dev.cacheMiss_core (line := line) ha hk10 str v
      exact ⟨fun h => exec_keeps (hmiss _ _ _) (hcore.trans (Dev.coreEvict_absent hk10 h)),
        fun e h hd => exec_leaves (hmiss _ _ _) (hcore.trans (Dev.coreEvict_clean hk10 h hd)),
        fun e h hd hna => exec_leaves (hmiss _ _ _) (hcore.trans (Dev.coreEvict_near hk10 h hd hna))⟩
  · refine exec_keeps (decide_eq_true hn) ?_
    exact (if_pos hact).trans (Dev.ntDrainAll_empty hnt)
  · have hidle : s.dev.ntIdle n = s.dev.ntDrainAll n := if_pos hact
    obtain ⟨hempty, hmem⟩ := Dev.ntDrainAll_drains hm hh hv hnt
    have hplace : s.dev.place a = a := s.dev.place_low (lt_trans (Dev.home_hbm_lt hh) (by norm_num))
    have hread := Memory.readN_writeN s.dev.ms.mem a (leBytes 128 e.data.toNat)
    rw [length_leBytes] at hread
    rw [exec_leaves (i := .ntbufIdleDrain n) (decide_eq_true hn) hidle, hplace]
    exact ⟨_, rfl, hempty, (congrArg (fun m => Memory.readN m a 128) hmem).trans hread, keepsMemory_writeN (length_leBytes _ _) hmem⟩
  · have hwf : (Instr.pageWalk cache ctx va wr w).wf = true := by
      have hva' : va < 2 ^ 64 := lt_trans hva (by norm_num)
      exact Bool.and_eq_true_iff.2 ⟨Bool.and_eq_true_iff.2 ⟨decide_eq_true hcache, decide_eq_true hctx⟩, decide_eq_true hva'⟩
    have heq : ∀ x, s.dev.walk ctx va = x → s.dev.pageWalk cache ctx va wr w = s.dev.walked o cache ctx va (if wr then .write else .read) x := fun x h =>
      h ▸ Dev.pageWalk_walked hva ho ht hc hmiss
    exact ⟨fun e l h => ⟨fun hp => exec_leaves hwf ((heq _ h).trans (Dev.walked_permitted hp)),
        fun hp => exec_leaves hwf ((heq _ h).trans (Dev.walked_forbidden hp))⟩,
      fun c l h => exec_leaves hwf (heq _ h), fun st h => exec_leaves hwf (heq _ h), fun h => exec_leaves hwf (heq _ h)⟩
  · rw [Dev.walk_on va hon]
    refine ⟨fun w h => Dev.walkFrom_stop h, fun e h => ⟨Dev.walkFrom_invalid h, Dev.walkFrom_malformed h, fun hv hm e2 h2 => ?_⟩⟩
    rw [Dev.walkFrom_descends h hv hm (not_leaf_of_level1 hm)]
    refine ⟨Dev.walkFrom_invalid h2, Dev.walkFrom_malformed h2, Dev.walkFrom_leaf h2, fun hv2 hm2 hl2 e3 h3 => ?_⟩
    rw [Dev.walkFrom_descends h2 hv2 hm2 hl2]
    exact Dev.walkFrom_level3 h3
  · exact ⟨exec_keeps rfl (by simp only [does, Dev.fabLoadTimeout, hnone]), exec_keeps rfl (by simp only [does, Dev.fabStoreTimeout, hnone])⟩
  · exact ⟨exec_keeps rfl (by simp only [does, Dev.fabStoreTimeout, hr, hl, if_true]), exec_leaves rfl (Dev.fabLoadTimeout_answers hr hl)⟩
  · have hthread : r.origin.thread = .core n := by rw [ho]; rfl
    have hsame : ∀ e : FabReq, (!e.load && e.dev == r.dev && e.origin.thread == .core n) = r.alike e := fun e => by rw [FabReq.alike, hthread]
    obtain ⟨hreqs, hcount, hdef⟩ := Dev.dropStores_core ho .remoteDead (countP_alike_pos hr hl)
    dsimp only
    simp only [hsame]
    refine ⟨exec_keeps rfl (by simp only [does, Dev.fabLoadTimeout, hr, hl, Bool.false_eq_true, if_false]), ?_⟩
    rw [exec_leaves (i := .fabricStoreTimeout id) rfl (Dev.fabStoreTimeout_drops hr hl)]
    refine ⟨_, rfl, fun e he => ?_, hcount, hdef⟩
    rw [show (leaves s (s.dev.dropStores r .remoteDead)).dev.fe.reqs = _ from hreqs] at he
    simpa using (List.mem_filter.1 he).2

end Sys2Proof
end

section
/-! The slots of a queue (R275, R279), and a part that lists a queue twice. -/

namespace Sys2Proof.Machine

open Sys2Proof

/-! ## The translation of an address no cache has (R192) -/

theorem Dev.tlbFind_empty {d : Dev} {k : Nat} (ctx va : Nat) (h : d.ms.tlb.get [] k = []) : d.tlbFind k ctx va = none := by
  simp only [Dev.tlbFind, h, SMap.find, Option.map_none, ite_self]

/-- A miss whose walk ends at a leaf that permits the access. -/
theorem Dev.translate_walks {d : Dev} {k ctx va e l : Nat} {a : Acc3} (hva : va < 2 ^ 56) (hmiss : d.tlbFind k ctx va = none)
    (hw : d.walk ctx va = .leaf e l) (hp : ptePermits e a = true) : d.translate k ctx va a = (.ok e l, d.cacheLeaf k ctx va e l) := by
  have hva' : ¬ 2 ^ 56 ≤ va := Nat.not_le.2 hva
  simp only [Dev.translate, Dev.translateBy, hva', if_false, hmiss, hw, hp, if_true]
  rfl

/-! ## A slot in HBM (R276) -/

/-- A slot in a line of HBM that is not poisoned, of a queue whose fetch may read it. -/
theorem Dev.readSlot_hbm {d d' : Dev} {q va e l a : Nat} (hline : va % 128 + 64 ≤ 128) (ht : d.translate 20 (q / 256) va .read = (.ok e l, d'))
    (hh : d'.leafHome e l va = .hbm a) (hv : d'.verdict (.hbm a) (q / 256) false = .pass) (hb : d'.badHome (.hbm a) 64 = false) :
    d.readSlot q va = (some ((bytesWords (d'.readHome (.hbm a) 64)).map (BitVec.ofNat 32)), d'.fabDone (.fetch q)) := by
  have hr : d.resolve (whoFetch q) va .read = (.ok, .hbm a, pteNa e, d') := by
    simp only [Dev.resolve, whoFetch, ht, hh]
  have hp : d'.readPiece (whoFetch q) (.hbm a) 64 (pteNa e) = (.ok, d'.readHome (.hbm a) 64, false, d') := by
    have hv' : d'.verdict (.hbm a) (whoFetch q).ctx false = .pass := hv
    simp only [Dev.readPiece, hv', hb, Dev.poisonRead_clean d' _ hb]
    rfl
  have hread : d.readV (whoFetch q) va 64 = (.ok, d'.readHome (.hbm a) 64, false, d') := by
    simp only [Dev.readV, cut_line (by norm_num : 1 ≤ 64) hline, Dev.readPieces, hr, hp, List.append_nil, Bool.or_false]
  simp only [Dev.readSlot, hread, Bool.false_eq_true, if_false]
  rfl

/-! ## Fetching (R279) -/

/-- What a slot that has been read does to its queue. -/
def Queue.tookSlot (n : Nat) (ws : List (BitVec 32)) (x : Queue) : Queue :=
  if slotCurrent x.log2 n (ws.getD 0 0).toNat then x.fetchedSlot n ws none else { x with stale := some 0 }

section Fetch
variable {d e : Dev} {q : Nat} {ws : List (BitVec 32)}

theorem Dev.slotFetch1_stale (h : (d.queue q).stale.isSome = true) : d.slotFetch1 q = d := by
  simp only [Dev.slotFetch1, h, Bool.or_true, if_true]

theorem Dev.slotFetch1_reads (hf : d.fetches q = true) (hs : (d.queue q).stale = none) (hn : (d.queue q).nextSlot = some ((d.queue q).n, none))
    (hk : (d.queue q).skip = 0) (hr : d.readSlot q ((d.queue q).slotVa (d.queue q).n) = (some ws, e)) :
    d.slotFetch1 q = e.setQueue q (Queue.tookSlot (d.queue q).n ws) := by
  simp only [Dev.slotFetch1, hf, hs, hn, hk, hr, Option.isSome_none, Bool.not_true, Bool.or_self, Bool.false_eq_true, if_false, Nat.lt_irrefl, decide_false,
    Bool.and_false, Bool.false_and]
  rfl

/-- A slot that is not current ends the run of fetches. -/
theorem Dev.slotFetch_stale (h : ((d.slotFetch1 q).queue q).stale.isSome = true) : d.slotFetch q = d.slotFetch1 q := by
  have hfix := Dev.slotFetch1_stale h
  simp only [Dev.slotFetch, iter, hfix]

end Fetch

/-! ## A queue listed twice -/

/-- Queue 0 with a ring of two slots at 2^29, whose second one is due. -/
def ringOfTwo : Queue := { log2 := 1, ring := 2 ^ 29, n := 1, p := 2 }

/-- A part that lists queue 0 twice, with rings of two slots and of one. The first interleave set is online, the CP runs, context 0 maps
2^29 to HBM address 0, and the slot due has word 0 = 1: command 1 of a pass whose phase bit is 0. -/
def twiceListed : Dev where
  regs := [(rCrownDiestat 11, 0), (rCrownDiestat 12, 0), (rCrownDiestat 13, 0), (rCrownCtxxlt 0, 1), (rCpStat, 0x80000000),
    (rGlmStat 0, 1), (rGlmStat 1, 1), (rGlmStat 2, 1)]
  ms := { mem := [(0, 1), (8, 7), (64, 1)] }
  cp := { queues := [(0, ringOfTwo), (0, { ringOfTwo with log2 := 0 })] }

/-- The words of the slot due. -/
def slotWords : List (BitVec 32) := 1 :: List.replicate 15 0

/-- The part once the slot has been read: its leaf is in the CP's translation cache. -/
def twiceRead : Dev := (twiceListed.cacheLeaf 20 0 (2 ^ 29 + 64) 7 2).fabDone (.fetch 0)

theorem twiceListed_readSlot : twiceListed.readSlot 0 (2 ^ 29 + 64) = (some slotWords, twiceRead) := by
  have ht : twiceListed.translate 20 0 (2 ^ 29 + 64) .read = (.ok 7 2, twiceListed.cacheLeaf 20 0 (2 ^ 29 + 64) 7 2) :=
    Dev.translate_walks (by norm_num) (Dev.tlbFind_empty _ _ rfl) (by decide +kernel) (by decide)
  rw [Dev.readSlot_hbm (q := 0) (by norm_num) ht (a := 64) (by decide +kernel) (by decide +kernel) (by decide +kernel)]
  have hw : (bytesWords ((twiceListed.cacheLeaf 20 0 (2 ^ 29 + 64) 7 2).readHome (.hbm 64) 64)).map (BitVec.ofNat 32) = slotWords := by
    decide +kernel
  rw [hw]
  rfl

theorem twiceListed_fetches : twiceListed.fetches 0 = true := by decide +kernel

/-- The second listing takes the slot as current: its ring has one slot. -/
theorem twiceListed_slotFetch : twiceListed.slotFetch 0 = twiceRead.setQueue 0 (Queue.tookSlot 1 slotWords) := by
  have h1 : twiceListed.slotFetch1 0 = twiceRead.setQueue 0 (Queue.tookSlot 1 slotWords) :=
    Dev.slotFetch1_reads (d := twiceListed) twiceListed_fetches rfl rfl rfl twiceListed_readSlot
  rw [Dev.slotFetch_stale (by rw [h1]; decide +kernel), h1]

end Sys2Proof.Machine

namespace Sys2Proof

open Sys2Proof.Machine

/-- Refutes O47: a fetch that finds a stale slot looks at each listing of its queue by itself. In a part that lists queue 0 twice, with two
ring sizes, the slot is stale for the first listing and current for the second, which takes it; the statement has both stale. -/
theorem not_queuesAndFences : ¬ Obligations.QueuesAndFences := by
  unfold Obligations.QueuesAndFences
  rintro ⟨-, hqueue, -⟩
  obtain ⟨-, -, hfetch, -⟩ := hqueue ⟨twiceListed, []⟩ 0 (by norm_num)
  obtain ⟨-, hstale⟩ := hfetch twiceListed_fetches rfl rfl rfl rfl rfl (by decide) slotWords twiceRead twiceListed_readSlot rfl
  have hclaim := hstale (by decide +kernel)
  have hdoes : exec (.slotFetch 0) ⟨twiceListed, []⟩ = .next (leaves ⟨twiceListed, []⟩ (twiceRead.setQueue 0 (Queue.tookSlot 1 slotWords))) :=
    exec_leaves rfl twiceListed_slotFetch
  injection hdoes.symm.trans hclaim with heq
  have hboth : (twiceRead.setQueue 0 (Queue.tookSlot 1 slotWords)).cp.queues.map (fun x => x.2.stale) = [some 0, some 0] :=
    congrArg (fun s : State => s.dev.cp.queues.map (fun x => x.2.stale)) heq
  exact absurd hboth (by decide +kernel)

end Sys2Proof
end

section
/-! Exceptions of a core: what entry and ERET do to its system registers (R256, R260, R271). -/

namespace Sys2Proof.Machine

open Sys2Proof

/-! ## System registers -/

section Csr
variable (c : CoreSt)

theorem CoreSt.getCsr_lt (k : Nat) : c.getCsr k < 2 ^ 64 := (c.csr.get 0 k).isLt

theorem CoreSt.getCsr_setCsr_same (k v : Nat) : (c.setCsr k v).getCsr k = v % 2 ^ 64 := by
  simp [CoreSt.getCsr, CoreSt.setCsr]

theorem CoreSt.getCsr_setCsr_other {k j : Nat} (v : Nat) (h : k ≠ j) : (c.setCsr k v).getCsr j = c.getCsr j := by
  simp only [CoreSt.getCsr, CoreSt.setCsr, SMap.get_set_other _ _ _ h]

end Csr

/-! ## STATUS (R256, R260) -/

/-- A field of one bit that takes another's value. -/
theorem testBit_putBits_copy (x y i j : Nat) : (putBits x i i (bitsOf y j j)).testBit i = y.testBit j := by
  rw [testBit_putBits, if_pos (by omega), testBit_bitsOf]
  simp

theorem testBit_putBits_clear (x i : Nat) : (putBits x i i 0).testBit i = false := by
  rw [testBit_putBits, if_pos (by omega), Nat.zero_testBit]

theorem testBit_putBits_other {x hi lo v i : Nat} (h : i < lo ∨ lo + (hi + 1 - lo) ≤ i) : (putBits x hi lo v).testBit i = x.testBit i := by
  rw [testBit_putBits, if_neg (by omega)]

/-- STATUS of a core that has entered an exception at M or at S: the level and the enable are kept, the enable is clear. -/
def CoreSt.enteredStatus (c : CoreSt) (toM : Bool) : Nat :=
  if toM then putBits (putBits (putBits (c.getCsr 0x100) 12 11 c.level) 5 5 (bitsOf (c.getCsr 0x100) 1 1)) 1 1 0
  else putBits (putBits (putBits (c.getCsr 0x100) 8 8 (min c.level 1)) 4 4 (bitsOf (c.getCsr 0x100) 0 0)) 0 0 0

/-- STATUS of a core that has returned: the enable is what was kept of it. -/
def CoreSt.returnedStatus (c : CoreSt) : Nat :=
  if c.level = 3 then putBits (c.getCsr 0x100) 1 1 (bitsOf (c.getCsr 0x100) 5 5)
  else putBits (c.getCsr 0x100) 0 0 (bitsOf (c.getCsr 0x100) 4 4)

section Status
variable (c : CoreSt)

theorem CoreSt.enteredStatus_lt (toM : Bool) : c.enteredStatus toM < 2 ^ 64 := by
  cases toM <;> exact putBits_lt (putBits_lt (putBits_lt (c.getCsr_lt _) (by norm_num)) (by norm_num)) (by norm_num)

theorem CoreSt.returnedStatus_lt : c.returnedStatus < 2 ^ 64 := by
  unfold CoreSt.returnedStatus
  split <;> exact putBits_lt (c.getCsr_lt _) (by norm_num)

/-- At M: MPP, SPP, MPIE, MIE, and the other bits. -/
theorem CoreSt.enteredStatus_atM (hl : c.level < 4) :
    bitsOf (c.enteredStatus true) 12 11 = c.level ∧ bitsOf (c.enteredStatus true) 8 8 = bitsOf (c.getCsr 0x100) 8 8 ∧
      (c.enteredStatus true).testBit 5 = (c.getCsr 0x100).testBit 1 ∧ (c.enteredStatus true).testBit 1 = false ∧
      ∀ i, i ∉ [1, 5, 11, 12] → (c.enteredStatus true).testBit i = (c.getCsr 0x100).testBit i := by
  simp only [CoreSt.enteredStatus, if_true]
  refine ⟨?_, ?_, ?_, testBit_putBits_clear _ _, fun i hi => ?_⟩
  · rw [bitsOf_putBits_other (by norm_num), bitsOf_putBits_other (by norm_num), bitsOf_putBits]
    exact Nat.mod_eq_of_lt hl
  · rw [bitsOf_putBits_other (by norm_num), bitsOf_putBits_other (by norm_num), bitsOf_putBits_other (by norm_num)]
  · rw [testBit_putBits_other (by norm_num), testBit_putBits_copy]
  · simp only [List.mem_cons, List.not_mem_nil, or_false, not_or] at hi
    rw [testBit_putBits_other (by omega), testBit_putBits_other (by omega), testBit_putBits_other (by omega)]

/-- At S: MPP, SPP, SPIE, SIE, and the other bits. -/
theorem CoreSt.enteredStatus_atS (hl : c.level < 2) :
    bitsOf (c.enteredStatus false) 12 11 = bitsOf (c.getCsr 0x100) 12 11 ∧ bitsOf (c.enteredStatus false) 8 8 = c.level ∧
      (c.enteredStatus false).testBit 4 = (c.getCsr 0x100).testBit 0 ∧ (c.enteredStatus false).testBit 0 = false ∧
      ∀ i, i ∉ [0, 4, 8] → (c.enteredStatus false).testBit i = (c.getCsr 0x100).testBit i := by
  simp only [CoreSt.enteredStatus, Bool.false_eq_true, if_false]
  refine ⟨?_, ?_, ?_, testBit_putBits_clear _ _, fun i hi => ?_⟩
  · rw [bitsOf_putBits_other (by norm_num), bitsOf_putBits_other (by norm_num), bitsOf_putBits_other (by norm_num)]
  · rw [bitsOf_putBits_other (by norm_num), bitsOf_putBits_other (by norm_num), bitsOf_putBits, Nat.min_eq_left (by omega)]
    exact Nat.mod_eq_of_lt hl
  · rw [testBit_putBits_other (by norm_num), testBit_putBits_copy]
  · simp only [List.mem_cons, List.not_mem_nil, or_false, not_or] at hi
    rw [testBit_putBits_other (by omega), testBit_putBits_other (by omega), testBit_putBits_other (by omega)]

theorem CoreSt.returnedStatus_atM (hl : c.level = 3) : c.returnedStatus.testBit 1 = (c.getCsr 0x100).testBit 5 ∧
    ∀ i, i ≠ 1 → c.returnedStatus.testBit i = (c.getCsr 0x100).testBit i := by
  simp only [CoreSt.returnedStatus, hl, if_true]
  exact ⟨testBit_putBits_copy _ _ _ _, fun i hi => testBit_putBits_other (by omega)⟩

theorem CoreSt.returnedStatus_atS (hl : c.level ≠ 3) : c.returnedStatus.testBit 0 = (c.getCsr 0x100).testBit 4 ∧
    ∀ i, i ≠ 0 → c.returnedStatus.testBit i = (c.getCsr 0x100).testBit i := by
  simp only [CoreSt.returnedStatus, hl, if_false]
  exact ⟨testBit_putBits_copy _ _ _ _, fun i hi => testBit_putBits_other (by omega)⟩

end Status

/-! ## Entry (R260, steps 2 to 5) -/

section Enter
variable (c : CoreSt) (toM : Bool) (savepc cause faddr finfo : Nat)

/-- What entry writes: four registers of the level it is taken at, then STATUS. -/
theorem CoreSt.getCsr_enter (k : Nat) : (c.enter toM savepc cause faddr finfo).getCsr k =
    (((((c.setCsr (excReg toM 0x105) savepc).setCsr (excReg toM 0x106) cause).setCsr (excReg toM 0x107) faddr).setCsr
      (excReg toM 0x108) finfo).setCsr 0x100 (c.enteredStatus toM)).getCsr k := rfl

theorem excReg_eq (k : Nat) : excReg toM k = k + if toM then 0x200 else 0 := by cases toM <;> rfl

theorem CoreSt.getCsr_enter_status : (c.enter toM savepc cause faddr finfo).getCsr 0x100 = c.enteredStatus toM := by
  rw [CoreSt.getCsr_enter, CoreSt.getCsr_setCsr_same, Nat.mod_eq_of_lt (c.enteredStatus_lt toM)]

/-- The four registers take the address, the cause, the fault address and the details. -/
theorem CoreSt.getCsr_enter_regs (hs : savepc < 2 ^ 64) (hc : cause < 2 ^ 64) (ha : faddr < 2 ^ 64) (hi : finfo < 2 ^ 64) :
    (c.enter toM savepc cause faddr finfo).getCsr (excReg toM 0x105) = savepc ∧
      (c.enter toM savepc cause faddr finfo).getCsr (excReg toM 0x106) = cause ∧
      (c.enter toM savepc cause faddr finfo).getCsr (excReg toM 0x107) = faddr ∧
      (c.enter toM savepc cause faddr finfo).getCsr (excReg toM 0x108) = finfo := by
  have hne : ∀ a b, a ≠ b → excReg toM a ≠ excReg toM b := fun a b h => by simp only [excReg_eq]; omega
  have h0 : ∀ a, 0x100 < a → 0x100 ≠ excReg toM a := fun a h => by simp only [excReg_eq]; omega
  simp only [CoreSt.getCsr_enter]
  refine ⟨?_, ?_, ?_, ?_⟩
  · rw [CoreSt.getCsr_setCsr_other _ _ (h0 _ (by norm_num)), CoreSt.getCsr_setCsr_other _ _ (hne _ _ (by norm_num)),
      CoreSt.getCsr_setCsr_other _ _ (hne _ _ (by norm_num)), CoreSt.getCsr_setCsr_other _ _ (hne _ _ (by norm_num)),
      CoreSt.getCsr_setCsr_same, Nat.mod_eq_of_lt hs]
  · rw [CoreSt.getCsr_setCsr_other _ _ (h0 _ (by norm_num)), CoreSt.getCsr_setCsr_other _ _ (hne _ _ (by norm_num)),
      CoreSt.getCsr_setCsr_other _ _ (hne _ _ (by norm_num)), CoreSt.getCsr_setCsr_same, Nat.mod_eq_of_lt hc]
  · rw [CoreSt.getCsr_setCsr_other _ _ (h0 _ (by norm_num)), CoreSt.getCsr_setCsr_other _ _ (hne _ _ (by norm_num)),
      CoreSt.getCsr_setCsr_same, Nat.mod_eq_of_lt ha]
  · rw [CoreSt.getCsr_setCsr_other _ _ (h0 _ (by norm_num)), CoreSt.getCsr_setCsr_same, Nat.mod_eq_of_lt hi]

/-- Every other system register stays. -/
theorem CoreSt.getCsr_enter_other {k : Nat} (hk : k ∉ [0x100, excReg toM 0x105, excReg toM 0x106, excReg toM 0x107, excReg toM 0x108]) :
    (c.enter toM savepc cause faddr finfo).getCsr k = c.getCsr k := by
  simp only [List.mem_cons, List.not_mem_nil, or_false, not_or] at hk
  obtain ⟨h0, h5, h6, h7, h8⟩ := hk
  rw [CoreSt.getCsr_enter, CoreSt.getCsr_setCsr_other _ _ (Ne.symm h0), CoreSt.getCsr_setCsr_other _ _ (Ne.symm h8),
    CoreSt.getCsr_setCsr_other _ _ (Ne.symm h7), CoreSt.getCsr_setCsr_other _ _ (Ne.symm h6), CoreSt.getCsr_setCsr_other _ _ (Ne.symm h5)]

/-- The core goes on at VECBASE of the level. -/
theorem CoreSt.enter_pc : (c.enter toM savepc cause faddr finfo).pc.toNat = c.getCsr (excReg toM 0x104) / 256 * 256 := by
  have hlt := c.getCsr_lt (excReg toM 0x104)
  exact Nat.mod_eq_of_lt (by omega)

end Enter

/-! ## ERET (R260) -/

section Eret
variable (c : CoreSt)

theorem CoreSt.getCsr_eret (k : Nat) : c.eret.getCsr k = (c.setCsr 0x100 c.returnedStatus).getCsr k := by
  simp only [CoreSt.eret, CoreSt.returnedStatus, decide_eq_true_eq]; rfl

theorem CoreSt.getCsr_eret_status : c.eret.getCsr 0x100 = c.returnedStatus := by
  rw [CoreSt.getCsr_eret, CoreSt.getCsr_setCsr_same, Nat.mod_eq_of_lt c.returnedStatus_lt]

theorem CoreSt.getCsr_eret_other {k : Nat} (h : k ≠ 0x100) : c.eret.getCsr k = c.getCsr k := by
  rw [CoreSt.getCsr_eret, CoreSt.getCsr_setCsr_other _ _ h.symm]

/-- The core resumes where the level it returns from says, at the level that was kept. -/
theorem CoreSt.eret_pc_level : c.eret.pc.toNat = c.getCsr (if c.level = 3 then 0x305 else 0x105) ∧
    c.eret.level = if c.level = 3 then (if bitsOf (c.getCsr 0x100) 12 11 = 2 then 0 else bitsOf (c.getCsr 0x100) 12 11)
      else bitsOf (c.getCsr 0x100) 8 8 := by
  by_cases h : c.level = 3
  · simp only [CoreSt.eret, h, decide_true, if_true]
    exact ⟨Nat.mod_eq_of_lt (c.getCsr_lt 0x305), trivial⟩
  · simp only [CoreSt.eret, h, decide_false, Bool.false_eq_true, if_false]
    exact ⟨Nat.mod_eq_of_lt (c.getCsr_lt 0x105), trivial⟩

end Eret

/-! ## Instructions of a level (R256) -/

section Levels
variable {s : State} {n lvl : Nat} {i : Instr} {bad : Bool} {badL : Option Nat} {f : Nat → Dev → CEnd × Dev}
  {fL : Nat → Dev → LEnd × Dev}

/-- An instruction of a higher level is illegal. -/
theorem exec_coreBelow (h : CoreRuns s n 0) (hw : i.wf = (Agent.core n).wf) (hd : does i s.dev = s.dev.ghety i (.core n) lvl bad f badL fL)
    (hl : (s.dev.core n).level < lvl) : exec i s = .next (coreTraps s n 1 0 0) :=
  exec_leaves (hw.trans (decide_eq_true h.1)) (hd.trans (Dev.onCore_illegal h.2.1 (.inr hl)))

theorem exec_eret (h : CoreRuns s n 1) :
    exec (.eret (.core n) ⟨0, 0, 0⟩) s = .next (leaves s (s.dev.setCore n (fun c => { c.eret with retired := c.retired + 1 }))) := by
  have hd : does (.eret (.core n) ⟨0, 0, 0⟩) s.dev =
      s.dev.onCore n 1 false (fun d => (.wait, d.setCore n (fun c => { c.eret with retired := c.retired + 1 }))) := rfl
  have hl : decide ((s.dev.core n).level < 1) = false := decide_eq_false (not_lt.2 h.2.2)
  refine exec_leaves (decide_eq_true h.1) (hd.trans ?_)
  simp only [Dev.onCore, h.2.1, hl, Bool.not_true, Bool.or_self, Bool.false_eq_true, if_false]

end Levels

end Sys2Proof.Machine

namespace Sys2Proof

open Sys2Proof.Machine

/-- Settles O14: entry by the registers it writes, at M and at S; ERET below S, then at each level. -/
theorem exceptionEntryAndReturns : Obligations.ExceptionEntryAndReturns := by
  unfold Obligations.ExceptionEntryAndReturns
  refine ⟨⟨fun _ _ => rfl, fun c toM savepc cause faddr finfo hs hc ha hi hl hS => ?_⟩, fun s n h => ⟨fun hl => ?_, fun hl => ?_⟩⟩
  · obtain ⟨h5, h6, h7, h8⟩ := c.getCsr_enter_regs toM savepc cause faddr finfo hs hc ha hi
    have hpc := c.enter_pc toM savepc cause faddr finfo
    have hother := fun k hk => c.getCsr_enter_other toM savepc cause faddr finfo (k := k) hk
    simp only [c.getCsr_enter_status toM savepc cause faddr finfo]
    cases toM with
    | true =>
      obtain ⟨hmpp, hspp, hpie, hie, hbits⟩ := c.enteredStatus_atM hl
      exact ⟨h5, h6, h7, h8, rfl, rfl, hpc, hmpp, hspp, hpie, hie, hbits, hother, rfl, rfl, rfl⟩
    | false =>
      obtain ⟨hmpp, hspp, hpie, hie, hbits⟩ := c.enteredStatus_atS (hS rfl)
      exact ⟨h5, h6, h7, h8, rfl, rfl, hpc, hmpp, hspp, hpie, hie, hbits, hother, rfl, rfl, rfl⟩
  · have hd : does (.eret (.core n) ⟨0, 0, 0⟩) s.dev = s.dev.eretC _ (.core n) ⟨0, 0, 0⟩ := rfl
    exact exec_coreBelow h rfl (hd.trans (Dev.onlyC_eq ..)) (by omega)
  · obtain ⟨hpc, hlev⟩ := (s.dev.core n).eret_pc_level
    have hc : ∀ k, CoreSt.getCsr { (s.dev.core n).eret with retired := (s.dev.core n).retired + 1 } k = (s.dev.core n).eret.getCsr k := fun _ => rfl
    refine ⟨_, exec_eret ⟨h.1, h.2.1, by omega⟩, ?_⟩
    simp only [leaves, Dev.core_setCore_same, hc, CoreSt.getCsr_eret_status]
    have hstatus : (s.dev.core n).returnedStatus.testBit (if (s.dev.core n).level = 3 then 1 else 0) =
          ((s.dev.core n).getCsr 0x100).testBit (if (s.dev.core n).level = 3 then 5 else 4) ∧
        ∀ i, i ≠ (if (s.dev.core n).level = 3 then 1 else 0) →
          (s.dev.core n).returnedStatus.testBit i = ((s.dev.core n).getCsr 0x100).testBit i := by
      by_cases h3 : (s.dev.core n).level = 3
      · simpa only [h3, if_true] using (s.dev.core n).returnedStatus_atM h3
      · simpa only [h3, if_false] using (s.dev.core n).returnedStatus_atS h3
    exact ⟨hpc, hlev, hstatus.1, hstatus.2, fun k hk => (s.dev.core n).getCsr_eret_other hk, rfl, rfl, rfl,
      fun m hm => Dev.core_setCore_other _ _ hm.symm, rfl, rfl⟩

end Sys2Proof
end

section
/-! Interrupts, deferred errors and events of the cores (R263, R264, R266), and cores that leave and enter service (R268, R269). -/

namespace Sys2Proof.Machine

open Sys2Proof

/-! ## Which interrupt is taken (R266) -/

section Interrupt
variable (c : CoreSt)

/-- R266: interrupt i is pending and enabled. -/
abbrev CoreSt.Pends (i : Nat) : Prop := c.ipend.testBit i = true ∧ (c.getCsr 0x101).testBit i = true

theorem CoreSt.levelOpen_M : c.levelOpen true = true ↔ c.level < 3 ∨ (c.getCsr 0x100).testBit 1 = true := by
  simp only [CoreSt.levelOpen, if_true, Bool.or_eq_true, decide_eq_true_eq]

theorem CoreSt.levelOpen_S : c.levelOpen false = true ↔ c.level < 1 ∨ (c.level = 1 ∧ (c.getCsr 0x100).testBit 0 = true) := by
  simp only [CoreSt.levelOpen, Bool.false_eq_true, if_false, Bool.or_eq_true, Bool.and_eq_true, decide_eq_true_eq]

/-- The order: M event, M timer, S event, S timer. -/
theorem CoreSt.interrupt_eq : c.interrupt =
    if c.Pends 3 ∧ c.levelOpen true = true then some (4, true)
    else if c.Pends 2 ∧ c.levelOpen true = true then some (2, true)
    else if c.Pends 1 ∧ c.levelOpen false = true then some (3, false)
    else if c.Pends 0 ∧ c.levelOpen false = true then some (1, false)
    else none := by
  simp only [CoreSt.interrupt, CoreSt.Pends, Bool.and_eq_true]

end Interrupt

/-! ## What is taken (R260, R263, R266) -/

section Taken
variable {d : Dev} {n : Nat}

theorem Dev.interruptTaken_takes {code : Nat} {toM : Bool} (ha : d.coreActs n = true) (hd : (d.core n).deferredNow = none)
    (hi : (d.core n).interrupt = some (code, toM)) : d.interruptTaken n =
      (d.fresh.2.ntDrainAll n).setCore n (fun c => c.enter toM (d.core n).pc.toNat (2 ^ 63 + code) d.fresh.1.toNat 0) := by
  simp only [Dev.interruptTaken, ha, hd, hi, Bool.not_true, Option.isSome_none, Bool.or_self, Bool.false_eq_true, if_false]
  rfl

/-- No interrupt is open, or a deferred error goes first. -/
theorem Dev.interruptTaken_idle (h : (d.core n).interrupt = none ∨ (d.core n).deferredNow ≠ none) : d.interruptTaken n = d := by
  unfold Dev.interruptTaken
  split
  · rfl
  · next hn =>
    have hd : (d.core n).deferredNow = none := by simpa using (not_or.1 (mt Bool.or_eq_true_iff.2 hn)).2
    rw [h.resolve_right (not_not.2 hd)]

theorem Dev.deferredTaken_takes {e : Deferred} {toM : Bool} (ha : d.coreActs n = true) (hd : (d.core n).deferredNow = some (e, toM)) :
    d.deferredTaken n = ((d.setCore n (fun c => { c with deferred := none })).ntDrainAll n).setCore n
      (fun c => c.enter toM (d.core n).pc.toNat 0x18 e.addr (e.status * 2 ^ 48 + min e.merged 65535 * 2 ^ 32)) := by
  simp only [Dev.deferredTaken, ha, hd, Bool.not_true, Bool.false_eq_true, if_false]
  rfl

theorem Dev.timerExpiry_due {machine : Bool} (ha : d.coreActs n = true) (ht : (d.core n).getCsr (if machine then 0x30A else 0x10A) ≤ d.time) :
    d.timerExpiry n machine = d.setCore n (fun c => if machine then { c with timM := true } else { c with timS := true }) := by
  simp only [Dev.timerExpiry, ha, not_lt.2 ht, decide_false, Bool.not_true, Bool.or_self, Bool.false_eq_true, if_false]

end Taken

/-! ## Events (R264) -/

section Events
variable {d : Dev} {ev : Nat}

theorem Dev.eventDelivery_queues {n : Nat} (hn : n < 96) (hr : d.bit (rCrownEvroute ev) 31 = true) (hp : d.bit (rCrownEvroute ev) 30 = true)
    (hf : d.fld (rCrownEvroute ev) 6 0 = n) (ha : d.coreActs n = true) (hq : d.evQueued ev = false)
    (hroom : (if d.bit (rCrownEvroute ev) 29 then (d.core n).evqM else (d.core n).evqS).length < 32) :
    d.eventDelivery ev = d.setCore n (fun c =>
      if d.bit (rCrownEvroute ev) 29 then { c with evqM := c.evqM ++ [ev] } else { c with evqS := c.evqS ++ [ev] }) := by
  simp only [Dev.eventDelivery, hr, hp, hf, hn, ha, hq, hroom, decide_true, Bool.not_false, Bool.and_self, if_true]

/-- An event that stands in a queue, or is not pending. -/
theorem Dev.eventDelivery_idle (h : d.evQueued ev = true ∨ d.bit (rCrownEvroute ev) 30 = false) : d.eventDelivery ev = d := by
  rcases h with h | h <;>
    simp only [Dev.eventDelivery, h, Bool.not_true, Bool.and_false, Bool.false_and, Bool.false_eq_true, if_false]

end Events

/-! ## Out of service and back (R268, R269) -/

section Service
variable {d : Dev} {n : Nat}

theorem Dev.coreFailed_clean (ha : d.coreActs n = true) (hd : d.dirtyLines (10 + n) = []) : d.coreFailed n =
    (((d.setCache (10 + n) (fun _ => {})).coreLost n).setFld (rCorestat n) 2 0 4).error 0x10 (slotCulm (n / 48)) (n % 48) := by
  simp only [Dev.coreFailed, ha, hd, List.foldl_nil, if_true]

theorem Dev.coreOnline_goes (hs : d.coreState n = 2 ∨ d.coreState n = 4) (hh : d.bit (rCorestat n) 7 = false) :
    d.coreOnline n = (d.setCache (10 + n) (fun _ => {})).setFld (rCorestat n) 2 0 3 :=
  if_pos ⟨hs, by rw [hh]; rfl⟩

theorem Dev.coreOfflineDone_drained (hs : d.coreState n = 1) (ha : d.dieActive (slotCulm (n / 48)) = true) (hnt : (d.core n).nt = [])
    (hc : d.cache (10 + n) = {}) :
    d.coreOfflineDone n = ((d.coreLost n).setFld (rCorestat n) 2 0 2).addSat (rCorestat n) 15 8 1 := by
  simp only [Dev.coreOfflineDone, hs, ha, Dev.ntDrainAll_empty hnt, Dev.ntEmpty, hnt, hc, decide_true, Bool.and_self, List.isEmpty_nil,
    Bool.not_true, Bool.false_eq_true, List.map_nil, List.foldl_nil, if_true, if_false]

section Selftest
variable (hs : d.coreState n = 3) (ha : d.dieActive (slotCulm (n / 48)) = true)
include hs ha

theorem Dev.coreSelftestDone_passes : d.coreSelftestDone n true = d.coreStart n := by
  simp only [Dev.coreSelftestDone, hs, ha, decide_true, Bool.and_self, if_true]

theorem Dev.coreSelftestDone_fails : d.coreSelftestDone n false =
    if 3 ≤ ((d.setFld (rCorestat n) 2 0 4).addSat (rCorestat n) 31 24 1).fld (rCorestat n) 31 24
    then ((d.setFld (rCorestat n) 2 0 4).addSat (rCorestat n) 31 24 1).setBit (rCorestat n) 7 true
    else (d.setFld (rCorestat n) 2 0 4).addSat (rCorestat n) 31 24 1 := by
  simp only [Dev.coreSelftestDone, hs, ha, decide_true, Bool.and_self, if_true, Bool.false_eq_true, if_false]

end Selftest

/-- A core that starts at an address: its program counter and VECBASE_M. -/
def CoreSt.startedAt (v : Nat) : CoreSt := { pc := BitVec.ofNat 64 v, csr := [(0x304, BitVec.ofNat 64 v)] }

/-- R268, R271: a core that starts is ACTIVE, and its count of failures is 0. -/
theorem Dev.coreStart_starts (d : Dev) (n : Nat) :
    (d.coreStart n).coreState n = 0 ∧ (d.coreStart n).fld (rCorestat n) 31 24 = 0 ∧
      (d.coreStart n).core n = .startedAt (d.reg (rCulmRstvec (n / 48)) / 256 * 256 % 2 ^ 56) ∧
      (d.coreStart n).ms.mem = d.ms.mem := by
  refine ⟨?_, ?_, (d.coreLost n).core_setCore_same n (fun _ => .startedAt _), rfl⟩
  · exact (Dev.fld_setFld_other _ 0 (by norm_num) (.inl (by norm_num))).trans (Dev.fld_setFld_same _ (by norm_num))
  · exact Dev.fld_setFld_same _ (by norm_num)

end Service

end Sys2Proof.Machine

namespace Sys2Proof

open Sys2Proof.Machine

/-- Settles O38: the order of interrupts, what a core that executes takes, events, and the changes of a core's state. -/
theorem interruptsAndCoreStates : Obligations.InterruptsAndCoreStates := by
  unfold Obligations.InterruptsAndCoreStates
  intro s n hn
  have hwf : decide (n < 96) = true := decide_eq_true hn
  refine ⟨fun c => ⟨fun h3 ho => ?_, fun h3 h2 ho => ?_, fun h3 h2 h1 ho => ?_, fun h3 h2 h1 h0 ho => ?_, c.levelOpen_M, c.levelOpen_S⟩,
    fun ha => ⟨fun code toM hd hi => ⟨_, exec_leaves hwf (Dev.interruptTaken_takes ha hd hi)⟩,
      fun h => exec_keeps hwf (Dev.interruptTaken_idle h), fun e toM hd => exec_leaves hwf (Dev.deferredTaken_takes ha hd),
      fun ht => exec_leaves hwf (Dev.timerExpiry_due (machine := true) ha ht),
      fun ht => exec_leaves hwf (Dev.timerExpiry_due (machine := false) ha ht),
      fun hd => exec_leaves hwf (Dev.coreFailed_clean ha hd)⟩,
    fun ev hev => ?_, fun ev hev h => exec_keeps (decide_eq_true hev) (Dev.eventDelivery_idle h),
    fun hs => if_pos hs, fun hs hh => Dev.coreOnline_goes hs hh,
    fun ha => ⟨fun hs hnt hc => exec_leaves hwf (Dev.coreOfflineDone_drained hs ha hnt hc), fun hs => ?_,
      fun hs => exec_leaves hwf (Dev.coreSelftestDone_fails hs ha)⟩⟩
  · rw [c.interrupt_eq, if_pos ⟨h3, ho⟩]
  · rw [c.interrupt_eq, if_neg h3, if_pos ⟨h2, ho⟩]
  · rw [c.interrupt_eq, if_neg (mt And.left h3), if_neg (mt And.left h2), if_pos ⟨h1, ho⟩]
  · rw [c.interrupt_eq, if_neg (mt And.left h3), if_neg (mt And.left h2), if_neg (mt And.left h1), if_pos ⟨h0, ho⟩]
  · intro r hr hp hf ha hq
    have hqueues := Dev.eventDelivery_queues hn hr hp hf ha hq
    refine ⟨fun hM hroom => ?_, fun hM hroom => ?_⟩
    · simp only [show s.dev.bit (rCrownEvroute ev) 29 = true from hM, if_true] at hqueues
      exact exec_leaves (decide_eq_true hev) (hqueues hroom)
    · simp only [show s.dev.bit (rCrownEvroute ev) 29 = false from hM, Bool.false_eq_true, if_false] at hqueues
      exact exec_leaves (decide_eq_true hev) (hqueues hroom)
  · obtain ⟨hstate, hfails, hcore, hmem⟩ := s.dev.coreStart_starts n
    exact ⟨_, exec_leaves hwf (Dev.coreSelftestDone_passes hs ha), hstate, hfails, hcore, keepsMemory_of_eq hmem⟩

end Sys2Proof
end

section
/-! Lines that CWB, CFLUSH and CINV serve, and the combining buffer of a core that holds nothing (R101, R219, R235). -/

namespace Sys2Proof.Machine

open Sys2Proof

/-! ## Copies of a line (R219) -/

section Copies
variable (d : Dev) (line : Nat)

theorem Dev.modified_false_iff : d.modified line = false ↔ ∀ x ∈ d.ms.caches, ∀ l, x.2.lines.find line = some l → l.dirty = false := by
  rw [Dev.modified, List.any_eq_false]
  refine forall₂_congr fun x _ => ?_
  cases x.2.lines.find line <;> simp

theorem Dev.cached_dropCopies (k : Nat) : (d.dropCopies line (fun _ => true)).cached k line = none := by
  have h : (d.dropCopies line (fun _ => true)).cache k = { d.cache k with lines := (d.cache k).lines.del line } :=
    SMap.get_mapVals ({} : Cache) d.ms.caches (fun _ c => { c with lines := c.lines.del line }) k rfl
  rw [Dev.cached, h]
  exact SMap.find_del_same _ _

theorem Dev.modified_dropCopies : (d.dropCopies line (fun _ => true)).modified line = false := by
  refine (Dev.modified_false_iff _ _).2 fun x hx l hl => ?_
  obtain ⟨y, -, rfl⟩ := List.mem_map.1 hx
  exact absurd (hl.symm.trans (SMap.find_del_same y.2.lines line)) (Option.some_ne_none l)

theorem Dev.modified_writeHome : (d.writeHome line).modified line = false := by
  refine (Dev.modified_false_iff _ _).2 fun x hx l hl => ?_
  obtain ⟨y, -, rfl⟩ := List.mem_map.1 hx
  have hf := SMap.find_mapVals y.2.lines (fun l e => if l = line then { e with dirty := false } else e) line
  obtain ⟨e, -, rfl⟩ := Option.map_eq_some_iff.1 (hf.symm.trans hl)
  rw [if_pos rfl]

theorem Dev.modified_recall (drop : Bool) : (d.recall line drop).modified line = false := by
  cases drop with
  | true => exact Dev.modified_dropCopies _ _
  | false =>
    by_cases hm : d.modified line = true
    · simpa only [Dev.recall, hm, if_true, Bool.false_eq_true, if_false] using d.modified_writeHome line
    · simp only [Dev.recall, hm, Bool.false_eq_true, if_false]

/-- CINV: memory is what the home holds of a line that a cache has modified. -/
theorem Dev.discardLine_mem (hl : line * 128 < 0x9000000000) : (d.discardLine line).ms.mem =
    match d.ms.stale.find line with
    | some v => d.ms.mem.writeN (line * 128) (leBytes 128 v.toNat)
    | none => d.ms.mem := by
  unfold Dev.discardLine
  cases d.ms.stale.find line with
  | none => rfl
  | some v => simp only [d.place_hbm hl]; rfl

theorem Dev.discardLine_core (n : Nat) : (d.discardLine line).core n = d.core n := by
  unfold Dev.discardLine
  cases d.ms.stale.find line <;> rfl

/-- The line is dropped, whatever memory then is. -/
theorem Dev.discardLine_drops : ∃ e : Dev, d.discardLine line = e.dropCopies line (fun _ => true) := ⟨_, rfl⟩

end Copies

/-! ## Maintenance of a line (R101) -/

section Maintenance
variable (d : Dev) (op : CacheOp) (line : Nat)

/-- Cores lose a reservation at most. -/
theorem Dev.core_cacheLine (n : Nat) : ∃ r, (d.cacheLine op line).core n = { d.core n with resv := r } := by
  have hcore : ∀ x : Dev, x.core n = d.core n → ∃ r, (x.clearResv line).core n = { d.core n with resv := r } := fun x hx => by
    rw [← hx]
    exact x.core_clearResv line none none n
  have hrecall : ∀ drop, (d.recall line drop).core n = d.core n := fun drop => by
    simp only [Dev.core, (d.only_recall line drop).cores]
  cases op with
  | cwb => exact hcore _ (hrecall false)
  | cflush => exact hcore _ (hrecall true)
  | cinv => exact hcore _ (d.discardLine_core line n)

theorem Dev.modified_cacheLine : (d.cacheLine op line).modified line = false := by
  cases op with
  | cwb => exact d.modified_recall line false
  | cflush => exact d.modified_recall line true
  | cinv =>
    obtain ⟨e, he⟩ := d.discardLine_drops line
    exact (congrArg (fun x : Dev => x.modified line) he).trans (e.modified_dropCopies line)

/-- CFLUSH and CINV leave no copy. -/
theorem Dev.cached_cacheLine (h : op ≠ .cwb) (k : Nat) : (d.cacheLine op line).cached k line = none := by
  cases op with
  | cwb => exact absurd rfl h
  | cflush => exact Dev.cached_dropCopies _ _ _
  | cinv =>
    obtain ⟨e, he⟩ := d.discardLine_drops line
    exact (congrArg (fun x : Dev => x.cached k line) he).trans (e.cached_dropCopies line k)

/-- Memory stays, unless CINV discards what a cache holds modified. -/
theorem Dev.mem_cacheLine (hl : line * 128 < 0x9000000000) (h : op ≠ .cinv ∨ d.ms.stale.find line = none) :
    (d.cacheLine op line).ms.mem = d.ms.mem := by
  cases op with
  | cwb => exact (d.only_recall line false).mem
  | cflush => exact (d.only_recall line true).mem
  | cinv =>
    refine (d.discardLine_mem line hl).trans ?_
    rw [h.resolve_left (not_not.2 rfl)]

/-- The bytes of other lines stay. -/
theorem Dev.mem_cacheLine_other (hl : line * 128 < 0x9000000000) {b : Nat} (hb : b / 128 ≠ line) :
    (d.cacheLine op line).ms.mem.read b = d.ms.mem.read b := by
  by_cases h : op ≠ .cinv ∨ d.ms.stale.find line = none
  · rw [d.mem_cacheLine op line hl h]
  · obtain ⟨hop, hst⟩ := not_or.1 h
    obtain ⟨v, hv⟩ := Option.ne_none_iff_exists'.1 hst
    obtain rfl := not_not.1 hop
    have hmem : (d.cacheLine .cinv line).ms.mem = d.ms.mem.writeN (line * 128) (leBytes 128 v.toNat) :=
      (d.discardLine_mem line hl).trans (by rw [hv])
    rw [hmem, Memory.read_writeN_other (by rw [length_leBytes]; omega)]

end Maintenance

/-! ## A combining buffer that is empty (R235) -/

section Buffer
variable {d : Dev} {n : Nat}

theorem Dev.ntDrain_none {p : NtEntry → Bool} (h : ∀ e ∈ (d.core n).nt, p e = false) : d.ntDrain n p = d :=
  foldl_fixed_mem fun e he => if_neg (by rw [h e he]; exact Bool.false_ne_true)

theorem Dev.ntForce_empty (h : (d.core n).nt = []) (p : NtEntry → Bool) : d.ntForce n p = some d := by
  have hd : d.ntDrain n p = d := Dev.ntDrain_none (by simp [h])
  simp only [Dev.ntForce, hd, h, List.any_nil, Bool.false_eq_true, if_false]

/-- Fewer bytes than a line do not cover it. -/
theorem NtEntry.mask_put_ne (line ctx o : Nat) {l : List Byte} (hl : l.length < 128) :
    (NtEntry.put ⟨line, ctx, 0, 0⟩ o l).mask ≠ BitVec.allOnes 128 := fun h => by
  obtain ⟨i, hi, hout⟩ : ∃ i < 128, ¬ (o ≤ i ∧ i < o + l.length) := by
    rcases Nat.eq_zero_or_pos o with rfl | ho
    · exact ⟨l.length, hl, by omega⟩
    · exact ⟨0, by norm_num, by omega⟩
  have hbit := NtEntry.mask_put ⟨line, ctx, 0, 0⟩ o l hi
  rw [h, BitVec.getLsbD_allOnes, decide_eq_true hi, decide_eq_false hout, Bool.or_false] at hbit
  exact absurd (hbit.trans BitVec.getLsbD_zero) (by decide)

/-- R235: bytes put into an empty buffer make its one entry. -/
theorem Dev.ntPut_first (h : (d.core n).nt = []) (ctx line o : Nat) {l : List Byte} (hl : l.length < 128) : d.ntPut n ctx line o l =
    some (d.setCore n (fun c => { c with resv := c.resv.filter (fun r => r.addr / 128 != line), nt := [NtEntry.put ⟨line, ctx, 0, 0⟩ o l] })) := by
  have hfull : ((NtEntry.put ⟨line, ctx, 0, 0⟩ o l).mask == BitVec.allOnes 128) = false := beq_eq_false_iff_ne.2 (NtEntry.mask_put_ne line ctx o hl)
  have hroom : ((d.setCore n (fun c => { c with resv := c.resv.filter (fun r => r.addr / 128 != line) })).core n).nt = [] := by
    rw [Dev.core_setCore_same]
    exact h
  simp only [Dev.ntPut, Dev.ntForce_empty hroom, hroom, List.any_nil, List.length_nil, Nat.ofNat_pos, decide_true, Bool.or_true, if_true,
    Bool.false_eq_true, if_false, Option.map_some, Dev.setCore_setCore]
  rw [Dev.ntDrain_none (fun e he => ?_), Dev.setCore_congr]
  · simp only [h, List.nil_append]
  · simp only [Dev.core_setCore_same, h, List.nil_append, List.mem_singleton] at he
    rw [he, hfull, Bool.and_false]

end Buffer

end Sys2Proof.Machine
end

section
/-! System instructions, barriers, cache maintenance, STN and AMO.FADD of a core (R97, R98, R101 to R103, R235, R238, R259, R264, R266, R271). -/

namespace Sys2Proof.Machine

open Sys2Proof

section Retires
variable {s : State} {n lvl : Nat} {i : Instr} {bad : Bool} {badL : Option Nat} {f : Nat → Dev → CEnd × Dev}
  {fL : Nat → Dev → LEnd × Dev}

/-- A legal instruction of any level that leaves the part `e`: the core goes on at the next word. -/
theorem exec_coreRetires (h : CoreRuns s n lvl) (hw : i.wf = (Agent.core n).wf) (hd : does i s.dev = s.dev.ghety i (.core n) lvl bad f badL fL)
    {e : Dev} (hb : bad = false) (hf : f n s.dev = (.next, e)) :
    exec i s = .next (leaves s (e.setCore n (fun c => { c with pc := c.pc + 4, retired := c.retired + 1 }))) := by
  subst hb
  have hl : decide ((s.dev.core n).level < lvl) = false := by simpa using h.2.2
  rw [exec_onCore h hw hd]
  simp only [Dev.onCore, h.2.1, hl, hf, Bool.not_true, Bool.or_self, Bool.false_eq_true, if_false, Dev.coreRetire, ofNat_toNat_add]
  exact congrArg (fun d => Host.Outcome.next (leaves s d)) (Dev.setCore_congr rfl)

end Retires

/-! ## System registers that are read (R103, R264, R266, R271) -/

section Reads
variable {d e : Dev} {n lvl v : Nat} {w : Bool}

/-- CSRRS with RA = 0 reads alone, also what software does not write. -/
theorem Dev.csrCore_reads {f : SysF} (hk : csrKind f.csr.toNat = some (lvl, w)) (hl : lvl ≤ (d.core n).level) (hra : f.ra = 0)
    (hr : d.csrRead n f.csr.toNat = (v, e)) : d.csrCore .rs f n = (.next, e.putX n f.rd.toNat (BitVec.ofNat 64 v)) := by
  have hw' : (CsrOp.rs == .rw || f.ra != 0) = false := by simp [hra]
  simp only [Dev.csrCore, hk, hw', hr, decide_eq_false (not_lt.2 hl), Bool.false_and, Bool.or_self, Bool.false_eq_true, if_false]

/-- EVCLAIM of the level a core runs at. -/
theorem Dev.csrCore_evclaim (rd : BitVec 5) (hl : (d.core n).level = 1 ∨ (d.core n).level = 3)
    (hr : d.evclaim n (decide ((d.core n).level = 3)) = (v, e)) :
    d.csrCore .rs ⟨if (d.core n).level = 3 then 0x30B else 0x10B, 0, rd⟩ n = (.next, e.putX n rd.toNat (BitVec.ofNat 64 v)) := by
  rcases hl with hl | hl <;> simp only [hl] at hr ⊢
  · exact Dev.csrCore_reads (lvl := 1) (w := false) rfl hl.ge rfl hr
  · exact Dev.csrCore_reads (lvl := 3) (w := false) rfl hl.ge rfl hr

theorem Dev.evclaim_empty {toM : Bool} (h : (if toM then (d.core n).evqM else (d.core n).evqS) = []) : d.evclaim n toM = (0, d) := by
  simp only [Dev.evclaim, h]

theorem Dev.evclaim_oldest {toM : Bool} {ev : Nat} {r : List Nat} (h : (if toM then (d.core n).evqM else (d.core n).evqS) = ev :: r) :
    d.evclaim n toM = (2 ^ 31 + ev, (d.setCore n (fun c => if toM then { c with evqM := r } else { c with evqS := r })).setBit
      (rCrownEvroute ev) 30 false) := by
  simp only [Dev.evclaim, h]

end Reads

section Sys
variable {s : State} {n : Nat} {rd : BitVec 5} (h : CoreRuns s n 1)
include h

/-- A register that software does not write reads with CSRRS. -/
theorem exec_csrrs_reads {csr : BitVec 12} {lvl v : Nat} (hk : csrKind csr.toNat = some (lvl, false)) (hl : lvl ≤ 1)
    (hr : s.dev.csrRead n csr.toNat = (v, s.dev)) :
    exec (.csrrs (.core n) ⟨csr, 0, rd⟩) s = .next (coreDoes s n (fun c => c.setX rd.toNat (BitVec.ofNat 64 v))) :=
  exec_coreDoes (lvl := 0) ⟨h.1, h.2.1, Nat.zero_le _⟩ rfl
    (show does _ s.dev = s.dev.ghety _ (.core n) 0 false (fun n d => d.csrCore .rs ⟨csr, 0, rd⟩ n) none (fun k d => d.csrLane .rs ⟨csr, 0, rd⟩ k) from rfl)
    rfl (Dev.csrCore_reads hk (hl.trans h.2.2) rfl hr) rfl (by simp) (by simp)

variable (hl : (s.dev.core n).level = 1 ∨ (s.dev.core n).level = 3)
include hl

theorem exec_evclaim {e : Dev} {v : Nat} (hr : s.dev.evclaim n (decide ((s.dev.core n).level = 3)) = (v, e)) :
    exec (.evclaimRead (.core n) rd) s = .next (leaves s ((e.putX n rd.toNat (BitVec.ofNat 64 v)).setCore n
      (fun c => { c with pc := c.pc + 4, retired := c.retired + 1 }))) :=
  exec_coreRetires h rfl (show does _ s.dev = s.dev.evclaimRead _ (.core n) rd from rfl) rfl (Dev.csrCore_evclaim rd hl hr)

/-- R264: an empty queue reads 0. -/
theorem exec_evclaim_empty (hq : (if (s.dev.core n).level = 3 then (s.dev.core n).evqM else (s.dev.core n).evqS) = []) :
    exec (.evclaimRead (.core n) rd) s = .next (coreDoes s n (fun c => c.setX rd.toNat 0)) := by
  rw [exec_evclaim h hl (Dev.evclaim_empty (by simpa using hq))]
  simp only [Dev.putX, Dev.setCore_setCore, leaves, coreDoes]
  rw [Dev.setCore_congr]
  simp

/-- R264: the oldest event leaves its queue, and its PEND is clear. -/
theorem exec_evclaim_oldest {ev : Nat} {r : List Nat}
    (hq : (if (s.dev.core n).level = 3 then (s.dev.core n).evqM else (s.dev.core n).evqS) = ev :: r) :
    ∃ t, exec (.evclaimRead (.core n) rd) s = .next t ∧ t.dev.bit (rCrownEvroute ev) 30 = false ∧
      (∀ r, r ≠ rCrownEvroute ev → t.dev.reg r = s.dev.reg r) ∧ t.dev.ms = s.dev.ms ∧
      t.dev.core n = { (if (s.dev.core n).level = 3 then { s.dev.core n with evqM := r } else { s.dev.core n with evqS := r } : CoreSt).setX rd.toNat
        (BitVec.ofNat 64 (2 ^ 31 + ev)) with pc := (s.dev.core n).pc + 4, retired := (s.dev.core n).retired + 1 } := by
  refine ⟨_, exec_evclaim h hl (Dev.evclaim_oldest (by simpa using hq)), Dev.bit_setBit_same _ (by norm_num) false,
    fun r hr => Dev.reg_setFld_other _ _ _ _ hr.symm, rfl, ?_⟩
  have hcore : ∀ x : Dev, (x.setBit (rCrownEvroute ev) 30 false).core n = x.core n := fun _ => rfl
  simp only [leaves, Dev.putX, Dev.core_setCore_same, hcore, decide_eq_true_eq, CoreSt.setX_pc, CoreSt.setX_retired]
  split <;> rfl

end Sys

/-! ## Barriers (R97, R238) -/

section Barriers
variable {d : Dev} {n : Nat} (hnt : (d.core n).nt = []) (hfab : d.fabStores (· == .core n) = [])
include hfab

theorem Dev.coreSyncS_quiet : Dev.coreSyncS n d = (.next, d.setCore n (fun c => { c with fence := [] })) := by
  rw [Dev.coreSyncS, hfab]

include hnt

theorem Dev.coreSync_quiet : Dev.coreSync n d = (.next, d.setCore n (fun c => { c with fence := [] })) := by
  simp only [Dev.coreSync, Dev.ntDrainAll_empty hnt, Dev.coreQuiet, Dev.ntEmpty, hnt, hfab, List.isEmpty_nil, Bool.and_self, if_true]

end Barriers

/-! ## Cache maintenance (R101) -/

section Maintenance
variable {s : State} {n pa a ctx lvl : Nat} {na : Bool} {f : CacheF} {e : Dev} {op : CacheOp} {i : Instr} {badL : Option Nat}
  {fL : Nat → Dev → LEnd × Dev}

theorem Dev.coreCache_hbm {d : Dev} (hx : d.coreXlt n (d.x n f.ra.toNat + f.imm.signExtend 64).toNat (.line (op == .cinv)) = (.ok (.hbm pa) a ctx na, e))
    (hv : d.verdict (.hbm pa) ctx (op == .cinv) = .pass) : OnlyTlb d e ∧ Dev.coreCache op f n d = (.next, e.cacheLine op (pa / 128)) := by
  have ht := d.coreXlt_onlyTlb n (d.x n f.ra.toNat + f.imm.signExtend 64).toNat (.line (op == .cinv))
  rw [hx] at ht
  obtain ⟨t, rfl⟩ := ht
  have hv' : Dev.verdict { d with ms := { d.ms with tlb := t } } (.hbm pa) ctx (Acc3.line (op == .cinv)).stores = .pass := hv
  refine ⟨⟨t, rfl⟩, ?_⟩
  simp only [Dev.coreCache, Dev.coreMap, hx, reduceCtorEq, if_false, Home.key, hv']

/-- CWB, CFLUSH or CINV of a line of HBM that passes. -/
theorem exec_coreCache (h : CoreRuns s n lvl) (hw : i.wf = (Agent.core n).wf)
    (hd : does i s.dev = s.dev.ghety i (.core n) lvl false (Dev.coreCache op f) badL fL)
    (hx : s.dev.coreXlt n (s.dev.x n f.ra.toNat + f.imm.signExtend 64).toNat (.line (op == .cinv)) = (.ok (.hbm pa) a ctx na, e))
    (hpa : pa < 0x9000000000) (hv : s.dev.verdict (.hbm pa) ctx (op == .cinv) = .pass) :
    ∃ t, exec i s = .next t ∧ (t.dev.core n).pc = (s.dev.core n).pc + 4 ∧ (t.dev.core n).x = (s.dev.core n).x ∧
      ((op == .cinv) = false ∨ s.dev.ms.stale.find (pa / 128) = none → KeepsMemory s t (fun _ => False)) ∧
      KeepsMemory s t (fun b => b / 128 = pa / 128) ∧
      (op ≠ .cwb → ∀ k, (t.dev.cache k).lines.find (pa / 128) = none) ∧ t.dev.modified (pa / 128) = false := by
  obtain ⟨⟨tlb, rfl⟩, hc⟩ := Dev.coreCache_hbm hx hv
  have hline : pa / 128 * 128 < 0x9000000000 := by omega
  obtain ⟨r, hr⟩ := Dev.core_cacheLine { s.dev with ms := { s.dev.ms with tlb := tlb } } op (pa / 128) n
  refine ⟨_, exec_coreRetires h hw hd rfl hc, ?_, ?_, fun hop => keepsMemory_of_eq (Dev.mem_cacheLine _ op _ hline ?_),
    fun b hb => Dev.mem_cacheLine_other _ op _ hline hb, fun hop k => Dev.cached_cacheLine _ op _ hop k, Dev.modified_cacheLine _ op _⟩
  · simp only [leaves, Dev.core_setCore_same, hr]; rfl
  · simp only [leaves, Dev.core_setCore_same, hr]; rfl
  · exact hop.imp_left fun h => by simpa using h

/-- CPREF changes caches alone, whatever the address. -/
theorem Dev.prefetch_only (d : Dev) (k ctx : Nat) (h : Home) (na : Bool) : OnlyCaches d (d.prefetch k ctx h na) := by
  unfold Dev.prefetch
  cases h.key with
  | none => exact .refl d
  | some pa => exact OnlyCaches.ite (d.only_sharedLoad _ _ _) (.refl d)

theorem Dev.corePref_only (d : Dev) (f : CacheF) (n : Nat) : ∃ e, OnlyCaches d e ∧ Dev.corePref f n d = (.next, e) := by
  refine ⟨_, OnlyCaches.ite (.refl d) ?_, rfl⟩
  cases (d.core n).mapOf (d.x n f.ra.toNat + f.imm.signExtend 64).toNat with
  | perm => exact .refl d
  | phys => exact d.prefetch_only _ _ _ _
  | tables root ctx =>
    dsimp only
    cases d.tlbFind (32 + n) ctx (d.x n f.ra.toNat + f.imm.signExtend 64).toNat with
    | none => exact .refl d
    | some l => exact OnlyCaches.ite (d.prefetch_only _ _ _ _) (.refl d)

theorem exec_corePref (h : CoreRuns s n 0) : ∃ t, exec (.cpref (.core n) f) s = .next t ∧ KeepsMemory s t (fun _ => False) ∧
    t.dev.core n = { s.dev.core n with pc := (s.dev.core n).pc + 4, retired := (s.dev.core n).retired + 1 } := by
  obtain ⟨e, he, hf⟩ := s.dev.corePref_only f n
  have hcore : e.core n = s.dev.core n := by simp only [Dev.core, he.cores]
  have hd : does (.cpref (.core n) f) s.dev = s.dev.ghety (.cpref (.core n) f) (.core n) 0 false (Dev.corePref f) (basePair f.ra) (Dev.lanePref f) := rfl
  refine ⟨_, exec_coreKeeps h rfl hd rfl hf hcore, keepsMemory_of_eq he.mem, ?_⟩
  simp only [coreDoes, leaves, Dev.core_setCore_same, hcore, id]

end Maintenance

/-! ## STN (R97, R235) -/

section Stn
variable {s : State} {n pa a ctx : Nat} {na : Bool} {f : IF} {e : Dev}

/-- An aligned STN to HBM by a core whose buffer is empty. -/
theorem Dev.coreStn_hbm {d : Dev} (hal : d.coreAddr n f % 8 = 0) (hx : d.coreXlt n (d.coreAddr n f) .write = (.ok (.hbm pa) a ctx na, e))
    (hnt : (d.core n).nt = []) : OnlyTlb d e ∧ Dev.coreStn f n d = (.next, e.setCore n (fun c =>
      { c with resv := c.resv.filter (fun r => r.addr / 128 != pa / 128),
               nt := [NtEntry.put ⟨pa / 128, ctx, 0, 0⟩ (a % 128) (leBytes 8 ((d.core n).getX f.rd.toNat).toNat)] })) := by
  have ht := d.coreXlt_onlyTlb n (d.coreAddr n f) .write
  rw [hx] at ht
  obtain ⟨t, rfl⟩ := ht
  refine ⟨⟨t, rfl⟩, ?_⟩
  have hp : part (leBytes 8 (d.x n f.rd.toNat).toNat) (d.coreAddr n f) (d.coreAddr n f) 8 = leBytes 8 ((d.core n).getX f.rd.toNat).toNat := by
    simp [part, Dev.x]
  have hput := Dev.ntPut_first (d := { d with ms := { d.ms with tlb := t } }) (n := n) hnt ctx (pa / 128) (a % 128)
    (l := leBytes 8 ((d.core n).getX f.rd.toNat).toNat) (by rw [length_leBytes]; norm_num)
  simp only [Dev.coreStn, corePieces, hal, if_true, Dev.coreStoreMap, Dev.coreMap, hx, reduceCtorEq, if_false, hp, List.foldl_cons, List.foldl_nil,
    Home.ntLine, hput]

theorem exec_coreStn (h : CoreRuns s n 0) (hal : s.dev.coreAddr n f % 8 = 0)
    (hx : s.dev.coreXlt n (s.dev.coreAddr n f) .write = (.ok (.hbm pa) a ctx na, e)) (hnt : (s.dev.core n).nt = []) :
    ∃ t, exec (.stn (.core n) f) s = .next t ∧ KeepsMemory s t (fun _ => False) ∧ (t.dev.core n).x = (s.dev.core n).x ∧
      (t.dev.core n).pc = (s.dev.core n).pc + 4 ∧
      (t.dev.core n).nt = [NtEntry.put ⟨pa / 128, ctx, 0, 0⟩ (a % 128) (leBytes 8 ((s.dev.core n).getX f.rd.toNat).toNat)] := by
  obtain ⟨⟨tlb, rfl⟩, hs⟩ := Dev.coreStn_hbm hal hx hnt
  have hd : does (.stn (.core n) f) s.dev = s.dev.ghety (.stn (.core n) f) (.core n) 0 false (Dev.coreStn f) (basePair f.ra) (Dev.laneSt 4 true f) := rfl
  refine ⟨_, exec_coreRetires h rfl hd rfl hs, keepsMemory_of_eq rfl, ?_⟩
  simp only [leaves, Dev.core_setCore_same, and_true]
  exact ⟨rfl, rfl⟩

end Stn

end Sys2Proof.Machine

namespace Sys2Proof

open Sys2Proof.Machine

/-- Settles O16: system instructions and registers, then barriers, cache maintenance, STN and AMO.FADD. -/
theorem coreEventsAndBarriers : Obligations.CoreEventsAndBarriers := by
  unfold Obligations.CoreEventsAndBarriers
  refine ⟨fun s n h => ⟨?_, fun ra => ?_, fun rd hl hq => exec_evclaim_empty h hl hq, fun rd ev r hl hq => exec_evclaim_oldest h hl hq,
      fun rd => exec_csrrs_reads h (csr := 0x010) (lvl := 0) rfl (by norm_num) rfl,
      fun rd => exec_csrrs_reads h (csr := 0x102) (lvl := 1) rfl (by norm_num) rfl, fun rd => ?_⟩,
    fun s n h => ⟨fun hnt hfab => ⟨?_, ?_, ?_⟩, ?_, fun f pa a ctx na e i drop hi hx hpa hv => ?_, fun f => exec_corePref h,
      fun f pa a ctx na e hal hx _ hnt => exec_coreStn h hal hx hnt, fun f pa a ctx na e hfn hw64 hal hx hpa hv hb hnt hfence hfab => ?_⟩⟩
  · have hd : does (.wfi (.core n) ⟨0, 0, 0⟩) s.dev = s.dev.onlyC _ (.core n) 1 (sysUsed ⟨0, 0, 0⟩) (fun _ d => (.next, d)) := rfl
    exact exec_coreKeeps h rfl (hd.trans (Dev.onlyC_eq ..)) rfl rfl rfl
  · have hd : does (.tlbi (.core n) ⟨0, ra, 0⟩) s.dev = s.dev.onlyC _ (.core n) 1 false
        (fun n d => (.next, d.tlbi n (if ra = 0 then none else some (d.x n ra.toNat).toNat))) := rfl
    exact exec_coreKeeps h rfl (hd.trans (Dev.onlyC_eq ..)) rfl rfl rfl
  · have hd : does (.timeloRead (.core n) rd) s.dev = s.dev.csr _ (.core n) .rs ⟨8, 0, rd⟩ := rfl
    exact exec_csr_illegal (lvl := 0) ⟨h.1, h.2.1, Nat.zero_le _⟩ rfl hd (.inl rfl)
  · have hd : does (.sync (.core n) ⟨0, 0, 0, 0⟩) s.dev = s.dev.barrier _ (.core n) ⟨0, 0, 0, 0⟩ Dev.coreSync Dev.laneSync := rfl
    exact exec_coreDoes h rfl hd rfl (Dev.coreSync_quiet hnt hfab) rfl rfl rfl
  · have hd : does (.syncD (.core n) ⟨0, 0, 0, 0⟩) s.dev = s.dev.barrier _ (.core n) ⟨0, 0, 0, 0⟩ Dev.coreSync Dev.laneSync := rfl
    exact exec_coreDoes h rfl hd rfl (Dev.coreSync_quiet hnt hfab) rfl rfl rfl
  · have hd : does (.syncS (.core n) ⟨0, 0, 0, 0⟩) s.dev = s.dev.barrier _ (.core n) ⟨0, 0, 0, 0⟩ Dev.coreSyncS Dev.laneSyncS := rfl
    exact exec_coreDoes h rfl hd rfl (Dev.coreSyncS_quiet hfab) rfl rfl rfl
  · have hd : does (.syncL (.core n) ⟨0, 0, 0, 0⟩) s.dev =
        s.dev.barrier _ (.core n) ⟨0, 0, 0, 0⟩ (fun _ d => (.next, d)) (fun _ d => (.next, d)) := rfl
    exact exec_coreKeeps h rfl hd rfl rfl rfl
  · rcases hi with hi | ⟨rfl, rfl, hl⟩
    · simp only [List.mem_cons, Prod.mk.injEq, List.not_mem_nil, or_false] at hi
      rcases hi with ⟨rfl, rfl⟩ | ⟨rfl, rfl⟩
      · obtain ⟨t, he, hpc, hx', hkeep, hline, -, hmod⟩ := exec_coreCache (op := .cwb) (i := .cwb (.core n) f) (badL := basePair f.ra) (fL := Dev.laneCache .cwb f) h rfl rfl hx hpa hv
        exact ⟨t, he, hpc, hx', hkeep, hline, fun hne => absurd rfl hne, hmod⟩
      · obtain ⟨t, he, hpc, hx', hkeep, hline, hdrop, hmod⟩ := exec_coreCache (op := .cflush) (i := .cflush (.core n) f) (badL := basePair f.ra) (fL := Dev.laneCache .cflush f) h rfl rfl hx hpa hv
        exact ⟨t, he, hpc, hx', hkeep, hline, fun _ => hdrop nofun, hmod⟩
    · have hd : does (.cinv (.core n) f) s.dev = s.dev.onlyC _ (.core n) 1 false (Dev.coreCache .cinv f) := rfl
      obtain ⟨t, he, hpc, hx', hkeep, hline, hdrop, hmod⟩ :=
        exec_coreCache (op := .cinv) ⟨h.1, h.2.1, hl⟩ rfl (hd.trans (Dev.onlyC_eq ..)) hx hpa hv
      exact ⟨t, he, hpc, hx', hkeep, hline, fun _ => hdrop nofun, hmod⟩
  · have hw : amoWidth f = 4 := by rw [amoWidth, hw64]; rfl
    have hbad : ((AmoOp.fadd == .fadd && f.fn2.getLsbD 0) || decide (7 < f.fn2.toNat)) = false := by
      rw [hw64, Bool.and_false, Bool.false_or]
      exact decide_eq_false (by omega)
    obtain ⟨e', r, -, hmem, he⟩ := exec_coreAmo (op := .fadd) (i := .amoFadd (.core n) f) h rfl (by rw [hw]; exact hal) hpa hnt hfence hfab rfl hbad hx hv
      (by rw [hw]; exact hb)
    rw [hw] at hmem
    obtain ⟨hread, hkeep⟩ := Memory.readN_stored (new := some _) hmem
    exact ⟨_, he, hread, hkeep⟩

end Sys2Proof
end

section
/-! Queues and runs under their updates, and a flow command that stands as current (R284, R286, R296). -/

namespace Sys2Proof.Machine

open Sys2Proof

/-! ## Queues -/

theorem Dev.find_setQueue (d : Dev) (q : Nat) (f : Queue → Queue) : (d.setQueue q f).cp.queues.find q = (d.cp.queues.find q).map f :=
  SMap.find_adj_same _ _ _

theorem Dev.queueUsed_setQueue (d : Dev) (q p : Nat) (f : Queue → Queue) : (d.setQueue q f).queueUsed p = d.queueUsed p := by
  by_cases h : q = p
  · subst h
    simp only [Dev.queueUsed, Dev.find_setQueue, Option.isSome_map]
  · exact congrArg Option.isSome (SMap.find_adj_other _ f h)

theorem Dev.find_of_used {d : Dev} {q : Nat} (h : d.queueUsed q = true) : d.cp.queues.find q = some (d.queue q) := by
  have hsome : (d.cp.queues.find q).isSome = true := h
  obtain ⟨x, hx⟩ := Option.isSome_iff_exists.1 hsome
  simp only [Dev.queue, SMap.get, hx, Option.getD_some]

/-- A queue that is not FREE takes an update. -/
theorem Dev.queue_setQueue {d : Dev} {q : Nat} (h : d.queueUsed q = true) (f : Queue → Queue) : (d.setQueue q f).queue q = f (d.queue q) := by
  have hfind : (d.setQueue q f).cp.queues.find q = some (f (d.queue q)) := by rw [Dev.find_setQueue, Dev.find_of_used h, Option.map_some]
  exact congrArg (fun o => o.getD {}) hfind

theorem Dev.queueUsed_of_cur {d : Dev} {q : Nat} {c : Cmd} (h : (d.queue q).cur = some c) : d.queueUsed q = true := by
  cases hx : d.cp.queues.find q with
  | none => simp [Dev.queue, SMap.get, hx] at h
  | some x => simp only [Dev.queueUsed, hx, Option.isSome_some]

/-- A queue whose flow command is over, with what its signals cover then. -/
def Queue.flowOver (x : Queue) (span spanErrs : List Nat) (sigs : List Sig) : Queue :=
  { x with cur := none, span := span, spanErrs := spanErrs, sigs := sigs }

/-- R296: the queue once a flow command has ended well. -/
theorem Dev.queue_flowDone {d : Dev} {q : Nat} (h : d.queueUsed q = true) (c : Cmd) :
    (d.flowDone q c).queueUsed q = true ∧
      ∃ sp se sg, (d.flowDone q c).queue q = (d.queue q).flowOver sp se sg := by
  have hcur : (d.setQueue q (fun x => { x with cur := none })).queueUsed q = true := by rw [Dev.queueUsed_setQueue, h]
  refine ⟨by simp only [Dev.flowDone, Dev.uncover, Dev.queueUsed_setQueue, h], ?_⟩
  rw [Dev.flowDone, Dev.uncover, Dev.queue_setQueue hcur, Dev.queue_setQueue h]
  exact ⟨_, _, _, rfl⟩

/-- The queue once a flow command has ended well and has had its effect. -/
theorem Dev.queue_flowDone_setQueue {d : Dev} {q : Nat} (h : d.queueUsed q = true) (c : Cmd) (f : Queue → Queue) :
    ∃ sp se sg, ((d.flowDone q c).setQueue q f).queue q = f ((d.queue q).flowOver sp se sg) := by
  obtain ⟨hused, sp, se, sg, hq⟩ := Dev.queue_flowDone h c
  exact ⟨sp, se, sg, by rw [Dev.queue_setQueue hused, hq]⟩

/-! ## Checks (R286) -/

theorem firstBad_cons {a : Chk} {l : List Chk} : firstBad (a :: l) = none ↔ a = none ∧ firstBad l = none := by
  cases a <;> simp [firstBad]

theorem badIf_none {b : Bool} {i : Nat} : badIf b i = none ↔ b = false := by cases b <;> simp [badIf]

/-! ## A flow command that stands as current -/

section Flow
variable {d : Dev} {q op : Nat} {c : Cmd} (hcur : (d.queue q).cur = some c)
include hcur

theorem Dev.flow_other (hop : c.op ≠ op) (f : Dev → Cmd → Dev) : d.flow q op f = d := by
  simp only [Dev.flow, hcur, hop, false_and, if_false]

variable (hrun : d.cpRuns = true) (hheld : d.faultHeld (.cmd c.rid) = false) (hop : c.op = op)
include hrun hheld hop

theorem Dev.flow_takes (f : Dev → Cmd → Dev) : d.flow q op f = f d c := by
  simp [Dev.flow, hcur, hop, hrun, hheld]

/-- R286: the first check that fails ends the command. -/
theorem Dev.flowChecked_bad {bad : Dev → Cmd → Chk} {st : Status} {i : Nat} (hbad : bad d c = some (st, i)) (f : Dev → Cmd → Dev) :
    d.flowChecked q op bad f = d.flowError q c st i := by
  rw [Dev.flowChecked, Dev.flow_takes hcur hrun hheld hop, hbad]

theorem Dev.flowChecked_good {bad : Dev → Cmd → Chk} (hbad : bad d c = none) (f : Dev → Cmd → Dev) : d.flowChecked q op bad f = f d c := by
  rw [Dev.flowChecked, Dev.flow_takes hcur hrun hheld hop, hbad]

end Flow

/-- Command i is the flow command of queue q with this opcode, whose checks are `bad`. -/
def FlowCommand (i : Instr) (q op : Nat) (bad : Dev → Cmd → Chk) : Prop :=
  i.wf = decide (q < 2 ^ 20) ∧ ∃ f, ∀ d, does i d = d.flowChecked q op bad f

section Rows
variable (q : Nat)

theorem flowCommand_nop : FlowCommand (.nop q) q 0 (fun _ c => c.zeros 2 16) := ⟨rfl, _, fun _ => rfl⟩
theorem flowCommand_fenceWait : FlowCommand (.fenceWait q) q 1 (fun _ c => fenceWaitBad c) := ⟨rfl, _, fun _ => rfl⟩
theorem flowCommand_fenceSignal : FlowCommand (.fenceSignal q) q 2 (fun _ c => fenceSignalBad c) := ⟨rfl, _, fun _ => rfl⟩
theorem flowCommand_cond : FlowCommand (.cond q) q 3 (fun _ c => condBad c) := ⟨rfl, _, fun _ => rfl⟩
theorem flowCommand_loop : FlowCommand (.loop q) q 4 (fun d c => loopBad (d.queue q) c) := ⟨rfl, _, fun _ => rfl⟩
theorem flowCommand_jump : FlowCommand (.jump q) q 5 (fun _ c => bufBad c) := ⟨rfl, _, fun _ => rfl⟩
theorem flowCommand_call : FlowCommand (.call q) q 6 (fun d c => firstBad [bufBad c, badIf (decide (8 ≤ (d.queue q).stack.length)) 0xFFFF]) :=
  ⟨rfl, _, fun _ => rfl⟩
theorem flowCommand_retCmd : FlowCommand (.retCmd q) q 7 (fun _ c => c.zeros 2 16) := ⟨rfl, _, fun _ => rfl⟩
theorem flowCommand_paramSet : FlowCommand (.paramSet q) q 8 (fun _ c => paramBad c) := ⟨rfl, _, fun _ => rfl⟩
theorem flowCommand_paramLoad : FlowCommand (.paramLoad q) q 8 (fun _ c => paramBad c) := ⟨rfl, _, fun _ => rfl⟩
theorem flowCommand_paramAdd : FlowCommand (.paramAdd q) q 8 (fun _ c => paramBad c) := ⟨rfl, _, fun _ => rfl⟩
theorem flowCommand_patch : FlowCommand (.patch q) q 9 (fun _ c => patchBad c) := ⟨rfl, _, fun _ => rfl⟩

end Rows

section Command
variable {i : Instr} {q op : Nat} {bad : Dev → Cmd → Chk} {s : State} {c : Cmd} (hi : FlowCommand i q op bad) (hq : q < 2 ^ 20)
  (hcur : (s.dev.queue q).cur = some c)
include hi hq hcur

/-- A command of another opcode is not touched. -/
theorem FlowCommand.other (hop : c.op ≠ op) : exec i s = .next s := by
  obtain ⟨hwf, f, hf⟩ := hi
  exact exec_keeps (hwf.trans (decide_eq_true hq)) ((hf s.dev).trans (Dev.flow_other hcur hop _))

theorem FlowCommand.fails (hrun : s.dev.cpRuns = true) (hheld : s.dev.faultHeld (.cmd c.rid) = false) {st : Status} {n : Nat} (hop : c.op = op)
    (hbad : bad s.dev c = some (st, n)) : exec i s = .next (leaves s (s.dev.flowError q c st n)) := by
  obtain ⟨hwf, f, hf⟩ := hi
  exact exec_leaves (hwf.trans (decide_eq_true hq)) ((hf s.dev).trans (Dev.flowChecked_bad hcur hrun hheld hop hbad _))

end Command

end Sys2Proof.Machine
end

section
/-! What each flow command does once its checks pass (R288 to R293). -/

namespace Sys2Proof.Machine

open Sys2Proof

/-! ## The place in the stream and the parameters (R288 to R290, R292) -/

/-- R288: the comparisons of COND. -/
theorem condHolds_iff {o a b : Nat} (ho : o ≤ 5) :
    condHolds o a b = true ↔ (o = 0 ∧ a = b) ∨ (o = 1 ∧ a ≠ b) ∨ (o = 2 ∧ b ≤ a) ∨ (o = 3 ∧ a < b) ∨ (o = 4 ∧ b < a) ∨ (o = 5 ∧ a ≤ b) := by
  interval_cases o <;> simp [condHolds]

theorem condBad_op {c : Cmd} (h : condBad c = none) : c.f 2 31 29 ≤ 5 := by
  have hfields := badIf_none.1 (firstBad_cons.1 h).1
  simp only [Bool.or_eq_false_iff, decide_eq_false_iff_not] at hfields
  omega

theorem Queue.param_setParam_same (x : Queue) {i : Nat} (hi : i < 8) (v : Nat) : (x.setParam i v).param i = v % 2 ^ 64 := by
  simp [Queue.param, Queue.setParam, List.getD, hi]

theorem Queue.param_setParam_other (x : Queue) {i k : Nat} (hk : k < 8) (hne : k ≠ i) (v : Nat) : (x.setParam i v).param k = x.param k := by
  simp [Queue.param, Queue.setParam, List.getD, hk, hne]

/-! ## PATCH (R293) -/

section Patch
variable {t r : Nat} (ht : t < 16) (hr : r < 8)
include ht hr

/-- The fields of an entry of a PATCH whose bit 27 is w. -/
theorem patchEntry_fields (w : Bool) :
    bitsOf (t * 2 ^ 28 + w.toNat * 2 ^ 27 + r * 2 ^ 24) 31 28 = t ∧ bitsOf (t * 2 ^ 28 + w.toNat * 2 ^ 27 + r * 2 ^ 24) 26 24 = r ∧
      (t * 2 ^ 28 + w.toNat * 2 ^ 27 + r * 2 ^ 24).testBit 27 = w := by
  simp only [bitsOf_eq, Nat.testBit_eq_decide_div_mod_eq]
  cases w
  · simp only [Bool.toNat_false, decide_eq_false_iff_not]
    omega
  · simp only [Bool.toNat_true, decide_eq_true_eq]
    omega

variable {x : Queue} {p ws : List (BitVec 32)} (hn : bitsOf (p.getD 2 0).toNat 3 0 = 1)
include hn

/-- R293: one entry of a PATCH puts a parameter register, or all 64 bits of it, at its target. -/
theorem applyPatch_one {w : Bool} (he : (p.getD 3 0).toNat = t * 2 ^ 28 + w.toNat * 2 ^ 27 + r * 2 ^ 24) :
    applyPatch x p ws =
      if w then (ws.set t (BitVec.ofNat 32 (x.param r))).set (t + 1) (BitVec.ofNat 32 (x.param r / 2 ^ 32)) else ws.set t (BitVec.ofNat 32 (x.param r)) := by
  obtain ⟨htarget, hreg, hwide⟩ := patchEntry_fields ht hr w
  simp only [applyPatch, hn, List.range_one, List.foldl_cons, List.foldl_nil, Nat.add_zero, he, htarget, hreg, hwide]

end Patch

/-! ## Reads of memory -/

theorem Dev.flowRead_ok {d e : Dev} {q va n : Nat} {c : Cmd} {l : List Byte} (h : d.readV (whoFlow q c) va n = (.ok, l, false, e)) (f : Dev → Nat → Dev) :
    d.flowRead q c va n f = f (e.fabDone (whoFlow q c).waiter) (ofLe l) := by
  simp only [Dev.flowRead, h, Bool.false_eq_true, if_false]

/-! ## Fences (R294, R297) -/

theorem Dev.resolve_onlyTlb (d : Dev) (w : Who) (va : Nat) (a : Acc3) : OnlyTlb d (d.resolve w va a).2.2.2 := by
  have h : OnlyTlb d (d.translate w.tlb w.ctx va a).2 := d.translateBy_onlyTlb _ _ _ _ _
  unfold Dev.resolve
  generalize d.translate w.tlb w.ctx va a = r at h
  obtain ⟨r, e⟩ := r
  cases r <;> exact h

/-- R294: a fence that is read opens no fault. -/
theorem Dev.fenceRead_value {d f : Dev} {q v : Nat} {c : Cmd} {write : Bool} {h : Home} (hr : d.fenceRead q c write = (.value v, h, f)) :
    OnlyTlb d f := by
  have htlb := d.resolve_onlyTlb (whoFlow q c) (c.dw 4) (if write then .atomic else .read)
  unfold Dev.fenceRead at hr
  dsimp only at hr
  generalize d.resolve (whoFlow q c) (c.dw 4) (if write then .atomic else .read) = x at hr htlb
  obtain ⟨a, home, na, e⟩ := x
  cases a with
  | ok =>
    dsimp only at hr
    split at hr
    · cases hr
    · split at hr
      · cases hr
      · cases hr
      · split at hr
        · cases hr
        · cases hr
          exact htlb
  | fault | fail | wait => cases hr

/-- R294: what the value of a fence does to a wait: an error ends it, a value that is reached ends it well. -/
def Dev.fenceMet (d : Dev) (q : Nat) (c : Cmd) (v : Nat) : Dev :=
  if v.testBit 63 && !(c.w 2).testBit 31 then d.waitError q .fenceError
  else if decide (c.dw 6 ≤ v % 2 ^ 63) then (d.setQueue q (fun x => { x with wait := none })).uncover q c.rid false
  else d

theorem Dev.fenceEval_value {d f : Dev} {q v : Nat} {w : WaitSt} {h : Home} (hw : (d.queue q).wait = some w) (hrun : d.cpRuns = true)
    (hheld : d.faultHeld (.cmd w.cmd.rid) = false) (hr : d.fenceRead q w.cmd false = (.value v, h, f)) : d.fenceEval q = f.fenceMet q w.cmd v := by
  simp only [Dev.fenceEval, hw, hrun, hheld, hr, Bool.not_true, Bool.or_self, Bool.false_eq_true, if_false]
  rfl

section Met
variable {d : Dev} {q v : Nat} {c : Cmd}

theorem Dev.fenceMet_error (hv : v.testBit 63 = true) (hc : (c.w 2).testBit 31 = false) : d.fenceMet q c v = d.waitError q .fenceError := by
  simp [Dev.fenceMet, hv, hc]

variable (hv : v.testBit 63 = false ∨ (c.w 2).testBit 31 = true)
include hv

theorem Dev.fenceMet_reached (h : c.dw 6 ≤ v % 2 ^ 63) :
    d.fenceMet q c v = (d.setQueue q (fun x => { x with wait := none })).uncover q c.rid false := by
  have hgood : (v.testBit 63 && !(c.w 2).testBit 31) = false := by obtain hv | hv := hv <;> simp [hv]
  simp only [Dev.fenceMet, hgood, Bool.false_eq_true, if_false, decide_eq_true h, if_true]

theorem Dev.fenceMet_open (h : v % 2 ^ 63 < c.dw 6) : d.fenceMet q c v = d := by
  have hgood : (v.testBit 63 && !(c.w 2).testBit 31) = false := by obtain hv | hv := hv <;> simp [hv]
  simp only [Dev.fenceMet, hgood, Bool.false_eq_true, if_false, decide_eq_false (Nat.not_le.2 h)]

end Met

/-- An update that clears a queue's wait leaves it none, the queue FREE or not. -/
theorem Dev.wait_cleared (d : Dev) (q : Nat) {f : Queue → Queue} (hf : ∀ x, (f x).wait = none) : ((d.setQueue q f).queue q).wait = none := by
  simp only [Dev.queue, SMap.get, Dev.find_setQueue]
  cases d.cp.queues.find q with
  | none => rfl
  | some x => exact hf x

/-- An update that keeps the wait of a queue that has none. -/
theorem Dev.wait_setQueue {d : Dev} {q : Nat} {f : Queue → Queue} (hw : (d.queue q).wait = none) (hf : ∀ x, x.wait = none → (f x).wait = none) :
    ((d.setQueue q f).queue q).wait = none := by
  simp only [Dev.queue, SMap.get, Dev.find_setQueue] at hw ⊢
  cases h : d.cp.queues.find q with
  | none => rfl
  | some x =>
    rw [h] at hw
    exact hf x hw

theorem Dev.wait_uncover {d : Dev} {q : Nat} (r : Nat) (err : Bool) (hw : (d.queue q).wait = none) : ((d.uncover q r err).queue q).wait = none :=
  Dev.wait_setQueue hw fun _ hx => hx

theorem Dev.wait_haltQueue {d : Dev} {q : Nat} (h : HaltSt) (hw : (d.queue q).wait = none) : ((d.haltQueue q h).queue q).wait = none :=
  Dev.wait_setQueue hw fun x hx => by
    split
    · exact hx
    · exact hx

theorem Dev.wait_flowError {d : Dev} {q : Nat} (c : Cmd) (st : Status) (i : Nat) (hw : (d.queue q).wait = none) :
    ((d.flowError q c st i).queue q).wait = none :=
  Dev.wait_setQueue (Dev.wait_haltQueue (d := d.newEntry q c st.code i) (.cmd c) hw) fun _ hx => hx

/-- R294: a wait that ends in an error is over. -/
theorem Dev.wait_waitError (d : Dev) (q : Nat) (st : Status) : ((d.waitError q st).queue q).wait = none := by
  unfold Dev.waitError
  split
  case h_1 h => exact h
  case h_2 => exact Dev.wait_flowError _ _ _ (d.wait_cleared q fun _ => rfl)

/-- R337: a wait that is over closes no cycle. -/
theorem Dev.waitError_over {d : Dev} {q : Nat} (st : Status) (h : (d.queue q).wait = none) : d.waitError q st = d := by
  simp only [Dev.waitError, h]

/-- The part in which a FENCE_WAIT has been reached (R294, R295). -/
def Dev.waiting (d : Dev) (q : Nat) (c : Cmd) : Dev :=
  d.setQueue q (fun x => { x with cur := none, wait := some { cmd := c, watched := decide (d.watched < 65536) } })

/-- R337: a wait that blocks ends in an error when it closes a cycle. -/
def Dev.cycleChecked (d : Dev) (q : Nat) (c : Cmd) : Dev :=
  if (d.queue q).wait.isSome && !d.faultHeld (.cmd c.rid) && d.deadlocked q then d.waitError q .deadlock else d

theorem Dev.cycleChecked_over {d : Dev} {q : Nat} {c : Cmd} (h : (d.queue q).wait = none) : d.cycleChecked q c = d := by
  simp [Dev.cycleChecked, h]

theorem Dev.cycleChecked_blocked {d : Dev} {q : Nat} {c : Cmd} (hheld : d.faultHeld (.cmd c.rid) = false) :
    d.cycleChecked q c = if d.deadlocked q then d.waitError q .deadlock else d := by
  cases hw : (d.queue q).wait with
  | none => rw [Dev.cycleChecked_over hw, Dev.waitError_over _ hw, ite_self]
  | some w => simp [Dev.cycleChecked, hw, hheld]

section FenceWait
variable {d f : Dev} {q v : Nat} {c : Cmd} {h : Home} (hcur : (d.queue q).cur = some c) (hrun : d.cpRuns = true)
  (hheld : d.faultHeld (.cmd c.rid) = false) (hop : c.op = 1) (hbad : fenceWaitBad c = none) (hread : (d.waiting q c).fenceRead q c false = (.value v, h, f))
include hcur hrun hheld hop hbad hread

/-- R294: a FENCE_WAIT that is reached is evaluated at once. -/
theorem Dev.flowFenceWait_evaluates : d.flowFenceWait q = (f.fenceMet q c v).cycleChecked q c := by
  have hwait : ((d.waiting q c).queue q).wait = some { cmd := c, watched := decide (d.watched < 65536) } := by
    rw [Dev.waiting, Dev.queue_setQueue (Dev.queueUsed_of_cur hcur)]
  have hruns : (d.waiting q c).cpRuns = true := hrun
  have hfree : (d.waiting q c).faultHeld (.cmd c.rid) = false := hheld
  have heval : (d.waiting q c).fenceEval q = f.fenceMet q c v :=
    Dev.fenceEval_value (w := { cmd := c, watched := decide (d.watched < 65536) }) hwait hruns hfree hread
  calc d.flowFenceWait q = ((d.waiting q c).fenceEval q).cycleChecked q c :=
        Dev.flowChecked_good (bad := fun _ c => fenceWaitBad c) hcur hrun hheld hop hbad _
    _ = (f.fenceMet q c v).cycleChecked q c := by rw [heval]

theorem Dev.flowFenceWait_error (hv : v.testBit 63 = true) (hc : (c.w 2).testBit 31 = false) : d.flowFenceWait q = f.waitError q .fenceError := by
  rw [Dev.flowFenceWait_evaluates hcur hrun hheld hop hbad hread, Dev.fenceMet_error hv hc, Dev.cycleChecked_over (f.wait_waitError q _)]

variable (hv : v.testBit 63 = false ∨ (c.w 2).testBit 31 = true)
include hv

theorem Dev.flowFenceWait_reached (hle : c.dw 6 ≤ v % 2 ^ 63) :
    d.flowFenceWait q = (f.setQueue q (fun x => { x with wait := none })).uncover q c.rid false := by
  rw [Dev.flowFenceWait_evaluates hcur hrun hheld hop hbad hread, Dev.fenceMet_reached hv hle,
    Dev.cycleChecked_over (Dev.wait_uncover c.rid false (f.wait_cleared q fun _ => rfl))]

theorem Dev.flowFenceWait_blocks (hlt : v % 2 ^ 63 < c.dw 6) : d.flowFenceWait q = if f.deadlocked q then f.waitError q .deadlock else f := by
  have hfree : f.faultHeld (.cmd c.rid) = false := by
    obtain ⟨t, rfl⟩ := Dev.fenceRead_value hread
    exact hheld
  rw [Dev.flowFenceWait_evaluates hcur hrun hheld hop hbad hread, Dev.fenceMet_open hv hlt, Dev.cycleChecked_blocked hfree]

end FenceWait

/-- R296: what a signal that is reached leaves of its queue. -/
theorem Queue.pushSig_joins (x : Queue) (c : Cmd) : (x.pushSig c false).cur = none ∧
    if (c.w 2).testBit 29 then (x.pushSig c false).sigs = x.sigs ++ [{ cmd := c, covers := [], errs := [], nowait := true }] ∧ (x.pushSig c false).span = x.span
    else (x.pushSig c false).sigs = x.sigs ++ [{ cmd := c, covers := x.span.filter (· != c.rid), errs := x.spanErrs, nowait := false }] ∧
      (x.pushSig c false).span = [] := by
  cases h : (c.w 2).testBit 29 <;> simp [Queue.pushSig, h]

end Sys2Proof.Machine
end

section
/-! The flow commands as commands of the part, and their statement (R286 to R296). -/

namespace Sys2Proof.Machine

open Sys2Proof

/-- R289: LOOP in an indirect buffer. -/
def Queue.takeLoop (c : Cmd) (x : Queue) : Queue :=
  match x.place with
  | .ring => x
  | .buf t len i =>
    if c.w 3 = 0 then { x with place := .buf t len (i + c.f 2 15 0) }
    else { x with loops := { depth := x.stack.length, first := i, body := c.f 2 15 0, preg := c.f 2 30 28, count := c.w 3, i := 0, start := c.dw 4,
                             step := c.dw 6 } :: x.loops }.setParam (c.f 2 30 28) (c.dw 4)

/-- R290: CALL. -/
def Queue.takeCall (c : Cmd) (x : Queue) : Queue :=
  { x with place := .buf (c.dw 4) (c.w 3) 0, stack := x.place :: x.stack, outerSeq := if x.place = .ring then c.seq else x.outerSeq }

section Taken
variable {x : Queue} {c : Cmd} {t len i : Nat} (hp : x.place = .buf t len i)
include hp

theorem Queue.takeLoop_passes (h : c.w 3 = 0) : x.takeLoop c = { x with place := .buf t len (i + c.f 2 15 0) } := by
  simp only [Queue.takeLoop, hp, h, if_true]

theorem Queue.takeLoop_enters (h : 0 < c.w 3) : x.takeLoop c =
    { x with loops := { depth := x.stack.length, first := i, body := c.f 2 15 0, preg := c.f 2 30 28, count := c.w 3, i := 0, start := c.dw 4,
                        step := c.dw 6 } :: x.loops }.setParam (c.f 2 30 28) (c.dw 4) := by
  simp only [Queue.takeLoop, hp, Nat.ne_of_gt h, if_false]

end Taken

theorem Queue.pop_nested {x : Queue} {p : Place} {rest : List Place} (h : x.stack = p :: rest) :
    x.pop = { x with place := p, stack := rest, loops := x.loops.filter (fun l => decide (l.depth ≤ rest.length)) } := by
  simp only [Queue.pop, h]

theorem Queue.pop_empty {x : Queue} (h : x.stack = []) : x.pop = { x with place := .ring } := by
  simp only [Queue.pop, h]

section Effects
variable {d : Dev} {q : Nat} {c : Cmd} (hcur : (d.queue q).cur = some c) (hrun : d.cpRuns = true) (hheld : d.faultHeld (.cmd c.rid) = false)
include hcur hrun hheld

theorem Dev.flowNop_done (hop : c.op = 0) (hbad : c.zeros 2 16 = none) : d.flowNop q = d.flowDone q c :=
  Dev.flowChecked_good (bad := fun _ c => c.zeros 2 16) hcur hrun hheld hop hbad _

theorem Dev.flowJump_goes (hop : c.op = 5) (hbad : bufBad c = none) :
    d.flowJump q = (d.flowDone q c).setQueue q (fun x => { x with place := .buf (c.dw 4) (c.w 3) 0 }) :=
  Dev.flowChecked_good (bad := fun _ c => bufBad c) hcur hrun hheld hop hbad _

theorem Dev.flowReturn_pops (hop : c.op = 7) (hbad : c.zeros 2 16 = none) : d.flowReturn q = (d.flowDone q c).setQueue q Queue.pop :=
  Dev.flowChecked_good (bad := fun _ c => c.zeros 2 16) hcur hrun hheld hop hbad _

theorem Dev.flowPatch_waits (hop : c.op = 9) (hbad : patchBad c = none) :
    d.flowPatch q = d.setQueue q (fun x => { x with cur := none, patch := some c }) :=
  Dev.flowChecked_good (bad := fun _ c => patchBad c) hcur hrun hheld hop hbad _

theorem Dev.flowFenceSignal_joins (hop : c.op = 2) (hbad : fenceSignalBad c = none) :
    d.flowFenceSignal q = d.setQueue q (fun x => x.pushSig c false) :=
  Dev.flowChecked_good (bad := fun _ c => fenceSignalBad c) hcur hrun hheld hop hbad _

/-- R288: COND goes on, or skips its slots. -/
theorem Dev.flowCond_compares {n : Nat} {l : List Byte} {e : Dev} (hop : c.op = 3) (hbad : condBad c = none)
    (hn : (if (c.w 2).testBit 28 then 8 else 4) = n) (hread : d.readV (whoFlow q c) (c.dw 4) n = (.ok, l, false, e)) :
    d.flowCond q = if condHolds (c.f 2 31 29) (ofLe l &&& (c.dw 8 % 2 ^ (8 * n))) (c.dw 6 % 2 ^ (8 * n)) then
        (e.fabDone (whoFlow q c).waiter).flowDone q c
      else ((e.fabDone (whoFlow q c).waiter).flowDone q c).setQueue q (fun x => x.skipSlots (c.f 2 15 0)) := by
  subst hn
  exact (Dev.flowChecked_good hcur hrun hheld hop hbad _).trans (Dev.flowRead_ok hread _)

theorem Dev.flowLoop_takes (hop : c.op = 4) (hbad : loopBad (d.queue q) c = none) : d.flowLoop q = (d.flowDone q c).setQueue q (Queue.takeLoop c) :=
  Dev.flowChecked_good (bad := fun d c => loopBad (d.queue q) c) hcur hrun hheld hop hbad _

theorem Dev.flowCall_takes (hop : c.op = 6) (hbad : bufBad c = none) (hroom : (d.queue q).stack.length < 8) :
    d.flowCall q = (d.flowDone q c).setQueue q (Queue.takeCall c) := by
  have hfull : decide (8 ≤ (d.queue q).stack.length) = false := decide_eq_false (Nat.not_le.2 hroom)
  refine Dev.flowChecked_good hcur hrun hheld hop ?_ _
  exact firstBad_cons.2 ⟨hbad, firstBad_cons.2 ⟨badIf_none.2 hfull, rfl⟩⟩

/-- R292: PARAM of the operation its row names. -/
theorem Dev.flowParam_acts {op : Nat} (hop : c.op = 8) (hbad : paramBad c = none) (hrow : c.f 2 31 30 = op) : d.flowParam q op =
    if op = 0 then (d.flowDone q c).setQueue q (fun x => x.setParam (c.f 2 29 27) (c.dw 6))
    else if op = 2 then (d.flowDone q c).setQueue q (fun x => x.setParam (c.f 2 29 27) (x.param (c.f 2 29 27) + c.dw 6))
    else d.flowRead q c (c.dw 4) 8 (fun d v => (d.flowDone q c).setQueue q (fun x => x.setParam (c.f 2 29 27) v)) := by
  subst hrow
  rw [Dev.flowParam, Dev.flow_takes hcur hrun hheld hop, hbad]
  simp only [bne_self_eq_false, Bool.false_eq_true, if_false]

end Effects

section Taken
variable {i : Instr} {s : State} {q : Nat} {c : Cmd} {f : Queue → Queue} (hwf : i.wf = true) (hused : s.dev.queueUsed q = true)
  (hdoes : does i s.dev = (s.dev.flowDone q c).setQueue q f)
include hwf hused hdoes

/-- A flow command that ends well and updates its queue. -/
theorem exec_flowDone_setQueue : ∃ u sp se sg, exec i s = .next u ∧ KeepsMemory s u (fun _ => False) ∧
    u.dev.queue q = f ((s.dev.queue q).flowOver sp se sg) := by
  obtain ⟨sp, se, sg, hx⟩ := Dev.queue_flowDone_setQueue hused c f
  exact ⟨_, sp, se, sg, exec_leaves hwf hdoes, keepsMemory_of_eq rfl, hx⟩

/-- R292: a parameter register takes a value; the others, and memory, stay. -/
theorem exec_param {n v : Nat} (hn : n < 8) (hf : ∀ x, x.params = (s.dev.queue q).params → f x = x.setParam n v) :
    ∃ u, exec i s = .next u ∧ (u.dev.queue q).param n = v % 2 ^ 64 ∧ (∀ k, k < 8 → k ≠ n → (u.dev.queue q).param k = (s.dev.queue q).param k) ∧
      (u.dev.queue q).cur = none ∧ KeepsMemory s u (fun _ => False) := by
  obtain ⟨u, sp, se, sg, hu, hkeep, hx⟩ := exec_flowDone_setQueue hwf hused hdoes
  rw [hf ((s.dev.queue q).flowOver sp se sg) rfl] at hx
  refine ⟨u, hu, ?_, fun k hk hne => ?_, ?_, hkeep⟩
  · rw [hx, Queue.param_setParam_same _ hn]
  · rw [hx, Queue.param_setParam_other _ hk hne]
    rfl
  · rw [hx]
    rfl

end Taken

end Sys2Proof.Machine

namespace Sys2Proof

open Sys2Proof.Machine

/-- Settles O48: each flow command by its checks, then by its effect on the queue it stands in. -/
theorem flowCommands : Obligations.FlowCommands := by
  unfold Obligations.FlowCommands
  refine ⟨fun s q c hq hcur hrun hheld => ?_, fun x p ws t r _ ht hr _ hn => ⟨fun he => ?_, fun he => ?_⟩⟩
  · have hwf : decide (q < 2 ^ 20) = true := decide_eq_true hq
    have hused := Dev.queueUsed_of_cur hcur
    dsimp only
    simp only [List.forall_mem_cons]
    refine ⟨⟨(flowCommand_nop q).other hq hcur, (flowCommand_fenceWait q).other hq hcur, (flowCommand_fenceSignal q).other hq hcur,
        (flowCommand_cond q).other hq hcur, (flowCommand_loop q).other hq hcur, (flowCommand_jump q).other hq hcur, (flowCommand_call q).other hq hcur,
        (flowCommand_retCmd q).other hq hcur, (flowCommand_paramSet q).other hq hcur, (flowCommand_paramLoad q).other hq hcur,
        (flowCommand_paramAdd q).other hq hcur, (flowCommand_patch q).other hq hcur, fun _ h => absurd h List.not_mem_nil⟩,
      ⟨fun _ _ => (flowCommand_nop q).fails hq hcur hrun hheld, fun _ _ => (flowCommand_fenceWait q).fails hq hcur hrun hheld,
        fun _ _ => (flowCommand_fenceSignal q).fails hq hcur hrun hheld, fun _ _ => (flowCommand_cond q).fails hq hcur hrun hheld,
        fun _ _ => (flowCommand_loop q).fails hq hcur hrun hheld, fun _ _ => (flowCommand_jump q).fails hq hcur hrun hheld,
        fun _ _ => (flowCommand_call q).fails hq hcur hrun hheld, fun _ _ => (flowCommand_retCmd q).fails hq hcur hrun hheld,
        fun _ _ => (flowCommand_paramSet q).fails hq hcur hrun hheld, fun _ _ => (flowCommand_paramLoad q).fails hq hcur hrun hheld,
        fun _ _ => (flowCommand_paramAdd q).fails hq hcur hrun hheld, fun _ _ => (flowCommand_patch q).fails hq hcur hrun hheld,
        fun _ h => absurd h List.not_mem_nil⟩,
      fun hop hbad => exec_leaves hwf (Dev.flowNop_done hcur hrun hheld hop hbad), fun hop hbad l e hread => ?_,
      fun t len i hop hbad hp => ⟨fun hzero => ?_, fun hpos => ?_⟩,
      fun hop hbad => exec_leaves hwf (Dev.flowJump_goes hcur hrun hheld hop hbad), fun hop hbad hroom => ?_,
      fun p rest hop hbad hstack => ?_, fun hop hbad hstack => ?_, fun hop hbad => ?_,
      fun hop hbad => exec_leaves hwf (Dev.flowPatch_waits hcur hrun hheld hop hbad), fun hop hbad v h f hread => ?_, fun hop hbad => ?_⟩
    · have hcond := Dev.flowCond_compares hcur hrun hheld hop hbad rfl hread
      refine ⟨fun hholds => exec_leaves hwf (hcond.trans (if_pos ?_)), fun hfails => exec_leaves hwf (hcond.trans (if_neg ?_))⟩
      · exact (condHolds_iff (condBad_op hbad)).2 hholds
      · exact fun h => hfails ((condHolds_iff (condBad_op hbad)).1 h)
    · obtain ⟨u, sp, se, sg, hu, -, hx⟩ := exec_flowDone_setQueue (i := .loop q) hwf hused (Dev.flowLoop_takes hcur hrun hheld hop hbad)
      rw [Queue.takeLoop_passes (by exact hp) hzero] at hx
      exact ⟨u, hu, by rw [hx]; exact ⟨rfl, rfl, rfl⟩⟩
    · obtain ⟨u, sp, se, sg, hu, -, hx⟩ := exec_flowDone_setQueue (i := .loop q) hwf hused (Dev.flowLoop_takes hcur hrun hheld hop hbad)
      rw [Queue.takeLoop_enters (by exact hp) hpos] at hx
      refine ⟨u, hu, ?_⟩
      rw [hx]
      exact ⟨rfl, rfl, rfl, Queue.param_setParam_same _ (bitsOf_lt _ 30 28) _⟩
    · obtain ⟨u, sp, se, sg, hu, -, hx⟩ := exec_flowDone_setQueue (i := .call q) hwf hused (Dev.flowCall_takes hcur hrun hheld hop hbad hroom)
      exact ⟨u, hu, by rw [hx]; exact ⟨rfl, rfl, rfl, rfl⟩⟩
    · obtain ⟨u, sp, se, sg, hu, -, hx⟩ := exec_flowDone_setQueue (i := .retCmd q) hwf hused (Dev.flowReturn_pops hcur hrun hheld hop hbad)
      rw [Queue.pop_nested (by exact hstack)] at hx
      exact ⟨u, hu, by rw [hx]; exact ⟨rfl, rfl, rfl, rfl⟩⟩
    · obtain ⟨u, sp, se, sg, hu, -, hx⟩ := exec_flowDone_setQueue (i := .retCmd q) hwf hused (Dev.flowReturn_pops hcur hrun hheld hop hbad)
      rw [Queue.pop_empty (by exact hstack)] at hx
      exact ⟨u, hu, by rw [hx]; exact ⟨rfl, rfl⟩⟩
    · have hreg : c.f 2 29 27 < 8 := bitsOf_lt _ 29 27
      refine ⟨fun hrow => ?_, fun hrow => ?_, fun hrow l e hread => exec_leaves hwf ?_⟩
      · exact exec_param (i := .paramSet q) hwf hused (Dev.flowParam_acts hcur hrun hheld hop hbad hrow) hreg fun _ _ => rfl
      · refine exec_param (i := .paramAdd q) hwf hused (Dev.flowParam_acts hcur hrun hheld hop hbad hrow) hreg fun x hx => ?_
        rw [Queue.param, hx]
        rfl
      · have hload := Dev.flowParam_acts hcur hrun hheld hop hbad hrow
        rw [if_neg (by decide), if_neg (by decide)] at hload
        exact hload.trans (Dev.flowRead_ok hread _)
    · refine ⟨fun hv hc => exec_leaves hwf (Dev.flowFenceWait_error hcur hrun hheld hop hbad hread hv hc), fun hv => ⟨fun hle => ?_, fun hlt => ?_⟩⟩
      · exact exec_leaves hwf (Dev.flowFenceWait_reached hcur hrun hheld hop hbad hread hv hle)
      · exact exec_leaves hwf (Dev.flowFenceWait_blocks hcur hrun hheld hop hbad hread hv hlt)
    · obtain ⟨hnone, hjoins⟩ := Queue.pushSig_joins (s.dev.queue q) c
      have hx := Dev.queue_setQueue hused fun x => x.pushSig c false
      refine ⟨_, exec_leaves hwf (Dev.flowFenceSignal_joins hcur hrun hheld hop hbad), keepsMemory_of_eq rfl, ?_⟩
      rw [leaves, hx]
      exact ⟨hnone, hjoins⟩
  · exact applyPatch_one ht hr hn (w := false) (by simpa using he)
  · exact applyPatch_one ht hr hn (w := true) (by simpa using he)

end Sys2Proof
end

section
/-! Management commands of queues and completion queues (R285, R301 to R303). -/

namespace Sys2Proof.Machine

open Sys2Proof

/-! ## Runs that end well (R285, R308) -/

/-- From s to t run r has ended with this status, and memory has not changed. -/
def EndsRun (s t : State) (r : Nat) (st : Option Nat) : Prop :=
  KeepsMemory s t (fun _ => False) ∧ ∃ u, t.dev.run? r = some u ∧ u.done = true ∧ u.status = st ∧ u.fin = s.dev.time

/-- R285: a run that ends with SUCCESS halts no queue. -/
theorem Dev.endRun_success {d : Dev} {r : Nat} {v : Run} (hr : d.run? r = some v) (hst : v.status = none) :
    (d.endRun r).cp.queues = d.cp.queues ∧ (d.endRun r).cp.cqs = d.cp.cqs := by
  simp only [Dev.endRun, hr, hst, Option.getD_none, bne_self_eq_false, Bool.false_and, Bool.false_eq_true, if_false]
  split
  · exact ⟨rfl, rfl⟩
  · exact ⟨rfl, rfl⟩

/-- A command whose run ends well at once. -/
theorem exec_ends {i : Instr} {s : State} {e : Dev} {r : Nat} {u : Run} (hwf : i.wf = true) (hdoes : does i s.dev = e.endRun r)
    (hu : e.run? r = some u) (hd : u.done = false) (hst : u.status = none) (hms : e.ms = s.dev.ms) (ht : e.time = s.dev.time) :
    ∃ t, exec i s = .next t ∧ EndsRun s t r none ∧ t.dev.cp.queues = e.cp.queues ∧ t.dev.cp.cqs = e.cp.cqs := by
  obtain ⟨hqueues, hcqs⟩ := Dev.endRun_success hu hst
  have hmem : (e.endRun r).ms = s.dev.ms := (e.endRun_ms r).trans hms
  exact ⟨_, exec_leaves hwf hdoes, ⟨keepsMemory_of_eq (congrArg MemSys.mem hmem), _, Dev.run_endRun_eq hu hd, rfl, hst, ht⟩, hqueues, hcqs⟩

/-! ## The form of a management command -/

section Manage
variable {d : Dev} {r op : Nat} {v : Run} (hr : d.run? r = some v)
include hr

theorem Dev.manage_over (h : v.cmd.op ≠ op ∨ v.began = true) (bad : Dev → Cmd → Chk) (f : Dev → Run → Dev) : d.manage r op bad f = d := by
  simp only [Dev.manage, hr]
  rw [if_pos]
  obtain h | h := h <;> simp [h]

theorem Dev.queueCtl_over (h : v.cmd.op ≠ 0x12 ∨ v.began = true) (op : Nat) : d.queueCtl r op = d := by
  simp only [Dev.queueCtl, hr, Dev.manage_over hr h, ite_self]

variable (hc : d.cpRuns = true) (hop : v.cmd.op = op) (hb : v.began = false)
include hc hop hb

theorem Dev.manage_bad {bad : Dev → Cmd → Chk} {st : Status} {i : Nat} (hbad : bad d v.cmd = some (st, i)) (f : Dev → Run → Dev) :
    d.manage r op bad f = d.failRun r st i := by
  simp [Dev.manage, hr, hc, hop, hb, hbad]

theorem Dev.manage_good {bad : Dev → Cmd → Chk} (hbad : bad d v.cmd = none) (f : Dev → Run → Dev) : d.manage r op bad f = f (d.beginRun r 0) v := by
  simp [Dev.manage, hr, hc, hop, hb, hbad]

end Manage

/-- Command i is the management command of run r with this opcode, whose checks are `bad`. -/
def ManageCommand (i : Instr) (r op : Nat) (bad : Dev → Cmd → Chk) : Prop := i.wf = true ∧ ∃ f, ∀ d, does i d = d.manage r op bad f

section Rows
variable (r : Nat)

theorem manageCommand_createQueue : ManageCommand (.createQueue r) r 0x10 createQueueBad := ⟨rfl, _, fun d => (rfl : d.createQueue r = _)⟩
theorem manageCommand_createCq : ManageCommand (.createCq r) r 0x13 createCqBad := ⟨rfl, _, fun d => (rfl : d.createCq r = _)⟩
theorem manageCommand_destroyCq : ManageCommand (.destroyCq r) r 0x14 destroyCqBad := ⟨rfl, _, fun d => (rfl : d.destroyCq r = _)⟩

end Rows

section Command
variable {i : Instr} {r op : Nat} {bad : Dev → Cmd → Chk} {s : State} {v : Run} (hi : ManageCommand i r op bad) (hr : s.dev.run? r = some v)
include hi hr

theorem ManageCommand.over (h : v.cmd.op ≠ op ∨ v.began = true) : exec i s = .next s := by
  obtain ⟨hwf, f, hf⟩ := hi
  exact exec_keeps hwf ((hf s.dev).trans (Dev.manage_over hr h bad f))

theorem ManageCommand.fails (hc : s.dev.cpRuns = true) {st : Status} {n : Nat} (hop : v.cmd.op = op) (hb : v.began = false)
    (hbad : bad s.dev v.cmd = some (st, n)) : exec i s = .next (leaves s (s.dev.failRun r st n)) := by
  obtain ⟨hwf, f, hf⟩ := hi
  exact exec_leaves hwf ((hf s.dev).trans (Dev.manage_bad hr hc hop hb hbad f))

end Command

/-! ## QUEUE_CTL (R285, R302) -/

/-- R302: what QUEUE_CTL of this OP makes of a queue. -/
def Queue.ctl (x : Queue) (op prio : Nat) : Queue :=
  match op, x.st with
  | 1, .active => { x with st := .halted, halt := .none }
  | 1, .parked => { x with st := .halted, halt := .none }
  | 2, .halted => x.resume
  | 2, .parked => { x with st := .active }
  | 3, .halted => x.resumeRetry
  | 3, .parked => { x with st := .active }
  | 4, _ => { x with prio := prio }
  | _, _ => x

section Ctl
variable {x : Queue} (prio : Nat)

theorem Queue.ctl_halt (h : x.st = .active ∨ x.st = .parked) : x.ctl 1 prio = { x with st := .halted, halt := .none } := by
  obtain h | h := h <;> simp only [Queue.ctl, h]

theorem Queue.ctl_halt_halted (h : x.st = .halted) : x.ctl 1 prio = x := by simp only [Queue.ctl, h]

theorem Queue.ctl_resume_active (h : x.st = .active) : x.ctl 2 prio = x := by simp only [Queue.ctl, h]

theorem Queue.ctl_resume_parked (h : x.st = .parked) : x.ctl 2 prio = { x with st := .active } := by simp only [Queue.ctl, h]

/-- R285: after a HALT, or past the command that halted the queue. -/
theorem Queue.ctl_resume_halted {k : Cmd} (h : x.st = .halted) (hk : x.halt = .none ∨ x.halt = .cmd k) :
    x.ctl 2 prio = { x with st := .active, halt := .none, sigs := x.sigs.filter (fun g => !g.failed) } := by
  simp only [Queue.ctl, h]
  obtain hk | hk := hk <;> simp only [Queue.resume, hk]

/-- R285: past a ring slot that could not be fetched. -/
theorem Queue.ctl_resume_fetch (h : x.st = .halted) (hk : x.halt = .fetch) (hp : x.place = .ring) :
    x.ctl 2 prio = { x with st := .active, halt := .none, n := (x.n + 1) % 2 ^ 32, sigs := x.sigs.filter (fun g => !g.failed) } := by
  simp only [Queue.ctl, h, Queue.resume, hk, hp]

theorem Queue.ctl_retry {k : Cmd} (h : x.st = .halted) (hk : x.halt = .cmd k) :
    x.ctl 3 prio = { x with st := .active, halt := .none, retry := some k, sigs := x.sigs.map (fun g => { g with failed := false }) } := by
  simp only [Queue.ctl, h, Queue.resumeRetry, hk]

theorem Queue.ctl_retry_active (h : x.st = .active) : x.ctl 3 prio = x := by simp only [Queue.ctl, h]

theorem Queue.ctl_prio : x.ctl 4 prio = { x with prio := prio } := by simp only [Queue.ctl]

end Ctl

/-! ## What management commands make and free (R301 to R303) -/

/-- The queues and the completion queues are replaced. -/
def Dev.withQueues (d : Dev) (qs : SMap Queue) (ks : SMap Cq) : Dev := { d with cp := { d.cp with queues := qs, cqs := ks } }

/-- R301: the queue that CREATE_QUEUE makes. -/
def Cmd.newQueue (c : Cmd) : Queue := { cls := c.f 2 11 9, prio := c.f 2 8 7, log2 := c.f 2 4 0, ring := c.dw 4, cqid := c.f 3 17 0 }

/-- R303: the completion queue that CREATE_CQ makes. -/
def Cmd.newCq (c : Cmd) : Cq :=
  { ctx := c.f 2 31 20, cqx := c.f 2 19 12, dest := c.f 2 11 10, log2 := c.f 2 4 0, vec := c.f 3 31 21, base := c.dw 4 }

section Makes
variable {d : Dev} {r : Nat} {v : Run} (hr : d.run? r = some v) (hc : d.cpRuns = true) (hb : v.began = false)
include hr hc hb

theorem Dev.createQueue_makes (hop : v.cmd.op = 0x10) (hbad : createQueueBad d v.cmd = none) :
    d.createQueue r = ((d.beginRun r 0).withQueues (d.cp.queues.set (v.cmd.f 2 31 12) v.cmd.newQueue) d.cp.cqs).endRun r :=
  Dev.manage_good hr hc hop hb hbad _

theorem Dev.createCq_makes (hop : v.cmd.op = 0x13) (hbad : createCqBad d v.cmd = none) :
    d.createCq r = ((d.beginRun r 0).withQueues d.cp.queues (d.cp.cqs.set (v.cmd.f 3 17 0) v.cmd.newCq)).endRun r :=
  Dev.manage_good hr hc hop hb hbad _

theorem Dev.destroyCq_frees (hop : v.cmd.op = 0x14) (hbad : destroyCqBad d v.cmd = none) :
    d.destroyCq r = ((d.beginRun r 0).withQueues d.cp.queues (d.cp.cqs.del (v.cmd.f 3 17 0))).endRun r :=
  Dev.manage_good hr hc hop hb hbad _

/-- R302: QUEUE_CTL of the OP that its row names. -/
theorem Dev.queueCtl_acts {op : Nat} (hop : v.cmd.op = 0x12) (hbad : queueCtlBad d v.cmd = none) (hrow : v.cmd.f 2 2 0 = op) :
    d.queueCtl r op =
      ((d.beginRun r 0).withQueues (d.cp.queues.adj (v.cmd.f 2 31 12) (fun x => x.ctl op (v.cmd.f 2 4 3))) d.cp.cqs).endRun r := by
  simp only [Dev.queueCtl, hr, hrow, bne_self_eq_false, Bool.and_false, Bool.false_eq_true, if_false]
  exact Dev.manage_good hr hc hop hb hbad _

end Makes

section Commands
variable {s : State} {r : Nat} {v : Run} (hr : s.dev.run? r = some v) (hst : v.status = none) (hd : v.done = false)
include hr hst hd

/-- A management command that replaces queues and ends. -/
theorem exec_manages {i : Instr} {qs : SMap Queue} {ks : SMap Cq} (hwf : i.wf = true)
    (hdoes : does i s.dev = ((s.dev.beginRun r 0).withQueues qs ks).endRun r) :
    ∃ t, exec i s = .next t ∧ EndsRun s t r none ∧ t.dev.cp.queues = qs ∧ t.dev.cp.cqs = ks := by
  have hrun : (s.dev.beginRun r 0).run? r = some { v with began := true, inst := 0, start := s.dev.time } := Dev.run_setRun hr _
  exact exec_ends hwf hdoes hrun hd hst rfl rfl

/-- R302: what QUEUE_CTL leaves of its queue. -/
theorem exec_queueCtl {i : Instr} {op : Nat} {x : Queue} (hwf : i.wf = true) (hdoes : does i s.dev = s.dev.queueCtl r op) (hc : s.dev.cpRuns = true)
    (hb : v.began = false) (hop : v.cmd.op = 0x12) (hbad : queueCtlBad s.dev v.cmd = none)
    (hx : s.dev.cp.queues.find (v.cmd.f 2 31 12) = some x) (hrow : v.cmd.f 2 2 0 = op) :
    ∃ t, exec i s = .next t ∧ EndsRun s t r none ∧ t.dev.cp.queues.find (v.cmd.f 2 31 12) = some (x.ctl op (v.cmd.f 2 4 3)) := by
  obtain ⟨t, ht, hends, hqueues, -⟩ := exec_manages hr hst hd hwf (hdoes.trans (Dev.queueCtl_acts hr hc hb hop hbad hrow))
  exact ⟨t, ht, hends, by rw [hqueues, SMap.find_adj_same, hx, Option.map_some]⟩

end Commands

end Sys2Proof.Machine
end

section
/-! DESTROY_QUEUE (R302, R335). -/

namespace Sys2Proof.Machine

open Sys2Proof

/-! ## Draining (R335 steps 1 and 2) -/

theorem Dev.faultOpen_ms (d : Dev) (f : PageFault) (w : Waiter) : (d.faultOpen f w).ms = d.ms := by
  unfold Dev.faultOpen
  split
  · rfl
  · split <;> rfl

theorem Dev.faultFree_ms (d : Dev) (i : Nat) : (d.faultFree i).ms = d.ms := by
  unfold Dev.faultFree Dev.faultAdmit
  split
  · rfl
  · dsimp only
    split
    · exact Dev.faultOpen_ms _ _ _
    · rfl

theorem Dev.faultLeave_ms (d : Dev) (w : Waiter) : (d.faultLeave w).ms = d.ms :=
  foldl_keeps (g := fun e : Dev => e.ms) Dev.faultFree_ms _ _

/-- What the steps before a queue drains keep: memory, and whether the queue is FREE. -/
def Dev.memAndUse (q : Nat) (d : Dev) : MemSys × Bool := (d.ms, d.queueUsed q)

theorem Dev.memAndUse_faultLeave (q : Nat) (d : Dev) (w : Waiter) : (d.faultLeave w).memAndUse q = d.memAndUse q := by
  simp only [Dev.memAndUse, Dev.queueUsed, Dev.faultLeave_ms, Dev.faultLeave_cp]

theorem Dev.memAndUse_setQueue (q : Nat) (d : Dev) (p : Nat) (f : Queue → Queue) : (d.setQueue p f).memAndUse q = d.memAndUse q := by
  simp only [Dev.memAndUse, Dev.queueUsed_setQueue, Dev.setQueue_ms]

theorem Dev.memAndUse_uncover (q : Nat) (d : Dev) (p r : Nat) (err : Bool) : (d.uncover p r err).memAndUse q = d.memAndUse q :=
  d.memAndUse_setQueue q p _

theorem Dev.memAndUse_dropRun (q : Nat) (d : Dev) (r : Nat) : (d.dropRun r).memAndUse q = d.memAndUse q := by
  unfold Dev.dropRun
  split
  · rfl
  case h_2 v _ =>
    have hout := d.memAndUse_uncover q v.qid r (v.status.getD 0 != 0)
    dsimp only
    split
    · exact hout
    · exact hout

/-- R335: nothing of the queue is fetched or waits, and it is being destroyed. -/
def Queue.Drains (x : Queue) : Prop := x.st = .draining ∧ x.fetched = [] ∧ x.wait = none ∧ x.destroying = true

theorem Queue.drains_pushSig {x : Queue} (h : x.Drains) (c : Cmd) (aborted : Bool) : (x.pushSig c aborted).Drains := by
  unfold Queue.pushSig
  dsimp only
  split
  · exact h
  · exact h

theorem Queue.drains_pushSigs {x : Queue} (h : x.Drains) (l : List Cmd) : (l.foldl (fun x c => x.pushSig c true) x).Drains :=
  List.foldlRecOn (motive := Queue.Drains) l _ h fun _ hx c _ => Queue.drains_pushSig hx c true

theorem Dev.drains_setQueue {d : Dev} {q : Nat} {f : Queue → Queue} (hu : d.queueUsed q = true) (hf : ∀ x, (f x).Drains) (l : List Cmd) :
    (((d.setQueue q f).setQueue q (fun x => l.foldl (fun x c => x.pushSig c true) x)).queue q).Drains := by
  rw [Dev.queue_setQueue (by rw [Dev.queueUsed_setQueue, hu]), Dev.queue_setQueue hu]
  exact Queue.drains_pushSigs (hf _) l

/-- The flow command that has been taken, if there is one. -/
def Queue.takenFlow (x : Queue) : List Cmd := match x.cur with | some c => [c] | none => []

/-- R335 step 1: what has not started is discarded, and a wait is cancelled. -/
def Dev.discardQueue (d : Dev) (q : Nat) (unbegun : List Nat) : Dev :=
  let e := (d.queue q).takenFlow.foldl (fun d c => d.faultLeave (.cmd c.rid)) ((unbegun.foldl Dev.dropRun d).faultLeave (.fetch q))
  match (d.queue q).wait with
  | some w => (e.faultLeave (.cmd w.cmd.rid)).uncover q w.cmd.rid false
  | none => e

/-- R335 step 1: a signal that is kept takes a new execution number. -/
def renumber (a : List Cmd × Dev) (c : Cmd) : List Cmd × Dev := (a.1 ++ [{ c with rid := a.2.freshRun.1 }], a.2.freshRun.2)

/-- R335: a queue that begins to drain, having discarded runs and fetched commands. -/
def Queue.drain (runs cmds : Nat) (x : Queue) : Queue :=
  { x with
    st := .draining, destroying := true, discards := x.discards + runs + cmds, fetched := [], cur := none, wait := none, stale := none, retry := none,
    patch := none, span := [], sigs := x.sigs.map (fun g => { g with aborted := true, failed := false }) }

theorem Dev.memAndUse_discardQueue (d : Dev) (q : Nat) (unbegun : List Nat) : (d.discardQueue q unbegun).memAndUse q = d.memAndUse q := by
  have hdrop := foldl_keeps (g := Dev.memAndUse q) (Dev.memAndUse_dropRun q) unbegun d
  have htaken : ∀ e : Dev, ((d.queue q).takenFlow.foldl (fun d c => d.faultLeave (.cmd c.rid)) e).memAndUse q = e.memAndUse q :=
    foldl_keeps (f := fun (e : Dev) (c : Cmd) => e.faultLeave (.cmd c.rid)) (g := Dev.memAndUse q) (fun e c => e.memAndUse_faultLeave q (.cmd c.rid)) (d.queue q).takenFlow
  unfold Dev.discardQueue
  dsimp only
  split
  · rw [Dev.memAndUse_uncover, Dev.memAndUse_faultLeave, htaken, Dev.memAndUse_faultLeave, hdrop]
  · rw [htaken, Dev.memAndUse_faultLeave, hdrop]

theorem Dev.memAndUse_renumber (d : Dev) (q : Nat) (kept : List Cmd) : (kept.foldl renumber ([], d)).2.memAndUse q = d.memAndUse q :=
  foldl_keeps (f := renumber) (g := fun a => a.2.memAndUse q) (fun _ _ => rfl) kept ([], d)

/-- R335 steps 1 and 2, in order. -/
theorem Dev.drainQueue_eq (d : Dev) (q : Nat) : ∃ (unbegun : List Nat) (kept : List Cmd) (n : Nat) (rs : SMap Run),
    let a := kept.foldl renumber ([], d.discardQueue q unbegun)
    let e := (a.2.setQueue q (Queue.drain unbegun.length n)).setQueue q (fun x => a.1.foldl (fun x c => x.pushSig c true) x)
    d.drainQueue q = { e with cp := { e.cp with runs := rs } } :=
  ⟨d.cp.runs.keysP (fun _ v => v.qid == q && !v.began && v.isEngine), ((d.queue q).takenFlow ++ (d.queue q).fetched).filter Cmd.keptSignal, _, _, rfl⟩

/-- R335: a queue that is used drains. -/
theorem Dev.drainQueue_drains {d : Dev} {q : Nat} (hu : d.queueUsed q = true) : (d.drainQueue q).ms = d.ms ∧ ((d.drainQueue q).queue q).Drains := by
  obtain ⟨unbegun, kept, n, rs, heq⟩ := d.drainQueue_eq q
  have hkept := ((d.discardQueue q unbegun).memAndUse_renumber q kept).trans (d.memAndUse_discardQueue q unbegun)
  obtain ⟨hms, hused⟩ := Prod.mk.inj hkept
  rw [heq]
  exact ⟨hms, Dev.drains_setQueue (hused.trans hu) (fun _ => ⟨rfl, rfl, rfl, rfl⟩) _⟩

/-! ## The command (R302, R335) -/

theorem destroyQueueBad_used {d : Dev} {qid : Nat} {c : Cmd} (h : destroyQueueBad d qid c = none) : d.queueUsed (c.f 2 31 12) = true := by
  obtain ⟨-, hrest⟩ := firstBad_cons.1 h
  obtain ⟨-, hrest⟩ := firstBad_cons.1 hrest
  have hqueue := badIf_none.1 (firstBad_cons.1 hrest).1
  simp only [Bool.or_eq_false_iff, Bool.not_eq_false'] at hqueue
  exact hqueue.1

/-- R335: a queue that has halted because its destruction took too long. -/
def Queue.overdue (x : Queue) : Queue := { x with st := .halted, halt := .none }

/-- R335: the destruction reports how many commands were discarded. -/
def Run.noteDiscards (n : Nat) (v : Run) : Run := { v with info := min 65535 n }

section Destroy
variable {d : Dev} {r : Nat} {v : Run} (hr : d.run? r = some v)
include hr

theorem Dev.destroyQueue_over (h : v.cmd.op ≠ 0x11 ∨ v.done = true) : d.destroyQueue r = d := by
  simp only [Dev.destroyQueue, hr]
  rw [if_pos]
  obtain h | h := h <;> simp [h]

theorem Dev.destroyQueueTimeout_over (h : v.cmd.op ≠ 0x11 ∨ v.done = true) : d.destroyQueueTimeout r = d := by
  simp only [Dev.destroyQueueTimeout, hr, Dev.runLive]
  rw [if_neg]
  obtain h | h := h <;> simp [h]

variable (hc : d.cpRuns = true) (hop : v.cmd.op = 0x11) (hd : v.done = false)
include hc hop hd

section Begins
variable (hb : v.began = false)
include hb

theorem Dev.destroyQueue_bad {st : Status} {i : Nat} (hbad : destroyQueueBad d v.qid v.cmd = some (st, i)) : d.destroyQueue r = d.failRun r st i := by
  simp [Dev.destroyQueue, hr, hc, hop, hd, hb, hbad]

theorem Dev.destroyQueue_begins (hbad : destroyQueueBad d v.qid v.cmd = none) (hq : (d.queue (v.cmd.f 2 31 12)).destroying = false) :
    d.destroyQueue r = (d.beginRun r 0).drainQueue (v.cmd.f 2 31 12) := by
  have hq' : ((d.beginRun r 0).queue (v.cmd.f 2 31 12)).destroying = false := hq
  simp [Dev.destroyQueue, hr, hc, hop, hd, hb, hbad, hq']

end Begins

variable (hb : v.began = true)
include hb

theorem Dev.destroyQueue_gone (hq : d.queueUsed (v.cmd.f 2 31 12) = false) : d.destroyQueue r = d.endRun r := by
  simp [Dev.destroyQueue, hr, hc, hop, hd, hb, hq]

theorem Dev.destroyQueue_frees (hq : d.queueUsed (v.cmd.f 2 31 12) = true) (hquiet : d.queueQuiet (v.cmd.f 2 31 12) = true) :
    d.destroyQueue r =
      ((d.setRun r (Run.noteDiscards (d.queue (v.cmd.f 2 31 12)).discards)).freeQueue (v.cmd.f 2 31 12)).endRun r := by
  simp [Dev.destroyQueue, hr, hc, hop, hd, hb, hq, hquiet]
  rfl

theorem Dev.destroyQueue_waits (hq : d.queueUsed (v.cmd.f 2 31 12) = true) (hquiet : d.queueQuiet (v.cmd.f 2 31 12) = false) :
    d.destroyQueue r = d := by
  simp [Dev.destroyQueue, hr, hc, hop, hd, hb, hq, hquiet]

omit hc in
theorem Dev.destroyQueueTimeout_fails :
    d.destroyQueueTimeout r = (d.setQueue (v.cmd.f 2 31 12) Queue.overdue).failRun r .busy := by
  simp [Dev.destroyQueueTimeout, Dev.runLive, hr, hop, hd, hb]
  rfl

end Destroy

/-! ## A queue that has halted stays halted (R284) -/

theorem Dev.queue_setQueue_other {d : Dev} {q p : Nat} (hp : p ≠ q) (f : Queue → Queue) : (d.setQueue p f).queue q = d.queue q :=
  congrArg (fun o => o.getD {}) (SMap.find_adj_other d.cp.queues f hp)

theorem Dev.halted_haltQueue {d : Dev} {q p : Nat} (h : HaltSt) (hu : d.queueUsed q = true) (hq : (d.queue q).st = .halted) :
    ((d.haltQueue p h).queue q).st = .halted := by
  by_cases hp : p = q
  · subst hp
    rw [Dev.haltQueue, Dev.queue_setQueue hu, if_neg (by simp [hq]), hq]
  · rwa [Dev.haltQueue, Dev.queue_setQueue_other hp]

theorem Dev.halted_endRun {d : Dev} {q : Nat} (r : Nat) (hu : d.queueUsed q = true) (hq : (d.queue q).st = .halted) :
    ((d.endRun r).queue q).st = .halted := by
  unfold Dev.endRun
  split
  · exact hq
  · split
    · exact hq
    · dsimp only
      split
      · exact Dev.halted_haltQueue _ hu hq
      · exact hq

/-- R335: the bound is met: the queue halts, and the command ends with BUSY. -/
theorem exec_destroyQueueTimeout {s : State} {r : Nat} {v : Run} (hr : s.dev.run? r = some v) (hst : v.status = none) (hop : v.cmd.op = 0x11)
    (hd : v.done = false) (hb : v.began = true) :
    ∃ t, exec (.destroyQueueTimeout r) s = .next t ∧ EndsRun s t r (some Status.busy.code) ∧
      (s.dev.queueUsed (v.cmd.f 2 31 12) = true → (t.dev.queue (v.cmd.f 2 31 12)).st = .halted) := by
  have hrun : (s.dev.setQueue (v.cmd.f 2 31 12) Queue.overdue).run? r = some v := hr
  refine ⟨_, exec_leaves rfl (Dev.destroyQueueTimeout_fails hr hop hd hb), ⟨?_, _, Dev.run_failRun hrun hd hst .busy 0, rfl, rfl, rfl⟩, fun hu => ?_⟩
  · obtain ⟨c, hc⟩ := Dev.failRun_only (s.dev.setQueue (v.cmd.f 2 31 12) Queue.overdue) r .busy 0
    exact keepsMemory_of_eq (by rw [hc]; rfl)
  · have hused := (s.dev.queueUsed_setQueue (v.cmd.f 2 31 12) (v.cmd.f 2 31 12) Queue.overdue).trans hu
    have hhalts := congrArg Queue.st (Dev.queue_setQueue hu Queue.overdue)
    exact Dev.halted_endRun (d := (s.dev.setQueue (v.cmd.f 2 31 12) Queue.overdue).runStatus r .busy 0) r hused hhalts

end Sys2Proof.Machine
end

section
/-! Completion entries, flushing reads and the performing of signals (R297, R300, R303, R306, R308, R310, R401). -/

namespace Sys2Proof.Machine

open Sys2Proof

/-! ## Entries of runs (R300, R306, R308) -/

/-- R306: the words of a run's entry with this status. -/
def Run.entry (v : Run) (st : Nat) (phase : Nat) : List Nat := entryWords phase v.cls v.inst st v.qid v.cmd.tag v.cmd.seq v.info v.start v.fin

/-- R308, R311: a run whose entry has been written: it releases its reservation and is dropped. -/
def Dev.entryDone (d : Dev) (r : Nat) : Dev := (d.setRun r (fun v => { v with reserved := false })).dropRun r

section Completion
variable {d : Dev} {r : Nat} {v : Run} (hr : d.run? r = some v)
include hr

theorem Dev.completionWrite_undone (hd : v.done = false) : d.completionWrite r = d := by
  simp [Dev.completionWrite, hr, hd]

theorem Dev.flushingRead_returns {p : Nat} (h : v.done = true ∧ p ∈ d.flushPorts v) :
    d.flushingRead r p = d.setRun r (fun v => { v with ports := v.ports.filter (· != p) }) := by
  simp [Dev.flushingRead, hr, h.1, h.2]

theorem Dev.flushingRead_idle {p : Nat} (h : ¬ (v.done = true ∧ p ∈ d.flushPorts v)) : d.flushingRead r p = d := by
  simp only [Dev.flushingRead, hr, Bool.and_eq_true, List.contains_iff_mem, h, if_false]

variable (hc : d.cpRuns = true) (hd : v.done = true) (hs : d.storesOut r = false) (hp : d.flushPorts v = []) (ht : d.entryTurn v = true)
include hc hd hs hp ht

/-- R310: NOCQE suppresses the entry of a success. -/
theorem Dev.completionWrite_nocqe (hst : v.status.getD 0 = 0) (hn : v.cmd.nocqe = true) : d.completionWrite r = d.dropRun r := by
  simp [Dev.completionWrite, hr, hc, hd, hs, hp, ht, hst, hn]

variable (hres : v.reserved = true)
include hres

theorem Dev.completionWrite_success (hst : v.status.getD 0 = 0) (hn : v.cmd.nocqe = false) :
    d.completionWrite r = (d.writeEntry (d.queue v.qid).cqid (v.entry 0) v.cmd.irq true).entryDone r := by
  simp [Dev.completionWrite, hr, hc, hd, hs, hp, ht, hst, hn, hres, Dev.entryDone]
  rfl

theorem Dev.completionWrite_error (hst : v.status.getD 0 ≠ 0) :
    d.completionWrite r = ((d.writeEntry (d.queue v.qid).cqid (v.entry (v.status.getD 0)) true true).setQueue v.qid
      (fun x => { x with lastStatus := v.status.getD 0 })).entryDone r := by
  have herr : (v.status.getD 0 != 0) = true := bne_iff_ne.2 hst
  simp [Dev.completionWrite, hr, hc, hd, hs, hp, ht, hst, herr, hres, Dev.entryDone]
  rfl

end Completion

/-! ## An entry in its completion queue (R303, R306, R310) -/

/-- The verdict on a range within a line is that on its first byte. -/
theorem Dev.rangeVerdict_line (d : Dev) (ctx : Nat) {pa n : Nat} (w : Bool) (hn : 1 ≤ n) (hl : pa % 128 + n ≤ 128) :
    d.rangeVerdict ctx pa n w = d.verdict (d.home pa) ctx w := by
  rw [Dev.rangeVerdict, cut_line hn hl]
  cases h : d.verdict (d.home pa) ctx w <;> simp [h]

theorem length_wordBytes (l : List Nat) : (wordBytes l).length = 4 * l.length := by
  induction l with
  | nil => rfl
  | cons w r ih =>
    have hcons : wordBytes (w :: r) = leBytes 4 w ++ wordBytes r := rfl
    rw [hcons, List.length_append, ih, length_leBytes, List.length_cons]
    omega

/-- Entries of a completion queue do not cross a line. -/
theorem Cq.nextAddr_line {c : Cq} (h : c.base % 4096 = 0) : c.nextAddr % 128 + 32 ≤ 128 := by
  unfold Cq.nextAddr
  omega

/-- R311: an entry's reservation of completion queue k is released. -/
def Dev.releaseEntry (d : Dev) (k : Nat) : Dev := { d with cp := { d.cp with cqs := d.cp.cqs.adj k (fun c => { c with reserved := c.reserved - 1 }) } }

/-- R303: the counter of entries written to completion queue k goes on. -/
def Dev.countEntry (d : Dev) (k : Nat) : Dev :=
  { d with cp := { d.cp with cqs := d.cp.cqs.adj k (fun c => { c with written := (c.written + 1) % 2 ^ 32 }) } }

section Entry
variable {d : Dev} {k : Nat} {c : Cq} (hk : d.cp.cqs.find k = some c)
include hk

theorem Dev.find_releaseEntry : (d.releaseEntry k).cp.cqs.find k = some { c with reserved := c.reserved - 1 } := by
  simp only [Dev.releaseEntry, SMap.find_adj_same, hk, Option.map_some]

theorem Dev.find_countEntry : (d.countEntry k).cp.cqs.find k = some { c with written := (c.written + 1) % 2 ^ 32 } := by
  simp only [Dev.countEntry, SMap.find_adj_same, hk, Option.map_some]

variable (hbase : c.base % 4096 = 0) (words : Nat → List Nat) (irq : Bool)
include hbase

/-- R306: an entry that its checks let pass has the phase of its pass. -/
theorem Dev.writeEntry_admitted (hv : d.verdict (d.home c.nextAddr) c.ctx true = .pass) (ht : fenceTier (d.home c.nextAddr) = true) :
    let e := ((d.releaseEntry k).crownWrite c.nextAddr (wordBytes (words (1 - c.written / 2 ^ c.log2 % 2)))).countEntry k
    d.writeEntry k words irq true = if irq then e.interrupt c.dest c.vec else e := by
  have hget : d.cp.cqs.get {} k = c := by rw [SMap.get, hk, Option.getD_some]
  have hrange : d.rangeVerdict c.ctx c.nextAddr 32 true = .pass :=
    (d.rangeVerdict_line c.ctx true (by norm_num) (Cq.nextAddr_line hbase)).trans hv
  simp only [Dev.writeEntry, hget, hrange, true_or, true_and, if_true]
  exact if_pos ht

/-- R310: an entry that is refused is lost and counted. -/
theorem Dev.writeEntry_refused {st : Status} (hv : d.verdict (d.home c.nextAddr) c.ctx true = .refuse st) :
    d.writeEntry k words irq true = (d.releaseEntry k).addSat rCpDbstat 63 48 1 := by
  have hget : d.cp.cqs.get {} k = c := by rw [SMap.get, hk, Option.getD_some]
  have hrange : d.rangeVerdict c.ctx c.nextAddr 32 true = .refuse st :=
    (d.rangeVerdict_line c.ctx true (by norm_num) (Cq.nextAddr_line hbase)).trans hv
  simp only [Dev.writeEntry, hget, hrange, reduceCtorEq, or_self, false_and, if_false, if_true]
  rfl

variable {a : Nat} (hh : d.home c.nextAddr = .hbm a) (hv : d.verdict (.hbm a) c.ctx true = .pass) (hlen : ∀ ph, (words ph).length = 8)
include hh hv hlen

/-- R303, R306: an entry in HBM. -/
theorem Dev.writeEntry_hbm : (d.writeEntry k words irq true).ms.mem = d.ms.mem.writeN a (wordBytes (words (1 - c.written / 2 ^ c.log2 % 2))) ∧
    (d.writeEntry k words irq true).cp.cqs.find k = some { c with reserved := c.reserved - 1, written := (c.written + 1) % 2 ^ 32 } := by
  have hsize : (wordBytes (words (1 - c.written / 2 ^ c.log2 % 2))).length = 32 := by rw [length_wordBytes, hlen]
  have hline : c.nextAddr % 128 + (wordBytes (words (1 - c.written / 2 ^ c.log2 % 2))).length ≤ 128 := by
    rw [hsize]
    exact Cq.nextAddr_line hbase
  have hmem := (d.releaseEntry k).crownWrite_mem (by omega) hline (.inl hh) (lt_trans (Dev.home_hbm_lt hh) (by norm_num))
  have hcqs := Dev.find_countEntry (d := (d.releaseEntry k).crownWrite c.nextAddr (wordBytes (words (1 - c.written / 2 ^ c.log2 % 2)))) (k := k)
    (by rw [Dev.crownWrite_cp]; exact Dev.find_releaseEntry hk)
  have hwrites := Dev.writeEntry_admitted hk hbase words irq (by rw [hh]; exact hv) (by rw [hh]; rfl)
  rw [hwrites]
  split
  · rw [(Dev.interrupt_only _ _ _).ms, Dev.interrupt_cp]
    exact ⟨hmem, hcqs⟩
  · exact ⟨hmem, hcqs⟩

end Entry

/-! ## Signals (R297) -/

/-- R297: a signal is performed on its fence, whose value was `old`. -/
def Dev.performSignal (d : Dev) (q : Nat) (g : Sig) (old : Nat) (h : Home) : Dev :=
  let x := sigValue (g.cmd.f 2 31 30) old (g.cmd.dw 6) (g.aborted || !g.errs.isEmpty)
  (((match h.line with | some l => d.recall l false | none => d).storeLine .engine h (leBytes 8 x)).setQueue q
    (fun y => { y with sigs := y.sigs.filter (fun z => z.cmd.rid != g.cmd.rid) })).uncover q g.cmd.rid false

theorem Dev.signalPerform_none {d : Dev} {q : Nat} (h : (d.queue q).nextSig = none) : d.signalPerform q = d := by
  simp only [Dev.signalPerform, h]

section Signal
variable {d : Dev} {q : Nat} {g : Sig} (hg : (d.queue q).nextSig = some g)
include hg

theorem Dev.signalPerform_waits (h : d.cpRuns = false ∨ g.covers ≠ [] ∨ d.faultHeld (.cmd g.cmd.rid) = true) : d.signalPerform q = d := by
  simp only [Dev.signalPerform, hg]
  rw [if_pos]
  obtain h | h | h := h <;> simp [h]

theorem Dev.signalPerform_performs {old : Nat} {h : Home} {e : Dev} (hc : d.cpRuns = true) (hcov : g.covers = [])
    (hheld : d.faultHeld (.cmd g.cmd.rid) = false) (hread : d.fenceRead q g.cmd true = (.value old, h, e)) :
    d.signalPerform q = e.performSignal q g old h := by
  simp only [Dev.signalPerform, hg, hc, hcov, hheld, hread, List.isEmpty_nil, Bool.not_true, Bool.or_self, Bool.false_eq_true, if_false]
  rfl

end Signal

/-- R297: SET keeps the maximum, ADD adds; bit 63 says that a covered command ended in error, or that the queue is being destroyed. -/
theorem sigValue_of (mode old v : Nat) (g : Sig) : sigValue mode old v (g.aborted || !g.errs.isEmpty) =
    if mode = 0 then max old (v ||| if g.aborted = true ∨ g.errs ≠ [] then 2 ^ 63 else 0)
    else (old + v) % 2 ^ 64 ||| if g.aborted = true ∨ g.errs ≠ [] then 2 ^ 63 else 0 := by
  have herr : (g.aborted || !g.errs.isEmpty) = decide (g.aborted = true ∨ g.errs ≠ []) := by
    cases g.aborted <;> cases g.errs <;> rfl
  simp only [sigValue, herr, decide_eq_true_eq]

end Sys2Proof.Machine
end

section
/-! The statement about queues and completion queues (R285, R297, R300 to R303, R306 to R311, R335, R401). -/

namespace Sys2Proof

open Sys2Proof.Machine

/-- Settles O49: management commands, completion entries and flushing reads, an entry's place in its queue, the performing of signals. -/
theorem queueManagement : Obligations.QueueManagement := by
  unfold Obligations.QueueManagement
  refine ⟨fun s r v hr hc hst => ?_, fun s r v hr hc => ?_, fun s k a c words irq hk hbase hlen => ?_, fun s q hq => ?_⟩
  · dsimp only
    simp only [List.forall_mem_cons]
    refine ⟨⟨(manageCommand_createQueue r).over hr, (manageCommand_createCq r).over hr, (manageCommand_destroyCq r).over hr, fun h => exec_keeps rfl (Dev.queueCtl_over hr h 1),
        fun h => exec_keeps rfl (Dev.queueCtl_over hr h 2), fun h => exec_keeps rfl (Dev.queueCtl_over hr h 3),
        fun h => exec_keeps rfl (Dev.queueCtl_over hr h 4), fun _ h => absurd h List.not_mem_nil⟩,
      fun h => ⟨exec_keeps rfl (Dev.destroyQueue_over hr h), exec_keeps rfl (Dev.destroyQueueTimeout_over hr h)⟩,
      ⟨fun _ _ hop hb _ => (manageCommand_createQueue r).fails hr hc hop hb, fun _ _ hop hb _ => (manageCommand_createCq r).fails hr hc hop hb,
        fun _ _ hop hb _ => (manageCommand_destroyCq r).fails hr hc hop hb,
        fun st i hop hb hd hbad => exec_leaves rfl (Dev.destroyQueue_bad hr hc hop hd hb hbad), fun _ h => absurd h List.not_mem_nil⟩,
      fun hb hd => ⟨fun hop hbad => ?_, fun hop hbad => ?_, fun hop hbad => ?_, fun hop hbad x hx => ?_, fun hop hbad hdes => ?_⟩,
      fun hop hb hd => ⟨fun hfree => ?_, fun hu hquiet => ?_, fun hu hbusy => ?_, ?_⟩⟩
    · obtain ⟨t, ht, hends, hqueues, -⟩ := exec_manages (i := .createQueue r) hr hst hd rfl (Dev.createQueue_makes hr hc hb hop hbad)
      exact ⟨t, ht, hends, by rw [hqueues]; exact SMap.find_set_same _ _ _⟩
    · obtain ⟨t, ht, hends, -, hcqs⟩ := exec_manages (i := .createCq r) hr hst hd rfl (Dev.createCq_makes hr hc hb hop hbad)
      exact ⟨t, ht, hends, by rw [hcqs]; exact SMap.find_set_same _ _ _⟩
    · obtain ⟨t, ht, hends, -, hcqs⟩ := exec_manages (i := .destroyCq r) hr hst hd rfl (Dev.destroyCq_frees hr hc hb hop hbad)
      exact ⟨t, ht, hends, by rw [hcqs]; exact SMap.find_del_same _ _⟩
    · have hhalt := exec_queueCtl (i := .queueHalt r) hr hst hd rfl rfl hc hb hop hbad hx
      have hresume := exec_queueCtl (i := .queueResume r) hr hst hd rfl rfl hc hb hop hbad hx
      have hretry := exec_queueCtl (i := .queueResumeRetry r) hr hst hd rfl rfl hc hb hop hbad hx
      refine ⟨fun hrow => ⟨fun h => ?_, fun h => ?_⟩, fun hrow => ⟨fun h => ?_, fun h => ?_, fun h => ⟨fun k hk => ?_, fun hk hp => ?_⟩⟩,
        fun hrow h k hk => ?_, fun hrow h => ?_, fun hrow => ?_⟩
      · exact Queue.ctl_halt _ h ▸ hhalt hrow
      · exact Queue.ctl_halt_halted _ h ▸ hhalt hrow
      · exact Queue.ctl_resume_active _ h ▸ hresume hrow
      · exact Queue.ctl_resume_parked _ h ▸ hresume hrow
      · exact Queue.ctl_resume_halted _ h hk ▸ hresume hrow
      · exact Queue.ctl_resume_fetch _ h hk hp ▸ hresume hrow
      · exact Queue.ctl_retry _ h hk ▸ hretry hrow
      · exact Queue.ctl_retry_active _ h ▸ hretry hrow
      · exact exec_queueCtl (i := .queueSetprio r) hr hst hd rfl rfl hc hb hop hbad hx hrow
    · have hused : s.dev.queueUsed (v.cmd.f 2 31 12) = true := destroyQueueBad_used hbad
      obtain ⟨hms, hdrain, hfetched, hwait, hdestroying⟩ := Dev.drainQueue_drains (d := s.dev.beginRun r 0) hused
      exact ⟨_, exec_leaves rfl (Dev.destroyQueue_begins hr hc hop hd hb hbad hdes), keepsMemory_of_eq (congrArg MemSys.mem hms), hdrain, hfetched, hwait,
        hdestroying⟩
    · obtain ⟨t, ht, hends, -⟩ := exec_ends (i := .destroyQueue r) rfl (Dev.destroyQueue_gone hr hc hop hd hb hfree) hr hd hst rfl rfl
      exact ⟨t, ht, hends⟩
    · obtain ⟨t, ht, hends, hqueues, -⟩ := exec_ends (i := .destroyQueue r) rfl (Dev.destroyQueue_frees hr hc hop hd hb hu hquiet)
        (Dev.run_setRun hr (Run.noteDiscards (s.dev.queue (v.cmd.f 2 31 12)).discards)) hd hst rfl rfl
      have hgone : SMap.find t.dev.cp.queues (v.cmd.f 2 31 12) = none := by rw [hqueues]; exact SMap.find_del_same _ _
      exact ⟨t, ht, hends, congrArg Option.isSome hgone⟩
    · exact exec_keeps rfl (Dev.destroyQueue_waits hr hc hop hd hb hu hbusy)
    · exact exec_destroyQueueTimeout hr hst hop hd hb
  · refine ⟨fun hd => ?_, fun hd hs hp ht => ⟨fun h0 hn => ?_, fun h0 hn hres => ?_, fun h0 hres => ?_⟩, fun p hp => ⟨fun h => ?_, fun h => ?_⟩⟩
    · exact exec_leaves rfl (congrArg Dev.destroyTick (Dev.completionWrite_undone hr hd))
    · exact exec_leaves rfl (congrArg Dev.destroyTick (Dev.completionWrite_nocqe hr hc hd hs hp ht h0 hn))
    · exact exec_leaves rfl (congrArg Dev.destroyTick (Dev.completionWrite_success hr hc hd hs hp ht hres h0 hn))
    · exact exec_leaves rfl (congrArg Dev.destroyTick (Dev.completionWrite_error hr hc hd hs hp ht hres h0))
    · exact exec_leaves (decide_eq_true hp) (Dev.flushingRead_returns hr h)
    · exact exec_keeps (decide_eq_true hp) (Dev.flushingRead_idle hr h)
  · refine ⟨fun hh hv => ?_, fun st hv => ?_⟩
    · obtain ⟨hmem, hcqs⟩ := Dev.writeEntry_hbm hk hbase words irq hh hv hlen
      have hsize : (wordBytes (words (1 - c.written / 2 ^ c.log2 % 2))).length = 32 := by rw [length_wordBytes, hlen]
      have hplace : s.dev.place a = a := s.dev.place_low (lt_trans (Dev.home_hbm_lt hh) (by norm_num))
      have hread := Memory.readN_writeN s.dev.ms.mem a (wordBytes (words (1 - c.written / 2 ^ c.log2 % 2)))
      rw [hsize] at hread
      rw [hplace]
      exact ⟨(congrArg (fun m => Memory.readN m a 32) hmem).trans hread, keepsMemory_writeN hsize hmem, hcqs⟩
    · rw [Dev.writeEntry_refused hk hbase words irq hv]
      exact ⟨keepsMemory_of_eq rfl, Dev.fld_addSat_same _ (by norm_num) 1, Dev.find_releaseEntry hk⟩
  · have hwf : decide (q < 2 ^ 20) = true := decide_eq_true hq
    refine ⟨fun h => exec_leaves hwf (congrArg Dev.destroyTick (Dev.signalPerform_none h)), fun g hg => ⟨fun h => ?_, fun old h e hrun hcov hheld hread => ?_⟩⟩
    · exact exec_leaves hwf (congrArg Dev.destroyTick (Dev.signalPerform_waits hg h))
    · have hdone := Dev.signalPerform_performs hg hrun hcov hheld hread
      rw [Dev.performSignal, sigValue_of] at hdone
      exact exec_leaves hwf (congrArg Dev.destroyTick hdone)

end Sys2Proof
end

section
/-! What begins, ends and clears a context: its descriptor, its queues, the SUSPENDs that end with it (R314 to R318). -/

namespace Sys2Proof.Machine

open Sys2Proof

/-! ## Ends of runs (R285, R308) -/

/-- R285: a run's end leaves the contexts as they are. -/
theorem Dev.endRun_ctxs (d : Dev) (r : Nat) : (d.endRun r).cp.ctxs = d.cp.ctxs := by
  unfold Dev.endRun
  split
  · rfl
  · split
    · rfl
    · dsimp only
      split <;> rfl

theorem Dev.endRun_reg (d : Dev) (r off : Nat) : (d.endRun r).reg off = d.reg off := by
  obtain ⟨c, hc⟩ := d.endRun_only r
  rw [hc]
  rfl

/-- A run that has met no status ends well, whatever else has changed before but memory. -/
theorem endsRun_endRun {s : State} {e : Dev} {r : Nat} {u : Run} (hu : e.run? r = some u) (hd : u.done = false) (hst : u.status = none)
    (hmem : e.ms.mem = s.dev.ms.mem) (ht : e.time = s.dev.time) : EndsRun s (leaves s (e.endRun r)) r none :=
  ⟨keepsMemory_of_eq ((congrArg MemSys.mem (e.endRun_ms r)).trans hmem), _, Dev.run_endRun_eq hu hd, rfl, hst, ht⟩

theorem endsRun_failRun {s : State} {r : Nat} {v : Run} (hr : s.dev.run? r = some v) (hd : v.done = false) (hst : v.status = none) (st : Status) :
    EndsRun s (leaves s (s.dev.failRun r st)) r (some st.code) :=
  ⟨keepsMemory_of_eq (congrArg MemSys.mem (Dev.endRun_ms (s.dev.runStatus r st 0) r)), _, Dev.run_failRun hr hd hst st 0, rfl, rfl, rfl⟩

/-! ## The state of a context (R314) -/

theorem Dev.ctxState_of_reg {d e : Dev} {x : Nat} (h : e.reg (rCpCtxdesc x) = d.reg (rCpCtxdesc x)) : e.ctxState x = d.ctxState x := by
  simp only [Dev.ctxState, Dev.fld, h]

/-- R314: any context but 0 takes the state that is written. -/
theorem Dev.ctxState_setCtxState (d : Dev) {x n : Nat} (hx : x ≠ 0) (hn : n < 8) : (d.setCtxState x n).ctxState x = n := by
  rw [Dev.ctxState, if_neg hx, Dev.setCtxState, Dev.fld_setFld_same d (by norm_num)]
  exact Nat.mod_eq_of_lt hn

/-- Context 0 is always ACTIVE. -/
theorem Dev.ne_zero_of_ctxState {d : Dev} {x n : Nat} (h : d.ctxState x = n) (hn : n ≠ 1) : x ≠ 0 := by
  rintro rfl
  exact hn h.symm

theorem Dev.ctxSt_setCtx_same (d : Dev) (x : Nat) (f : CtxSt → CtxSt) : (d.setCtx x f).ctxSt x = f (d.ctxSt x) :=
  (d.ctxSt_setCtx x x f).trans (if_pos rfl)

/-- R316: the descriptor that CREATE_CONTEXT writes: ACTIVE and ORDERED, with its priority and its completion queue. -/
def Cmd.ctxDesc (c : Cmd) : Nat := 2 ^ 61 + 2 ^ 60 + c.f 2 12 11 * 2 ^ 58 + c.f 2 19 13 * 2 ^ 50

theorem Cmd.ctxDesc_active (c : Cmd) : c.ctxDesc < 2 ^ 64 ∧ bitsOf c.ctxDesc 63 61 = 1 := by
  have hprio : c.f 2 12 11 < 4 := bitsOf_lt _ 12 11
  have hcq : c.f 2 19 13 < 128 := bitsOf_lt _ 19 13
  rw [bitsOf_eq, Cmd.ctxDesc]
  omega

/-- R316: the context that CREATE_CONTEXT makes, with nothing left of one before. -/
def Dev.makeContext (d : Dev) (x desc : Nat) : Dev :=
  { d.setReg (rCpCtxdesc x) desc with cp := { d.cp with ctxs := d.cp.ctxs.del x } }

/-! ## The launched kernels of a context -/

theorem SMap.keysP_adj {α : Type} (m : SMap α) (j : Nat) {f : α → α} {p : Nat → α → Bool} (h : ∀ k v, p k (f v) = p k v) :
    SMap.keysP (SMap.adj m j f) p = SMap.keysP m p := by
  induction m with
  | nil => rfl
  | cons e m ih =>
    obtain ⟨k, v⟩ := e
    have hkeys : ∀ (e : Nat × α) (l : SMap α), SMap.keysP (e :: l) p = if p e.1 e.2 then e.1 :: SMap.keysP l p else SMap.keysP l p := fun e l => by
      cases hp : p e.1 e.2 <;> simp [SMap.keysP, hp]
    rw [SMap.adj, List.map_cons, ← SMap.adj, hkeys, hkeys, ih]
    by_cases hk : k = j
    · simp only [hk, if_true, h]
    · simp only [hk, if_false]

/-- That a run begins changes no kernel of a context. -/
theorem Dev.ctxLive_beginRun (d : Dev) (r i x : Nat) : (d.beginRun r i).ctxLive x = d.ctxLive x :=
  congrArg (List.filter fun k => (d.cp.kernels.find k).isSome && !(d.kern k).saved)
    (SMap.keysP_adj d.cp.runs r (f := fun v => { v with began := true, inst := i, start := d.time })
      (p := fun _ v => v.qid / 256 == x && v.cmd.op == 0x30 && !v.done) fun _ _ => rfl)

/-! ## SUSPENDs that end (R317, R318) -/

/-- A register and memory: what ends of runs and drains of queues keep. -/
def Dev.regAndMem (off : Nat) (d : Dev) : Nat × MemSys := (d.reg off, d.ms)

theorem Dev.regAndMem_stopSuspend (off : Nat) (d : Dev) (x r : Nat) : (d.stopSuspend x r).regAndMem off = d.regAndMem off :=
  foldl_keeps (f := fun (e : Dev) (k : Nat) => e.failRun k .aborted) (g := Dev.regAndMem off)
    (fun e k => Prod.ext (Dev.endRun_reg (e.runStatus k .aborted 0) k off) (Dev.endRun_ms (e.runStatus k .aborted 0) k)) _ _

/-- R318: the context no longer winds down. -/
theorem Dev.stopSuspend_stops (d : Dev) (x r : Nat) : ((d.stopSuspend x r).ctxSt x).suspending = false := by
  have hctxs : (d.stopSuspend x r).cp.ctxs = (d.setCtx x fun c => { c with suspending := false }).cp.ctxs :=
    foldl_keeps (f := fun (e : Dev) (k : Nat) => e.failRun k .aborted) (g := fun e : Dev => e.cp.ctxs)
      (fun e k => Dev.endRun_ctxs (e.runStatus k .aborted 0) k) _ _
  have hx := congrArg (SMap.get {} · x) hctxs
  exact congrArg CtxSt.suspending (hx.trans (Dev.ctxSt_setCtx_same d x _))

/-- R318: a SUSPEND begins: the context is SUSPENDED and winds down. -/
def Dev.windDown (d : Dev) (x : Nat) : Dev := (d.setCtxState x 2).setCtx x (fun c => { c with suspending := true })

theorem Dev.ctxSt_windDown (d : Dev) (x : Nat) : (d.windDown x).ctxSt x = { d.ctxSt x with suspending := true } :=
  Dev.ctxSt_setCtx_same (d.setCtxState x 2) x _

theorem OnlyWaits.suspending {d e : Dev} (h : OnlyWaits d e) (x : Nat) : (e.ctxSt x).suspending = (d.ctxSt x).suspending := by
  obtain ⟨-, -, -, hx⟩ := h
  obtain ⟨n, hn⟩ := hx x
  rw [hn]

/-! ## Registers and memory while queues drain (R335) -/

section Registers
variable {off : Nat} (hoff : rCrownFaultstat ≠ off)
include hoff

theorem Dev.faultCount_reg (d : Dev) : d.faultCount.reg off = d.reg off := Dev.reg_setFld_other d 16 0 _ hoff

theorem Dev.faultOpen_reg (d : Dev) (f : PageFault) (w : Waiter) : (d.faultOpen f w).reg off = d.reg off := by
  unfold Dev.faultOpen
  split
  · rfl
  · split
    · rfl
    · dsimp only
      rw [Dev.faultCount_reg hoff]
      rfl

theorem Dev.faultFree_reg (d : Dev) (i : Nat) : (d.faultFree i).reg off = d.reg off := by
  unfold Dev.faultFree Dev.faultAdmit
  split
  · exact Dev.faultCount_reg hoff _
  · dsimp only
    split
    · exact Dev.faultOpen_reg hoff _ _ _
    · exact Dev.faultCount_reg hoff _

theorem Dev.faultLeave_reg (d : Dev) (w : Waiter) : (d.faultLeave w).reg off = d.reg off :=
  foldl_keeps (g := fun e : Dev => e.reg off) (Dev.faultFree_reg hoff) _ _

theorem Dev.regAndMem_faultLeave (d : Dev) (w : Waiter) : (d.faultLeave w).regAndMem off = d.regAndMem off := by
  rw [Dev.regAndMem, Dev.regAndMem, Dev.faultLeave_reg hoff, Dev.faultLeave_ms]

omit hoff in
theorem Dev.regAndMem_dropRun (d : Dev) (r : Nat) : (d.dropRun r).regAndMem off = d.regAndMem off := by
  unfold Dev.dropRun
  split
  · rfl
  · dsimp only
    split <;> rfl

theorem Dev.regAndMem_discardQueue (d : Dev) (q : Nat) (unbegun : List Nat) : (d.discardQueue q unbegun).regAndMem off = d.regAndMem off := by
  have hdrop := foldl_keeps (g := Dev.regAndMem off) Dev.regAndMem_dropRun unbegun d
  have htaken : ∀ e : Dev, ((d.queue q).takenFlow.foldl (fun d c => d.faultLeave (.cmd c.rid)) e).regAndMem off = e.regAndMem off :=
    foldl_keeps (f := fun (e : Dev) (c : Cmd) => e.faultLeave (.cmd c.rid)) (g := Dev.regAndMem off)
      (fun e c => e.regAndMem_faultLeave hoff (.cmd c.rid)) (d.queue q).takenFlow
  have hend := (htaken _).trans ((Dev.regAndMem_faultLeave hoff _ (.fetch q)).trans hdrop)
  unfold Dev.discardQueue
  dsimp only
  split
  case h_1 w _ => exact (Dev.regAndMem_faultLeave hoff _ (.cmd w.cmd.rid)).trans hend
  case h_2 => exact hend

theorem Dev.regAndMem_drainQueue (d : Dev) (q : Nat) : (d.drainQueue q).regAndMem off = d.regAndMem off := by
  obtain ⟨unbegun, kept, n, rs, heq⟩ := d.drainQueue_eq q
  have hkept := foldl_keeps (f := renumber) (g := fun a => a.2.regAndMem off) (fun _ _ => rfl) kept ([], d.discardQueue q unbegun)
  rw [heq]
  exact hkept.trans (Dev.regAndMem_discardQueue hoff d q unbegun)

end Registers

/-- R317 step 1: the queues of a context drain, or go on with their destruction. -/
def Dev.drainContext (d : Dev) (x : Nat) : Dev :=
  (d.ctxQueues x).foldl (fun d q => if (d.queue q).destroying then d.setQueue q (fun y => { y with st := .draining }) else d.drainQueue q) d

theorem Dev.regAndMem_drainContext {off : Nat} (hoff : rCrownFaultstat ≠ off) (d : Dev) (x : Nat) :
    (d.drainContext x).regAndMem off = d.regAndMem off :=
  foldl_keeps (g := Dev.regAndMem off) (fun e q => by
    split
    · rfl
    · exact Dev.regAndMem_drainQueue hoff e q) _ d

/-! ## What is left of a context whose queues are quiet (R317 steps 2 to 5) -/

/-- Queues that become FREE are no longer listed. -/
theorem Dev.freeQueues_only (d : Dev) (l : List Nat) :
    ∃ qs, l.foldl Dev.freeQueue d = { d with cp := { d.cp with queues := qs } } ∧ ∀ e ∈ qs, e ∈ d.cp.queues ∧ e.1 ∉ l := by
  induction l generalizing d with
  | nil => exact ⟨d.cp.queues, rfl, fun e he => ⟨he, List.not_mem_nil⟩⟩
  | cons q l ih =>
    obtain ⟨qs, hqs, hleft⟩ := ih (d.freeQueue q)
    refine ⟨qs, hqs, fun e he => ?_⟩
    obtain ⟨hold, hl⟩ := hleft e he
    obtain ⟨hold, hq⟩ := List.mem_filter.1 hold
    exact ⟨hold, List.not_mem_cons_of_ne_of_not_mem (bne_iff_ne.1 hq) hl⟩

theorem Dev.ctxQueues_nil {d : Dev} {x : Nat} : d.ctxQueues x = [] ↔ ∀ e ∈ d.cp.queues, e.1 / 256 ≠ x := by
  simp only [Dev.ctxQueues, SMap.keysP, List.map_eq_nil_iff, List.filter_eq_nil_iff, beq_iff_eq, ne_eq]

theorem Dev.mem_ctxQueues {d : Dev} {x : Nat} {e : Nat × Queue} (he : e ∈ d.cp.queues) (hx : e.1 / 256 = x) : e.1 ∈ d.ctxQueues x :=
  List.mem_map.2 ⟨e, List.mem_filter.2 ⟨he, beq_iff_eq.2 hx⟩, rfl⟩

/-- R317 steps 2 to 4: queues FREE, groups released, walking off, translations dropped. -/
def Dev.clearContext (d : Dev) (x : Nat) : Dev :=
  ((((d.ctxQueues x).foldl Dev.freeQueue d).releaseGroups x).setBit (rCrownCtxxlt x) 0 false).tlbDrop (fun k => k / 2 ^ 41 == x)

/-- R317 step 5: the context is FREE. -/
def Dev.freeContext (d : Dev) (x : Nat) : Dev :=
  { d.setCtxState x 0 with cp := { d.cp with ctxs := d.cp.ctxs.del x, waits := d.cp.waits.filter (· != x) } }

theorem ctxdesc_ne_ctxxlt (x : Nat) : rCpCtxdesc x ≠ rCrownCtxxlt x := by
  simp only [rCpCtxdesc, rCrownCtxxlt]
  omega

theorem faultstat_ne_ctxdesc (x : Nat) : rCrownFaultstat ≠ rCpCtxdesc x := by
  simp only [rCrownFaultstat, rCpCtxdesc]
  omega

theorem Dev.ctxState_freeContext (d : Dev) {x : Nat} (hx : x ≠ 0) : (d.freeContext x).ctxState x = 0 :=
  d.ctxState_setCtxState hx (by norm_num)

theorem Dev.freeContext_keeps (d : Dev) (x : Nat) : (d.freeContext x).ms = d.ms ∧ (d.freeContext x).cp.queues = d.cp.queues ∧
    (d.freeContext x).cp.runs = d.cp.runs ∧ (d.freeContext x).time = d.time := ⟨rfl, rfl, rfl, rfl⟩

theorem Dev.freeContext_ctxxlt (d : Dev) (x : Nat) : (d.freeContext x).reg (rCrownCtxxlt x) = d.reg (rCrownCtxxlt x) :=
  d.reg_setFld_other 63 61 0 (ctxdesc_ne_ctxxlt x)

theorem Dev.granted_freeContext (d : Dev) (x : Nat) : (d.freeContext x).granted x = [] := by
  have hnone : (d.freeContext x).cp.ctxs.get {} x = {} := congrArg (fun o => o.getD {}) (SMap.find_del_same d.cp.ctxs x)
  rw [Dev.granted, hnone]
  rfl

/-- What clearing a context leaves as it is. -/
theorem Dev.clearContext_keeps (d : Dev) (x : Nat) :
    (d.clearContext x).cp.runs = d.cp.runs ∧ (d.clearContext x).fe = d.fe ∧ (d.clearContext x).cores = d.cores ∧
      (d.clearContext x).time = d.time ∧ (d.clearContext x).ms.mem = d.ms.mem := by
  obtain ⟨qs, hqs, -⟩ := d.freeQueues_only (d.ctxQueues x)
  obtain ⟨g, h, hgroups⟩ := Dev.releaseGroups_only { d with cp := { d.cp with queues := qs } } x
  rw [Dev.clearContext, hqs, hgroups]
  exact ⟨rfl, rfl, rfl, rfl, rfl⟩

theorem Dev.clearContext_queues (d : Dev) (x : Nat) : (d.clearContext x).ctxQueues x = [] := by
  obtain ⟨qs, hqs, hleft⟩ := d.freeQueues_only (d.ctxQueues x)
  obtain ⟨g, h, hgroups⟩ := Dev.releaseGroups_only { d with cp := { d.cp with queues := qs } } x
  rw [Dev.clearContext, hqs, hgroups]
  refine Dev.ctxQueues_nil.2 fun e he hx => ?_
  obtain ⟨hold, hfree⟩ := hleft e he
  exact hfree (Dev.mem_ctxQueues hold hx)

theorem Dev.tlbDrop_reg (d : Dev) (p : Nat → Bool) (off : Nat) : (d.tlbDrop p).reg off = d.reg off := rfl

theorem Dev.clearContext_walks (d : Dev) (x : Nat) : (d.clearContext x).bit (rCrownCtxxlt x) 0 = false := by
  rw [Dev.bit, Dev.clearContext, Dev.tlbDrop_reg]
  exact Dev.bit_setBit_same _ (by norm_num) false

theorem Dev.clearContext_tlb (d : Dev) {x key : Nat} (k : Nat) (hkey : key / 2 ^ 41 = x) :
    SMap.find ((d.clearContext x).ms.tlb.get [] k) key = none :=
  (Dev.tlbDrop_find _ _ k key).trans (if_pos (beq_iff_eq.2 hkey))

/-- R317: nothing stands of context x: it is FREE, has no queue, no group and no translation, and does not walk. -/
def Dev.NothingOf (d : Dev) (x : Nat) : Prop :=
  d.ctxState x = 0 ∧ d.ctxQueues x = [] ∧ d.bit (rCrownCtxxlt x) 0 = false ∧
    (∀ k key, key / 2 ^ 41 = x → SMap.find (d.ms.tlb.get [] k) key = none) ∧ d.granted x = []

theorem Dev.nothingOf_freeContext (d : Dev) {x : Nat} (hx : x ≠ 0) : ((d.clearContext x).freeContext x).NothingOf x := by
  obtain ⟨hms, hqueues, -⟩ := (d.clearContext x).freeContext_keeps x
  refine ⟨Dev.ctxState_freeContext _ hx, ?_, ?_, fun k key hkey => ?_, Dev.granted_freeContext _ x⟩
  · rw [Dev.ctxQueues, hqueues]
    exact d.clearContext_queues x
  · rw [Dev.bit, Dev.freeContext_ctxxlt]
    exact d.clearContext_walks x
  · rw [hms]
    exact d.clearContext_tlb k hkey

/-- A run that ends well brings nothing of a context back. -/
theorem Dev.NothingOf.endRun {d : Dev} {x r : Nat} {v : Run} (h : d.NothingOf x) (hr : d.run? r = some v) (hst : v.status = none) :
    (d.endRun r).NothingOf x := by
  obtain ⟨hstate, hqueues, hwalk, htlb, hgroups⟩ := h
  obtain ⟨hkept, -⟩ := Dev.endRun_success hr hst
  refine ⟨(Dev.ctxState_of_reg (d.endRun_reg r _)).trans hstate, ?_, ?_, ?_, ?_⟩
  · rw [Dev.ctxQueues, hkept]
    exact hqueues
  · rw [Dev.bit, d.endRun_reg]
    exact hwalk
  · rw [d.endRun_ms]
    exact htlb
  · rw [Dev.granted, d.endRun_ctxs]
    exact hgroups

/-- R317: with the queues quiet and no request left, nothing stands of the context. -/
theorem Dev.destroySteps_frees {d : Dev} {x : Nat} (h3 : d.ctxState x = 3) (hquiet : ∀ q ∈ d.ctxQueues x, d.queueQuiet q = true)
    (hreqs : ∀ e ∈ d.fe.reqs, e.2.ctx ≠ x) (hcores : ∀ e ∈ d.cores, ∀ n ∈ e.2.nt, n.ctx ≠ x) :
    d.destroySteps x = (d.clearContext x).freeContext x := by
  obtain ⟨-, hfe, hcs, -⟩ := d.clearContext_keeps x
  have hall : (d.ctxQueues x).all (fun q => d.queueQuiet q) = true := List.all_eq_true.2 hquiet
  have hleft : ((d.clearContext x).fe.reqs.any (fun e => e.2.ctx == x) ||
      (d.clearContext x).cores.any (fun e => e.2.nt.any (fun n => n.ctx == x))) = false := by
    rw [hfe, hcs, Bool.or_eq_false_iff]
    exact ⟨List.any_eq_false.2 fun e he => by simpa using hreqs e he, List.any_eq_false.2 fun e he => by simpa using hcores e he⟩
  simp only [Dev.destroySteps, h3, hall, bne_self_eq_false, Bool.not_true, Bool.or_self, Bool.false_eq_true, if_false]
  exact if_neg (by rw [← Dev.clearContext, hleft]; exact Bool.false_ne_true)

/-- R317: queues that are not quiet hold the destruction. -/
theorem Dev.destroySteps_waits {d : Dev} {x : Nat} (h : ∃ q ∈ d.ctxQueues x, d.queueQuiet q = false) : d.destroySteps x = d := by
  obtain ⟨q, hq, hbusy⟩ := h
  have hall : (d.ctxQueues x).all (fun q => d.queueQuiet q) = false := List.all_eq_false.2 ⟨q, hq, by simp [hbusy]⟩
  simp [Dev.destroySteps, hall]

end Sys2Proof.Machine
end

section
/-! CREATE_CONTEXT, DESTROY_CONTEXT and CONTEXT_CTL at each of their invocations, and their statement (R313 to R318). -/

namespace Sys2Proof.Machine

open Sys2Proof

/-- The context that a context command names. -/
abbrev Run.target (v : Run) : Nat := v.cmd.f 2 31 20

theorem manageCommand_createContext (r : Nat) : ManageCommand (.createContext r) r 0x20 createContextBad :=
  ⟨rfl, _, fun d => (rfl : d.createContext r = _)⟩

/-! ## Checks: no command names context 0 (R315) -/

section Checks
variable {d : Dev} {c : Cmd}

theorem createContextBad_ne_zero (h : createContextBad d c = none) : c.f 2 31 20 ≠ 0 := fun hx => by
  simp [createContextBad, firstBad_cons, badIf_none, hx] at h

theorem destroyContextBad_ne_zero (h : destroyContextBad d c = none) : c.f 2 31 20 ≠ 0 := fun hx => by
  simp [destroyContextBad, firstBad_cons, badIf_none, hx] at h

theorem contextCtlBad_ne_zero (h : contextCtlBad d c = none) : c.f 2 31 20 ≠ 0 := fun hx => by
  simp [contextCtlBad, firstBad_cons, badIf_none, hx] at h

end Checks

/-! ## What a new context reads (R316) -/

theorem Dev.makeContext_active (d : Dev) {x : Nat} (hx : x ≠ 0) (c : Cmd) :
    (d.makeContext x c.ctxDesc).reg (rCpCtxdesc x) = c.ctxDesc ∧ (d.makeContext x c.ctxDesc).ctxState x = 1 := by
  obtain ⟨hlt, hactive⟩ := c.ctxDesc_active
  have hreg : (d.makeContext x c.ctxDesc).reg (rCpCtxdesc x) = c.ctxDesc := (d.reg_setReg_same _ _).trans (Nat.mod_eq_of_lt hlt)
  exact ⟨hreg, by rw [Dev.ctxState, if_neg hx, Dev.fld, hreg, hactive]⟩

/-! ## The commands at each of their invocations -/

section Invocations
variable {d : Dev} {r : Nat} {v : Run} (hr : d.run? r = some v)
include hr

/-- R316: CREATE_CONTEXT. -/
theorem Dev.createContext_makes (hc : d.cpRuns = true) (hb : v.began = false) (hop : v.cmd.op = 0x20) (hbad : createContextBad d v.cmd = none) :
    d.createContext r = ((d.beginRun r 0).makeContext v.target v.cmd.ctxDesc).endRun r :=
  Dev.manage_good hr hc hop hb hbad _

theorem Dev.destroyContext_other (hop : v.cmd.op ≠ 0x21) : d.destroyContext r = d := by simp [Dev.destroyContext, hr, hop]

theorem Dev.destroyContextTimeout_other (hop : v.cmd.op ≠ 0x21) : d.destroyContextTimeout r = d := by
  simp [Dev.destroyContextTimeout, Dev.runCmd_eq hr, hop]

theorem Dev.contextSuspend_other (hop : v.cmd.op ≠ 0x22) : d.contextSuspend r = d := by simp [Dev.contextSuspend, hr, hop]

theorem Dev.suspendTimeout_other (hop : v.cmd.op ≠ 0x22) : d.suspendTimeout r = d := by simp [Dev.suspendTimeout, Dev.runCmd_eq hr, hop]

theorem Dev.contextResume_other (hop : v.cmd.op ≠ 0x22) : d.contextResume r = d := by simp [Dev.contextResume, hr, hop]

variable (hd : v.done = false)
include hd

/-- R317: past its bound. -/
theorem Dev.destroyContextTimeout_fails (hb : v.began = true) (hop : v.cmd.op = 0x21) : d.destroyContextTimeout r = d.failRun r .busy := by
  simp [Dev.destroyContextTimeout, Dev.runCmd_eq hr, Dev.runLive, hr, hop, hb, hd]

/-- R318: past its bound. -/
theorem Dev.suspendTimeout_fails (hb : v.began = true) (hop : v.cmd.op = 0x22) (hf : v.cmd.f 2 2 0 = 1) : d.suspendTimeout r = d.failRun r .busy := by
  simp [Dev.suspendTimeout, Dev.runCmd_eq hr, Dev.runLive, hr, hop, hf, hb, hd]

variable (hc : d.cpRuns = true)
include hc

section Destroy
variable (hop : v.cmd.op = 0x21)
include hop

theorem Dev.destroyContext_bad (hb : v.began = false) {st : Status} {i : Nat} (hbad : destroyContextBad d v.cmd = some (st, i)) :
    d.destroyContext r = d.failRun r st i := by
  simp [Dev.destroyContext, hr, hc, hop, hd, hb, hbad]

/-- R317 step 1. -/
theorem Dev.destroyContext_begins (hb : v.began = false) (hbad : destroyContextBad d v.cmd = none) :
    d.destroyContext r = (((d.beginRun r 0).setCtxState v.target 3).stopSuspend v.target r).drainContext v.target := by
  simp [Dev.destroyContext, hr, hc, hop, hd, hb, hbad, Dev.drainContext]

theorem Dev.destroyContext_goesOn (hb : v.began = true) : d.destroyContext r =
    if (d.destroySteps v.target).ctxState v.target = 0 ∧ ((d.destroySteps v.target).suspendRuns v.target r).isEmpty
      then (d.destroySteps v.target).endRun r else d.destroySteps v.target := by
  simp only [Dev.destroyContext, hr, hc, hop, hd, hb, bne_self_eq_false, Bool.not_true, Bool.or_self, Bool.false_eq_true, if_false]

variable (hb : v.began = true) (h3 : d.ctxState v.target = 3)
include hb h3

theorem Dev.destroyContext_waits (h : ∃ q ∈ d.ctxQueues v.target, d.queueQuiet q = false) : d.destroyContext r = d := by
  rw [Dev.destroyContext_goesOn hr hd hc hop hb, Dev.destroySteps_waits h, h3]
  exact if_neg fun hzero => absurd hzero.1 (by norm_num)

/-- R317 step 5: the context is FREE, and no SUSPEND it ended still waits for its entry. -/
theorem Dev.destroyContext_ends (hquiet : ∀ q ∈ d.ctxQueues v.target, d.queueQuiet q = true) (hs : d.suspendRuns v.target r = [])
    (hreqs : ∀ e ∈ d.fe.reqs, e.2.ctx ≠ v.target) (hcores : ∀ e ∈ d.cores, ∀ n ∈ e.2.nt, n.ctx ≠ v.target) :
    d.destroyContext r = ((d.clearContext v.target).freeContext v.target).endRun r := by
  obtain ⟨-, -, hfree, -⟩ := (d.clearContext v.target).freeContext_keeps v.target
  obtain ⟨hclear, -⟩ := d.clearContext_keeps v.target
  have hruns : ((d.clearContext v.target).freeContext v.target).suspendRuns v.target r = [] := by
    rw [Dev.suspendRuns, hfree, hclear]
    exact hs
  rw [Dev.destroyContext_goesOn hr hd hc hop hb, Dev.destroySteps_frees h3 hquiet hreqs hcores]
  exact if_pos ⟨Dev.ctxState_freeContext _ (Dev.ne_zero_of_ctxState h3 (by norm_num)), List.isEmpty_iff.2 hruns⟩

end Destroy

section Ctl
variable (hop : v.cmd.op = 0x22)
include hop

theorem Dev.contextSuspend_bad (hb : v.began = false) (hf : v.cmd.f 2 2 0 ≠ 2) {st : Status} {i : Nat}
    (hbad : contextCtlBad d v.cmd = some (st, i)) : d.contextSuspend r = d.failRun r st i := by
  simp [Dev.contextSuspend, hr, hc, hop, hd, hb, hf, hbad]

theorem Dev.contextResume_bad (hb : v.began = false) (hf : v.cmd.f 2 2 0 ≠ 1) {st : Status} {i : Nat}
    (hbad : contextCtlBad d v.cmd = some (st, i)) : d.contextResume r = d.failRun r st i := by
  simp [Dev.contextResume, hr, hc, hop, hd, hb, hf, hbad]

section Suspend
variable (hf : v.cmd.f 2 2 0 = 1)
include hf

section Begins
variable (hb : v.began = false) (hbad : contextCtlBad d v.cmd = none)
include hb hbad

/-- R318: a context that is SUSPENDED already. -/
theorem Dev.contextSuspend_begins (h2 : d.ctxState v.target = 2) : d.contextSuspend r = d.beginRun r 0 := by
  have h2' : (d.beginRun r 0).ctxState v.target = 2 := h2
  simp [Dev.contextSuspend, hr, hc, hop, hd, hf, hb, hbad, h2']

/-- R318: an ACTIVE context begins to wind down; groups that no kernel uses are released at once. -/
theorem Dev.contextSuspend_winds (h1 : d.ctxState v.target = 1) : d.contextSuspend r =
    if (d.ctxSt v.target).groups = [] then (d.beginRun r 0).windDown v.target
    else if d.ctxLive v.target = [] then ((d.beginRun r 0).windDown v.target).releaseGroups v.target
    else ((d.beginRun r 0).windDown v.target).preempt v.target := by
  have h1' : (d.beginRun r 0).ctxState v.target = 1 := h1
  have hgroups := congrArg CtxSt.groups ((d.beginRun r 0).ctxSt_windDown v.target)
  have hlive : ((d.beginRun r 0).windDown v.target).ctxLive v.target = d.ctxLive v.target := d.ctxLive_beginRun r 0 _
  simp only [Dev.contextSuspend, hr, hc, hop, hd, hf, hb, hbad, h1', bne_self_eq_false, Nat.reduceBEq, Bool.not_true, Bool.not_false, Bool.or_self,
    Bool.false_eq_true, if_false, if_true]
  rw [← Dev.windDown, hgroups, hlive]
  simp only [List.isEmpty_iff]
  rfl

end Begins

variable (hb : v.began = true)
include hb

/-- R318: the wind-down is over. -/
theorem Dev.contextSuspend_ends (hq : d.suspendQuiet v.target = true) :
    d.contextSuspend r = (d.setCtx v.target (fun c => { c with suspending := false })).endRun r := by
  simp [Dev.contextSuspend, hr, hc, hop, hd, hf, hb, hq, Dev.ctxSt_setCtx_same]

theorem Dev.contextSuspend_waits (hq : d.suspendQuiet v.target = false) (hs : (d.ctxSt v.target).suspending = true) :
    d.contextSuspend r = d := by
  simp [Dev.contextSuspend, hr, hc, hop, hd, hf, hb, hq, hs]

end Suspend

section Resume
variable (hf : v.cmd.f 2 2 0 = 2)
include hf

theorem Dev.contextResume_active (hb : v.began = false) (hbad : contextCtlBad d v.cmd = none) (h1 : d.ctxState v.target = 1) :
    d.contextResume r = (d.beginRun r 0).endRun r := by
  have h1' : (d.beginRun r 0).ctxState v.target = 1 := h1
  simp [Dev.contextResume, hr, hc, hop, hd, hf, hb, hbad, h1']

/-- R318: a SUSPENDED context is ACTIVE again; a preemption goes on only for kernels that were asked to yield. -/
theorem Dev.contextResume_begins (hb : v.began = false) (hbad : contextCtlBad d v.cmd = none) (h2 : d.ctxState v.target = 2) :
    ∃ asked, d.contextResume r = ((((d.beginRun r 0).setCtxState v.target 1).stopSuspend v.target r).setCtx v.target
      (fun c => { c with preempting := c.preempting && asked })).refreshWaits := by
  have h2' : (d.beginRun r 0).ctxState v.target = 2 := h2
  simp only [Dev.contextResume, hr, hc, hop, hd, hf, hb, hbad, h2', bne_self_eq_false, Nat.reduceBEq, Bool.not_true, Bool.not_false, Bool.or_self,
    Bool.false_eq_true, if_false, if_true, OfNat.ofNat_ne_one]
  exact ⟨_, rfl⟩

theorem Dev.contextResume_goesOn (hb : v.began = true) :
    d.contextResume r = if (d.suspendRuns v.target r).isEmpty then d.endRun r else d := by
  simp [Dev.contextResume, hr, hc, hop, hd, hf, hb]

end Resume
end Ctl
end Invocations

/-! ## What they leave -/

section Leave
variable {s : State} {r : Nat} {v : Run} (hr : s.dev.run? r = some v) (hc : s.dev.cpRuns = true) (hd : v.done = false)
include hr hc hd

/-- R316: the new context. -/
theorem exec_createContext (hst : v.status = none) (hb : v.began = false) (hop : v.cmd.op = 0x20) (hbad : createContextBad s.dev v.cmd = none) :
    ∃ t, exec (.createContext r) s = .next t ∧ EndsRun s t r none ∧ t.dev.cp.ctxs.find v.target = none ∧
      t.dev.reg (rCpCtxdesc v.target) = v.cmd.ctxDesc ∧ t.dev.ctxState v.target = 1 := by
  obtain ⟨hdesc, hstate⟩ := (s.dev.beginRun r 0).makeContext_active (createContextBad_ne_zero hbad) v.cmd
  have hrun := Dev.run_setRun hr fun v => { v with began := true, inst := 0, start := s.dev.time }
  refine ⟨_, exec_leaves rfl (Dev.createContext_makes hr hc hb hop hbad), endsRun_endRun hrun hd hst rfl rfl, ?_,
    (Dev.endRun_reg _ r _).trans hdesc, (Dev.ctxState_of_reg (Dev.endRun_reg _ r _)).trans hstate⟩
  exact (congrArg (SMap.find · _) (Dev.endRun_ctxs _ r)).trans (SMap.find_del_same _ _)

/-- R317 step 1: the context is DESTROYING. -/
theorem exec_destroyContext_begins (hb : v.began = false) (hop : v.cmd.op = 0x21) (hbad : destroyContextBad s.dev v.cmd = none) :
    ∃ t, exec (.destroyContext r) s = .next t ∧ t.dev.ctxState v.target = 3 ∧ KeepsMemory s t (fun _ => False) := by
  have hdrain := (Dev.regAndMem_drainContext (faultstat_ne_ctxdesc v.target) _ v.target).trans
    (((s.dev.beginRun r 0).setCtxState v.target 3).regAndMem_stopSuspend _ v.target r)
  obtain ⟨hreg, hms⟩ := Prod.mk.inj hdrain
  have hstate := Dev.ctxState_setCtxState (s.dev.beginRun r 0) (destroyContextBad_ne_zero hbad) (n := 3) (by norm_num)
  exact ⟨_, exec_leaves rfl (Dev.destroyContext_begins hr hd hc hop hb hbad), (Dev.ctxState_of_reg hreg).trans hstate,
    keepsMemory_of_eq (congrArg MemSys.mem hms)⟩

/-- R317 step 5: nothing stands of the context. -/
theorem exec_destroyContext_ends (hst : v.status = none) (hb : v.began = true) (hop : v.cmd.op = 0x21) (h3 : s.dev.ctxState v.target = 3)
    (hquiet : ∀ q ∈ s.dev.ctxQueues v.target, s.dev.queueQuiet q = true) (hs : s.dev.suspendRuns v.target r = [])
    (hreqs : ∀ e ∈ s.dev.fe.reqs, e.2.ctx ≠ v.target) (hcores : ∀ e ∈ s.dev.cores, ∀ n ∈ e.2.nt, n.ctx ≠ v.target) :
    ∃ t, exec (.destroyContext r) s = .next t ∧ EndsRun s t r none ∧ t.dev.NothingOf v.target := by
  obtain ⟨hruns, -, -, htime, hmem⟩ := s.dev.clearContext_keeps v.target
  obtain ⟨hms, -, hruns', htime'⟩ := (s.dev.clearContext v.target).freeContext_keeps v.target
  have hrun : ((s.dev.clearContext v.target).freeContext v.target).run? r = some v := by
    rw [Dev.run?, hruns', hruns]
    exact hr
  exact ⟨_, exec_leaves rfl (Dev.destroyContext_ends hr hd hc hop hb h3 hquiet hs hreqs hcores),
    endsRun_endRun hrun hd hst ((congrArg MemSys.mem hms).trans hmem) (htime'.trans htime),
    (s.dev.nothingOf_freeContext (Dev.ne_zero_of_ctxState h3 (by norm_num))).endRun hrun hst⟩

section Ctl
variable (hop : v.cmd.op = 0x22)
include hop

/-- R318: SUSPEND of an ACTIVE context that holds no group. -/
theorem exec_contextSuspend_stops (hf : v.cmd.f 2 2 0 = 1) (hb : v.began = false) (hbad : contextCtlBad s.dev v.cmd = none)
    (h1 : s.dev.ctxState v.target = 1) (hg : (s.dev.ctxSt v.target).groups = []) :
    ∃ t, exec (.contextSuspend r) s = .next t ∧ t.dev.ctxState v.target = 2 ∧ (t.dev.ctxSt v.target).suspending = true ∧
      KeepsMemory s t (fun _ => False) :=
  ⟨_, exec_leaves rfl ((Dev.contextSuspend_winds hr hd hc hop hf hb hbad h1).trans (if_pos hg)),
    Dev.ctxState_setCtxState (s.dev.beginRun r 0) (contextCtlBad_ne_zero hbad) (by norm_num),
    congrArg CtxSt.suspending (Dev.ctxSt_windDown _ _), keepsMemory_of_eq rfl⟩

/-- R318, R321: SUSPEND of an ACTIVE context whose groups hold no kernel. -/
theorem exec_contextSuspend_releases (hf : v.cmd.f 2 2 0 = 1) (hb : v.began = false) (hbad : contextCtlBad s.dev v.cmd = none)
    (h1 : s.dev.ctxState v.target = 1) (hg : (s.dev.ctxSt v.target).groups ≠ []) (hl : s.dev.ctxLive v.target = []) :
    ∃ t, exec (.contextSuspend r) s = .next t ∧ t.dev.ctxState v.target = 2 ∧ (t.dev.ctxSt v.target).groups = [] := by
  have hwinds := (Dev.contextSuspend_winds hr hd hc hop hf hb hbad h1).trans ((if_neg hg).trans (if_pos hl))
  obtain ⟨g, m, hreleased⟩ := Dev.releaseGroups_only ((s.dev.beginRun r 0).windDown v.target) v.target
  exact ⟨_, exec_leaves rfl (hwinds.trans hreleased), Dev.ctxState_setCtxState (s.dev.beginRun r 0) (contextCtlBad_ne_zero hbad) (by norm_num),
    congrArg CtxSt.groups (Dev.ctxSt_setCtx_same _ _ _)⟩

/-- R318: the wind-down is over. -/
theorem exec_contextSuspend_ends (hst : v.status = none) (hf : v.cmd.f 2 2 0 = 1) (hb : v.began = true) (hq : s.dev.suspendQuiet v.target = true) :
    ∃ t, exec (.contextSuspend r) s = .next t ∧ EndsRun s t r none ∧ (t.dev.ctxSt v.target).suspending = false := by
  have hrun : (s.dev.setCtx v.target (fun c => { c with suspending := false })).run? r = some v := hr
  refine ⟨_, exec_leaves rfl (Dev.contextSuspend_ends hr hd hc hop hf hb hq), endsRun_endRun hrun hd hst rfl rfl, ?_⟩
  have hctx := congrArg (SMap.get {} · v.target) (Dev.endRun_ctxs (s.dev.setCtx v.target (fun c => { c with suspending := false })) r)
  exact congrArg CtxSt.suspending (hctx.trans (Dev.ctxSt_setCtx_same _ _ _))

/-- R318: RESUME of a SUSPENDED context. -/
theorem exec_contextResume_begins (hf : v.cmd.f 2 2 0 = 2) (hb : v.began = false) (hbad : contextCtlBad s.dev v.cmd = none)
    (h2 : s.dev.ctxState v.target = 2) :
    ∃ t, exec (.contextResume r) s = .next t ∧ t.dev.ctxState v.target = 1 ∧ (t.dev.ctxSt v.target).suspending = false ∧
      KeepsMemory s t (fun _ => False) := by
  obtain ⟨asked, hbegins⟩ := Dev.contextResume_begins hr hd hc hop hf hb hbad h2
  have honly := Dev.refreshWaits_only ((((s.dev.beginRun r 0).setCtxState v.target 1).stopSuspend v.target r).setCtx v.target
    (fun c => { c with preempting := c.preempting && asked }))
  have hstops := ((s.dev.beginRun r 0).setCtxState v.target 1).stopSuspend_stops v.target r
  obtain ⟨hreg, hms⟩ := Prod.mk.inj (((s.dev.beginRun r 0).setCtxState v.target 1).regAndMem_stopSuspend (rCpCtxdesc v.target) v.target r)
  have hstate := Dev.ctxState_setCtxState (s.dev.beginRun r 0) (contextCtlBad_ne_zero hbad) (n := 1) (by norm_num)
  refine ⟨_, exec_leaves rfl hbegins, (Dev.ctxState_of_reg ((honly.reg _).trans hreg)).trans hstate, (honly.suspending _).trans ?_,
    keepsMemory_of_eq (congrArg MemSys.mem (honly.ms.trans hms))⟩
  rw [Dev.ctxSt_setCtx_same]
  exact hstops

end Ctl
end Leave

end Sys2Proof.Machine

namespace Sys2Proof

open Sys2Proof.Machine

/-- Settles O50: commands of another opcode, the checks, what begins, and what goes on and ends. -/
theorem contextManagement : Obligations.ContextManagement := by
  unfold Obligations.ContextManagement
  intro s r v hr hc hst hd
  dsimp only
  simp only [List.forall_mem_cons]
  refine ⟨⟨fun h => (manageCommand_createContext r).over hr (.inl h), fun h => exec_keeps rfl (Dev.destroyContext_other hr h),
      fun h => exec_keeps rfl (Dev.destroyContextTimeout_other hr h), fun h => exec_keeps rfl (Dev.contextSuspend_other hr h),
      fun h => exec_keeps rfl (Dev.suspendTimeout_other hr h), fun h => exec_keeps rfl (Dev.contextResume_other hr h),
      fun _ h => absurd h List.not_mem_nil⟩,
    fun hb st i => ⟨fun hop hbad => (manageCommand_createContext r).fails hr hc hop hb hbad,
      fun hop hbad => exec_leaves rfl (Dev.destroyContext_bad hr hd hc hop hb hbad),
      fun hop hbad => ⟨fun hf => exec_leaves rfl (Dev.contextSuspend_bad hr hd hc hop hb hf hbad),
        fun hf => exec_leaves rfl (Dev.contextResume_bad hr hd hc hop hb hf hbad)⟩⟩,
    fun hb => ⟨exec_createContext hr hc hd hst hb, exec_destroyContext_begins hr hc hd hb, fun hop hbad hf => ⟨fun h2 => ?_, ?_, ?_⟩,
      fun hop hbad hf => ⟨fun h1 => ?_, ?_⟩⟩,
    fun hb => ⟨fun hop h3 => ⟨fun h => ?_, ?_⟩, fun hop => ?_, fun hop hf => ⟨?_, fun hq hs => ?_, ?_⟩,
      fun hop hf => ⟨fun hs => ?_, fun hs => ?_⟩⟩⟩
  · exact exec_leaves rfl (Dev.contextSuspend_begins hr hd hc hop hf hb hbad h2)
  · exact exec_contextSuspend_stops hr hc hd hop hf hb hbad
  · exact exec_contextSuspend_releases hr hc hd hop hf hb hbad
  · have hrun := Dev.run_setRun hr fun v => { v with began := true, inst := 0, start := s.dev.time }
    exact ⟨_, exec_leaves rfl (Dev.contextResume_active hr hd hc hop hf hb hbad h1), endsRun_endRun hrun hd hst rfl rfl⟩
  · exact exec_contextResume_begins hr hc hd hop hf hb hbad
  · exact exec_keeps rfl (Dev.destroyContext_waits hr hd hc hop hb h3 h)
  · exact exec_destroyContext_ends hr hc hd hst hb hop h3
  · exact ⟨_, exec_leaves rfl (Dev.destroyContextTimeout_fails hr hd hb hop), endsRun_failRun hr hd hst .busy⟩
  · exact exec_contextSuspend_ends hr hc hd hop hst hf hb
  · exact exec_keeps rfl (Dev.contextSuspend_waits hr hd hc hop hf hb hq hs)
  · exact ⟨_, exec_leaves rfl (Dev.suspendTimeout_fails hr hd hb hop hf), endsRun_failRun hr hd hst .busy⟩
  · exact ⟨_, exec_leaves rfl ((Dev.contextResume_goesOn hr hd hc hop hf hb).trans (if_pos (List.isEmpty_iff.2 hs))), endsRun_endRun hr hd hst rfl rfl⟩
  · exact exec_keeps rfl ((Dev.contextResume_goesOn hr hd hc hop hf hb).trans (if_neg fun h => hs (List.isEmpty_iff.1 h)))

end Sys2Proof
end

section
/-! What the stream engine's commands, the boundaries of its sessions and its ports' frames leave (R342 to R349, R353, R362 to R367). -/

namespace Sys2Proof.Machine

open Sys2Proof

/-! ## Commands (R346 to R349, R367) -/

/-- A command of a stream opcode: it is reached once, and its fields are checked first. -/
def StreamCommand (i : Instr) (r op : Nat) (bad : Dev → Cmd → Chk) : Prop := i.wf = true ∧ ∃ f, ∀ d, does i d = d.streamCmd r op (bad d) f

theorem streamCommand_sessionOpen (r : Nat) : StreamCommand (.sessionOpen r) r 0x60 (fun _ => openBad) :=
  ⟨rfl, _, fun d => (rfl : d.sessionOpen r = _)⟩
theorem streamCommand_sessionModify (r : Nat) : StreamCommand (.sessionModify r) r 0x61 (fun _ => openBad) :=
  ⟨rfl, _, fun d => (rfl : d.sessionModify r = _)⟩
theorem streamCommand_sessionClose (r : Nat) : StreamCommand (.sessionClose r) r 0x62 (fun _ => closeBad) :=
  ⟨rfl, _, fun d => (rfl : d.sessionClose r = _)⟩
theorem streamCommand_pktSend (r : Nat) : StreamCommand (.pktSend r) r 0x63 pktBad :=
  ⟨rfl, _, fun d => (rfl : d.pktSend r = _)⟩
theorem streamCommand_dtmfSend (r : Nat) : StreamCommand (.dtmfSend r) r 0x64 (fun _ => dtmfBad) :=
  ⟨rfl, _, fun d => (rfl : d.dtmfSend r = _)⟩

section Checked
variable {i : Instr} {r op : Nat} {bad : Dev → Cmd → Chk} {s : State} {v : Run} (hi : StreamCommand i r op bad) (hr : s.dev.run? r = some v)
include hi hr

/-- A command of another opcode, or one that has begun, is not this one's to do. -/
theorem StreamCommand.over (h : v.cmd.op ≠ op ∨ v.began = true) : exec i s = .next s := by
  obtain ⟨hwf, f, hf⟩ := hi
  refine exec_keeps hwf ((hf _).trans ?_)
  rcases h with h | h <;> simp [Dev.streamCmd, hr, h]

/-- R346: the first check that fails ends it. -/
theorem StreamCommand.fails {st : Status} {n : Nat} (hop : v.cmd.op = op) (hb : v.began = false) (hbad : bad s.dev v.cmd = some (st, n)) :
    exec i s = .next (leaves s (s.dev.failAt r 0 st n)) := by
  obtain ⟨hwf, f, hf⟩ := hi
  refine exec_leaves hwf ((hf _).trans ?_)
  simp [Dev.streamCmd, hr, hop, hb, hbad]

/-- The two ways in which a command of this opcode is over before it does anything. -/
theorem StreamCommand.checks : (v.cmd.op ≠ op ∨ v.began = true → exec i s = .next s) ∧
    ∀ st n, v.cmd.op = op → v.began = false → bad s.dev v.cmd = some (st, n) → exec i s = .next (leaves s (s.dev.failAt r 0 st n)) :=
  ⟨hi.over hr, fun _ _ => hi.fails hr⟩

end Checked

section Reached
variable {d : Dev} {r : Nat} {v : Run} (hr : d.run? r = some v) (hb : v.began = false)

include hr hb in
theorem Dev.streamCmd_good {op : Nat} {bad : Cmd → Chk} (hop : v.cmd.op = op) (hbad : bad v.cmd = none) (f : Dev → Run → Dev) :
    d.streamCmd r op bad f = f d v := by
  simp [Dev.streamCmd, hr, hop, hb, hbad]

/-- R347: a descriptor that is read without fault or poison. -/
theorem Dev.readDescriptor_read {l : List Byte} {e : Dev} (hl : d.readV (d.whoRun r) (v.cmd.dw 4) 256 = (.ok, l, false, e))
    (f : Dev → List (BitVec 32) → Dev) :
    d.readDescriptor v r f = f (e.fabDone (d.whoRun r).waiter) ((bytesWords l).map (BitVec.ofNat 32)) := by
  simp [Dev.readDescriptor, hl]

/-- R347: the session that an OPEN makes. -/
def Session.opened (r : Nat) (v : Run) (desc : List (BitVec 32)) (now : Nat) : Session :=
  { run := r, ctx := v.qid / 256, desc := desc, t0 := firstBoundary v.cmd.sid now, target := sf desc 16 22 14 * 1000000 }

/-- R347: a session opens: it is listed, counted, and its progress block is written. -/
def Dev.opens (d : Dev) (sid : Nat) (x : Session) : Dev :=
  ({ d with se := { d.se with sessions := d.se.sessions.set sid x } } : Dev).sesCount.progressWrite sid 1

section Open
variable (hop : v.cmd.op = 0x60) (hbad : openBad v.cmd = none)
include hr hb hop hbad

theorem Dev.sessionOpen_off (hon : d.bit rSeStat 31 = false) : d.sessionOpen r = d.failAt r 0 .busy := by
  rw [Dev.sessionOpen, Dev.streamCmd_good hr hb hop hbad, hon]
  rfl

variable (hon : d.bit rSeStat 31 = true) {l : List Byte} {e : Dev} (hl : d.readV (d.whoRun r) (v.cmd.dw 4) 256 = (.ok, l, false, e))
  {desc : List (BitVec 32)} (hdesc : (bytesWords l).map (BitVec.ofNat 32) = desc) {f : Dev} (hf : e.fabDone (d.whoRun r).waiter = f)
include hon hl hdesc hf

theorem Dev.sessionOpen_refused {st : Status} {i : Nat} (hchk : firstBad [sesFieldBad desc, f.openTurned v.cmd (v.qid / 256) desc] = some (st, i)) :
    d.sessionOpen r = f.failAt r 0 st i := by
  rw [Dev.sessionOpen, Dev.streamCmd_good hr hb hop hbad]
  simp [hon, Dev.readDescriptor_read hl, hdesc, hf, hchk]

theorem Dev.sessionOpen_opens (hchk : firstBad [sesFieldBad desc, f.openTurned v.cmd (v.qid / 256) desc] = none) :
    d.sessionOpen r = (f.beginRun r 0).opens v.cmd.sid (Session.opened r v desc f.time) := by
  rw [Dev.sessionOpen, Dev.streamCmd_good hr hb hop hbad]
  simp only [hon, Dev.readDescriptor_read hl, hdesc, hf, hchk]
  rfl

end Open

section Modify
variable (hop : v.cmd.op = 0x61) (hbad : openBad v.cmd = none)
include hr hb hop hbad

theorem Dev.sessionModify_turned {st : Status} {i : Nat} (ht : d.sesTurned v = some (st, i)) : d.sessionModify r = d.failAt r 0 st i := by
  rw [Dev.sessionModify, Dev.streamCmd_good hr hb hop hbad]
  simp only [ht]

variable (ht : d.sesTurned v = none) {x : Session} (hx : d.session? v.cmd.sid = some x)
  {l : List Byte} {e : Dev} (hl : d.readV (d.whoRun r) (v.cmd.dw 4) 256 = (.ok, l, false, e))
  {desc : List (BitVec 32)} (hdesc : (bytesWords l).map (BitVec.ofNat 32) = desc) {f : Dev} (hf : e.fabDone (d.whoRun r).waiter = f)
include ht hx hl hdesc hf

theorem Dev.sessionModify_refused {st : Status} {i : Nat} (hchk : firstBad [sesFieldBad desc, modifyBad x.desc desc] = some (st, i)) :
    d.sessionModify r = f.failAt r 0 st i := by
  rw [Dev.sessionModify, Dev.streamCmd_good hr hb hop hbad]
  simp only [ht, hx, Dev.readDescriptor_read hl, hdesc, hf, hchk]

theorem Dev.sessionModify_waits (hchk : firstBad [sesFieldBad desc, modifyBad x.desc desc] = none) : d.sessionModify r = f.sesChange v r false desc := by
  rw [Dev.sessionModify, Dev.streamCmd_good hr hb hop hbad]
  simp only [ht, hx, Dev.readDescriptor_read hl, hdesc, hf, hchk]

end Modify

section Close
variable (hop : v.cmd.op = 0x62) (hbad : closeBad v.cmd = none)
include hr hb hop hbad

theorem Dev.sessionClose_turned {st : Status} {i : Nat} (ht : d.sesTurned v = some (st, i)) : d.sessionClose r = d.failAt r 0 st i := by
  rw [Dev.sessionClose, Dev.streamCmd_good hr hb hop hbad]
  simp only [ht]

theorem Dev.sessionClose_waits (ht : d.sesTurned v = none) : d.sessionClose r = d.sesChange v r true [] := by
  rw [Dev.sessionClose, Dev.streamCmd_good hr hb hop hbad]
  simp only [ht]

end Close

/-- R367: a frame of a PKT_SEND that is read without fault or poison is queued. -/
theorem Dev.pktSend_queues (hr : d.run? r = some v) (hb : v.began = false) (hop : v.cmd.op = 0x63) (hbad : pktBad d v.cmd = none) {l : List Byte} {e : Dev}
    (hl : d.readV (d.whoRun r) (v.cmd.dw 4) (v.cmd.f 2 13 0) = (.ok, l, false, e)) :
    d.pktSend r = ((e.fabDone (d.whoRun r).waiter).beginRun r 0).transmit (v.cmd.f 2 31 31) (.raw r l) := by
  rw [Dev.pktSend, Dev.streamCmd_good hr hb hop hbad]
  simp [hl]

section Dtmf
variable (hop : v.cmd.op = 0x64) (hbad : dtmfBad v.cmd = none)
include hr hb hop hbad

theorem Dev.dtmfSend_turned {st : Status} {i : Nat} (ht : d.sesTurned v = some (st, i)) : d.dtmfSend r = d.failAt r 0 st i := by
  rw [Dev.dtmfSend, Dev.streamCmd_good hr hb hop hbad]
  simp only [ht]

variable (ht : d.sesTurned v = none) {x : Session} (hx : d.session? v.cmd.sid = some x)
include ht hx

theorem Dev.dtmfSend_busy (h : x.event ≠ none ∨ sb x.desc 13 30 = false) : d.dtmfSend r = d.failAt r 0 .busy := by
  have hbusy : (x.event.isSome || !sb x.desc 13 30) = true := by
    rcases h with h | h
    · simp [Option.isSome_iff_ne_none.2 h]
    · simp [h]
  rw [Dev.dtmfSend, Dev.streamCmd_good hr hb hop hbad]
  simp only [ht, hx, hbusy, if_true]

/-- R349: the event that a DTMF_SEND begins. -/
theorem Dev.dtmfSend_begins (he : x.event = none) (hs : sb x.desc 13 30 = true) :
    d.dtmfSend r = (d.beginRun r 0).setSession v.cmd.sid (fun y =>
      { y with event := some ⟨r, v.cmd.f 2 7 4, none, 0, (v.cmd.f 3 15 0 + 19) / 20, 3⟩ }) := by
  rw [Dev.dtmfSend, Dev.streamCmd_good hr hb hop hbad]
  simp [ht, hx, he, hs]

end Dtmf
end Reached

/-! ## A session as it stands -/

section Stands
variable {d : Dev} {sid : Nat} {x : Session}

theorem Dev.session_setSession (hx : d.session? sid = some x) (f : Session → Session) : (d.setSession sid f).session? sid = some (f x) :=
  (SMap.find_adj_same _ _ _).trans (congrArg (Option.map f) hx)

theorem Dev.session_of_se {e : Dev} (he : e.se = d.se) (hx : d.session? sid = some x) : e.session? sid = some x := by
  rw [Dev.session?, he]
  exact hx

/-- The session that a command names is there unless it turns the command away. -/
theorem Dev.session_of_sesTurned {v : Run} (h : d.sesTurned v = none) : ∃ x, d.session? v.cmd.sid = some x := by
  cases hx : d.session? v.cmd.sid with
  | none => simp [Dev.sesTurned, hx] at h
  | some x => exact ⟨x, rfl⟩

/-- R348: a CLOSE joins the changes that wait, and is live unless it was over. -/
theorem exec_sessionClose {s : State} {r : Nat} {v : Run} (hr : s.dev.run? r = some v) (hb : v.began = false) (hop : v.cmd.op = 0x62)
    (hbad : closeBad v.cmd = none) (ht : s.dev.sesTurned v = none) :
    ∃ t x y, exec (.sessionClose r) s = .next t ∧ s.dev.session? v.cmd.sid = some x ∧ t.dev.session? v.cmd.sid = some y ∧
      y.changes = x.changes ++ [⟨r, true, s.dev.time + 1000000, []⟩] ∧ t.dev.runLive r = !v.done ∧ KeepsMemory s t (fun _ => False) := by
  obtain ⟨x, hx⟩ := Dev.session_of_sesTurned ht
  have hrun : (s.dev.sesChange v r true []).run? r = some { v with began := true, inst := 0, start := s.dev.time } := Dev.run_setRun hr _
  have hlive : (s.dev.sesChange v r true []).runLive r = !v.done := by simp [Dev.runLive, hrun]
  exact ⟨_, x, _, exec_leaves rfl (Dev.sessionClose_waits hr hb hop hbad ht), hx, Dev.session_setSession (d := s.dev.beginRun r 0) hx _, rfl, hlive,
    keepsMemory_of_eq rfl⟩

/-! ## OUTPROD and the progress block (R364, R365) -/

theorem Dev.outprodRead_closed (h : d.session? sid = none) : d.outprodRead sid = d := by simp [Dev.outprodRead, h]

theorem Dev.outprodRead_off (h : d.bit rSeStat 31 = false) : d.outprodRead sid = d := by
  cases hx : d.session? sid <;> simp [Dev.outprodRead, hx, h]

theorem Dev.progressBlock_closed (h : d.session? sid = none) : d.progressBlock sid = d := by simp [Dev.progressBlock, h]

section Session
variable (hx : d.session? sid = some x)
include hx

theorem Dev.outprodRead_known (h : x.out ≠ none) : d.outprodRead sid = d := by
  simp [Dev.outprodRead, hx, Option.isSome_iff_ne_none.2 h]

section Outprod
variable (hon : d.bit rSeStat 31 = true) (ho : x.out = none) {l : List Byte} {e : Dev}
  (hl : d.readV (d.whoRun x.run) (sdw x.desc 44 + 32) 8 = (.ok, l, false, e))
include hon ho hl

/-- R365: fewer than 320 samples are an underrun. -/
theorem Dev.outprodRead_underrun (h : ofLe l < x.outcons + 320) :
    d.outprodRead sid = (e.fabDone (d.whoRun x.run).waiter).setSession sid (fun y => { y with out := some false, underrun := y.underrun + 1 }) := by
  simp [Dev.outprodRead, hx, hon, ho, hl, h]

/-- R365: 320 samples are taken. -/
theorem Dev.outprodRead_takes (h : x.outcons + 320 ≤ ofLe l) {b : List Byte} {f : Dev}
    (hp : e.readPieces (d.whoRun x.run) ((audioPieces (sdw x.desc 38) (sf x.desc 46 27 24) x.outcons (List.replicate 320 0)).map
      (fun p => (p.1, p.2.length))) = (.ok, b, false, f)) :
    d.outprodRead sid = (f.fabDone (d.whoRun x.run).waiter).setSession sid (fun y => { y with out := some true, outcons := y.outcons + 320 }) := by
  have henough : (false || decide (ofLe l < x.outcons + 320)) = false := by simpa using h
  simp only [Dev.outprodRead, hx, ho, hon, Option.isSome_none, Bool.not_true, Bool.or_self, Bool.false_eq_true, if_false, hl, henough, hp]

end Outprod

theorem Dev.progressBlock_idle (h : x.held = []) : d.progressBlock sid = d := by simp [Dev.progressBlock, hx, h]

section Held
variable {f : FrameWrites} {rest : List FrameWrites} {e : Dev} (hh : x.held = f :: rest) (he : e.se = d.se)
include hh he

/-- R364: memory takes the oldest frame, then the progress block is written. -/
theorem Dev.progressBlock_writes (hw : d.writeAll (d.whoRun x.run) (f.pieces x.desc) = (.ok, e)) :
    d.progressBlock sid = ((e.fabDone (d.whoRun x.run).waiter).setSession sid
      (fun y => { y with held := rest, frames := f.k + 1, failRow := 0 })).progressWrite sid 1 := by
  have hx' : (e.fabDone (d.whoRun x.run).waiter).session? sid = some x := Dev.session_of_se (d := d) he hx
  have hwrite : d.frameWrite sid = (e.fabDone (d.whoRun x.run).waiter).setSession sid
      (fun y => { y with held := rest, frames := f.k + 1, failRow := 0 }) := by
    simp [Dev.frameWrite, hx, hh, hw]
  simp [Dev.progressBlock, hx, hh, hwrite, Dev.session_setSession hx']

/-- R364: a frame that memory cannot take yet stays the oldest held. -/
theorem Dev.progressBlock_waits (hw : d.writeAll (d.whoRun x.run) (f.pieces x.desc) = (.wait, e)) : d.progressBlock sid = e := by
  have hx' : e.session? sid = some x := Dev.session_of_se he hx
  have hwrite : d.frameWrite sid = e := by simp [Dev.frameWrite, hx, hh, hw]
  simp [Dev.progressBlock, hx, hh, hwrite, hx']

end Held
end Session
end Stands

end Sys2Proof.Machine
end

section
/-! What a frame boundary leaves of its session (R345, R352 to R365). -/

namespace Sys2Proof.Machine

open Sys2Proof

/-! ## What a part of a boundary leaves -/

/-- From `d` to `e` time and memory stay, and session sid of `e` is `y`. -/
def SessionAfter (d e : Dev) (sid : Nat) (y : Session) : Prop := e.session? sid = some y ∧ e.ms.mem = d.ms.mem ∧ e.time = d.time

/-- The session's next boundary, its event and its held frames are the same. -/
def Session.SamePlace (x y : Session) : Prop := y.k = x.k ∧ y.event = x.event ∧ y.held = x.held

theorem Session.SamePlace.trans {x y z : Session} (h : x.SamePlace y) (h' : y.SamePlace z) : x.SamePlace z := by
  obtain ⟨hk, hevent, hheld⟩ := h
  obtain ⟨hk', hevent', hheld'⟩ := h'
  exact ⟨hk'.trans hk, hevent'.trans hevent, hheld'.trans hheld⟩

section After
variable {d e f : Dev} {sid : Nat} {x y z : Session}

theorem SessionAfter.refl (hx : d.session? sid = some x) : SessionAfter d d sid x := ⟨hx, rfl, rfl⟩

theorem SessionAfter.trans (h : SessionAfter d e sid y) (h' : SessionAfter e f sid z) : SessionAfter d f sid z := by
  obtain ⟨-, hmem, htime⟩ := h
  obtain ⟨hz, hmem', htime'⟩ := h'
  exact ⟨hz, hmem'.trans hmem, htime'.trans htime⟩

theorem SessionAfter.setSession (h : SessionAfter d e sid y) (g : Session → Session) : SessionAfter d (e.setSession sid g) sid (g y) :=
  ⟨Dev.session_setSession h.1 g, h.2⟩

end After

/-! ## The inbound frame (R352 to R362) -/

theorem Session.playFrame_place (x : Session) : x.SamePlace x.playFrame.2 := by
  unfold Session.playFrame
  split
  · split <;> exact ⟨rfl, rfl, rfl⟩
  · dsimp only
    split <;> exact ⟨rfl, rfl, rfl⟩

theorem Session.frameDigit_place (x : Session) (k : FrameKind) (v : BitVec 64) : x.SamePlace (x.frameDigit k v).2 := by
  unfold Session.frameDigit
  dsimp only
  split
  · exact ⟨rfl, rfl, rfl⟩
  · split <;> exact ⟨rfl, rfl, rfl⟩

theorem Session.retarget_place (x : Session) (voice : Bool) : x.SamePlace (x.retarget voice) := by
  unfold Session.retarget
  dsimp only
  split
  · split
    · exact ⟨rfl, rfl, rfl⟩
    · split <;> exact ⟨rfl, rfl, rfl⟩
  · exact ⟨rfl, rfl, rfl⟩

/-- What a frame notes in its session leaves the session's place. -/
theorem Session.framed_place (x : Session) (window : List (Int × Int)) (erle : Nat) (voice : Bool) (prev : List (BitVec 16)) :
    x.SamePlace { ({ x with window := window, erle := erle } : Session).retarget voice with prev := prev, newBye := false, newSsrc := false } :=
  Session.retarget_place { x with window := window, erle := erle } voice

section Frame
variable {d : Dev} {sid : Nat} {x : Session}

/-- R352, R355: a frame has 320 samples. -/
theorem Dev.length_frameSamples (d : Dev) (k : FrameKind) (ec : Bool) : (d.frameSamples k ec).1.length = 320 := by
  unfold Dev.frameSamples
  split
  · exact List.length_replicate
  · rw [List.length_map, List.length_range]

/-- Making samples uses up free values alone. -/
theorem Dev.frameSamples_only (d : Dev) (k : FrameKind) (ec : Bool) : ∃ n, (d.frameSamples k ec).2 = { d with free := n } := by
  unfold Dev.frameSamples
  split
  · exact ⟨d.free, rfl⟩
  · exact ⟨_, rfl⟩

/-- R370: a new frame is among those held. -/
theorem Dev.frameHold_after (hx : d.session? sid = some x) (f : FrameWrites) :
    ∃ y, SessionAfter d (d.frameHold sid f) sid y ∧ y.k = x.k ∧ y.event = x.event ∧ f ∈ y.held := by
  refine ⟨_, (SessionAfter.refl (d := d.fresh.2) hx).setSession _, ?_⟩
  split
  · split <;> exact ⟨rfl, rfl, List.mem_append_right _ List.mem_cons_self⟩
  · exact ⟨rfl, rfl, List.mem_cons_self⟩

/-- The session that frame k leaves, and what is held of the frame. -/
theorem Dev.inboundFrame_holds (hx : d.session? sid = some x) :
    ∃ (e : Dev) (y : Session) (f : FrameWrites), d.inboundFrame sid = (e.setSession sid (fun _ => y)).frameHold sid f ∧
      (e.se = d.se ∧ e.ms = d.ms ∧ e.time = d.time) ∧ x.SamePlace y ∧ f.k = x.k ∧ f.samples.length = 320 ∧ f.record.length = 8 := by
  have hplay := x.playFrame_place
  rcases hp : x.playFrame with ⟨kind, u⟩
  have hlen := d.length_frameSamples kind (sb u.desc 13 27)
  obtain ⟨n, honly⟩ := d.frameSamples_only kind (sb u.desc 13 27)
  rcases hs : d.frameSamples kind (sb u.desc 13 27) with ⟨samples, e⟩
  have hdigit := u.frameDigit_place kind (Config.freeValue e.free)
  rcases hg : u.frameDigit kind (Config.freeValue e.free) with ⟨dg, w⟩
  rw [hp] at hplay
  rw [hg] at hdigit
  rw [hs] at hlen honly
  have hw : x.SamePlace w := hplay.trans hdigit
  simp only [Dev.inboundFrame, hx, hp, hs, Dev.fresh, hg]
  refine ⟨_, _, _, rfl, ?_, ?_, hw.1, hlen, rfl⟩
  · subst honly
    exact ⟨rfl, rfl, rfl⟩
  · exact hw.trans (w.framed_place _ _ _ _)

/-- R354 to R362: the frame of boundary k: 320 samples and a record of 8 words. -/
theorem Dev.inboundFrame_after (hx : d.session? sid = some x) :
    ∃ y, SessionAfter d (d.inboundFrame sid) sid y ∧ y.k = x.k ∧ y.event = x.event ∧
      ∃ f ∈ y.held, f.k = x.k ∧ f.samples.length = 320 ∧ f.record.length = 8 := by
  obtain ⟨e, u, f, hframe, ⟨hse, hms, htime⟩, ⟨hk, hevent, -⟩, hf⟩ := Dev.inboundFrame_holds hx
  have hu : SessionAfter d (e.setSession sid (fun _ => u)) sid u :=
    ⟨Dev.session_setSession (Dev.session_of_se hse hx) _, congrArg MemSys.mem hms, htime⟩
  obtain ⟨y, hy, hyk, hyevent, hmem⟩ := Dev.frameHold_after hu.1 f
  rw [hframe]
  exact ⟨y, hu.trans hy, hyk.trans hk, hyevent.trans hevent, f, hmem, hf⟩

/-! ## The outbound packets (R349, R365) -/

/-- R365: a packet is queued on the session's port, or is not sent. -/
theorem Dev.sesSend_after (hx : d.session? sid = some x) (rtp : Bool) (f : Session → TxFrame) :
    ∃ y, SessionAfter d (d.sesSend sid rtp f) sid y ∧ x.SamePlace y := by
  have hsame : SessionAfter d d sid x := .refl hx
  have hqueued : SessionAfter d (d.transmit (sesPort x.desc) (f x)) sid x := ⟨hx, rfl, rfl⟩
  simp only [Dev.sesSend, hx]
  split
  · split
    · exact ⟨_, hqueued.setSession _, rfl, rfl, rfl⟩
    · exact ⟨x, hqueued, rfl, rfl, rfl⟩
  · exact ⟨x, hsame, rfl, rfl, rfl⟩

/-- R365: audio, silence or comfort noise. -/
theorem Dev.outboundPacket_after (hx : d.session? sid = some x) : ∃ y, SessionAfter d (d.outboundPacket sid) sid y ∧ x.SamePlace y := by
  have hnoted : ∀ {e : Dev} (n : Session → Nat), (∃ y, SessionAfter d e sid y ∧ x.SamePlace y) →
      ∃ y, SessionAfter d (e.setSession sid (fun u => { u with silence := n u })) sid y ∧ x.SamePlace y := fun n h => by
    obtain ⟨y, hy, hplace⟩ := h
    exact ⟨_, hy.setSession _, hplace⟩
  simp only [Dev.outboundPacket, hx]
  split
  · exact hnoted (fun _ => 0) (Dev.sesSend_after hx _ _)
  · refine hnoted (fun u => u.silence + 1) ?_
    split
    · exact Dev.sesSend_after hx _ _
    · split
      · exact Dev.sesSend_after hx _ _
      · exact ⟨x, .refl hx, rfl, rfl, rfl⟩

theorem Dev.eventPacket_none (hx : d.session? sid = some x) (he : x.event = none) : d.eventPacket sid = d := by
  simp [Dev.eventPacket, hx, he]

/-! ## The boundary (R345) -/

theorem Dev.frameBoundary_off (h : d.bit rSeStat 31 = false) : d.frameBoundary sid = d := by simp [Dev.frameBoundary, h]

theorem Dev.frameBoundary_closed (h : d.session? sid = none) : d.frameBoundary sid = d := by
  simp [Dev.frameBoundary, Dev.outprodRead_closed h, h]

/-- R345, R348: a session whose boundary has come: its changes are taken from it, and an OUTPROD not yet read is an underrun. -/
def Session.due (x : Session) : Session :=
  { x with changes := [], out := some (x.out.getD false), underrun := if x.out.isNone then x.underrun + 1 else x.underrun }

/-- R345: boundary k of session x has come: the clock stands at its time at least. -/
def Dev.atBoundary (d : Dev) (sid : Nat) (x : Session) : Dev :=
  ({ d with time := max d.time (x.tk x.k) } : Dev).setSession sid Session.due

section Boundary
variable (hx : d.session? sid = some x) (hon : d.bit rSeStat 31 = true) (ho : x.out ≠ none) (hch : x.changes = []) (hab : x.aborted = false)
  (hfail : x.failRow < 250) (hev : x.event = none) (hk : x.k % 250 ≠ 0)
include hx hon ho hch hab hfail hev hk

/-- R345, R365: a boundary at which OUTPROD has been read, nothing changes and nothing ends: a frame in, a packet out, and the next is awaited. -/
theorem Dev.frameBoundary_plays : d.frameBoundary sid =
    ((((d.atBoundary sid x).inboundFrame sid).outboundPacket sid).eventPacket sid).setSession sid (fun u => { u with k := u.k + 1, out := none }) := by
  have hrtcp : (x.k % 250 == 0) = false := beq_eq_false_iff_ne.2 hk
  simp only [Dev.frameBoundary, hon, Dev.outprodRead_known hx ho, hx, hch, Dev.sesChanges, hev, hab, not_le.2 hfail, hrtcp, Option.isSome_none,
    Bool.not_true, Bool.false_and, Bool.or_self, Bool.false_eq_true, and_false, if_false]
  rfl

/-- R345: such a boundary holds its frame, moves to the next, and touches no memory. -/
theorem Dev.frameBoundary_holds : ∃ y, (d.frameBoundary sid).session? sid = some y ∧ y.k = x.k + 1 ∧ y.out = none ∧
    (d.frameBoundary sid).ms.mem = d.ms.mem ∧ (d.frameBoundary sid).time = max d.time (x.tk x.k) ∧
    ∃ f ∈ y.held, f.k = x.k ∧ f.samples.length = 320 ∧ f.record.length = 8 := by
  have hdue : (d.atBoundary sid x).session? sid = some x.due := Dev.session_setSession (d := { d with time := max d.time (x.tk x.k) }) hx _
  obtain ⟨u, hu, huk, huev, f, hf, hframe⟩ := Dev.inboundFrame_after hdue
  obtain ⟨w, hw, hwk, hwev, hwheld⟩ := Dev.outboundPacket_after hu.1
  have hnone : w.event = none := hwev.trans (huev.trans hev)
  have hout := Dev.session_setSession hw.1 (fun u => { u with k := u.k + 1, out := none })
  obtain ⟨-, hmem, htime⟩ := hu.trans hw
  rw [Dev.frameBoundary_plays hx hon ho hch hab hfail hev hk, Dev.eventPacket_none hw.1 hnone]
  exact ⟨_, hout, congrArg (· + 1) (hwk.trans huk), rfl, hmem, htime, f, hwheld ▸ hf, hframe⟩

end Boundary
end Frame
end Sys2Proof.Machine
end

section
/-! Frames that leave and enter a media port (R342, R343, R353, R367). -/

namespace Sys2Proof.Machine

open Sys2Proof

/-- R342: the engine runs, and the port is enabled and has its link. -/
def Dev.mediaOn (d : Dev) (p : Nat) : Prop := d.bit rSeStat 31 = true ∧ d.bit (rSePortcfg p) 31 = true ∧ d.bit (rSePortcfg p) 30 = true

theorem Dev.mediaOn_iff {d : Dev} {p : Nat} : d.mediaOn p ↔ (d.bit rSeStat 31 && d.bit (rSePortcfg p) 31 && d.bit (rSePortcfg p) 30) = true := by
  rw [Bool.and_eq_true, Bool.and_eq_true, and_assoc, Dev.mediaOn]

/-! ## A frame leaves (R367) -/

theorem TxFrame.isRaw_of_raw {f : TxFrame} (h : ∃ r l, f = .raw r l) : f.isRaw = true := by
  obtain ⟨r, l, rfl⟩ := h
  rfl

theorem TxFrame.isRaw_of_ne {f : TxFrame} (h : ∀ r l, f ≠ .raw r l) : f.isRaw = false := by
  cases f with
  | raw r l => exact absurd rfl (h r l)
  | _ => rfl

/-- A queue of PKT_SEND frames holds no session's packet. -/
theorem findIdx?_allRaw {q : List TxFrame} (h : ∀ y ∈ q, ∃ r l, y = .raw r l) : q.findIdx? (fun f => !f.isRaw) = none := by
  rw [List.findIdx?_eq_none_iff]
  intro y hy
  rw [TxFrame.isRaw_of_raw (h y hy)]
  rfl

section Sent
variable {d : Dev} {p : Nat}

theorem Dev.mediaSent_off (h : ¬ d.mediaOn p) : d.mediaSent p = d := by
  rw [Dev.mediaOn_iff, Bool.not_eq_true] at h
  simp [Dev.mediaSent, h]

variable (hon : d.mediaOn p)
include hon

theorem Dev.mediaSent_empty (hq : SMap.get [] d.se.txq p = []) : d.mediaSent p = d := by
  simp [Dev.mediaSent, Dev.mediaOn_iff.1 hon, hq]

/-- R367: the first session packet goes before the frames of PKT_SEND ahead of it. -/
theorem Dev.mediaSent_session {a b : List TxFrame} {x : TxFrame} (hq : SMap.get [] d.se.txq p = a ++ x :: b) (ha : ∀ y ∈ a, ∃ r l, y = .raw r l)
    (hx : ∀ r l, x ≠ .raw r l) : d.mediaSent p = { d with se := { d.se with txq := d.se.txq.set p (a ++ b) } } := by
  have hfind : (a ++ x :: b).findIdx? (fun f => !f.isRaw) = some a.length := by
    simp [List.findIdx?_append, findIdx?_allRaw ha, List.findIdx?_cons, TxFrame.isRaw_of_ne hx]
  have herase : (a ++ x :: b).eraseIdx a.length = a ++ b := by simp [List.eraseIdx_append_of_length_le]
  simp only [Dev.mediaSent, Dev.mediaOn_iff.1 hon, hq, hfind, herase]
  rfl

/-- R367: where no session packet waits, the oldest frame of a PKT_SEND goes, and its command ends. -/
theorem Dev.mediaSent_raw {k : Nat} {l : List Byte} {b : List TxFrame} (hq : SMap.get [] d.se.txq p = .raw k l :: b)
    (hb : ∀ y ∈ b, ∃ r l, y = .raw r l) {e : Dev} (he : e = { d with se := { d.se with txq := d.se.txq.set p b } }) :
    d.mediaSent p = if d.runAborting k then e.failRun k .aborted else e.endRun k := by
  have hfind := findIdx?_allRaw (List.forall_mem_cons.2 ⟨⟨k, l, rfl⟩, hb⟩)
  subst he
  simp only [Dev.mediaSent, Dev.mediaOn_iff.1 hon, hq, hfind]
  rfl

end Sent

/-! ## A frame is received (R343, R353) -/

/-- R353: what becomes of a sound frame that carries `c` to this port alone. -/
def Dev.carries (d : Dev) (p : Nat) (auth : Bool) (f plain : List Byte) (c : Carried) : Dev :=
  match c with
  | .udp v6 src dst sport dport u len =>
    let raw := (f.drop (u + 8)).take (len - 8)
    match d.sesMatch p (frameVid f) v6 dst dport (be raw 1 1) with
    | some (sid, rtcp) => d.sesPacket p sid rtcp auth f src sport u raw plain
    | none => d.exception p 0 0 f
  | .other why => d.exception p why 0 f
  | .bad => d

section Carries
variable {d : Dev} {p : Nat} {f : List Byte} {v6 : Bool} {src dst : List Byte} {sport dport u len : Nat}

/-- R353: a datagram of no session is an exception. -/
theorem Dev.carries_unmatched (auth : Bool) (plain : List Byte)
    (hm : d.sesMatch p (frameVid f) v6 dst dport (be ((f.drop (u + 8)).take (len - 8)) 1 1) = none) :
    d.carries p auth f plain (.udp v6 src dst sport dport u len) = d.exception p 0 0 f := by
  simp only [Dev.carries, hm]

/-- R353: a datagram of a session goes to it. -/
theorem Dev.carries_matched {sid : Nat} {rtcp : Bool} (auth : Bool) (plain : List Byte)
    (hm : d.sesMatch p (frameVid f) v6 dst dport (be ((f.drop (u + 8)).take (len - 8)) 1 1) = some (sid, rtcp)) :
    d.carries p auth f plain (.udp v6 src dst sport dport u len) =
      d.sesPacket p sid rtcp auth f src sport u ((f.drop (u + 8)).take (len - 8)) plain := by
  simp only [Dev.carries, hm]

end Carries

section Received
variable {d : Dev} {p : Nat} {fcs : Bool} (auth : Bool) {f : List Byte} (plain : List Byte)

theorem Dev.mediaFrame_off (h : ¬ d.mediaOn p) : d.mediaFrame p fcs auth f plain = d := by
  rw [Dev.mediaOn_iff, Bool.not_eq_true] at h
  simp [Dev.mediaFrame, h]

variable (hon : d.mediaOn p)
include hon

/-- R343: a frame that is damaged, short or long. -/
theorem Dev.mediaFrame_damaged (h : fcs = false ∨ f.length < 60 ∨ d.maxFrame p < f.length + 4) :
    d.mediaFrame p fcs auth f plain = d.addSat (rSePorterr p) 63 32 1 := by
  have hbad : (!fcs) = true ∨ f.length < 60 ∨ d.maxFrame p < f.length + 4 := by rwa [Bool.not_eq_true']
  simp only [Dev.mediaFrame, Dev.mediaOn_iff.1 hon, if_pos hbad, Bool.not_true, Bool.false_eq_true, if_false]
  rfl

section Whole
variable (hfcs : fcs = true) (hmin : 60 ≤ f.length) (hmax : f.length + 4 ≤ d.maxFrame p) (hpause : (frameType f).1 ≠ 0x8808)
include hfcs hmin hmax hpause

/-- R343: a frame whose IP packet is malformed. -/
theorem Dev.mediaFrame_malformed (hip : carriedIp f (frameType f).1 (frameType f).2 = .bad) :
    d.mediaFrame p fcs auth f plain = d.addSat (rSePorterr p) 63 32 1 := by
  simp [Dev.mediaFrame, Dev.mediaOn_iff.1 hon, hfcs, not_lt.2 hmin, not_lt.2 hmax, hpause, hip, Dev.badFrame]

/-- R343, R353: any other frame: one to a group of stations, one to another station, one to this port. -/
theorem Dev.mediaFrame_sound {c : Carried} (hip : carriedIp f (frameType f).1 (frameType f).2 = c) (hc : c ≠ .bad) :
    d.mediaFrame p fcs auth f plain = if (f.headD 0).getLsbD 0 then d.exception p 1 0 f
      else if be f 0 6 ≠ d.fld (rSePortmac p) 47 0 then d else d.carries p auth f plain c := by
  have hwhole : ¬ ((!fcs) = true ∨ f.length < 60 ∨ d.maxFrame p < f.length + 4) := by simp [hfcs, hmin, hmax]
  have hplain : ¬ ((frameType f).1 = 0x8808 ∧ (be f (frameType f).2 2 = 0x0001 ∨ be f (frameType f).2 2 = 0x0101)) := fun h => hpause h.1
  simp only [Dev.mediaFrame, Dev.mediaOn_iff.1 hon, Bool.not_true, Bool.false_eq_true, if_false, if_neg hwhole, if_neg hplain, hip]
  cases c with
  | bad => exact absurd rfl hc
  | other why => rfl
  | udp v6 src dst sport dport u len => rfl

theorem Dev.mediaFrame_group (hip : carriedIp f (frameType f).1 (frameType f).2 ≠ .bad) (hg : (f.headD 0).getLsbD 0 = true) :
    d.mediaFrame p fcs auth f plain = d.exception p 1 0 f :=
  (Dev.mediaFrame_sound auth plain hon hfcs hmin hmax hpause rfl hip).trans (if_pos hg)

section Single
variable (hg : (f.headD 0).getLsbD 0 = false)
include hg

theorem Dev.mediaFrame_elsewhere (hip : carriedIp f (frameType f).1 (frameType f).2 ≠ .bad) (hmac : be f 0 6 ≠ d.fld (rSePortmac p) 47 0) :
    d.mediaFrame p fcs auth f plain = d :=
  (Dev.mediaFrame_sound auth plain hon hfcs hmin hmax hpause rfl hip).trans ((if_neg (Bool.not_eq_true _ ▸ hg)).trans (if_pos hmac))

theorem Dev.mediaFrame_here {c : Carried} (hip : carriedIp f (frameType f).1 (frameType f).2 = c) (hc : c ≠ .bad)
    (hmac : be f 0 6 = d.fld (rSePortmac p) 47 0) : d.mediaFrame p fcs auth f plain = d.carries p auth f plain c :=
  (Dev.mediaFrame_sound auth plain hon hfcs hmin hmax hpause hip hc).trans ((if_neg (Bool.not_eq_true _ ▸ hg)).trans (if_neg (not_not.2 hmac)))

end Single
end Whole
end Received

/-- R353: an RTP packet that a session accepts: version 2, from its peer, not encrypted, of its SSRC. -/
theorem Dev.sesPacket_rtp {d : Dev} {sid : Nat} {x : Session} (hx : d.session? sid = some x) {src : List Byte} {sport : Nat}
    (hsrc : x.source.getD (sesAddr x.desc 6, sf x.desc 1 15 0) = (src, sport)) (hsuite : sf x.desc 16 13 12 = 0) {raw : List Byte}
    (hv : be raw 0 1 / 64 = 2) (hfixed : sb x.desc 13 23 = false) (hssrc : be raw 8 4 = sw x.desc 15) (p : Nat) (auth : Bool) (f : List Byte)
    (u : Nat) (plain : List Byte) :
    d.sesPacket p sid false auth f src sport u raw plain = (d.setSession sid (fun _ => x)).setSession sid (fun _ => x.rtp d.time raw) := by
  have htake : x.takeSsrc d.time (be raw 8 4) = some x := by simp [Session.takeSsrc, hfixed, hssrc]
  have htime : (d.setSession sid (fun _ => x)).time = d.time := rfl
  simp [Dev.sesPacket, hx, hsrc, hsuite, hv, htime, htake]
end Sys2Proof.Machine
end

section
/-! StreamSessions settled (R342 to R349, R353, R362 to R367). -/

namespace Sys2Proof

open Sys2Proof.Machine

/-- Settles O53: the commands by their checks and what they find; a session by whether it is open and what it holds; a port by the
frame that leaves it first, and by what a received frame carries. -/
theorem streamSessions : Obligations.StreamSessions := by
  unfold Obligations.StreamSessions
  refine ⟨fun s r v hr => ?_, fun s sid hsid => ?_, fun s p up fcs auth f plain hp => ?_⟩
  · dsimp only
    simp only [List.forall_mem_cons]
    refine ⟨⟨(streamCommand_sessionOpen r).checks hr, (streamCommand_sessionModify r).checks hr, (streamCommand_sessionClose r).checks hr,
        (streamCommand_pktSend r).checks hr, (streamCommand_dtmfSend r).checks hr, fun _ h => absurd h List.not_mem_nil⟩,
      fun hop hb hbad => ⟨fun hoff => ?_, fun l e hon hl => ⟨fun st i hchk => ?_, fun hchk => ?_⟩⟩,
      fun hop hb hbad => ⟨fun st i ht => ?_, fun x l e ht hx hl => ⟨fun st i hchk => ?_, fun hchk => ?_⟩⟩,
      fun hop hb hbad => ⟨fun st i ht => ?_, fun ht => ?_⟩,
      fun hop hb hbad l e hl => ?_,
      fun hop hb hbad => ⟨fun st i ht => ?_, fun x ht hx => ⟨fun h => ?_, fun he hs => ?_⟩⟩⟩
    · exact exec_leaves rfl (Dev.sessionOpen_off hr hb hop hbad hoff)
    · exact exec_leaves rfl (Dev.sessionOpen_refused hr hb hop hbad hon hl rfl rfl hchk)
    · exact exec_leaves rfl (Dev.sessionOpen_opens hr hb hop hbad hon hl rfl rfl hchk)
    · exact exec_leaves rfl (Dev.sessionModify_turned hr hb hop hbad ht)
    · exact exec_leaves rfl (Dev.sessionModify_refused hr hb hop hbad ht hx hl rfl rfl hchk)
    · exact exec_leaves rfl (Dev.sessionModify_waits hr hb hop hbad ht hx hl rfl rfl hchk)
    · exact exec_leaves rfl (Dev.sessionClose_turned hr hb hop hbad ht)
    · exact exec_sessionClose hr hb hop hbad ht
    · exact exec_leaves rfl (Dev.pktSend_queues hr hb hop hbad hl)
    · exact exec_leaves rfl (Dev.dtmfSend_turned hr hb hop hbad ht)
    · exact exec_leaves rfl (Dev.dtmfSend_busy hr hb hop hbad ht hx h)
    · exact exec_leaves rfl (Dev.dtmfSend_begins hr hb hop hbad ht hx he hs)
  · have hwf : decide (sid < 131072) = true := decide_eq_true hsid
    refine ⟨fun h => ⟨exec_keeps hwf (Dev.frameBoundary_closed h), exec_keeps hwf (Dev.outprodRead_closed h), exec_keeps hwf (Dev.progressBlock_closed h)⟩,
      fun h => ⟨exec_keeps hwf (Dev.frameBoundary_off h), exec_keeps hwf (Dev.outprodRead_off h)⟩,
      fun x hx => ⟨fun b hon ho hch hab hfail hev hk => ?_, fun h => exec_keeps hwf (Dev.outprodRead_known hx h),
        fun l e hon ho hl => ⟨fun h => ?_, fun b f h hp => ?_⟩, fun h => exec_keeps hwf (Dev.progressBlock_idle hx h),
        fun f rest e hh hw he => ?_, fun f rest e hh hw he => ?_⟩⟩
    · have hout : x.out ≠ none := ho ▸ Option.some_ne_none b
      obtain ⟨y, hy, hyk, hyout, hmem, htime, hframe⟩ := Dev.frameBoundary_holds hx hon hout hch hab hfail hev hk
      exact ⟨_, y, exec_leaves hwf rfl, hy, hyk, hyout, keepsMemory_of_eq hmem, htime, hframe⟩
    · exact exec_leaves hwf (Dev.outprodRead_underrun hx hon ho hl h)
    · exact exec_leaves hwf (Dev.outprodRead_takes hx hon ho hl h hp)
    · exact exec_leaves hwf (Dev.progressBlock_writes hx hh he hw)
    · exact exec_leaves hwf (Dev.progressBlock_waits hx hh he hw)
  · have hwf : decide (p < 2) = true := decide_eq_true hp
    refine ⟨exec_leaves hwf rfl, fun h => ⟨exec_keeps hwf (Dev.mediaSent_off h), exec_keeps hwf (Dev.mediaFrame_off auth plain h)⟩,
      fun hon hq => exec_keeps hwf (Dev.mediaSent_empty hon hq), fun a x b hon hq ha hx => exec_leaves hwf (Dev.mediaSent_session hon hq ha hx),
      fun k l b hon hq hb => exec_leaves hwf (Dev.mediaSent_raw hon hq hb rfl),
      fun hon h => exec_leaves hwf (Dev.mediaFrame_damaged auth plain hon h),
      fun hon hfcs hmin hmax hpause => ?_⟩
    refine ⟨fun hip => exec_leaves hwf (Dev.mediaFrame_malformed auth plain hon hfcs hmin hmax hpause hip),
      fun hip hg => exec_leaves hwf (Dev.mediaFrame_group auth plain hon hfcs hmin hmax hpause hip hg),
      fun hip hg hmac => exec_keeps hwf (Dev.mediaFrame_elsewhere auth plain hon hfcs hmin hmax hpause hg hip hmac),
      fun why hip hg hmac => exec_leaves hwf (Dev.mediaFrame_here auth plain hon hfcs hmin hmax hpause hg hip Carried.noConfusion hmac),
      fun v6 src dst sport dport u len hip hg hmac => ?_⟩
    have hudp := Dev.mediaFrame_here auth plain hon hfcs hmin hmax hpause hg hip Carried.noConfusion hmac
    refine ⟨fun hm => exec_leaves hwf (hudp.trans (Dev.carries_unmatched auth plain hm)), fun sid x hm hx hsrc hsuite hv hfixed hssrc => ?_⟩
    have hrtp := Dev.sesPacket_rtp hx hsrc hsuite hv hfixed hssrc p auth f u plain
    exact ⟨_, exec_leaves hwf (hudp.trans ((Dev.carries_matched auth plain hm).trans hrtp)), Dev.session_setSession (Dev.session_setSession hx _) _,
      keepsMemory_of_eq rfl⟩

end Sys2Proof
end
